-- ==== Sys2Proof/Word.lean ====
section
/-! DEFINITION. The word types of the model. -/

namespace Sys2Proof

/-- A byte of memory or of a frame. -/
abbrev Byte := BitVec 8
/-- A 32-bit register word (00_scope.md R7). -/
abbrev Word := BitVec 32
/-- A 64-bit general register of an ME thread, or a 64-bit counter. -/
abbrev DWord := BitVec 64

end Sys2Proof
end

