-- ==== Sys2Proof/Syntax.lean ====
section
/-! DEFINITION. The commands of the block: one constructor of `Instr` per row of spec/opcode_table.json, with the
operands that the row's step needs. A command names what the world outside the block does (an access by a requester, a
frame or a symbol at a pin, a measured value) or the instant at which a time-driven step of the block falls. -/

namespace Sys2Proof

/-- Who makes a register access (00_scope.md R10, 19_register_map.md R475). -/
inductive Requester where
  | thread (t : Nat)
  | pf0
  | pf1
  | smbus
  | jtag
deriving DecidableEq, Repr

/-- The REQUESTER code of Table 19.5; PF0 never violates and has the code 32 in this model only. -/
def Requester.code : Requester → Nat
  | .thread t => t % 32
  | .pf0 => 32
  | .pf1 => 33
  | .smbus => 34
  | .jtag => 35

/-- What the error correction of a memory found on a read: nothing, an error it corrected, or one it could not. -/
inductive Ecc where
  | ok | ce | ue
deriving DecidableEq, Repr

/-- What reads uncorrectable while a frame is classified: slots of the near table (05 R118) and the receiving header context (07 R177). -/
structure LookupUe where
  near : List Nat := []
  ctx : Bool := false
deriving DecidableEq, Repr

/-- What reads uncorrectable while the action of a lookup is carried out: action words of the TCAM with whether the rewrite of the row reads back
right (04 R108), and the route's next hop (06 R164). -/
structure ActUe where
  tcam : List (Nat × Bool) := []
  nh : Bool := false
deriving DecidableEq, Repr

/-- A thing by its number, and what was found there. -/
structure Found (α : Type) where
  n : Nat
  found : α
deriving DecidableEq, Repr

/-- A register access on its way: how many bytes it moves and at which offset (00 R7). -/
structure Access where
  size : Nat
  off : Nat
deriving DecidableEq, Repr

/-- The lanes of a port: which are locked, the order they arrived in, and their skew in ns (02 R41). -/
structure Lanes where
  lock : Nat
  order : List Nat := []
  skew : Nat := 0
deriving DecidableEq, Repr

/-- What the scrubber's read of a TCAM row meets (04 R105 to R107): the row equals the shadow; a write of the row is
not yet acknowledged; the shadow read is uncorrectable; the row differs and its read-back after the rewrite agrees, or not. -/
inductive ScrubFind where
  | same | unacked | shadowUe | differs (readBackOk : Bool)
deriving DecidableEq, Repr

/-- What the parity check of the microcode words found in one instruction (13 R353): nothing; an error of the two-level path in the
dispatch table (0), short store (1) or nano-store (2); or an error in the horizontal store (3) or the HORIZ part of a dispatch entry (0). -/
inductive MicroFind where
  | ok | twoLevel (store addr : Nat) | horiz (store addr : Nat)
deriving DecidableEq, Repr

/-- How an ME instruction ran: the words its routine issued, the mc from its first word to its retirement, and the parity check. -/
structure Issue where
  words : Nat := 1
  latency : Nat := 0
  found : MicroFind := .ok
deriving DecidableEq, Repr

/-- An ME instruction with its fields as Table 13.1 names them; immediate and offset fields are the field's bits. The number `k` of a
group selects the opcode in the order of Table 13.2 (13_me_instruction_set.md R335, R336). -/
inductive MeOp where
  | alu (rd ra rb func : Nat)
  | aluImm (k rd ra imm : Nat)
  | shiftImm (k rd ra imm : Nat)
  | lui (rd ra imm : Nat)
  | orsh (rd ra imm : Nat)
  | slti (k rd ra imm : Nat)
  | load (k rd ra imm : Nat)
  | store (k rs ra imm : Nat)
  | branch (k ra rb off : Nat)
  | jmp (off : Nat)
  | call (off : Nat)
  | jr (rd ra imm : Nat)
  | amo (func rd ra rb : Nat)
  | send (rd rs : Nat) (pool close : Bool) (word ch : Nat)
  | recv (rd rs : Nat) (pool close : Bool) (word ch : Nat)
  | wfe (rd ra imm : Nat)
  | timer (rd ra imm : Nat)
  | sample (rd ra imm : Nat)
  | devr (rd ra imm : Nat)
  | devw (rd ra imm : Nat)
  | devsync
deriving DecidableEq, Repr

/-- The capabilities of both functions (18_host_interface.md Table 18.1). -/
inductive CfgCap where
  | powerManagement | pciExpress | msix | aer | serialNumber
deriving DecidableEq, Repr

/-- A capability's number within the free values of the configuration space. -/
def CfgCap.code : CfgCap → Nat
  | .powerManagement => 0
  | .pciExpress => 1
  | .msix => 2
  | .aer => 3
  | .serialNumber => 4

/-- A configuration request of the host (18_host_interface.md R446 to R448, R463 to R466, R471): a read of a word of the header or of a
capability, or a write of what the model keeps of the configuration space. -/
inductive CfgReq where
  | read (dword : Nat)
  | capability (cap : CfgCap) (word : Nat)
  | command (mem bme : Bool)
  | bar (n v : Nat)
  | deviceControl (mps mrrs : Nat)
  | linkControl (aspmL1 : Bool)
  | pme (enable clear : Bool)
  | msixControl (enable mask : Bool)
  | aerClear (bits : Nat)
deriving DecidableEq, Repr

/-- The conditions of Table 18.7 that TLP_ERROR stands for, in its order but for the completion timeout, which has a row of its own. -/
inductive TlpErr where
  | correctable | poisonedWrite | ecrc | unsupported | unexpectedCompletion | fatal
deriving DecidableEq, Repr

/-- How the reassembly of a received fragment goes (02_ports.md R47). -/
inductive FragRes where
  | ok | assemblyErr | smdErr
deriving DecidableEq, Repr

/-- The pins that the part drives, of Table 20.6 (20_electrical_package.md R490, R493). -/
inductive Pin where
  | sdTx (p : Nat)
  | pcieTx (l : Nat)
  | nvmClk | nvmCsN | nvmRstN
  /-- NVM_DQ_0 to NVM_DQ_7, and 8 for NVM_DQS -/
  | nvmDq (i : Nat)
  | smbScl | smbSda | smbAlertN
  | ppsOut
  | syncOut (n : Nat)
  | ready | faultN | intN
deriving DecidableEq, Repr

/-- The commands of spec/opcode_table.json, in its order. -/
inductive Instr where
  /-- REGISTER_WRITE (R11) -/
  | registerWrite (q : Requester) (o : Access) (v : Nat)
  /-- COUNTER_LOW_WORD_READ (R14) -/
  | counterLowWordRead (q : Requester) (o : Access)
  /-- RC_FIELD_READ (R12) -/
  | rcFieldRead (q : Requester) (o : Access)
  /-- PRIV_VIOL_LAST_READ (R482) -/
  | privViolLastRead (q : Requester)
  /-- EPOCH_BOUNDARY (R28) -/
  | epochBoundary (delays : List (Nat × Nat))
  /-- RX_FRAME_START (R30) -/
  | rxFrameStart (f p : Nat) (frags : Bool)
  /-- PIPELINE_ENTRY (R31) -/
  | pipelineEntry (f : Nat) (win : List Byte) (len : Nat) (u : LookupUe) (x : ActUe)
  /-- FAR_LOOKUP_ISSUE (R126) -/
  | farLookupIssue
  /-- FAR_LOOKUP_RESULT (R126) -/
  | farLookupResult (f : Nat) (ecc : Ecc) (x : ActUe)
  /-- FAR_LOOKUP_TIMEOUT (R127) -/
  | farLookupTimeout (f : Nat)
  /-- RX_FRAME_END (R43) -/
  | rxFrameEnd (f : Nat) (bs : List Byte) (codeErr : Bool) (corr uncorr : Nat)
  /-- PAUSE_FRAME_RECEIVED (R45) -/
  | pauseFrameReceived (p l quanta : Nat)
  /-- PFC_FRAME_RECEIVED (R45) -/
  | pfcFrameReceived (p l enables : Nat) (quanta : List Nat)
  /-- MAC_CONTROL_OTHER (R44) -/
  | macControlOther (p l : Nat)
  /-- PAUSE_EXPIRY (R45) -/
  | pauseExpiry (p n : Nat)
  /-- PTP_FRAME_RECEIVED (R250) -/
  | ptpFrameReceived (f : Nat) (bs : List Byte)
  /-- MM_FRAGMENT_RECEIVED (R47) -/
  | mmFragmentReceived (f : Nat) (bs : List Byte) (res : FragRes)
  /-- RX_PATH_STATUS_CHANGE (R506) -/
  | rxPathStatusChange (p : Nat) (signal lock : Bool) (lanes : Lanes) (lfSets rf : Bool)
  /-- ADAPTATION_DONE (R57) -/
  | adaptationDone (p : Nat)
  /-- AN_COMPLETE (R39) -/
  | anComplete (p : Nat) (rf : Bool)
  /-- SGMII_CONTROL_WORD (R39) -/
  | sgmiiControlWord (p : Nat) (up full gig : Bool)
  /-- LINK_UP_HOLDOFF_EXPIRY (R52) -/
  | linkUpHoldoffExpiry (p : Nat)
  /-- LINK_DOWN_DEBOUNCE_EXPIRY (R52) -/
  | linkDownDebounceExpiry (p : Nat)
  /-- ADMIN_UP_WRITE (R53) -/
  | adminUpWrite (q : Requester) (p : Nat) (v : Bool)
  /-- TX_DRAIN_IDLE (R54) -/
  | txDrainIdle (p : Nat)
  /-- PORT_FLUSH_START (R193) -/
  | portFlushStart (p : Nat)
  /-- PORT_FLUSH_COMPLETE (R193) -/
  | portFlushComplete (p : Nat)
  /-- PFC_FRAME_TRANSMIT (R46) -/
  | pfcFrameTransmit (p : Nat)
  /-- PFC_REFRESH_EXPIRY (R188) -/
  | pfcRefreshExpiry (p n : Nat)
  /-- VERIFY_TIMER_EXPIRY (R48) -/
  | verifyTimerExpiry (p : Nat)
  /-- RESPOND_FRAME_RECEIVED (R48) -/
  | respondFrameReceived (p : Nat)
  /-- HOLD_TAKE_EFFECT (R211) -/
  | holdTakeEffect (p : Nat)
  /-- HOLD_RELEASE (R211) -/
  | holdRelease (p : Nat)
  /-- SD_TX_EQ_WRITE (R56) -/
  | sdTxEqWrite (q : Requester) (p : Nat) (w : Word)
  /-- QUAD_PLL_LOCK_LOSS (R497) -/
  | quadPllLockLoss (d r : Nat)
  /-- TCAM_READ (R101) -/
  | tcamRead (q : Requester) (d j : Nat)
  /-- TCAM_WRITE (R101) -/
  | tcamWrite (q : Requester) (d j : Nat)
  /-- TCAM_CLEAR (R101) -/
  | tcamClear (q : Requester) (d j : Nat)
  /-- TCAM_MOVE (R102) -/
  | tcamMove (q : Requester) (d j : Nat)
  /-- TCAM_INSERT (R104) -/
  | tcamInsert (q : Requester) (d j part : Nat)
  /-- TCAM_DELETE (R101) -/
  | tcamDelete (q : Requester) (d j part : Nat)
  /-- TCAM_SEARCH (R101) -/
  | tcamSearch (q : Requester) (d j part : Nat)
  /-- TCAM_COMMAND_END (R101) -/
  | tcamCommandEnd (d : Nat) (j : Found (List (Nat × Bool)))
  /-- TCAM_SCRUB_SLOT (R105) -/
  | tcamScrubSlot (d : Nat) (find : ScrubFind)
  /-- TCAM_REPAIR_END (R109) -/
  | tcamRepairEnd (d b : Nat) (ok : Bool)
  /-- EM_READ (R138) -/
  | emRead (q : Requester) (d j table : Nat)
  /-- EM_LOOKUP (R138) -/
  | emLookup (q : Requester) (d j table : Nat)
  /-- EM_INSERT (R139) -/
  | emInsert (q : Requester) (d j table : Nat)
  /-- EM_DELETE (R138) -/
  | emDelete (q : Requester) (d j table : Nat)
  /-- EM_FLUSH (R138) -/
  | emFlush (q : Requester) (d j table : Nat)
  /-- EM_COMMAND_END (R138) -/
  | emCommandEnd (d : Nat) (j : Found Bool)
  /-- LEARN_QUEUE_HEAD (R131) -/
  | learnQueueHead (d : Found (List Nat))
  /-- LEARN_TOKEN_REFILL (R131) -/
  | learnTokenRefill (d : Nat)
  /-- AGE_PASS_START (R132) -/
  | agePassStart (d : Found (List Nat))
  /-- HUB_INPUT_STAGE (R33) -/
  | hubInputStage (f : Nat) (scUe : Bool) (replUe : Option Nat) (ctxUe : Bool)
  /-- MC_HOLD_RETRY (R148) -/
  | mcHoldRetry (q : Nat)
  /-- MC_HOLD_EXPIRY (R148) -/
  | mcHoldExpiry (f : Nat)
  /-- LAST_CELL_WRITTEN (R181) -/
  | lastCellWritten (f : Nat)
  /-- FRAME_ELIGIBLE (R33) -/
  | frameEligible (f : Nat)
  /-- CONTEXT_INSTALL (R177) -/
  | contextInstall (j x : Nat)
  /-- CONTEXT_ACK (R177) -/
  | contextAck (d j i gen : Nat)
  /-- CONTEXT_INVAL (R177) -/
  | contextInval (d j i : Nat)
  /-- FLIT_CRC_ERROR (R171) -/
  | flitCrcError (d j : Nat) (bs : List Byte)
  /-- RETRAIN_END (R171) -/
  | retrainEnd (d : Nat) (ok : Bool)
  /-- Q_AVG_UPDATE (R185) -/
  | qAvgUpdate
  /-- BUF_CONFIG_WRITE (R192) -/
  | bufConfigWrite (q : Requester) (o v : Nat)
  /-- SCHEDULER_SELECT (R197) -/
  | schedulerSelect (p : Nat) (ecc : Ecc) (cell bufLen : Nat)
  /-- EGRESS_COPY_ARRIVAL (R32) -/
  | egressCopyArrival (id : Nat) (ue : Option Nat) (ctxUe : Bool)
  /-- TX_FRAME_END (R60) -/
  | txFrameEnd (id : Nat)
  /-- RW_READ (R163) -/
  | rwRead (q : Requester) (j : Nat) (table : Found Bool)
  /-- RW_WRITE (R163) -/
  | rwWrite (q : Requester) (j table : Nat)
  /-- RW_COMMAND_END (R163) -/
  | rwCommandEnd (j : Nat)
  /-- EDIT_CFG_WRITE (R163) -/
  | editCfgWrite (q : Requester) (rtag : Bool) (v : Nat)
  /-- GCL_CHANGE_REQ (R207) -/
  | gclChangeReq (q : Requester) (p gates : Nat)
  /-- GCL_CANCEL (R207) -/
  | gclCancel (q : Requester) (p gates : Nat)
  /-- GCL_CHANGE_APPLY (R207) -/
  | gclChangeApply (p : Nat)
  /-- GATE_ENTRY_BEGIN (R205) -/
  | gateEntryBegin (p i : Nat) (ue : Bool)
  /-- DEADLINE_SLOT_ADVANCE (R213) -/
  | deadlineSlotAdvance (p : Nat)
  /-- SHAPER_WHEEL_SLOT (R218) -/
  | shaperWheelSlot
  /-- LED_EVALUATION (R223) -/
  | ledEvaluation (x : Nat)
  /-- Q_DEPTH_SAMPLE (R230) -/
  | qDepthSample
  /-- SC_READ (R235) -/
  | scRead (q : Requester) (j : Nat) (table : Found Bool)
  /-- SC_WRITE (R235) -/
  | scWrite (q : Requester) (j table : Nat)
  /-- SC_CHANGE (R225) -/
  | scChange (q : Requester) (j table : Nat)
  /-- SC_COMMAND_END (R235) -/
  | scCommandEnd (j : Nat)
  /-- STREAM_GATE_CHANGE_APPLY (R225) -/
  | streamGateChangeApply (g : Nat)
  /-- STREAM_GATE_ENTRY_BEGIN (R225) -/
  | streamGateEntryBegin (g i : Nat)
  /-- STREAM_GATE_REGION_RELEASE (R225) -/
  | streamGateRegionRelease (g : Nat)
  /-- TIME_BEACON (R240) -/
  | timeBeacon (d : Nat) (e : Int)
  /-- RATE_ADJ_WRITE (R245) -/
  | rateAdjWrite (q : Requester) (v : Nat)
  /-- TIME_STEP (R245) -/
  | timeStep (q : Requester)
  /-- TIME_SET (R245) -/
  | timeSet (q : Requester)
  /-- APPLY_INSTANT (R246) -/
  | applyInstant
  /-- PPS_IN_EDGE (R256) -/
  | ppsInEdge
  /-- PPS_IN_LOSS_TIMEOUT (R256) -/
  | ppsInLossTimeout
  /-- SYNC_IN_EDGE (R255) -/
  | syncInEdge (n : Nat) (rising : Bool)
  /-- SYNC_IN_TS_READ (R255) -/
  | syncInTsRead (q : Requester) (n : Nat)
  /-- PTP_TX_INFO_READ (R252) -/
  | ptpTxInfoRead (q : Requester) (d : Nat)
  /-- PPS_OUT_EDGE (R257) -/
  | ppsOutEdge (rising : Bool)
  /-- SYNC_OUT_EDGE (R258) -/
  | syncOutEdge (n : Nat) (rising : Bool)
  /-- SYNC_RECEIPT_TIMEOUT (R253) -/
  | syncReceiptTimeout
  /-- HOLDOVER_LIMIT_EXPIRY (R253) -/
  | holdoverLimitExpiry
  /-- PLL_LOCK_LOSS (R239) -/
  | pllLockLoss (which : Nat)
  /-- SYNTHESIS_DONE (R270) -/
  | synthesisDone
  /-- COMMIT_APPLY (R283) -/
  | commitApply
  /-- QUARANTINE_EXPIRY (R281) -/
  | quarantineExpiry (p : Nat)
  /-- RETURN_HOLD_EXPIRY (R280) -/
  | returnHoldExpiry (p : Nat)
  /-- ALPHA_ADJUST (R276) -/
  | alphaAdjust
  /-- SURVEY_RECORD (R288) -/
  | surveyRecord
  /-- PLAN_APPROVE (R287) -/
  | planApprove (q : Requester)
  /-- PLAN_REJECT (R287) -/
  | planReject (q : Requester)
  /-- APPROVE_TIMEOUT (R287) -/
  | approveTimeout
  /-- FREEZE (R286) -/
  | freeze (q : Requester) (w : Nat)
  /-- UNFREEZE (R286) -/
  | unfreeze (q : Requester) (w : Nat)
  /-- REPLAN (R282) -/
  | replan (q : Requester) (w : Nat)
  /-- SS_INDEX_WRITE (R13) -/
  | ssIndexWrite (q : Requester) (h : Nat)
  /-- TRAP_TOKEN_REFILL (R290) -/
  | trapTokenRefill
  /-- EXPORT_BLOCK_COMPLETE (R298) -/
  | exportBlockComplete (d0 d1 : List Byte)
  /-- ALU (R337) -/
  | alu (t : Nat) (i : Issue) (rd ra rb func : Nat)
  /-- ALU_IMMEDIATE (R336) -/
  | aluImmediate (t : Nat) (i : Issue) (k rd ra imm : Nat)
  /-- SHIFT_IMMEDIATE (R336) -/
  | shiftImmediate (t : Nat) (i : Issue) (k rd ra imm : Nat)
  /-- LUI (R336) -/
  | lui (t : Nat) (i : Issue) (rd ra imm : Nat)
  /-- ORSH (R336) -/
  | orsh (t : Nat) (i : Issue) (rd ra imm : Nat)
  /-- SLTI (R336) -/
  | slti (t : Nat) (i : Issue) (k rd ra imm : Nat)
  /-- LOAD (R338) -/
  | load (t : Nat) (i : Issue) (k rd ra imm : Nat)
  /-- STORE (R338) -/
  | store (t : Nat) (i : Issue) (k rs ra imm : Nat)
  /-- BRANCH (R341) -/
  | branch (t : Nat) (i : Issue) (k ra rb off : Nat)
  /-- JMP (R341) -/
  | jmp (t : Nat) (i : Issue) (off : Nat)
  /-- CALL (R341) -/
  | call (t : Nat) (i : Issue) (off : Nat)
  /-- JR (R341) -/
  | jr (t : Nat) (i : Issue) (rd ra imm : Nat)
  /-- AMO_SWAP (R340) -/
  | amoSwap (t : Nat) (i : Issue) (rd ra rb : Nat)
  /-- AMO_CAS (R340) -/
  | amoCas (t : Nat) (i : Issue) (rd ra rb : Nat)
  /-- AMO_FADD (R340) -/
  | amoFadd (t : Nat) (i : Issue) (rd ra rb : Nat)
  /-- AMO_FAND (R340) -/
  | amoFand (t : Nat) (i : Issue) (rd ra rb : Nat)
  /-- AMO_FOR (R340) -/
  | amoFor (t : Nat) (i : Issue) (rd ra rb : Nat)
  /-- SEND (R315) -/
  | send (t : Nat) (i : Issue) (rd rs : Nat) (close : Bool) (word ch : Nat)
  /-- RECV (R316) -/
  | recv (t : Nat) (i : Issue) (rd rs : Nat) (close : Bool) (word ch : Nat)
  /-- POOL_RECV (R344) -/
  | poolRecv (t : Nat) (i : Issue) (rd rs : Nat)
  /-- POOL_SEND (R344) -/
  | poolSend (t : Nat) (i : Issue) (rd rs : Nat)
  /-- WFE (R307) -/
  | wfe (t : Nat) (i : Issue) (rd ra imm : Nat)
  /-- WFE_WAKE (R307) -/
  | wfeWake (t : Found Issue)
  /-- TIMER (R310) -/
  | timer (t : Nat) (i : Issue) (rd ra imm : Nat)
  /-- THREAD_TIMER_EXPIRY (R310) -/
  | threadTimerExpiry (t : Nat)
  /-- SAMPLE (R346) -/
  | sample (t : Nat) (i : Issue) (rd ra imm : Nat)
  /-- DEVR (R342) -/
  | devr (t : Nat) (i : Issue) (rd ra imm : Nat)
  /-- DEVR_RETIRE (R343) -/
  | devrRetire (t : Nat) (i : Issue)
  /-- DEVW (R343) -/
  | devw (t : Nat) (i : Issue) (rd ra imm : Nat)
  /-- DEVW_TAKE_EFFECT (R343) -/
  | devwTakeEffect (c : Nat)
  /-- DEVSYNC (R343) -/
  | devsync (t : Nat) (i : Issue)
  /-- SUP_NOTE_READ (R320) -/
  | supNoteRead (q : Requester)
  /-- THREAD_START (R323) -/
  | threadStart (q : Requester) (t : Nat)
  /-- THREAD_STOP (R323) -/
  | threadStop (q : Requester) (t : Nat)
  /-- CHAN_CFG_WRITE (R317) -/
  | chanCfgWrite (q : Requester) (ch writer reader : Nat)
  /-- DEADLOCK_DETECT (R324) -/
  | deadlockDetect
  /-- DBG_HALT (R325) -/
  | dbgHalt (q : Requester) (t : Nat)
  /-- DBG_STEP (R325) -/
  | dbgStep (q : Requester) (t : Nat) (i : Issue) (op : MeOp)
  /-- DBG_RESUME (R325) -/
  | dbgResume (q : Requester) (t : Nat)
  /-- DBG_ABORT (R326) -/
  | dbgAbort (q : Requester) (t : Nat)
  /-- RX513_TAIL_WRITE (R328) -/
  | rx513TailWrite (q : Requester) (v : Nat)
  /-- TX513_HEAD_WRITE (R329) -/
  | tx513HeadWrite (q : Requester) (v : Nat)
  /-- TX513_RECORD_TAKE (R329) -/
  | tx513RecordTake (f : Nat)
  /-- ME_RESET_END (R322) -/
  | meResetEnd (bad : Option Nat)
  /-- UC_RELOAD (R355) -/
  | ucReload (q : Requester) (c : Nat)
  /-- UC_RELOAD_DONE (R355) -/
  | ucReloadDone (c : Nat) (ok : Bool)
  /-- UC_SCRUB (R358) -/
  | ucScrub (q : Requester) (c : Nat)
  /-- UC_SCRUB_WORD (R358) -/
  | ucScrubWord (c : Nat) (bad readBackOk : Bool)
  /-- UC_SCRUB_DONE (R358) -/
  | ucScrubDone (c : Nat)
  /-- UC_RD_ADDR_WRITE (R365) -/
  | ucRdAddrWrite (q : Requester) (c store a : Nat)
  /-- PMC_WRITE (R360) -/
  | pmcWrite (q : Requester) (c n : Nat) (hi : Bool) (v : Nat)
  /-- PMC_OVERFLOW (R360) -/
  | pmcOverflow (c n : Nat)
  /-- SAMPLE_RECORD (R362) -/
  | sampleRecord (c : Nat)
  /-- SMP_CFG_WRITE (R362) -/
  | smpCfgWrite (q : Requester) (c w : Nat)
  /-- SMP_TAIL_WRITE (R363) -/
  | smpTailWrite (q : Requester) (c v : Nat)
  /-- INTERRUPT_DELIVERY (R369) -/
  | interruptDelivery (n : Nat)
  /-- CLAIM (R371) -/
  | claim (q : Requester) (j : Nat)
  /-- COMPLETE (R372) -/
  | complete (q : Requester) (j n : Nat)
  /-- SRC_MASK_WRITE (R373) -/
  | srcMaskWrite (q : Requester) (n m : Nat)
  /-- SRC_ENABLE_WRITE (R374) -/
  | srcEnableWrite (q : Requester) (n e : Nat)
  /-- SW_RAISE (R377) -/
  | swRaise (q : Requester)
  /-- FAULT_COMMIT (R387) -/
  | faultCommit
  /-- TEMP_SENSOR_READ (R386) -/
  | tempSensorRead (i : Nat) (deg : Int)
  /-- FIRST_CLEAR (R389) -/
  | firstClear (q : Requester)
  /-- FAULT_N_RELEASE (R385) -/
  | faultNRelease (q : Requester)
  /-- SRC_REACT_WRITE (R383) -/
  | srcReactWrite (q : Requester) (esc : Bool) (n w : Nat)
  /-- CONSEQ_WINDOW_CLOSE (R393) -/
  | conseqWindowClose (u : Nat)
  /-- DIE_HOLD_SET (R480) -/
  | dieHoldSet (q : Requester) (key d : Nat)
  /-- DIE_HOLD_CLEAR (R480) -/
  | dieHoldClear (q : Requester) (key d : Nat)
  /-- DIE_RESET_END (R140) -/
  | dieResetEnd (d : Nat)
  /-- DIE_READMIT (R140) -/
  | dieReadmit (d : Nat) (ok : Bool)
  /-- ME_RESET (R480) -/
  | meReset (q : Requester) (key : Nat)
  /-- HIF_RESET (R480) -/
  | hifReset (q : Requester) (key : Nat)
  /-- HIF_RESET_END (R393) -/
  | hifResetEnd (rate width : Nat)
  /-- DRAM_REQUEST_ISSUE (R406) -/
  | dramRequestIssue (c : Nat) (ecc : Ecc) (parity : Bool)
  /-- PATROL_READ (R408) -/
  | patrolRead (c : Nat) (ecc : Ecc)
  /-- STACK_TEMP_READ (R409) -/
  | stackTempRead (m : Nat) (raw : Int)
  /-- REFRESH_DUE (R410) -/
  | refreshDue (c pc issued : Nat)
  /-- CATCHUP_END (R411) -/
  | catchupEnd (c : Nat)
  /-- NEIGHBOUR_REFRESH (R412) -/
  | neighbourRefresh (c pc bank row : Nat)
  /-- RD_WINDOW_END (R412) -/
  | rdWindowEnd (c : Nat)
  /-- CHANNEL_RETRAIN (R415) -/
  | channelRetrain (q : Requester) (c : Nat)
  /-- CHANNEL_RETRAIN_END (R415) -/
  | channelRetrainEnd (c : Nat) (ok : Bool)
  /-- BASE_TRAINING_DONE (R414) -/
  | baseTrainingDone (failed : List Nat)
  /-- FINAL_CALIBRATION_DONE (R414) -/
  | finalCalibrationDone (failed : List Nat)
  /-- RAIL_SAMPLE (R419) -/
  | railSample (i : Nat) (uv : Int)
  /-- RESET_N_EDGE (R420) -/
  | resetNEdge (low : Bool)
  /-- RESET_HOLD_EXPIRY (R420) -/
  | resetHoldExpiry
  /-- FUSE_LOAD_DONE (R422) -/
  | fuseLoadDone (otpOk : Bool) (sidebands : Nat)
  /-- SLOT_READ_COMPLETE (R428) -/
  | slotReadComplete (noFlash : Bool)
  /-- AUTH_DONE (R438) -/
  | authDone
  /-- LOAD_COMPLETE (R432) -/
  | loadComplete
  /-- ROLLBACK_DONE (R424) -/
  | rollbackDone
  /-- TRAIN_DONE (R422) -/
  | trainDone
  /-- PLAN_TIMEOUT (R424) -/
  | planTimeout
  /-- RCV_READ (R442) -/
  | rcvRead (q : Requester)
  /-- RCV_PROGRAM (R442) -/
  | rcvProgram (q : Requester)
  /-- RCV_ERASE (R442) -/
  | rcvErase (q : Requester)
  /-- RCV_CHECK (R442) -/
  | rcvCheck (q : Requester)
  /-- RCV_RESTART (R442) -/
  | rcvRestart (q : Requester)
  /-- RCV_COMMAND_END (R442) -/
  | rcvCommandEnd (late : Bool)
  /-- RELOAD (R444) -/
  | reload (q : Requester) (key : Nat)
  /-- PCIE_LINK_UP (R446) -/
  | pcieLinkUp (rate width : Nat)
  /-- PCIE_LINK_DOWN (R466) -/
  | pcieLinkDown
  /-- CONFIGURATION_REQUEST (R426) -/
  | configurationRequest (f : Nat) (r : CfgReq)
  /-- BAR2_READ (R451) -/
  | bar2Read (o n : Nat) (ue : Bool)
  /-- BAR2_WRITE (R451) -/
  | bar2Write (o : Nat) (bs : List Byte)
  /-- PF1_WIN_WRITE (R449) -/
  | pf1WinWrite (q : Requester) (v : Nat)
  /-- RECEIVE_DMA_COMPLETE (R456) -/
  | receiveDmaComplete (r : Nat) (descs : List (List Byte))
  /-- TRANSMIT_FRAME_FETCH (R457) -/
  | transmitFrameFetch (f : Nat) (descs : List (List Byte)) (data : List Byte) (ue : Option Nat)
  /-- TRANSMIT_WRITEBACK (R457) -/
  | transmitWriteback (r : Nat)
  /-- RING_TAIL_WRITE (R458) -/
  | ringTailWrite (q : Requester) (r v : Nat)
  /-- RING_ENABLE (R459) -/
  | ringEnable (q : Requester) (r w : Nat)
  /-- RING_DISABLE (R459) -/
  | ringDisable (q : Requester) (r w : Nat)
  /-- RING_STOPPED (R459) -/
  | ringStopped (r : Nat)
  /-- MODERATION_TIMER_EXPIRY (R462) -/
  | moderationTimerExpiry (r : Nat)
  /-- MSIX_UNMASK (R463) -/
  | msixUnmask (f v lo hi data : Nat) (mask : Bool)
  /-- L1_ENTRY (R464) -/
  | l1Entry
  /-- L1_EXIT (R464) -/
  | l1Exit
  /-- D3HOT_ENTRY (R465) -/
  | d3hotEntry (f : Nat) (pmeEn clear : Bool)
  /-- D0_ENTRY (R465) -/
  | d0Entry (f : Nat) (pmeEn clear : Bool)
  /-- PME_REPEAT (R465) -/
  | pmeRepeat (f : Nat)
  /-- FUNCTION_LEVEL_RESET (R466) -/
  | functionLevelReset (f : Nat)
  /-- FLR_DONE (R466) -/
  | flrDone (f : Nat)
  /-- MBX_SUBMIT (R467) -/
  | mbxSubmit (q : Requester) (len : Nat)
  /-- MBX_REQUEST_TAKE (R469) -/
  | mbxRequestTake (channel : Bool)
  /-- COMPLETION_TIMEOUT (R471) -/
  | completionTimeout (r : Nat)
  /-- COMPLETION_STATUS_ERROR (R471) -/
  | completionStatusError (r : Nat)
  /-- TLP_ERROR (R471) -/
  | tlpError (f : Nat) (e : TlpErr)
  /-- SMBUS_READ_START (R476) -/
  | smbusReadStart (good : Bool) (o : Nat)
  /-- SMBUS_READ_READY (R476) -/
  | smbusReadReady
  /-- SMBUS_BLOCK_READ (R476) -/
  | smbusBlockRead
  /-- SMBUS_WRITE (R476) -/
  | smbusWrite (good : Bool) (o v : Nat)
  /-- SMBUS_ALERT_RESPONSE (R476) -/
  | smbusAlertResponse
  /-- JTAG_REGISTER_ACCESS (R475) -/
  | jtagRegisterAccess (o : Nat) (data : Option Nat)
  /-- JTAG_RESPONSE_SUBMIT (R483) -/
  | jtagResponseSubmit (q : Requester) (v : Nat)
  /-- JTAG_UNLOCK_RESULT (R483) -/
  | jtagUnlockResult
  /-- OTP_READ (R484) -/
  | otpRead (q : Requester) (key : Nat)
  /-- OTP_PROGRAM (R484) -/
  | otpProgram (q : Requester) (key readBack : Nat)
  /-- OTP_COMMAND_END (R484) -/
  | otpCommandEnd
  /-- BOUNDARY_SCAN_INSTRUCTION (R494) -/
  | boundaryScanInstruction (pins : List (Pin × Bool))
  /-- TRST_N_ASSERT (R494) -/
  | trstNAssert
  /-- QUAD_PLL_LOCK (R506) -/
  | quadPllLock (d r : Nat)
  /-- CHANNEL_PHY_LOCK_LOSS (R415) -/
  | channelPhyLockLoss (c : Nat)
deriving DecidableEq, Repr

end Sys2Proof
end

