-- ==== Sys2Proof/Decode.lean ====
section
/-! DEFINITION. The decoder of the command table. spec/opcode_table.json gives none of its rows any bits or operand fields: the commands of the
block are steps of the part, not words, so that no word spells one. -/

namespace Sys2Proof

/-- The command that a word of the table's bits spells: none, since no row of the table has bits. -/
def decodeTableWord (_nbits _w : Nat) : Option Instr := none

end Sys2Proof
end

