-- ==== Sys2Proof/Machine/Parse.lean ====
section
/-! DEFINITION. The parser of 03_parsing_classification.md: a walk over the parse graph that builds the lookup key
vector (R61 to R69). Pure functions of the frame's bytes, its length and the words of the graph's nodes. -/

namespace Sys2Proof.Machine

/-- The number that a list of bytes spells, the first byte most significant (network order). -/
def beNat : List Byte → Nat
  | [] => 0
  | b :: bs => b.toNat * 256 ^ bs.length + beNat bs

/-- The number that a list of bytes spells, the first byte least significant. -/
def leNat : List Byte → Nat
  | [] => 0
  | b :: bs => b.toNat + 256 * leNat bs

/-- The `n` bytes of `v`, least significant first. -/
def toLe : Nat → Nat → List Byte
  | 0, _ => []
  | n + 1, v => BitVec.ofNat 8 v :: toLe n (v / 256)

/-- The `n` bytes of `v`, most significant first. -/
def toBe (n v : Nat) : List Byte := (toLe n v).reverse

/-- Bytes `o` to `o + n - 1`, bytes beyond the end reading 0. -/
def slice (bs : List Byte) (o n : Nat) : List Byte :=
  let t := (bs.drop o).take n
  t ++ List.replicate (n - t.length) 0

/-- The 16-bit number at a byte offset. -/
def be16 (bs : List Byte) (o : Nat) : Nat := beNat (slice bs o 2)

/-- Bits `lo` to `lo + w - 1` of a number. -/
def bitsOf (v lo w : Nat) : Nat := (v / 2 ^ lo) % 2 ^ w

/-- The field of width `w` at bit `b`, counted from the most significant bit of the first byte (R63). -/
def netBits (bs : List Byte) (b w : Nat) : Nat :=
  let n := (b % 8 + w + 7) / 8
  bitsOf (beNat (slice bs (b / 8) n)) (8 * n - b % 8 - w) w

/-- Bits of the lookup key vector (R66). -/
abbrev Lkv := BitVec 640

/-- The LKV with `w` bits at `lo` replaced by `v`. -/
def lkvPut (k : Lkv) (lo w v : Nat) : Lkv :=
  (k &&& ~~~(BitVec.ofNat 640 ((2 ^ w - 1) * 2 ^ lo))) ||| BitVec.ofNat 640 ((v % 2 ^ w) * 2 ^ lo)

/-- What the parser has found so far. -/
structure ParseSt where
  lkv : Lkv := 0
  /-- role, DST_LSB and width of the last extraction of each role 2 to 10 (R66) -/
  roles : List (Nat × Nat × Nat) := []
  extractions : Nat := 0
  tagCount : Nat := 0
  vid : Nat := 0
  pcp : Nat := 0
  dei : Nat := 0
  flags : Nat := 0
  mal : Nat := 0
  frag : Nat := 0
  lastNode : Nat := 0
  parsedBytes : Nat := 0
  /-- kind of the last CHECK 3 or CHECK 4 node visited: 0 none, 4 IPv4, 6 IPv6 (R74) -/
  ipKind : Nat := 0
  /-- a CHECK 3, a CHECK 4 node was visited (05 R122) -/
  via4 : Bool := false
  via6 : Bool := false
  /-- a CHECK 1 node was visited (05 R128) -/
  eth : Bool := false
  /-- start offset and payload length of the last CHECK 4 header, when one was visited (R68) -/
  ip6 : Option (Nat × Nat) := none
deriving DecidableEq, Repr

/-- The value of a role: the LKV bits where the last extraction of the role placed its field; 0 when none did. -/
def ParseSt.role (p : ParseSt) (r : Nat) : Nat :=
  match p.roles.find? (fun x => x.1 == r) with
  | some (_, lo, w) => bitsOf p.lkv.toNat lo w
  | none => 0

/-- The frame the parser walks over: `win` is the parse window, `len` the frame's length with its FCS.
The graph is given apart: `word n i` is word `i` of node `n` (Table 3.1). -/
structure ParseEnv where
  win : List Byte
  len : Nat

/-- The number of bytes a node may reach: up to the last byte before the FCS and up to byte 191 (R62 step 4). -/
def ParseEnv.limit (e : ParseEnv) : Nat := min (e.len - 4) 192

/-- TRUNCATED or BEYOND_WINDOW, by where the frame ends (R62 step 4). -/
def ParseEnv.beyond (e : ParseEnv) : Nat := if e.len ≤ 196 then 1 else 2

/-- The bytes the parser may see. -/
def ParseEnv.bytes (e : ParseEnv) : List Byte := e.win.take e.limit

/-- The first nonzero code of a list: the lowest reason is recorded first when the list is ascending (R69). -/
def firstReason : List (Bool × Nat) → Nat
  | [] => 0
  | (c, r) :: rest => if c then r else firstReason rest

/-- The one's complement sum of 16-bit words, folded (the IPv4 header checksum's sum). -/
def sum16 : List Byte → Nat
  | a :: b :: rest => a.toNat * 256 + b.toNat + sum16 rest
  | [a] => a.toNat * 256
  | [] => 0

/-- Fold a sum into 16 bits with end-around carry. -/
def fold16 (x : Nat) : Nat :=
  let y := x % 65536 + x / 65536
  y % 65536 + y / 65536

/-- One extraction slot (R62 step 3): the seventeenth and later ones are not performed and record reason 5. -/
def extractSlot (e : ParseEnv) (o : Nat) (p : ParseSt) (w : Nat) : ParseSt :=
  let role := bitsOf w 28 4
  if role = 0 then p
  else if 16 ≤ p.extractions then { p with mal := if p.mal = 0 then 5 else p.mal }
  else
    let lsb := bitsOf w 18 10
    let width := bitsOf w 11 7 + 1
    let v := netBits e.bytes (8 * o + bitsOf w 0 11) width
    { p with
      lkv := lkvPut p.lkv lsb width v
      extractions := p.extractions + 1
      roles := if 2 ≤ role ∧ role ≤ 10 then (role, lsb, width) :: p.roles.filter (fun x => x.1 != role) else p.roles }

/-- CHECK 1, the Ethernet header: reasons 8, 9 and 10. -/
def checkEthernet (e : ParseEnv) (o : Nat) (p : ParseSt) : ParseSt :=
  let da := beNat (slice e.bytes o 6)
  let sa := beNat (slice e.bytes (o + 6) 6)
  { p with eth := true, mal := firstReason [(bitsOf sa 40 1 == 1, 8), (sa == da, 9), (sa == 0, 10)] }

/-- CHECK 2, a tag (R67): reasons 6 and 7; the first tag gives VID, PCP and DEI. -/
def checkTag (e : ParseEnv) (o : Nat) (p : ParseSt) : ParseSt :=
  let tci := beNat (slice e.bytes (o + 2) 2)
  let vid := bitsOf tci 0 12
  let mal := firstReason [(p.tagCount == 3, 6), (vid == 0xFFF, 7)]
  let p1 := if p.tagCount = 0 then { p with vid := vid, pcp := bitsOf tci 13 3, dei := bitsOf tci 12 1 } else p
  { p1 with tagCount := min 3 (p.tagCount + 1), mal := mal }

/-- CHECK 3, an IPv4 header (R68, Table 3.3): reasons 11, 12, 13, 15 and 16. -/
def checkIPv4 (e : ParseEnv) (o : Nat) (p : ParseSt) : ParseSt :=
  let h := slice e.bytes o 20
  let ihl := bitsOf (beNat (slice h 0 1)) 0 4
  let total := beNat (slice h 2 2)
  let fo := beNat (slice h 6 2)
  let off := bitsOf fo 0 13
  let isFrag := bitsOf fo 13 1 == 1 || off != 0
  let mal := firstReason
    [(bitsOf (beNat (slice h 0 1)) 4 4 != 4 || decide (ihl < 5), 11),
     (fold16 (sum16 (slice e.bytes o (4 * ihl))) != 0xFFFF, 12),
     (decide (total < 4 * ihl) || decide (e.len - 4 - o < total), 13),
     (beNat (slice h 8 1) == 0, 15),
     (decide (65535 < 8 * off + (total - 4 * ihl)) || decide (total < 4 * ihl) || off == 1, 16)]
  { p with mal := mal, ipKind := 4, via4 := true, frag := if isFrag then (if off = 0 then 1 else 2) else p.frag }

/-- CHECK 4, an IPv6 header: reasons 11, 14 and 15. -/
def checkIPv6 (e : ParseEnv) (o : Nat) (p : ParseSt) : ParseSt :=
  let h := slice e.bytes o 40
  let pl := beNat (slice h 4 2)
  let mal := firstReason
    [(bitsOf (beNat (slice h 0 1)) 4 4 != 6, 11),
     (pl == 0 || decide (e.len - 4 - (o + 40) < pl), 14),
     (beNat (slice h 7 1) == 0, 15)]
  { p with mal := mal, ipKind := 6, via6 := true, ip6 := some (o, pl) }

/-- CHECK 5, an IPv6 fragment header (R68): reason 16. -/
def checkFragment (e : ParseEnv) (o : Nat) (p : ParseSt) : ParseSt :=
  let fo := beNat (slice e.bytes (o + 2) 2)
  let off := bitsOf fo 3 13
  let isFrag := bitsOf fo 0 1 == 1 || off != 0
  let bad := match p.ip6 with
    | some (o6, pl) =>
      let used := o + 8 - (o6 + 40)
      decide (pl < used) || decide (65535 < 8 * off + (pl - used))
    | none => decide (e.len - 4 < o + 8) || decide (65535 < 8 * off + (e.len - 4 - (o + 8)))
  { p with mal := if bad then 16 else 0, frag := if isFrag then (if off = 0 then 1 else 2) else p.frag }

/-- Step 5 of R62: the checks that CHECK names. -/
def runCheck (e : ParseEnv) (check o : Nat) (p : ParseSt) : ParseSt :=
  match check with
  | 1 => checkEthernet e o p
  | 2 => checkTag e o p
  | 3 => checkIPv4 e o p
  | 4 => checkIPv6 e o p
  | 5 => checkFragment e o p
  | _ => p

/-- Where the parse goes after a node: on to a node at an offset, or to its end. -/
inductive ParseNext where
  | goto (node off : Nat)
  | stop
deriving DecidableEq, Repr

/-- The transition that step 7 of R62 takes for the select value, if one matches. -/
def findTransition (word : Nat → Nat → Nat) (n sel : Nat) : Option Nat :=
  (List.range 8).findSome? (fun t =>
    let w := word n (4 + t)
    if bitsOf w 22 1 = 1 ∧ bitsOf w 0 16 = sel then some w else none)

/-- Step 7 of R62: the select field, the transitions and the default. -/
def selectNext (word : Nat → Nat → Nat) (e : ParseEnv) (n o h : Nat) (p : ParseSt) : ParseSt × ParseNext :=
  let w0 := word n 0
  let w3 := word n 3
  let width := bitsOf w3 11 4 + 1
  let default : ParseSt × ParseNext :=
    if bitsOf w0 18 2 = 0 then (p, .goto (bitsOf w0 12 6) (o + h))
    else if bitsOf w0 18 2 = 2 then ({ p with mal := 3 }, .stop)
    else (p, .stop)
  if bitsOf w3 15 1 = 0 then default
  else if 8 * e.limit < 8 * o + bitsOf w3 0 11 + width then ({ p with mal := e.beyond }, .stop)
  else
    match findTransition word n (netBits e.bytes (8 * o + bitsOf w3 0 11) width) with
    | some w => if bitsOf w 23 1 = 1 then (p, .stop) else (p, .goto (bitsOf w 16 6) (o + h))
    | none => default

/-- The header length of a node, or `none` when its length field lies beyond the frame or the window (R62 step 2). -/
def headerLen (word : Nat → Nat → Nat) (e : ParseEnv) (n o : Nat) : Option Nat :=
  let w0 := word n 0
  let w2 := word n 2
  if bitsOf w0 8 1 = 0 then some (bitsOf w0 0 8)
  else
    let b := 8 * o + bitsOf w2 0 11
    let w := bitsOf w2 11 4 + 1
    if 8 * e.limit < b + w then none
    else some (netBits e.bytes b w * 2 ^ bitsOf w2 15 2 + bitsOf w2 17 8)

/-- One node visit, steps 2 to 7 of R62. A malformation ends the visit, and the parse, at the end of its step. -/
def visitNode (word : Nat → Nat → Nat) (e : ParseEnv) (n o : Nat) (p0 : ParseSt) : ParseSt × ParseNext :=
  let p0 := { p0 with lastNode := n }
  let fail (p : ParseSt) : ParseSt × ParseNext := ({ p with parsedBytes := min 192 o }, .stop)
  match headerLen word e n o with
  | none => fail { p0 with mal := e.beyond }
  | some h =>
    let p1 := [12, 13, 14, 15].foldl (fun p i => extractSlot e o p (word n i)) p0
    if p1.mal ≠ 0 then fail p1
    else if e.limit < o + h then fail { p1 with mal := e.beyond }
    else
      let p2 := runCheck e (bitsOf (word n 0) 9 3) o p1
      if p2.mal ≠ 0 then fail p2
      else
        let p3 := { p2 with flags := p2.flags ||| bitsOf (word n 1) 0 12, parsedBytes := min 192 (o + h) }
        if p3.frag ≠ 0 then (p3, .stop)
        else
          match selectNext word e n o h p3 with
          | (p4, nx) => if p4.mal ≠ 0 then fail p4 else (p4, nx)

/-- The walk (R62): at most 24 nodes are processed, the 25th visit records NODE_LIMIT. -/
def parseWalk (word : Nat → Nat → Nat) (e : ParseEnv) : Nat → Nat → Nat → ParseSt → ParseSt
  | 0, n, o, p => { p with mal := 4, lastNode := n, parsedBytes := min 192 o }
  | fuel + 1, n, o, p =>
    match visitNode word e n o p with
    | (p', .goto n' o') => parseWalk word e fuel n' o' p'
    | (p', .stop) => p'

/-- The metadata bits of the LKV (Table 3.2); VID is the port's PVID for an untagged or priority-tagged frame. -/
def fillMetadata (port pvid : Nat) (p : ParseSt) : ParseSt :=
  let vid := if p.tagCount = 0 ∨ p.vid = 0 then pvid else p.vid
  let k := [(630, 10, port), (618, 12, vid), (615, 3, p.pcp), (614, 1, p.dei), (612, 2, p.tagCount),
    (600, 12, p.flags), (595, 5, p.mal), (593, 2, p.frag), (587, 6, p.lastNode), (579, 8, p.parsedBytes)].foldl
      (fun (k : Lkv) (x : Nat × Nat × Nat) => lkvPut k x.1 x.2.1 x.2.2) p.lkv
  { p with lkv := k, vid := vid }

/-- The parse of a frame (R61, R62): from node 0 at byte 0. -/
def parseFrame (word : Nat → Nat → Nat) (e : ParseEnv) (port pvid : Nat) : ParseSt :=
  fillMetadata port pvid (parseWalk word e 24 0 0 {})

end Sys2Proof.Machine
end

