-- ==== Sys2Proof/Config.lean ====
section
/-! DEFINITION. The free values of the model: constants without a body, so that no proof can see what they are. Each is
applied to a counter of the state or to the operands it depends on; notes/assumptions names them. -/

namespace Sys2Proof

/-- A value of the hub's pseudo-random generator (07_shared_buffer.md R186): the spec gives no sequence. -/
opaque Config.wredRandom : Nat → BitVec 16

/-- Whether a step of a queue's average from `a` towards `c` with weight `w` is rounded up when it is no whole number of
1/256 cell (07 R185): the spec states no rounding. -/
opaque Config.avgRound : (a c w : Nat) → Bool

/-- Whether a delay (in 2^-32 ns) that is no whole number of ns is rounded up in Q_DELAY_HWM and MAX_LATENCY (08 R232). -/
opaque Config.nsRound : Nat → Bool

/-- Bank and row of a line of a DRAM pseudo-channel (A[33:13]), and the number of rows of a bank: the stack's address order is
not given (16 R401, R412). -/
opaque Config.dramBank : Nat → BitVec 16
opaque Config.dramRow : Nat → BitVec 21
opaque Config.dramRows : Nat

/-- Whether a request to an open row passes the older ones of its class and bank that need an activate, where it may (16 R406), by the count of free
values drawn. -/
opaque Config.rowPass : Nat → Bool

/-- Whether the mean of RATE_ADJ over 16 s, taken as (sum, divisor), is rounded up when it is no whole number (09 R253). -/
opaque Config.meanRound : Int → Nat → Bool

/-- What the servo of the firmware does with a measurement (09 R249): the offset it finds in 0.25 ns, the RATE_ADJ it chooses before SLEW_MAX
bounds it, and whether it counts itself locked. The manual gives no servo algorithm. -/
opaque Config.servoOffset : Nat → Int
opaque Config.servoRate : Nat → Int
opaque Config.servoLocked : Nat → Bool

/-- What a refused RECV on the scratch pool writes to rd (13 R344): the spec states only its result code. -/
opaque Config.refusedBuffer : Nat → BitVec 64

/-- A word of the configuration space beyond the header, by function and word number: the manual does not say where the capabilities of
Table 18.1 stand (18 R447). -/
opaque Config.configWord : Nat → Nat → BitVec 32

/-- The bits of a capability's word that no rule states, by function, capability and word (18 R447). -/
opaque Config.capWord : Nat → Nat → Nat → BitVec 32

/-- A JTAG challenge, drawn at random (19 R483). -/
opaque Config.challenge : Nat → BitVec 128

/-- A byte of a page or sector of the flash whose PROGRAM or ERASE was cut off, by its flash address (17 R443). -/
opaque Config.cutByte : Nat → BitVec 8

/-- Which check a slot with undefined content fails, and the record type and index then shown (17 R443), and the record shown when a slot lacks
a record rather than holding a bad one (17 R438, R445): the spec names none. -/
opaque Config.badSlot : Nat → Nat × Nat × Nat

/-- The thread that a MACHINE_CHECK note and UC_MCHK name when a SCRUB finds the word, by the count of free values drawn (13 R354, R358): no thread
read it. -/
opaque Config.scrubThread : Nat → BitVec 5

/-- What a register outside FLT and GLB reads in the Terminal state, by offset (15 R386): the spec keeps only FLT and GLB reads in service. -/
opaque Config.terminalRead : Nat → BitVec 32

/-- The four value bytes of an SMBus Block Read that returns NOT_READY (19 R476): the spec gives none. -/
opaque Config.staleData : Nat → BitVec 32

end Sys2Proof
end

