-- ==== Sys2Proof/Machine/Regs.lean ====
section
/-! DEFINITION. The registers of the register space: their names, fields, access codes, views, allowed ranges,
places and reset values, transcribed from the field tables of spec/ (the table of each register stands in the comment over its group).
A register cell is one field of one register at one index; `Fld` names it, `regInfo` says how software sees it. -/

namespace Sys2Proof.Machine

/-- One constructor per register of the register space (an array of registers is one constructor and an index). -/
inductive Reg where
  | CYCLE_COUNT
  | EPOCH_COUNT
  | DIE_STATUS
  | GLB_ID
  | REVISION
  | BEHAVIOUR_LEVEL
  | SERIAL_LO
  | SERIAL_HI
  | SUBSYS
  | RESET_CTRL
  | PRIV_VIOL_COUNT
  | PRIV_VIOL_LAST
  | PRIV_VIOL_ADDR
  | JTAG_CHALLENGE
  | JTAG_RESPONSE
  | JTAG_STATUS
  | OTP_CMD
  | OTP_ADDR
  | OTP_DATA
  | OTP_STATUS
  | PORT_CFG
  | PORT_STATUS
  | PORT_EVENT
  | PORT_EVENT_EN
  | LINK_TIMING
  | MM_CFG
  | MM_STATUS
  | SD_TX_EQ
  | SD_RX_STATUS
  | RX_OCTETS
  | RX_FRAMES
  | TX_OCTETS
  | TX_FRAMES
  | RX_FCS_ERR
  | RX_RUNT
  | RX_OVERSIZE
  | RX_CODE_ERR
  | RX_PAUSE
  | TX_PAUSE
  | FEC_CORRECTED
  | FEC_UNCORRECTABLE
  | LINK_FLAPS
  | MM_RX_FRAG
  | MM_TX_FRAG
  | MM_ASSEMBLY_ERR
  | MM_SMD_ERR
  | MM_HOLD
  | RX_CTRL_OTHER
  | TX_DOWN_DISCARD
  | RX_PFC
  | TX_PFC
  | PORT_CLASS_CFG
  | PORT_PVID
  | IP_PROFILE
  | PARSE_INFO
  | MAL_COUNT
  | CLASS_KEY_SEG
  | PARSE_NODE
  | RX_MALFORMED
  | RX_NO_MATCH
  | RX_CLASS_DROP
  | RX_TRAP
  | TCAM_PART
  | TCAM_GMASK
  | TCAM_BLK_STATUS
  | TCAM_SCRUB_FIX
  | TCAM_SCRUB_DEFER
  | TCAM_SCRUB_SHADOW_UE
  | TCAM_ACTION_UE
  | TCAM_REPAIRS
  | TCAM_OUT_SEARCHES
  | TCAM_SWEEPS
  | TCAM_PART_SEARCH
  | TCAM_PART_HIT
  | TCAM_CMD
  | TCAM_ADDR
  | TCAM_STATUS
  | TCAM_DATA
  | EM_SEED
  | EM_FAR_SEED
  | EM_CFG
  | EM_AGE
  | EM_INFO
  | VLAN
  | PORT_LEARN_CFG
  | EM_CMD
  | EM_ADDR
  | EM_STATUS
  | EM_DATA
  | LEARNS
  | MOVES
  | AGED
  | LEARN_REFUSED_FULL
  | LEARN_REFUSED_RATE
  | LEARN_REFUSED_LIMIT
  | MOVE_REFUSED_LOCK
  | LEARN_STATIC_CONFLICT
  | FLAP_LOCKS
  | LEARN_EVICTED
  | EM_UE
  | FAR_OVERFLOW
  | FAR_TIMEOUT
  | FAR_UE
  | LEARNED_ENTRIES
  | LAYBY_ENTRIES
  | FAR_LOOKUPS
  | FAR_HITS
  | FWD_FLOOD
  | FWD_FILTERED
  | FWD_ROUTE_DROP
  | FWD_LEARNED
  | RW_CMD
  | RW_INDEX
  | RW_STATUS
  | RW_DATA
  | EDIT_CFG
  | RTAG_CFG
  | REPL_UE
  | EDIT_GROW
  | MIRROR_CFG
  | MIRROR_DEST
  | MIRROR_STREAM
  | MIRROR_PORTS
  | MIRROR_COPIES
  | MIRROR_REFUSED
  | MIRROR_TRUNCATED
  | MC_HOLD_CFG
  | MC_HOLD_STATUS
  | MC_HOLD_EXPIRED
  | MC_HOLD_FULL
  | COPY_REFUSED
  | EDIT_UE
  | PORT_EDIT_CFG
  | PORT_MAC_LO
  | PORT_MAC_HI
  | EDIT_DROP
  | EDIT_TTL_DROP
  | EDIT_OVERSIZE
  | EDIT_NA
  | POOL_STATUS
  | SHARED_USED
  | FREE_CELLS
  | FREE_DESC
  | TRANSIT_USED
  | POOL_ALARM
  | CFG_REFUSED
  | HDRM_OVERRUN
  | NO_DESC
  | BUF_UE
  | BUF_CE
  | DELTA_MASK
  | Q_CFG
  | Q_MIN
  | Q_CELLS
  | Q_HWM
  | Q_HDRM_CELLS
  | WRED_LO
  | WRED_HI
  | Q_AVG
  | PFC_XOFF
  | PFC_XON
  | PFC_HDRM
  | PFC_STATUS
  | PFC_HDRM_USED
  | PORT_PFC_TIMING
  | ENQ_COPIES
  | REFUSED_DT
  | WRED_DROP
  | ECN_MARKED
  | FLUSHED
  | HDRM_ADMIT
  | CT_BAD_DISCARD
  | RLF_STATUS
  | RLF_REPLAY_COUNT
  | RLF_RETRAINS
  | RLF_CODED
  | RLF_UNCODED
  | RLF_INSTALLS
  | RLF_UNCODED_PENDING
  | RLF_UNCODED_MASK
  | RLF_DISCARD
  | RLF_CTX_UE
  | PORT_BUF_CFG
  | CT_BAD_TAIL
  | CT_STOMPED
  | PORT_SCH_CFG
  | GCL_CTRL
  | GCL_STATUS
  | GCL_ADMIN_BASE_NS
  | GCL_ADMIN_BASE_SEC_LO
  | GCL_ADMIN_BASE_SEC_HI
  | GCL_ADMIN_CYCLE
  | GCL_ADMIN_LEN
  | GCL_OPER_BASE_NS
  | GCL_OPER_BASE_SEC_LO
  | GCL_OPER_BASE_SEC_HI
  | GCL_OPER_CYCLE
  | GCL_OPER_LEN
  | GCL_CHANGE_TIME_NS
  | GCL_CHANGE_TIME_SEC_LO
  | GCL_CHANGE_TIME_SEC_HI
  | GCL_CHANGES
  | GCL_START_IN_PAST
  | LATE_MARKED
  | Q_SCH_CFG
  | Q_SHAPER
  | Q_DL_BUDGET
  | Q_DL_CFG
  | Q_DELAY_HWM
  | Q_DEPTH_SUM
  | Q_DEPTH_MAX
  | Q_LATE_DISCARD
  | SHP_RATE
  | SHP_BURST
  | SHP_TOKENS
  | GCL_SEL
  | GCL_ENTRY
  | SCH_UE
  | HIST
  | SC_CMD
  | SC_INDEX
  | SC_STATUS
  | SC_DATA
  | SC_UE
  | TIME_CFG
  | SERVO_CFG
  | STEP_THRESHOLD
  | TIME_STATUS
  | NOW_NS
  | NOW_SEC_LO
  | NOW_SEC_HI
  | RATE_ADJ
  | STEP_LO
  | STEP_HI
  | STEP_CTRL
  | SET_NS
  | SET_SEC_LO
  | SET_SEC_HI
  | DOM_CFG
  | DOM_OFFSET_LO
  | DOM_OFFSET_HI
  | DOM_RATE
  | TIME_STEPS
  | FOLLOW_UNLOCKS
  | PPS_IN_BAD_PERIOD
  | PPS_OUT_CFG
  | PPS_IN_CFG
  | PPS_IN_TS_NS
  | PPS_IN_TS_SEC_LO
  | PPS_IN_TS_SEC_HI
  | SYNC_IN_CFG
  | SYNC_IN_TS_NS
  | SYNC_IN_TS_SEC_LO
  | SYNC_IN_TS_SEC_HI
  | SYNC_IN_MERGED
  | SYNC_IN_OVERFLOW
  | SYNC_OUT_CFG
  | SYNC_OUT_START_NS
  | SYNC_OUT_START_SEC_LO
  | SYNC_OUT_START_SEC_HI
  | SYNC_OUT_PERIOD
  | SYNC_OUT_WIDTH
  | PTP_TX_INFO
  | PTP_TX_NS
  | PTP_TX_SEC_LO
  | PTP_TX_SEC_HI
  | PTP_TX_LOST
  | PORT_PTP_CFG
  | PTP_RX_DROP
  | PTP_ONESTEP_NA
  | STREAM_EGRESS
  | PLN_CTRL
  | PLN_STATUS
  | PLAN_ID
  | APPROVE_ID
  | APPROVE_CMD
  | PLN_LOAD
  | T_COMMIT_NS
  | T_COMMIT_SEC_LO
  | T_COMMIT_SEC_HI
  | JOURNAL_ADDR
  | JOURNAL_HEAD
  | PLANS_COMMITTED
  | PLANS_ABORTED
  | DETOURS
  | QUARANTINES
  | STREAMS_REFUSED
  | HH_LIMITS
  | TRAP_SHAPED_DROP
  | APPROVE_STALE
  | FOREIGN_LIST
  | SS_INDEX
  | SS_DATA0
  | SS_DATA1
  | SS_DATA2
  | SS_DATA3
  | EXPORT_CFG
  | EXPORT_SEQ
  | HISTORY_ADDR
  | EXPORT_DROP_PF0
  | EXPORT_DROP_PF1
  | EXPORT_LATE
  | SKETCH_SEED
  | HH_CAND_BYTES
  | CAND_FULL
  | THREAD_CFG
  | ACCESS_MASK
  | WIN0
  | WIN1
  | DRAM_WIN
  | SHARE_MSG
  | SHARE_BUF
  | ENTRY
  | THREAD_STATUS
  | WAIT_MASK_LO
  | WAIT_MASK_HI
  | THREAD_SLOTS
  | THREAD_CTRL
  | HELD
  | ME_INFO
  | CORE_CFG
  | DEADLOCKS
  | SUP_NOTE
  | SUP_NOTE_LOST
  | SHARE_REFUSED
  | POOL_FREE
  | CHAN_CFG0
  | CHAN_CFG1
  | CHAN_STATUS
  | PORT513_CFG
  | RX513_HEAD
  | RX513_TAIL
  | TX513_HEAD
  | TX513_TAIL
  | TX513_REFUSED
  | DBG_CMD
  | DBG_STATUS
  | DBG_RESULT
  | BP_ADDR
  | BP_CTRL
  | UC_STATUS
  | UC_CMD
  | UC_RESULT
  | UC_MCHK
  | MCHK_COUNT
  | UC_SCRUB_FIX
  | UC_RD_ADDR
  | UC_RD_DATA
  | PMC_CTRL
  | PMC_OVF
  | PMC_IRQ_EN
  | PMC_CFG
  | PMC_LO
  | PMC_HI
  | SMP_CFG
  | SMP_HEAD
  | SMP_TAIL
  | SMP_THRESH
  | SMP_LOST
  | SAMPLE_ENTRY
  | SRC_CFG
  | SRC_STATUS
  | CLAIM
  | COMPLETE
  | TGT_STATUS
  | TGT_CLAIMS
  | SW_RAISE
  | STORMS
  | WITHDRAWALS
  | COMPLETE_STRAY
  | MASK_WINDOW_DELIVERIES
  | INTC_PENDING
  | FLT_CFG
  | FLT_CTRL
  | FLT_STATUS
  | FIRST
  | FIRST_FOLLOW
  | CONSEQ_COUNT
  | FLT_TEMP
  | FLT_HIST
  | TRAP_MAP
  | SRC_REACT
  | ESC_REACT
  | FLT_SRC_STATUS
  | SRC_COUNT
  | MEM_CFG
  | STACK_TEMP
  | LAST_UE_ADDR_LO
  | LAST_UE_ADDR_HI
  | MEM_CE_COUNT
  | MEM_UE_COUNT
  | CH_CFG
  | CH_STATUS
  | CH_CTRL
  | CH_EVENT
  | CH_EVENT_EN
  | CATCHUP_COUNT
  | RD_REFRESHES
  | FLOOR_HITS
  | PATROL_FIX
  | MEM_RETRAINS
  | FAILED_ACCESS
  | LDR_STATUS
  | START_US
  | RESTARTS
  | SLOT_RESULT
  | BUILD_ID
  | ID_INTEGRATOR
  | ID_BOARD
  | ID_VERSION
  | LDR_NAME
  | LDR_CTRL
  | RCV_CMD
  | RCV_ADDR
  | RCV_LEN
  | RCV_STATUS
  | RCV_DATA
  | HIF_CFG
  | BAR2_BASE
  | PF1_WIN
  | LINK_STATUS
  | FUNC_STATUS
  | HQ_MAP
  | EVT_CFG
  | MBX_CMD
  | MBX_STATUS
  | MBX_REQ
  | RX_NOT_ALLOWED
  | BASE_LO
  | BASE_HI
  | RING_CFG
  | RING_MOD
  | RING_HEAD
  | RING_TAIL
  | ERR_CAUSE
  | RING_FRAMES
  | RING_DROP
deriving DecidableEq, Repr

/-- Access codes, Table 0.5 (00_scope.md R8). -/
inductive Acc where
  | RW | RO | WO | W1C | RC
deriving DecidableEq, Repr

/-- One field of a register: where it lies, its access code, whether the observer view may read it (view O),
and the values a write may give it (an empty list: every value). -/
structure FieldSpec where
  hi : Nat
  lo : Nat
  acc : Acc
  obs : Bool
  ranges : List (Nat × Nat)
deriving DecidableEq, Repr

/-- A place of a register array: the offset of its first word, (count, stride) per dimension (outermost first),
and the index of its first element. -/
structure Place where
  base : Nat
  dims : List (Nat × Nat)
  idx0 : Nat
deriving DecidableEq, Repr

/-- What software sees of one register: its places and its fields. -/
structure RegInfo where
  places : List Place
  fields : List FieldSpec
deriving DecidableEq, Repr

/-- A field of the register file: the register and the bits `hi..lo`. -/
structure Fld where
  reg : Reg
  hi : Nat
  lo : Nat
deriving DecidableEq, Repr

/-- The width of a field in bits. -/
def Fld.width (f : Fld) : Nat := f.hi + 1 - f.lo

/-- A single register or array at one place. -/
def place1 (base : Nat) (dims : List (Nat × Nat)) : List Place := [⟨base, dims, 0⟩]
/-- A register of each port die d, at 0x200_0000 + 0x80_0000 × d (19_register_map.md R474). -/
def placePd (off : Nat) (dims : List (Nat × Nat)) : List Place := [⟨0x2000000 + off, (4, 0x800000) :: dims, 0⟩]
/-- A register of each Ethernet port p = 128 × d + k, in the port block of its die. -/
def placePort (off : Nat) (dims : List (Nat × Nat)) : List Place :=
  [⟨0x2100000 + off, (4, 0x800000) :: (128, 0x400) :: dims, 0⟩]
/-- A scheduler register of each queue: 8 queues of ports 0 to 511, 16 of port 512, 8 of port 513 (08 R234). -/
def placeQueue (off : Nat) : List Place :=
  [⟨0xC00080 + off, [(512, 0x400), (8, 0x20)], 0⟩, ⟨0xC80080 + off, [(16, 0x20)], 4096⟩,
   ⟨0xC80480 + off, [(8, 0x20)], 4112⟩]
/-- A register of each ring (18 R473): 64 PF0 receive, 64 PF0 transmit, 8 event, PF0 telemetry, 8 PF1 receive, PF1 telemetry. -/
def placeRing (off : Nat) : List Place :=
  [⟨0x210000 + off, [(64, 0x40)], 0⟩, ⟨0x211000 + off, [(64, 0x40)], 64⟩, ⟨0x212000 + off, [(8, 0x40)], 128⟩,
   ⟨0x213000 + off, [], 136⟩, ⟨0x218000 + off, [(8, 0x40)], 137⟩, ⟨0x219000 + off, [], 145⟩]

/-- The places and fields of every register. -/
def regInfo : Reg → RegInfo
  -- 01_architecture.md R28, Table 1.4
  | .CYCLE_COUNT => ⟨place1 0x40 [], [⟨63, 0, .RO, true, []⟩]⟩
  | .EPOCH_COUNT => ⟨place1 0x48 [], [⟨31, 0, .RO, true, []⟩]⟩
  -- 01_architecture.md R18, Table 1.5
  | .DIE_STATUS => ⟨place1 0x50 [], [⟨11, 8, .RO, true, []⟩, ⟨7, 4, .RO, true, []⟩, ⟨3, 0, .RO, true, []⟩]⟩
  -- 19_register_map.md R479, Table 19.5
  | .GLB_ID => ⟨place1 0x0 [], [⟨31, 16, .RO, true, []⟩, ⟨15, 0, .RO, true, []⟩]⟩
  | .REVISION => ⟨place1 0x4 [], [⟨7, 0, .RO, true, []⟩]⟩
  | .BEHAVIOUR_LEVEL => ⟨place1 0x8 [], [⟨19, 16, .RO, true, []⟩, ⟨3, 0, .RO, true, []⟩]⟩
  | .SERIAL_LO => ⟨place1 0xC [], [⟨31, 0, .RO, true, []⟩]⟩
  | .SERIAL_HI => ⟨place1 0x10 [], [⟨31, 0, .RO, true, []⟩]⟩
  | .SUBSYS => ⟨place1 0x14 [], [⟨31, 16, .RO, true, []⟩, ⟨15, 0, .RO, true, []⟩]⟩
  | .RESET_CTRL => ⟨place1 0x20 [], [⟨31, 16, .WO, false, []⟩, ⟨9, 9, .WO, false, []⟩, ⟨8, 8, .WO, false, []⟩, ⟨3, 0, .RW, false, []⟩]⟩
  | .PRIV_VIOL_COUNT => ⟨place1 0x30 [], [⟨31, 0, .RO, true, []⟩]⟩
  | .PRIV_VIOL_LAST => ⟨place1 0x34 [], [⟨31, 31, .RO, true, []⟩, ⟨30, 30, .RO, true, []⟩, ⟨29, 24, .RO, true, []⟩]⟩
  | .PRIV_VIOL_ADDR => ⟨place1 0x38 [], [⟨25, 0, .RO, true, []⟩]⟩
  | .JTAG_CHALLENGE => ⟨place1 0x60 [(4, 0x4)], [⟨31, 0, .RO, true, []⟩]⟩
  | .JTAG_RESPONSE => ⟨place1 0x70 [(4, 0x4)], [⟨31, 0, .WO, false, []⟩]⟩
  | .JTAG_STATUS => ⟨place1 0x80 [], [⟨31, 31, .RO, true, []⟩, ⟨30, 30, .RO, true, []⟩, ⟨29, 29, .RO, true, []⟩, ⟨1, 0, .RO, true, []⟩]⟩
  | .OTP_CMD => ⟨place1 0x90 [], [⟨31, 16, .WO, false, []⟩, ⟨1, 0, .WO, false, []⟩]⟩
  | .OTP_ADDR => ⟨place1 0x94 [], [⟨5, 0, .RW, false, []⟩]⟩
  | .OTP_DATA => ⟨place1 0x98 [], [⟨31, 0, .RW, false, []⟩]⟩
  | .OTP_STATUS => ⟨place1 0x9C [], [⟨31, 31, .RO, true, []⟩, ⟨30, 28, .RO, true, []⟩]⟩
  -- 02_ports.md R59, Table 2.5
  | .PORT_CFG => ⟨placePort 0x0 [], [⟨23, 10, .RO, true, []⟩, ⟨9, 8, .RO, true, []⟩, ⟨7, 7, .RW, false, []⟩, ⟨6, 6, .RO, true, []⟩, ⟨5, 4, .RO, true, []⟩, ⟨3, 0, .RO, true, []⟩]⟩
  -- 02_ports.md R59, Table 2.6
  | .PORT_STATUS => ⟨placePort 0x4 [], [⟨11, 8, .RO, true, []⟩, ⟨7, 7, .RO, true, []⟩, ⟨6, 6, .RO, true, []⟩, ⟨5, 5, .RO, true, []⟩, ⟨4, 4, .RO, true, []⟩, ⟨3, 3, .RO, true, []⟩, ⟨2, 2, .RO, true, []⟩, ⟨1, 1, .RO, true, []⟩, ⟨0, 0, .RO, true, []⟩]⟩
  -- 02_ports.md R59, Table 2.7
  | .PORT_EVENT => ⟨placePort 0x8 [], [⟨3, 3, .W1C, false, []⟩, ⟨2, 2, .W1C, false, []⟩, ⟨1, 1, .W1C, false, []⟩, ⟨0, 0, .W1C, false, []⟩]⟩
  | .PORT_EVENT_EN => ⟨placePort 0xC [], [⟨3, 3, .RW, false, []⟩, ⟨2, 2, .RW, false, []⟩, ⟨1, 1, .RW, false, []⟩, ⟨0, 0, .RW, false, []⟩]⟩
  -- 02_ports.md R59, Table 2.8
  | .LINK_TIMING => ⟨placePort 0x10 [], [⟨25, 16, .RW, false, [(1, 1000)]⟩, ⟨13, 0, .RW, false, [(0, 10000)]⟩]⟩
  -- 02_ports.md R59, Table 2.9
  | .MM_CFG => ⟨placePort 0x14 [], [⟨22, 20, .RO, true, []⟩, ⟨19, 12, .RO, true, []⟩, ⟨11, 10, .RO, true, []⟩, ⟨9, 9, .RO, true, []⟩, ⟨8, 8, .RO, true, []⟩, ⟨7, 0, .RO, true, []⟩]⟩
  | .MM_STATUS => ⟨placePort 0x18 [], [⟨4, 4, .RO, true, []⟩, ⟨3, 3, .RO, true, []⟩, ⟨2, 0, .RO, true, []⟩]⟩
  -- 02_ports.md R59, Table 2.10
  | .SD_TX_EQ => ⟨placePort 0x20 [], [⟨17, 17, .RW, false, []⟩, ⟨16, 16, .RW, false, []⟩, ⟨14, 10, .RW, false, []⟩, ⟨9, 4, .RW, false, []⟩, ⟨3, 0, .RW, false, []⟩]⟩
  | .SD_RX_STATUS => ⟨placePort 0x24 [], [⟨1, 1, .RO, true, []⟩, ⟨0, 0, .RO, true, []⟩]⟩
  -- 02_ports.md R60, Table 2.11
  | .RX_OCTETS => ⟨placePort 0x100 [], [⟨63, 0, .RO, true, []⟩]⟩
  | .RX_FRAMES => ⟨placePort 0x108 [], [⟨63, 0, .RO, true, []⟩]⟩
  | .TX_OCTETS => ⟨placePort 0x110 [], [⟨63, 0, .RO, true, []⟩]⟩
  | .TX_FRAMES => ⟨placePort 0x118 [], [⟨63, 0, .RO, true, []⟩]⟩
  | .RX_FCS_ERR => ⟨placePort 0x120 [], [⟨31, 0, .RO, true, []⟩]⟩
  | .RX_RUNT => ⟨placePort 0x124 [], [⟨31, 0, .RO, true, []⟩]⟩
  | .RX_OVERSIZE => ⟨placePort 0x128 [], [⟨31, 0, .RO, true, []⟩]⟩
  | .RX_CODE_ERR => ⟨placePort 0x12C [], [⟨31, 0, .RO, true, []⟩]⟩
  | .RX_PAUSE => ⟨placePort 0x130 [], [⟨31, 0, .RO, true, []⟩]⟩
  | .TX_PAUSE => ⟨placePort 0x134 [], [⟨31, 0, .RO, true, []⟩]⟩
  | .FEC_CORRECTED => ⟨placePort 0x138 [], [⟨31, 0, .RO, true, []⟩]⟩
  | .FEC_UNCORRECTABLE => ⟨placePort 0x13C [], [⟨31, 0, .RO, true, []⟩]⟩
  | .LINK_FLAPS => ⟨placePort 0x140 [], [⟨31, 0, .RO, true, []⟩]⟩
  | .MM_RX_FRAG => ⟨placePort 0x144 [], [⟨31, 0, .RO, true, []⟩]⟩
  | .MM_TX_FRAG => ⟨placePort 0x148 [], [⟨31, 0, .RO, true, []⟩]⟩
  | .MM_ASSEMBLY_ERR => ⟨placePort 0x14C [], [⟨31, 0, .RO, true, []⟩]⟩
  | .MM_SMD_ERR => ⟨placePort 0x150 [], [⟨31, 0, .RO, true, []⟩]⟩
  | .MM_HOLD => ⟨placePort 0x154 [], [⟨31, 0, .RO, true, []⟩]⟩
  | .RX_CTRL_OTHER => ⟨placePort 0x158 [], [⟨31, 0, .RO, true, []⟩]⟩
  | .TX_DOWN_DISCARD => ⟨placePort 0x15C [], [⟨31, 0, .RO, true, []⟩]⟩
  | .RX_PFC => ⟨placePort 0x160 [(8, 0x4)], [⟨31, 0, .RO, true, []⟩]⟩
  | .TX_PFC => ⟨placePort 0x180 [(8, 0x4)], [⟨31, 0, .RO, true, []⟩]⟩
  -- 03_parsing_classification.md R84, Table 3.6
  | .PORT_CLASS_CFG => ⟨placePort 0x30 [], [⟨29, 28, .RW, false, []⟩, ⟨27, 26, .RW, false, []⟩, ⟨25, 23, .RO, true, []⟩, ⟨22, 21, .RO, true, []⟩, ⟨20, 18, .RO, true, []⟩, ⟨17, 17, .RW, false, []⟩, ⟨16, 16, .RW, false, []⟩, ⟨15, 14, .RW, false, [(0, 2)]⟩, ⟨13, 11, .RW, false, []⟩]⟩
  -- 03_parsing_classification.md R84, Table 3.7
  | .PORT_PVID => ⟨placePort 0x34 [], [⟨11, 0, .RW, false, [(1, 4094)]⟩]⟩
  | .IP_PROFILE => ⟨placePd 0x200300 [(4, 0x4)], [⟨5, 5, .RO, true, []⟩, ⟨4, 4, .RO, true, []⟩, ⟨3, 3, .RO, true, []⟩, ⟨2, 2, .RO, true, []⟩, ⟨1, 1, .RO, true, []⟩, ⟨0, 0, .RO, true, []⟩]⟩
  -- 03_parsing_classification.md R84, Table 3.10
  | .PARSE_INFO => ⟨placePd 0x200000 [], [⟨6, 0, .RO, true, []⟩]⟩
  | .MAL_COUNT => ⟨placePd 0x200100 [(32, 0x4)], [⟨31, 0, .RO, true, []⟩]⟩
  | .CLASS_KEY_SEG => ⟨placePd 0x200200 [(32, 0x4)], [⟨25, 16, .RO, true, []⟩, ⟨6, 0, .RO, true, []⟩]⟩
  | .PARSE_NODE => ⟨placePd 0x201000 [(64, 0x40), (16, 0x4)], [⟨31, 0, .RO, true, []⟩]⟩
  -- 03_parsing_classification.md R85, Table 3.11
  | .RX_MALFORMED => ⟨placePort 0x1A0 [], [⟨31, 0, .RO, true, []⟩]⟩
  | .RX_NO_MATCH => ⟨placePort 0x1A4 [], [⟨31, 0, .RO, true, []⟩]⟩
  | .RX_CLASS_DROP => ⟨placePort 0x1A8 [], [⟨31, 0, .RO, true, []⟩]⟩
  | .RX_TRAP => ⟨placePort 0x1AC [], [⟨31, 0, .RO, true, []⟩]⟩
  -- 04_associative_search.md R112, Table 4.6
  | .TCAM_PART => ⟨placePd 0x300000 [(8, 0x4)], [⟨31, 31, .RO, true, []⟩, ⟨15, 12, .RO, true, []⟩, ⟨11, 8, .RO, true, []⟩, ⟨5, 4, .RO, true, []⟩, ⟨3, 3, .RO, true, []⟩, ⟨2, 0, .RO, true, []⟩]⟩
  | .TCAM_GMASK => ⟨placePd 0x300100 [(160, 0x4)], [⟨31, 0, .RW, false, []⟩]⟩
  -- 04_associative_search.md R112, Table 4.7
  | .TCAM_BLK_STATUS => ⟨placePd 0x300400 [(16, 0x4)], [⟨15, 8, .RO, true, []⟩, ⟨2, 0, .RO, true, []⟩]⟩
  -- 04_associative_search.md R113, Table 4.8
  | .TCAM_SCRUB_FIX => ⟨placePd 0x300500 [], [⟨31, 0, .RO, true, []⟩]⟩
  | .TCAM_SCRUB_DEFER => ⟨placePd 0x300504 [], [⟨31, 0, .RO, true, []⟩]⟩
  | .TCAM_SCRUB_SHADOW_UE => ⟨placePd 0x300508 [], [⟨31, 0, .RO, true, []⟩]⟩
  | .TCAM_ACTION_UE => ⟨placePd 0x30050C [], [⟨31, 0, .RO, true, []⟩]⟩
  | .TCAM_REPAIRS => ⟨placePd 0x300510 [], [⟨31, 0, .RO, true, []⟩]⟩
  | .TCAM_OUT_SEARCHES => ⟨placePd 0x300514 [], [⟨31, 0, .RO, true, []⟩]⟩
  | .TCAM_SWEEPS => ⟨placePd 0x300518 [], [⟨31, 0, .RO, true, []⟩]⟩
  -- 04_associative_search.md R113, Table 4.9
  | .TCAM_PART_SEARCH => ⟨placePd 0x300600 [(8, 0x10)], [⟨63, 0, .RO, true, []⟩]⟩
  | .TCAM_PART_HIT => ⟨placePd 0x300608 [(8, 0x10)], [⟨63, 0, .RO, true, []⟩]⟩
  -- 04_associative_search.md R112, Table 4.10
  | .TCAM_CMD => ⟨placePd 0x301000 [(2, 0x200)], [⟨10, 8, .WO, false, []⟩, ⟨2, 0, .WO, false, []⟩]⟩
  | .TCAM_ADDR => ⟨placePd 0x301004 [(2, 0x200)], [⟨30, 16, .RW, false, []⟩, ⟨14, 0, .RW, false, []⟩]⟩
  | .TCAM_STATUS => ⟨placePd 0x301008 [(2, 0x200)], [⟨31, 31, .RO, true, []⟩, ⟨30, 28, .RO, true, []⟩, ⟨24, 16, .RO, true, []⟩, ⟨15, 15, .RO, true, []⟩, ⟨14, 0, .RO, true, []⟩]⟩
  -- 04_associative_search.md R112, Table 4.11
  | .TCAM_DATA => ⟨placePd 0x301100 [(2, 0x200), (42, 0x4)], [⟨31, 0, .RW, false, []⟩]⟩
  -- 05_exact_match_learning.md R141, Table 5.5
  | .EM_SEED => ⟨placePd 0x400000 [], [⟨31, 0, .RO, true, []⟩]⟩
  | .EM_FAR_SEED => ⟨placePd 0x400004 [], [⟨31, 0, .RO, true, []⟩]⟩
  | .EM_CFG => ⟨placePd 0x400008 [], [⟨31, 24, .RO, true, []⟩, ⟨0, 0, .RW, false, []⟩]⟩
  | .EM_AGE => ⟨placePd 0x40000C [], [⟨19, 16, .RW, false, [(2, 15)]⟩, ⟨15, 0, .RW, false, [(1, 65535)]⟩]⟩
  | .EM_INFO => ⟨placePd 0x400010 [], [⟨7, 0, .RO, true, []⟩]⟩
  -- 05_exact_match_learning.md R141, Table 5.6
  | .VLAN => ⟨placePd 0x410000 [(4096, 0x4)], [⟨31, 31, .RW, false, []⟩, ⟨30, 30, .RW, false, []⟩, ⟨29, 29, .RW, false, []⟩, ⟨13, 0, .RW, false, []⟩]⟩
  | .PORT_LEARN_CFG => ⟨placePort 0x38 [], [⟨21, 2, .RW, false, []⟩, ⟨1, 1, .RW, false, []⟩, ⟨0, 0, .RW, false, []⟩]⟩
  -- 05_exact_match_learning.md R141, Table 5.7
  | .EM_CMD => ⟨placePd 0x420000 [(2, 0x100)], [⟨3, 3, .WO, false, []⟩, ⟨2, 0, .WO, false, []⟩]⟩
  | .EM_ADDR => ⟨placePd 0x420004 [(2, 0x100)], [⟨23, 0, .RW, false, []⟩]⟩
  | .EM_STATUS => ⟨placePd 0x420008 [(2, 0x100)], [⟨31, 31, .RO, true, []⟩, ⟨30, 28, .RO, true, []⟩, ⟨24, 24, .RO, true, []⟩, ⟨23, 0, .RO, true, []⟩]⟩
  | .EM_DATA => ⟨placePd 0x420010 [(2, 0x100), (10, 0x4)], [⟨31, 0, .RW, false, []⟩]⟩
  -- 05_exact_match_learning.md R142, Table 5.8
  | .LEARNS => ⟨placePd 0x400100 [], [⟨31, 0, .RO, true, []⟩]⟩
  | .MOVES => ⟨placePd 0x400104 [], [⟨31, 0, .RO, true, []⟩]⟩
  | .AGED => ⟨placePd 0x400108 [], [⟨31, 0, .RO, true, []⟩]⟩
  | .LEARN_REFUSED_FULL => ⟨placePd 0x40010C [], [⟨31, 0, .RO, true, []⟩]⟩
  | .LEARN_REFUSED_RATE => ⟨placePd 0x400110 [], [⟨31, 0, .RO, true, []⟩]⟩
  | .LEARN_REFUSED_LIMIT => ⟨placePd 0x400114 [], [⟨31, 0, .RO, true, []⟩]⟩
  | .MOVE_REFUSED_LOCK => ⟨placePd 0x400118 [], [⟨31, 0, .RO, true, []⟩]⟩
  | .LEARN_STATIC_CONFLICT => ⟨placePd 0x40011C [], [⟨31, 0, .RO, true, []⟩]⟩
  | .FLAP_LOCKS => ⟨placePd 0x400120 [], [⟨31, 0, .RO, true, []⟩]⟩
  | .LEARN_EVICTED => ⟨placePd 0x400124 [], [⟨31, 0, .RO, true, []⟩]⟩
  | .EM_UE => ⟨placePd 0x400128 [], [⟨31, 0, .RO, true, []⟩]⟩
  | .FAR_OVERFLOW => ⟨placePd 0x40012C [], [⟨31, 0, .RO, true, []⟩]⟩
  | .FAR_TIMEOUT => ⟨placePd 0x400130 [], [⟨31, 0, .RO, true, []⟩]⟩
  | .FAR_UE => ⟨placePd 0x400134 [], [⟨31, 0, .RO, true, []⟩]⟩
  | .LEARNED_ENTRIES => ⟨placePd 0x400138 [], [⟨31, 0, .RO, true, []⟩]⟩
  | .LAYBY_ENTRIES => ⟨placePd 0x40013C [], [⟨31, 0, .RO, true, []⟩]⟩
  | .FAR_LOOKUPS => ⟨placePd 0x400140 [], [⟨63, 0, .RO, true, []⟩]⟩
  | .FAR_HITS => ⟨placePd 0x400148 [], [⟨63, 0, .RO, true, []⟩]⟩
  -- 05_exact_match_learning.md R142, Table 5.9
  | .FWD_FLOOD => ⟨placePort 0x1B0 [], [⟨31, 0, .RO, true, []⟩]⟩
  | .FWD_FILTERED => ⟨placePort 0x1B4 [], [⟨31, 0, .RO, true, []⟩]⟩
  | .FWD_ROUTE_DROP => ⟨placePort 0x1B8 [], [⟨31, 0, .RO, true, []⟩]⟩
  | .FWD_LEARNED => ⟨placePort 0x1BC [], [⟨31, 0, .RO, true, []⟩]⟩
  -- 06_rewrite_replication_mirroring.md R165, Table 6.7
  | .RW_CMD => ⟨place1 0xF10000 [(2, 0x100)], [⟨3, 2, .WO, false, []⟩, ⟨1, 0, .WO, false, []⟩]⟩
  | .RW_INDEX => ⟨place1 0xF10004 [(2, 0x100)], [⟨15, 0, .RW, false, []⟩]⟩
  | .RW_STATUS => ⟨place1 0xF10008 [(2, 0x100)], [⟨31, 31, .RO, true, []⟩, ⟨30, 28, .RO, true, []⟩]⟩
  | .RW_DATA => ⟨place1 0xF10010 [(2, 0x100), (12, 0x4)], [⟨31, 0, .RW, false, []⟩]⟩
  -- 06_rewrite_replication_mirroring.md R165, Table 6.8
  | .EDIT_CFG => ⟨place1 0xF10200 [], [⟨15, 0, .RW, false, []⟩]⟩
  | .RTAG_CFG => ⟨place1 0xF10204 [], [⟨31, 31, .RW, false, []⟩, ⟨25, 16, .RW, false, [(0, 560)]⟩, ⟨3, 0, .RW, false, [(0, 11)]⟩]⟩
  | .REPL_UE => ⟨place1 0xF10208 [], [⟨31, 0, .RO, true, []⟩]⟩
  | .EDIT_GROW => ⟨place1 0xF11000 [(256, 0x4)], [⟨5, 0, .RO, true, []⟩]⟩
  -- 06_rewrite_replication_mirroring.md R165, Table 6.9
  | .MIRROR_CFG => ⟨place1 0xF18000 [(8, 0x100)], [⟨31, 30, .RW, false, []⟩, ⟨29, 29, .RW, false, []⟩, ⟨28, 24, .RW, false, [(0, 16)]⟩, ⟨23, 16, .RW, false, []⟩, ⟨15, 0, .RW, false, [(1, 65535)]⟩]⟩
  | .MIRROR_DEST => ⟨place1 0xF18004 [(8, 0x100)], [⟨31, 28, .RW, false, []⟩, ⟨27, 25, .RW, false, []⟩, ⟨9, 0, .RW, false, [(0, 513)]⟩]⟩
  | .MIRROR_STREAM => ⟨place1 0xF18008 [(8, 0x100)], [⟨31, 16, .RW, false, []⟩, ⟨15, 0, .RW, false, []⟩]⟩
  | .MIRROR_PORTS => ⟨place1 0xF18010 [(8, 0x100), (17, 0x4)], [⟨31, 0, .RW, false, []⟩]⟩
  | .MIRROR_COPIES => ⟨place1 0xF18080 [(8, 0x100)], [⟨63, 0, .RO, true, []⟩]⟩
  | .MIRROR_REFUSED => ⟨place1 0xF18088 [(8, 0x100)], [⟨31, 0, .RO, true, []⟩]⟩
  | .MIRROR_TRUNCATED => ⟨place1 0xF1808C [(8, 0x100)], [⟨31, 0, .RO, true, []⟩]⟩
  -- 06_rewrite_replication_mirroring.md R165, Table 6.10
  | .MC_HOLD_CFG => ⟨place1 0xBF0000 [], [⟨9, 0, .RW, false, [(1, 1000)]⟩]⟩
  | .MC_HOLD_STATUS => ⟨place1 0xBF0004 [], [⟨8, 0, .RO, true, []⟩]⟩
  | .MC_HOLD_EXPIRED => ⟨place1 0xBF0008 [], [⟨31, 0, .RO, true, []⟩]⟩
  | .MC_HOLD_FULL => ⟨place1 0xBF000C [], [⟨31, 0, .RO, true, []⟩]⟩
  | .COPY_REFUSED => ⟨place1 0xBF0100 [(514, 0x4)], [⟨31, 0, .RO, true, []⟩]⟩
  -- 06_rewrite_replication_mirroring.md R165, Table 6.11
  | .EDIT_UE => ⟨placePd 0x500000 [], [⟨31, 0, .RO, true, []⟩]⟩
  | .PORT_EDIT_CFG => ⟨placePort 0x3C [], [⟨7, 0, .RW, false, []⟩]⟩
  | .PORT_MAC_LO => ⟨placePort 0x40 [], [⟨31, 0, .RW, false, []⟩]⟩
  | .PORT_MAC_HI => ⟨placePort 0x44 [], [⟨15, 0, .RW, false, []⟩]⟩
  | .EDIT_DROP => ⟨placePort 0x1C0 [], [⟨31, 0, .RO, true, []⟩]⟩
  | .EDIT_TTL_DROP => ⟨placePort 0x1C4 [], [⟨31, 0, .RO, true, []⟩]⟩
  | .EDIT_OVERSIZE => ⟨placePort 0x1C8 [], [⟨31, 0, .RO, true, []⟩]⟩
  | .EDIT_NA => ⟨placePort 0x1CC [], [⟨31, 0, .RO, true, []⟩]⟩
  -- 07_shared_buffer.md R195, Table 7.8
  | .POOL_STATUS => ⟨place1 0xA00000 [], [⟨19, 0, .RO, true, []⟩]⟩
  | .SHARED_USED => ⟨place1 0xA00004 [], [⟨19, 0, .RO, true, []⟩]⟩
  | .FREE_CELLS => ⟨place1 0xA00008 [], [⟨19, 0, .RO, true, []⟩]⟩
  | .FREE_DESC => ⟨place1 0xA0000C [], [⟨18, 0, .RO, true, []⟩]⟩
  | .TRANSIT_USED => ⟨place1 0xA00010 [], [⟨19, 0, .RO, true, []⟩]⟩
  | .POOL_ALARM => ⟨place1 0xA00014 [], [⟨19, 0, .RW, false, []⟩]⟩
  | .CFG_REFUSED => ⟨place1 0xA00100 [], [⟨31, 0, .RO, true, []⟩]⟩
  | .HDRM_OVERRUN => ⟨place1 0xA00104 [], [⟨31, 0, .RO, true, []⟩]⟩
  | .NO_DESC => ⟨place1 0xA00108 [], [⟨31, 0, .RO, true, []⟩]⟩
  | .BUF_UE => ⟨place1 0xA0010C [], [⟨31, 0, .RO, true, []⟩]⟩
  | .BUF_CE => ⟨place1 0xA00110 [], [⟨31, 0, .RO, true, []⟩]⟩
  | .DELTA_MASK => ⟨place1 0xBA0000 [(512, 0x4)], [⟨31, 0, .RW, false, []⟩]⟩
  -- 07_shared_buffer.md R195, Table 7.9
  | .Q_CFG => ⟨place1 0xA20000 [(4120, 0x20)], [⟨11, 8, .RW, false, []⟩, ⟨7, 7, .RW, false, []⟩, ⟨6, 4, .RW, false, []⟩, ⟨1, 0, .RW, false, [(0, 2)]⟩]⟩
  | .Q_MIN => ⟨place1 0xA20004 [(4120, 0x20)], [⟨19, 0, .RW, false, []⟩]⟩
  | .Q_CELLS => ⟨place1 0xA20008 [(4120, 0x20)], [⟨19, 0, .RO, true, []⟩]⟩
  | .Q_HWM => ⟨place1 0xA2000C [(4120, 0x20)], [⟨19, 0, .RC, true, []⟩]⟩
  | .Q_HDRM_CELLS => ⟨place1 0xA20010 [(4120, 0x20)], [⟨19, 0, .RO, true, []⟩]⟩
  -- 07_shared_buffer.md R195, Table 7.10
  | .WRED_LO => ⟨place1 0xA60000 [(4120, 0x20), (3, 0x8)], [⟨19, 0, .RW, false, []⟩]⟩
  | .WRED_HI => ⟨place1 0xA60004 [(4120, 0x20), (3, 0x8)], [⟨31, 24, .RW, false, []⟩, ⟨23, 23, .RW, false, []⟩, ⟨19, 0, .RW, false, []⟩]⟩
  | .Q_AVG => ⟨place1 0xA60018 [(4120, 0x20)], [⟨27, 0, .RO, true, []⟩]⟩
  -- 07_shared_buffer.md R195, Table 7.11
  | .PFC_XOFF => ⟨place1 0xB00000 [(4096, 0x20)], [⟨19, 0, .RW, false, []⟩]⟩
  | .PFC_XON => ⟨place1 0xB00004 [(4096, 0x20)], [⟨19, 0, .RW, false, []⟩]⟩
  | .PFC_HDRM => ⟨place1 0xB00008 [(4096, 0x20)], [⟨19, 0, .RW, false, []⟩]⟩
  | .PFC_STATUS => ⟨place1 0xB0000C [(4096, 0x20)], [⟨31, 31, .RO, true, []⟩, ⟨19, 0, .RO, true, []⟩]⟩
  | .PFC_HDRM_USED => ⟨place1 0xB00010 [(4096, 0x20)], [⟨19, 0, .RO, true, []⟩]⟩
  | .PORT_PFC_TIMING => ⟨place1 0xB20000 [(512, 0x4)], [⟨31, 16, .RW, false, []⟩, ⟨15, 0, .RW, false, [(1, 65535)]⟩]⟩
  -- 07_shared_buffer.md R195, Table 7.12
  | .ENQ_COPIES => ⟨place1 0xB40000 [(4120, 0x20)], [⟨63, 0, .RO, true, []⟩]⟩
  | .REFUSED_DT => ⟨place1 0xB40008 [(4120, 0x20)], [⟨31, 0, .RO, true, []⟩]⟩
  | .WRED_DROP => ⟨place1 0xB4000C [(4120, 0x20)], [⟨31, 0, .RO, true, []⟩]⟩
  | .ECN_MARKED => ⟨place1 0xB40010 [(4120, 0x20)], [⟨31, 0, .RO, true, []⟩]⟩
  | .FLUSHED => ⟨place1 0xB40014 [(4120, 0x20)], [⟨31, 0, .RO, true, []⟩]⟩
  | .HDRM_ADMIT => ⟨place1 0xB40018 [(4120, 0x20)], [⟨31, 0, .RO, true, []⟩]⟩
  | .CT_BAD_DISCARD => ⟨place1 0xB4001C [(4120, 0x20)], [⟨31, 0, .RO, true, []⟩]⟩
  -- 07_shared_buffer.md R195, Table 7.13
  | .RLF_STATUS => ⟨placePd 0x600000 [], [⟨8, 8, .RO, true, []⟩, ⟨3, 0, .RO, true, []⟩]⟩
  | .RLF_REPLAY_COUNT => ⟨placePd 0x600010 [(2, 0x4)], [⟨31, 0, .RO, true, []⟩]⟩
  | .RLF_RETRAINS => ⟨placePd 0x600018 [], [⟨31, 0, .RO, true, []⟩]⟩
  | .RLF_CODED => ⟨placePd 0x600100 [(2, 0x40)], [⟨63, 0, .RO, true, []⟩]⟩
  | .RLF_UNCODED => ⟨placePd 0x600108 [(2, 0x40)], [⟨63, 0, .RO, true, []⟩]⟩
  | .RLF_INSTALLS => ⟨placePd 0x600110 [(2, 0x40)], [⟨31, 0, .RO, true, []⟩]⟩
  | .RLF_UNCODED_PENDING => ⟨placePd 0x600114 [(2, 0x40)], [⟨31, 0, .RO, true, []⟩]⟩
  | .RLF_UNCODED_MASK => ⟨placePd 0x600118 [(2, 0x40)], [⟨31, 0, .RO, true, []⟩]⟩
  | .RLF_DISCARD => ⟨placePd 0x60011C [(2, 0x40)], [⟨31, 0, .RO, true, []⟩]⟩
  | .RLF_CTX_UE => ⟨placePd 0x600120 [(2, 0x40)], [⟨31, 0, .RO, true, []⟩]⟩
  | .PORT_BUF_CFG => ⟨placePort 0x48 [], [⟨0, 0, .RW, false, []⟩]⟩
  | .CT_BAD_TAIL => ⟨placePort 0x1D0 [], [⟨31, 0, .RO, true, []⟩]⟩
  | .CT_STOMPED => ⟨placePort 0x1D4 [], [⟨31, 0, .RO, true, []⟩]⟩
  -- 08_egress_scheduling.md R234, Table 8.9
  | .PORT_SCH_CFG => ⟨place1 0xC00000 [(514, 0x400)], [⟨31, 31, .RO, true, []⟩, ⟨30, 24, .RW, false, [(0, 63), (96, 127)]⟩, ⟨23, 15, .RW, false, []⟩, ⟨14, 0, .RW, false, [(0, 20479), (32767, 32767)]⟩]⟩
  | .GCL_CTRL => ⟨place1 0xC00004 [(512, 0x400)], [⟨31, 31, .WO, false, []⟩, ⟨30, 30, .WO, false, []⟩, ⟨7, 0, .RW, false, []⟩]⟩
  | .GCL_STATUS => ⟨place1 0xC00008 [(512, 0x400)], [⟨31, 31, .RO, true, []⟩, ⟨30, 30, .RO, true, []⟩, ⟨29, 29, .W1C, false, []⟩, ⟨28, 28, .W1C, false, []⟩, ⟨27, 27, .W1C, false, []⟩, ⟨26, 26, .W1C, false, []⟩, ⟨25, 25, .W1C, false, []⟩, ⟨24, 24, .RO, true, []⟩, ⟨23, 16, .RO, true, []⟩, ⟨9, 0, .RO, true, []⟩]⟩
  | .GCL_ADMIN_BASE_NS => ⟨place1 0xC00010 [(512, 0x400)], [⟨31, 0, .RW, false, []⟩]⟩
  | .GCL_ADMIN_BASE_SEC_LO => ⟨place1 0xC00014 [(512, 0x400)], [⟨31, 0, .RW, false, []⟩]⟩
  | .GCL_ADMIN_BASE_SEC_HI => ⟨place1 0xC00018 [(512, 0x400)], [⟨15, 0, .RW, false, []⟩]⟩
  | .GCL_ADMIN_CYCLE => ⟨place1 0xC0001C [(512, 0x400)], [⟨29, 0, .RW, false, []⟩]⟩
  | .GCL_ADMIN_LEN => ⟨place1 0xC00020 [(512, 0x400)], [⟨10, 0, .RW, false, []⟩]⟩
  | .GCL_OPER_BASE_NS => ⟨place1 0xC00030 [(512, 0x400)], [⟨31, 0, .RO, true, []⟩]⟩
  | .GCL_OPER_BASE_SEC_LO => ⟨place1 0xC00034 [(512, 0x400)], [⟨31, 0, .RO, true, []⟩]⟩
  | .GCL_OPER_BASE_SEC_HI => ⟨place1 0xC00038 [(512, 0x400)], [⟨15, 0, .RO, true, []⟩]⟩
  | .GCL_OPER_CYCLE => ⟨place1 0xC0003C [(512, 0x400)], [⟨29, 0, .RO, true, []⟩]⟩
  | .GCL_OPER_LEN => ⟨place1 0xC00040 [(512, 0x400)], [⟨10, 0, .RO, true, []⟩]⟩
  | .GCL_CHANGE_TIME_NS => ⟨place1 0xC00050 [(512, 0x400)], [⟨31, 0, .RO, true, []⟩]⟩
  | .GCL_CHANGE_TIME_SEC_LO => ⟨place1 0xC00054 [(512, 0x400)], [⟨31, 0, .RO, true, []⟩]⟩
  | .GCL_CHANGE_TIME_SEC_HI => ⟨place1 0xC00058 [(512, 0x400)], [⟨15, 0, .RO, true, []⟩]⟩
  | .GCL_CHANGES => ⟨place1 0xC00300 [(512, 0x400)], [⟨31, 0, .RO, true, []⟩]⟩
  | .GCL_START_IN_PAST => ⟨place1 0xC00304 [(512, 0x400)], [⟨31, 0, .RO, true, []⟩]⟩
  | .LATE_MARKED => ⟨place1 0xC00308 [(512, 0x400)], [⟨31, 0, .RO, true, []⟩]⟩
  -- 08_egress_scheduling.md R234, Table 8.10
  | .Q_SCH_CFG => ⟨placeQueue 0x0, [⟨31, 30, .RO, true, []⟩, ⟨27, 24, .RW, false, []⟩, ⟨19, 0, .RW, false, [(9339, 1048575)]⟩]⟩
  | .Q_SHAPER => ⟨placeQueue 0x4, [⟨14, 0, .RW, false, [(0, 20479), (32767, 32767)]⟩]⟩
  | .Q_DL_BUDGET => ⟨placeQueue 0x8, [⟨31, 0, .RW, false, []⟩]⟩
  | .Q_DL_CFG => ⟨placeQueue 0xC, [⟨31, 30, .RW, false, [(0, 2)]⟩, ⟨19, 0, .RW, false, []⟩]⟩
  | .Q_DELAY_HWM => ⟨placeQueue 0x10, [⟨31, 0, .RC, true, []⟩]⟩
  | .Q_DEPTH_SUM => ⟨placeQueue 0x14, [⟨31, 0, .RO, true, []⟩]⟩
  | .Q_DEPTH_MAX => ⟨placeQueue 0x18, [⟨19, 0, .RO, true, []⟩]⟩
  | .Q_LATE_DISCARD => ⟨placeQueue 0x1C, [⟨31, 0, .RO, true, []⟩]⟩
  -- 08_egress_scheduling.md R234, Table 8.11
  | .SHP_RATE => ⟨place1 0xC90000 [(20480, 0x10)], [⟨26, 0, .RW, false, [(1, 100000000)]⟩]⟩
  | .SHP_BURST => ⟨place1 0xC90004 [(20480, 0x10)], [⟨23, 0, .RW, false, []⟩]⟩
  | .SHP_TOKENS => ⟨place1 0xC90008 [(20480, 0x10)], [⟨31, 0, .RO, true, []⟩]⟩
  | .GCL_SEL => ⟨place1 0xCE0000 [(2, 0x2000)], [⟨16, 16, .RW, false, []⟩, ⟨9, 0, .RW, false, [(0, 511)]⟩]⟩
  | .GCL_ENTRY => ⟨place1 0xCE1000 [(2, 0x2000), (1024, 0x4)], [⟨31, 0, .RW, false, []⟩]⟩
  | .SCH_UE => ⟨place1 0xCF0000 [], [⟨31, 0, .RO, true, []⟩]⟩
  | .HIST => ⟨place1 0xD00000 [(4096, 0x100), (64, 0x4)], [⟨31, 0, .RC, true, []⟩]⟩
  -- 08_egress_scheduling.md R234, Table 8.12
  | .SC_CMD => ⟨place1 0xF20000 [(2, 0x100)], [⟨6, 4, .WO, false, []⟩, ⟨1, 0, .WO, false, []⟩]⟩
  | .SC_INDEX => ⟨place1 0xF20004 [(2, 0x100)], [⟨19, 0, .RW, false, []⟩]⟩
  | .SC_STATUS => ⟨place1 0xF20008 [(2, 0x100)], [⟨31, 31, .RO, true, []⟩, ⟨30, 28, .RO, true, []⟩]⟩
  | .SC_DATA => ⟨place1 0xF20010 [(2, 0x100), (8, 0x4)], [⟨31, 0, .RW, false, []⟩]⟩
  | .SC_UE => ⟨place1 0xF20200 [], [⟨31, 0, .RO, true, []⟩]⟩
  -- 09_time_base.md R259, Table 9.3
  | .TIME_CFG => ⟨place1 0x180000 [], [⟨5, 4, .RW, false, [(0, 2)]⟩, ⟨1, 0, .RW, false, []⟩]⟩
  | .SERVO_CFG => ⟨place1 0x180004 [], [⟨31, 16, .RW, false, [(1, 65535)]⟩, ⟨15, 15, .RW, false, []⟩, ⟨12, 0, .RW, false, [(1, 5000)]⟩]⟩
  | .STEP_THRESHOLD => ⟨place1 0x180008 [], [⟨19, 0, .RW, false, []⟩]⟩
  | .TIME_STATUS => ⟨place1 0x18000C [], [⟨10, 10, .RO, true, []⟩, ⟨9, 9, .RO, true, []⟩, ⟨8, 8, .RO, true, []⟩, ⟨7, 4, .RO, true, []⟩, ⟨2, 0, .RO, true, []⟩]⟩
  | .NOW_NS => ⟨place1 0x180010 [], [⟨31, 0, .RO, true, []⟩]⟩
  | .NOW_SEC_LO => ⟨place1 0x180014 [], [⟨31, 0, .RO, true, []⟩]⟩
  | .NOW_SEC_HI => ⟨place1 0x180018 [], [⟨15, 0, .RO, true, []⟩]⟩
  | .RATE_ADJ => ⟨place1 0x180020 [], [⟨31, 0, .RW, false, []⟩]⟩
  | .STEP_LO => ⟨place1 0x180024 [], [⟨31, 0, .RW, false, []⟩]⟩
  | .STEP_HI => ⟨place1 0x180028 [], [⟨31, 0, .RW, false, []⟩]⟩
  | .STEP_CTRL => ⟨place1 0x18002C [], [⟨1, 0, .WO, false, []⟩]⟩
  | .SET_NS => ⟨place1 0x180030 [], [⟨31, 0, .RW, false, []⟩]⟩
  | .SET_SEC_LO => ⟨place1 0x180034 [], [⟨31, 0, .RW, false, []⟩]⟩
  | .SET_SEC_HI => ⟨place1 0x180038 [], [⟨15, 0, .RW, false, []⟩]⟩
  -- 09_time_base.md R259, Table 9.4
  | .DOM_CFG => ⟨place1 0x180100 [(4, 0x20)], [⟨8, 8, .RW, false, []⟩, ⟨6, 0, .RW, false, []⟩]⟩
  | .DOM_OFFSET_LO => ⟨place1 0x180104 [(4, 0x20)], [⟨31, 0, .RW, false, []⟩]⟩
  | .DOM_OFFSET_HI => ⟨place1 0x180108 [(4, 0x20)], [⟨31, 0, .RW, false, []⟩]⟩
  | .DOM_RATE => ⟨place1 0x18010C [(4, 0x20)], [⟨31, 0, .RW, false, []⟩]⟩
  | .TIME_STEPS => ⟨place1 0x180500 [], [⟨31, 0, .RO, true, []⟩]⟩
  | .FOLLOW_UNLOCKS => ⟨place1 0x180504 [], [⟨31, 0, .RO, true, []⟩]⟩
  | .PPS_IN_BAD_PERIOD => ⟨place1 0x180508 [], [⟨31, 0, .RO, true, []⟩]⟩
  -- 09_time_base.md R259, Table 9.5
  | .PPS_OUT_CFG => ⟨place1 0x180200 [], [⟨31, 31, .RW, false, []⟩, ⟨18, 0, .RW, false, [(1, 500000)]⟩]⟩
  | .PPS_IN_CFG => ⟨place1 0x180204 [], [⟨0, 0, .RW, false, []⟩]⟩
  | .PPS_IN_TS_NS => ⟨place1 0x180208 [], [⟨31, 0, .RO, true, []⟩]⟩
  | .PPS_IN_TS_SEC_LO => ⟨place1 0x18020C [], [⟨31, 0, .RO, true, []⟩]⟩
  | .PPS_IN_TS_SEC_HI => ⟨place1 0x180210 [], [⟨15, 0, .RO, true, []⟩]⟩
  | .SYNC_IN_CFG => ⟨place1 0x180300 [(4, 0x20)], [⟨1, 0, .RW, false, []⟩]⟩
  | .SYNC_IN_TS_NS => ⟨place1 0x180304 [(4, 0x20)], [⟨31, 0, .RO, true, []⟩]⟩
  | .SYNC_IN_TS_SEC_LO => ⟨place1 0x180308 [(4, 0x20)], [⟨31, 0, .RO, true, []⟩]⟩
  | .SYNC_IN_TS_SEC_HI => ⟨place1 0x18030C [(4, 0x20)], [⟨31, 31, .RO, true, []⟩, ⟨30, 30, .RO, true, []⟩, ⟨15, 0, .RO, true, []⟩]⟩
  | .SYNC_IN_MERGED => ⟨place1 0x180310 [(4, 0x20)], [⟨31, 0, .RO, true, []⟩]⟩
  | .SYNC_IN_OVERFLOW => ⟨place1 0x180314 [(4, 0x20)], [⟨31, 0, .RO, true, []⟩]⟩
  | .SYNC_OUT_CFG => ⟨place1 0x180400 [(4, 0x20)], [⟨2, 2, .RW, false, []⟩, ⟨1, 0, .RW, false, []⟩]⟩
  | .SYNC_OUT_START_NS => ⟨place1 0x180404 [(4, 0x20)], [⟨31, 0, .RW, false, []⟩]⟩
  | .SYNC_OUT_START_SEC_LO => ⟨place1 0x180408 [(4, 0x20)], [⟨31, 0, .RW, false, []⟩]⟩
  | .SYNC_OUT_START_SEC_HI => ⟨place1 0x18040C [(4, 0x20)], [⟨15, 0, .RW, false, []⟩]⟩
  | .SYNC_OUT_PERIOD => ⟨place1 0x180410 [(4, 0x20)], [⟨29, 0, .RW, false, [(100, 1000000000)]⟩]⟩
  | .SYNC_OUT_WIDTH => ⟨place1 0x180414 [(4, 0x20)], [⟨29, 0, .RW, false, []⟩]⟩
  -- 09_time_base.md R259, Table 9.6
  | .PTP_TX_INFO => ⟨placePd 0x700000 [], [⟨31, 31, .RO, true, []⟩, ⟨30, 24, .RO, true, []⟩, ⟨23, 22, .RO, true, []⟩, ⟨15, 0, .RO, true, []⟩]⟩
  | .PTP_TX_NS => ⟨placePd 0x700004 [], [⟨31, 0, .RO, true, []⟩]⟩
  | .PTP_TX_SEC_LO => ⟨placePd 0x700008 [], [⟨31, 0, .RO, true, []⟩]⟩
  | .PTP_TX_SEC_HI => ⟨placePd 0x70000C [], [⟨31, 0, .RO, true, []⟩]⟩
  | .PTP_TX_LOST => ⟨placePd 0x700010 [], [⟨31, 0, .RO, true, []⟩]⟩
  | .PORT_PTP_CFG => ⟨placePort 0x4C [], [⟨0, 0, .RW, false, []⟩]⟩
  | .PTP_RX_DROP => ⟨placePort 0x1D8 [], [⟨31, 0, .RO, true, []⟩]⟩
  | .PTP_ONESTEP_NA => ⟨placePort 0x1DC [], [⟨31, 0, .RO, true, []⟩]⟩
  -- 10_planner.md R291, Table 10.10
  | .STREAM_EGRESS => ⟨placePd 0x740000 [(65536, 0x4)], [⟨31, 31, .RW, false, []⟩, ⟨30, 30, .RW, false, []⟩, ⟨23, 16, .RW, false, []⟩, ⟨15, 0, .RW, false, []⟩]⟩
  -- 10_planner.md R291, Table 10.11
  | .PLN_CTRL => ⟨place1 0x800000 [], [⟨31, 31, .WO, false, []⟩, ⟨3, 3, .RW, false, []⟩, ⟨2, 2, .RW, false, []⟩, ⟨1, 1, .RW, false, []⟩]⟩
  | .PLN_STATUS => ⟨place1 0x800004 [], [⟨31, 29, .RO, true, []⟩, ⟨26, 24, .RO, true, []⟩, ⟨8, 0, .RO, true, []⟩]⟩
  | .PLAN_ID => ⟨place1 0x800008 [], [⟨31, 0, .RO, true, []⟩]⟩
  | .APPROVE_ID => ⟨place1 0x80000C [], [⟨31, 0, .RW, false, []⟩]⟩
  | .APPROVE_CMD => ⟨place1 0x800010 [], [⟨1, 0, .WO, false, []⟩]⟩
  | .PLN_LOAD => ⟨place1 0x800014 [], [⟨7, 0, .RO, true, []⟩]⟩
  | .T_COMMIT_NS => ⟨place1 0x800018 [], [⟨31, 0, .RO, true, []⟩]⟩
  | .T_COMMIT_SEC_LO => ⟨place1 0x80001C [], [⟨31, 0, .RO, true, []⟩]⟩
  | .T_COMMIT_SEC_HI => ⟨place1 0x800020 [], [⟨31, 0, .RO, true, []⟩]⟩
  | .JOURNAL_ADDR => ⟨place1 0x800028 [], [⟨63, 0, .RO, true, []⟩]⟩
  | .JOURNAL_HEAD => ⟨place1 0x800030 [], [⟨63, 0, .RO, true, []⟩]⟩
  -- 10_planner.md R291, Table 10.12
  | .PLANS_COMMITTED => ⟨place1 0x800040 [], [⟨31, 0, .RO, true, []⟩]⟩
  | .PLANS_ABORTED => ⟨place1 0x800044 [], [⟨31, 0, .RO, true, []⟩]⟩
  | .DETOURS => ⟨place1 0x800048 [], [⟨31, 0, .RO, true, []⟩]⟩
  | .QUARANTINES => ⟨place1 0x80004C [], [⟨31, 0, .RO, true, []⟩]⟩
  | .STREAMS_REFUSED => ⟨place1 0x800050 [], [⟨31, 0, .RO, true, []⟩]⟩
  | .HH_LIMITS => ⟨place1 0x800054 [], [⟨31, 0, .RO, true, []⟩]⟩
  | .TRAP_SHAPED_DROP => ⟨place1 0x800058 [], [⟨31, 0, .RO, true, []⟩]⟩
  | .APPROVE_STALE => ⟨place1 0x80005C [], [⟨31, 0, .RO, true, []⟩]⟩
  | .FOREIGN_LIST => ⟨place1 0x800060 [], [⟨31, 0, .RO, true, []⟩]⟩
  | .SS_INDEX => ⟨place1 0x800100 [], [⟨15, 0, .RW, true, []⟩]⟩
  | .SS_DATA0 => ⟨place1 0x800104 [], [⟨31, 28, .RO, true, []⟩, ⟨23, 16, .RO, true, []⟩]⟩
  | .SS_DATA1 => ⟨place1 0x800108 [], [⟨31, 0, .RO, true, []⟩]⟩
  | .SS_DATA2 => ⟨place1 0x80010C [], [⟨31, 0, .RO, true, []⟩]⟩
  | .SS_DATA3 => ⟨place1 0x800110 [], [⟨31, 0, .RO, true, []⟩]⟩
  -- 11_telemetry.md R302, Table 11.6
  | .EXPORT_CFG => ⟨place1 0x1400000 [], [⟨2, 2, .RW, false, []⟩, ⟨1, 1, .RW, false, []⟩, ⟨0, 0, .RW, false, []⟩]⟩
  | .EXPORT_SEQ => ⟨place1 0x1400008 [], [⟨63, 0, .RO, true, []⟩]⟩
  | .HISTORY_ADDR => ⟨place1 0x1400010 [], [⟨63, 0, .RO, true, []⟩]⟩
  | .EXPORT_DROP_PF0 => ⟨place1 0x1400100 [], [⟨31, 0, .RO, true, []⟩]⟩
  | .EXPORT_DROP_PF1 => ⟨place1 0x1400104 [], [⟨31, 0, .RO, true, []⟩]⟩
  | .EXPORT_LATE => ⟨place1 0x1400108 [], [⟨31, 0, .RO, true, []⟩]⟩
  | .SKETCH_SEED => ⟨placePd 0x780000 [(4, 0x4)], [⟨31, 0, .RO, true, []⟩]⟩
  | .HH_CAND_BYTES => ⟨placePd 0x780010 [], [⟨31, 0, .RW, false, []⟩]⟩
  | .CAND_FULL => ⟨placePd 0x780100 [(2, 0x4)], [⟨31, 0, .RO, true, []⟩]⟩
  -- 12_management_engine.md R332, Table 12.8
  | .THREAD_CFG => ⟨place1 0x400100 [(32, 0x40)], [⟨31, 31, .RO, true, []⟩, ⟨1, 0, .RW, false, []⟩]⟩
  | .ACCESS_MASK => ⟨place1 0x400104 [(32, 0x40)], [⟨31, 31, .RO, true, []⟩, ⟨16, 0, .RO, true, []⟩]⟩
  | .WIN0 => ⟨place1 0x400108 [(32, 0x40)], [⟨25, 16, .RO, true, []⟩, ⟨8, 0, .RO, true, []⟩]⟩
  | .WIN1 => ⟨place1 0x40010C [(32, 0x40)], [⟨25, 16, .RO, true, []⟩, ⟨8, 0, .RO, true, []⟩]⟩
  | .DRAM_WIN => ⟨place1 0x400110 [(32, 0x40)], [⟨25, 16, .RO, true, []⟩, ⟨10, 0, .RO, true, []⟩]⟩
  | .SHARE_MSG => ⟨place1 0x400114 [(32, 0x40)], [⟨31, 31, .RO, true, []⟩, ⟨28, 16, .RO, true, []⟩, ⟨12, 0, .RO, true, []⟩]⟩
  | .SHARE_BUF => ⟨place1 0x400118 [(32, 0x40)], [⟨31, 31, .RO, true, []⟩, ⟨26, 16, .RO, true, []⟩, ⟨10, 0, .RO, true, []⟩]⟩
  | .ENTRY => ⟨place1 0x40011C [(32, 0x40)], [⟨31, 0, .RO, true, []⟩]⟩
  | .THREAD_STATUS => ⟨place1 0x400120 [(32, 0x40)], [⟨31, 28, .RO, true, []⟩, ⟨2, 0, .RO, true, []⟩]⟩
  | .WAIT_MASK_LO => ⟨place1 0x400124 [(32, 0x40)], [⟨31, 0, .RO, true, []⟩]⟩
  | .WAIT_MASK_HI => ⟨place1 0x400128 [(32, 0x40)], [⟨31, 0, .RO, true, []⟩]⟩
  | .THREAD_SLOTS => ⟨place1 0x40012C [(32, 0x40)], [⟨31, 0, .RO, true, []⟩]⟩
  | .THREAD_CTRL => ⟨place1 0x400130 [(32, 0x40)], [⟨1, 0, .WO, false, []⟩]⟩
  | .HELD => ⟨place1 0x400134 [(32, 0x40)], [⟨28, 16, .RO, true, []⟩, ⟨10, 0, .RO, true, []⟩]⟩
  -- 12_management_engine.md R332, Table 12.9
  | .ME_INFO => ⟨place1 0x400000 [], [⟨7, 0, .RO, true, []⟩]⟩
  | .CORE_CFG => ⟨place1 0x400010 [(4, 0x4)], [⟨8, 8, .RO, true, []⟩, ⟨0, 0, .RW, false, []⟩]⟩
  | .DEADLOCKS => ⟨place1 0x400020 [], [⟨31, 0, .RO, true, []⟩]⟩
  | .SUP_NOTE => ⟨place1 0x400024 [], [⟨31, 28, .RO, true, []⟩, ⟨27, 23, .RO, true, []⟩, ⟨15, 8, .RO, true, []⟩, ⟨7, 0, .RO, true, []⟩]⟩
  | .SUP_NOTE_LOST => ⟨place1 0x400028 [], [⟨31, 0, .RO, true, []⟩]⟩
  | .SHARE_REFUSED => ⟨place1 0x40002C [], [⟨31, 0, .RO, true, []⟩]⟩
  | .POOL_FREE => ⟨place1 0x400030 [], [⟨28, 16, .RO, true, []⟩, ⟨10, 0, .RO, true, []⟩]⟩
  | .CHAN_CFG0 => ⟨place1 0x401000 [(256, 0x8)], [⟨31, 31, .RW, false, []⟩, ⟨28, 24, .RW, false, []⟩, ⟨20, 16, .RW, false, []⟩, ⟨8, 0, .RW, false, [(1, 256)]⟩]⟩
  | .CHAN_CFG1 => ⟨place1 0x401004 [(256, 0x8)], [⟨13, 8, .RW, false, [(16, 63)]⟩, ⟨5, 0, .RW, false, [(16, 63)]⟩]⟩
  | .CHAN_STATUS => ⟨place1 0x401800 [(256, 0x4)], [⟨31, 31, .RO, true, []⟩, ⟨20, 16, .RO, true, []⟩, ⟨8, 0, .RO, true, []⟩]⟩
  | .PORT513_CFG => ⟨place1 0x402000 [], [⟨12, 8, .RO, true, []⟩, ⟨4, 0, .RO, true, []⟩]⟩
  | .RX513_HEAD => ⟨place1 0x402004 [], [⟨11, 0, .RO, true, []⟩]⟩
  | .RX513_TAIL => ⟨place1 0x402008 [], [⟨11, 0, .RW, false, []⟩]⟩
  | .TX513_HEAD => ⟨place1 0x40200C [], [⟨9, 0, .RW, false, []⟩]⟩
  | .TX513_TAIL => ⟨place1 0x402010 [], [⟨9, 0, .RO, true, []⟩]⟩
  | .TX513_REFUSED => ⟨place1 0x402014 [], [⟨31, 0, .RO, true, []⟩]⟩
  | .DBG_CMD => ⟨place1 0x403000 [], [⟨31, 28, .WO, false, []⟩, ⟨4, 0, .WO, false, []⟩]⟩
  | .DBG_STATUS => ⟨place1 0x403004 [], [⟨31, 0, .RO, true, []⟩]⟩
  | .DBG_RESULT => ⟨place1 0x403008 [], [⟨0, 0, .RO, true, []⟩]⟩
  | .BP_ADDR => ⟨place1 0x403100 [(4, 0x40), (8, 0x8)], [⟨31, 0, .RW, false, []⟩]⟩
  | .BP_CTRL => ⟨place1 0x403104 [(4, 0x40), (8, 0x8)], [⟨31, 31, .RW, false, []⟩, ⟨7, 0, .RW, false, []⟩]⟩
  -- 13_me_instruction_set.md R365, Table 13.10
  | .UC_STATUS => ⟨place1 0x404000 [(4, 0x400)], [⟨31, 24, .RO, true, []⟩, ⟨9, 9, .RO, true, []⟩, ⟨8, 8, .RO, true, []⟩, ⟨1, 0, .RO, true, []⟩]⟩
  | .UC_CMD => ⟨place1 0x404004 [(4, 0x400)], [⟨1, 0, .WO, false, []⟩]⟩
  | .UC_RESULT => ⟨place1 0x404008 [(4, 0x400)], [⟨1, 0, .RO, true, []⟩]⟩
  | .UC_MCHK => ⟨place1 0x40400C [(4, 0x400)], [⟨31, 30, .RO, true, []⟩, ⟨29, 25, .RO, true, []⟩, ⟨13, 0, .RO, true, []⟩]⟩
  | .MCHK_COUNT => ⟨place1 0x404010 [(4, 0x400)], [⟨31, 0, .RO, true, []⟩]⟩
  | .UC_SCRUB_FIX => ⟨place1 0x404014 [(4, 0x400)], [⟨31, 0, .RO, true, []⟩]⟩
  | .UC_RD_ADDR => ⟨place1 0x404020 [(4, 0x400)], [⟨31, 30, .RW, false, []⟩, ⟨13, 0, .RW, false, []⟩]⟩
  | .UC_RD_DATA => ⟨place1 0x404030 [(4, 0x400), (7, 0x4)], [⟨31, 0, .RO, false, []⟩]⟩
  -- 13_me_instruction_set.md R365, Table 13.11
  | .PMC_CTRL => ⟨place1 0x404100 [(4, 0x400)], [⟨31, 31, .RW, false, []⟩]⟩
  | .PMC_OVF => ⟨place1 0x404104 [(4, 0x400)], [⟨7, 0, .W1C, true, []⟩]⟩
  | .PMC_IRQ_EN => ⟨place1 0x404108 [(4, 0x400)], [⟨7, 0, .RW, false, []⟩]⟩
  | .PMC_CFG => ⟨place1 0x404140 [(4, 0x400), (8, 0x10)], [⟨31, 31, .RW, false, []⟩, ⟨15, 8, .RW, false, []⟩, ⟨7, 0, .RW, false, []⟩]⟩
  | .PMC_LO => ⟨place1 0x404148 [(4, 0x400), (8, 0x10)], [⟨31, 0, .RW, true, []⟩]⟩
  | .PMC_HI => ⟨place1 0x40414C [(4, 0x400), (8, 0x10)], [⟨15, 0, .RW, true, []⟩]⟩
  | .SMP_CFG => ⟨place1 0x404200 [(4, 0x400)], [⟨31, 31, .RW, false, []⟩, ⟨30, 28, .RW, false, []⟩, ⟨23, 16, .RW, false, []⟩, ⟨15, 0, .RW, false, [(1, 65535)]⟩]⟩
  | .SMP_HEAD => ⟨place1 0x404204 [(4, 0x400)], [⟨12, 0, .RO, true, []⟩]⟩
  | .SMP_TAIL => ⟨place1 0x404208 [(4, 0x400)], [⟨12, 0, .RW, false, []⟩]⟩
  | .SMP_THRESH => ⟨place1 0x40420C [(4, 0x400)], [⟨12, 0, .RW, false, [(1, 4096)]⟩]⟩
  | .SMP_LOST => ⟨place1 0x404210 [(4, 0x400)], [⟨31, 0, .RO, true, []⟩]⟩
  -- 13_me_instruction_set.md R365, Table 13.9
  | .SAMPLE_ENTRY => ⟨place1 0x410000 [(4, 0x10000), (4096, 0x10), (4, 0x4)], [⟨31, 0, .RO, true, []⟩]⟩
  -- 14_interrupts.md R379, Table 14.4
  | .SRC_CFG => ⟨place1 0x100000 [(385, 0x4)], [⟨31, 24, .RW, false, [(1, 255)]⟩, ⟨23, 23, .RW, false, []⟩, ⟨22, 16, .RW, false, []⟩, ⟨4, 4, .RO, true, []⟩, ⟨3, 0, .RW, false, []⟩]⟩
  -- 14_interrupts.md R379, Table 14.5
  | .SRC_STATUS => ⟨place1 0x101000 [(385, 0x4)], [⟨31, 31, .RO, true, []⟩, ⟨30, 30, .RO, true, []⟩, ⟨29, 29, .RO, true, []⟩, ⟨28, 28, .RO, true, []⟩, ⟨27, 27, .W1C, false, []⟩, ⟨26, 24, .RO, true, []⟩, ⟨7, 0, .RO, true, []⟩]⟩
  -- 14_interrupts.md R379, Table 14.6
  | .CLAIM => ⟨place1 0x102000 [(7, 0x40)], [⟨8, 0, .RO, true, []⟩]⟩
  | .COMPLETE => ⟨place1 0x102004 [(7, 0x40)], [⟨8, 0, .WO, true, []⟩]⟩
  | .TGT_STATUS => ⟨place1 0x102008 [(7, 0x40)], [⟨31, 31, .RO, true, []⟩, ⟨8, 0, .RO, true, []⟩]⟩
  | .TGT_CLAIMS => ⟨place1 0x10200C [(7, 0x40)], [⟨31, 0, .RO, true, []⟩]⟩
  -- 14_interrupts.md R379, Table 14.7
  | .SW_RAISE => ⟨place1 0x103000 [], [⟨0, 0, .WO, false, []⟩]⟩
  | .STORMS => ⟨place1 0x103004 [], [⟨31, 0, .RO, true, []⟩]⟩
  | .WITHDRAWALS => ⟨place1 0x103008 [], [⟨31, 0, .RO, true, []⟩]⟩
  | .COMPLETE_STRAY => ⟨place1 0x10300C [], [⟨31, 0, .RO, true, []⟩]⟩
  | .MASK_WINDOW_DELIVERIES => ⟨place1 0x103010 [], [⟨31, 0, .RO, true, []⟩]⟩
  | .INTC_PENDING => ⟨place1 0x103100 [(13, 0x4)], [⟨31, 0, .RO, true, []⟩]⟩
  -- 15_faults.md R399, Table 15.7
  | .FLT_CFG => ⟨place1 0x140000 [], [⟨15, 8, .RW, false, [(85, 120)]⟩, ⟨2, 0, .RW, false, [(0, 4)]⟩]⟩
  | .FLT_CTRL => ⟨place1 0x140004 [], [⟨1, 1, .WO, false, []⟩, ⟨0, 0, .WO, false, []⟩]⟩
  | .FLT_STATUS => ⟨place1 0x140008 [], [⟨31, 31, .RO, true, []⟩, ⟨30, 30, .RO, true, []⟩, ⟨29, 29, .RO, true, []⟩, ⟨28, 28, .RO, true, []⟩, ⟨26, 20, .RO, true, []⟩, ⟨15, 0, .RO, true, []⟩]⟩
  | .FIRST => ⟨place1 0x140010 [(4, 0x4)], [⟨31, 0, .RO, true, []⟩]⟩
  | .FIRST_FOLLOW => ⟨place1 0x140020 [], [⟨31, 0, .RO, true, []⟩]⟩
  | .CONSEQ_COUNT => ⟨place1 0x140024 [], [⟨31, 0, .RO, true, []⟩]⟩
  | .FLT_TEMP => ⟨place1 0x140030 [(5, 0x4)], [⟨15, 0, .RO, true, []⟩]⟩
  | .FLT_HIST => ⟨place1 0x140100 [(32, 0x10), (4, 0x4)], [⟨31, 0, .RO, true, []⟩]⟩
  | .TRAP_MAP => ⟨place1 0x140200 [(4, 0x4)], [⟨31, 0, .W1C, false, []⟩]⟩
  -- 15_faults.md R399, Table 15.8
  | .SRC_REACT => ⟨place1 0x140400 [(128, 0x4)], [⟨31, 16, .RW, false, [(1, 65535)]⟩, ⟨15, 12, .RW, false, [(1, 15)]⟩, ⟨11, 11, .RO, true, []⟩, ⟨10, 8, .RO, true, []⟩, ⟨4, 0, .RW, false, []⟩]⟩
  | .ESC_REACT => ⟨place1 0x140600 [(5, 0x4)], [⟨4, 0, .RW, false, []⟩]⟩
  | .FLT_SRC_STATUS => ⟨place1 0x141000 [(128, 0x20), (5, 0x4)], [⟨3, 0, .RO, true, []⟩]⟩
  | .SRC_COUNT => ⟨place1 0x142000 [(128, 0x20), (5, 0x4)], [⟨31, 0, .RO, true, []⟩]⟩
  -- 16_dram.md R418, Table 16.4
  | .MEM_CFG => ⟨place1 0x1000000 [], [⟨31, 16, .RW, false, [(256, 65535)]⟩, ⟨1, 1, .RW, false, []⟩, ⟨0, 0, .RW, false, []⟩]⟩
  | .STACK_TEMP => ⟨place1 0x1000010 [(2, 0x4)], [⟨31, 31, .RO, true, []⟩, ⟨23, 16, .RO, true, []⟩, ⟨15, 8, .RO, true, []⟩, ⟨7, 0, .RO, true, []⟩]⟩
  | .LAST_UE_ADDR_LO => ⟨place1 0x1000020 [], [⟨31, 0, .RO, true, []⟩]⟩
  | .LAST_UE_ADDR_HI => ⟨place1 0x1000024 [], [⟨1, 0, .RO, true, []⟩]⟩
  | .MEM_CE_COUNT => ⟨place1 0x1000030 [], [⟨31, 0, .RO, true, []⟩]⟩
  | .MEM_UE_COUNT => ⟨place1 0x1000034 [], [⟨31, 0, .RO, true, []⟩]⟩
  -- 16_dram.md R418, Table 16.5
  | .CH_CFG => ⟨place1 0x1010000 [(32, 0x100)], [⟨15, 8, .RO, true, []⟩, ⟨1, 0, .RO, true, []⟩]⟩
  | .CH_STATUS => ⟨place1 0x1010004 [(32, 0x100)], [⟨31, 24, .RO, true, []⟩, ⟨19, 16, .RO, true, []⟩, ⟨15, 15, .RO, true, []⟩, ⟨14, 10, .RO, true, []⟩, ⟨9, 5, .RO, true, []⟩, ⟨2, 0, .RO, true, []⟩]⟩
  | .CH_CTRL => ⟨place1 0x1010008 [(32, 0x100)], [⟨0, 0, .WO, false, []⟩]⟩
  | .CH_EVENT => ⟨place1 0x101000C [(32, 0x100)], [⟨4, 4, .W1C, false, []⟩, ⟨3, 3, .W1C, false, []⟩, ⟨2, 2, .W1C, false, []⟩, ⟨1, 1, .W1C, false, []⟩, ⟨0, 0, .W1C, false, []⟩]⟩
  | .CH_EVENT_EN => ⟨place1 0x1010010 [(32, 0x100)], [⟨4, 4, .RW, false, []⟩, ⟨3, 3, .RW, false, []⟩, ⟨2, 2, .RW, false, []⟩, ⟨1, 1, .RW, false, []⟩, ⟨0, 0, .RW, false, []⟩]⟩
  | .CATCHUP_COUNT => ⟨place1 0x1010020 [(32, 0x100)], [⟨31, 0, .RO, true, []⟩]⟩
  | .RD_REFRESHES => ⟨place1 0x1010024 [(32, 0x100)], [⟨31, 0, .RO, true, []⟩]⟩
  | .FLOOR_HITS => ⟨place1 0x1010028 [(32, 0x100)], [⟨31, 0, .RO, true, []⟩]⟩
  | .PATROL_FIX => ⟨place1 0x101002C [(32, 0x100)], [⟨31, 0, .RO, true, []⟩]⟩
  | .MEM_RETRAINS => ⟨place1 0x1010030 [(32, 0x100)], [⟨31, 0, .RO, true, []⟩]⟩
  | .FAILED_ACCESS => ⟨place1 0x1010034 [(32, 0x100)], [⟨31, 0, .RO, true, []⟩]⟩
  -- 17_startup_image.md R445, Table 17.9
  | .LDR_STATUS => ⟨place1 0x1C0000 [], [⟨31, 28, .RO, true, []⟩, ⟨27, 24, .RO, true, []⟩, ⟨23, 23, .RO, true, []⟩, ⟨22, 22, .RO, true, []⟩, ⟨21, 21, .RO, true, []⟩, ⟨20, 20, .RO, true, []⟩, ⟨19, 18, .RO, true, []⟩, ⟨15, 13, .RO, true, []⟩, ⟨12, 9, .RO, true, []⟩]⟩
  | .START_US => ⟨place1 0x1C0004 [], [⟨31, 0, .RO, true, []⟩]⟩
  | .RESTARTS => ⟨place1 0x1C0008 [], [⟨1, 0, .RO, true, []⟩]⟩
  | .SLOT_RESULT => ⟨place1 0x1C0010 [(2, 0x4)], [⟨31, 28, .RO, true, []⟩, ⟨27, 12, .RO, true, []⟩, ⟨4, 0, .RO, true, []⟩]⟩
  | .BUILD_ID => ⟨place1 0x1C0020 [(8, 0x4)], [⟨31, 0, .RO, true, []⟩]⟩
  | .ID_INTEGRATOR => ⟨place1 0x1C0040 [], [⟨31, 0, .RO, true, []⟩]⟩
  | .ID_BOARD => ⟨place1 0x1C0044 [], [⟨31, 0, .RO, true, []⟩]⟩
  | .ID_VERSION => ⟨place1 0x1C0048 [], [⟨31, 0, .RO, true, []⟩]⟩
  | .LDR_NAME => ⟨place1 0x1C0060 [(8, 0x4)], [⟨31, 0, .RO, true, []⟩]⟩
  | .LDR_CTRL => ⟨place1 0x1C00C0 [], [⟨31, 16, .WO, false, []⟩, ⟨0, 0, .WO, false, []⟩]⟩
  | .RCV_CMD => ⟨place1 0x1C0100 [], [⟨2, 0, .WO, false, []⟩]⟩
  | .RCV_ADDR => ⟨place1 0x1C0104 [], [⟨26, 0, .RW, false, []⟩]⟩
  | .RCV_LEN => ⟨place1 0x1C0108 [], [⟨12, 0, .RW, false, []⟩]⟩
  | .RCV_STATUS => ⟨place1 0x1C010C [], [⟨31, 31, .RO, true, []⟩, ⟨30, 28, .RO, true, []⟩]⟩
  | .RCV_DATA => ⟨place1 0x1C1000 [(1024, 0x4)], [⟨31, 0, .RW, false, []⟩]⟩
  -- 18_host_interface.md R473, Table 18.9
  | .HIF_CFG => ⟨place1 0x200000 [], [⟨3, 0, .RW, false, []⟩]⟩
  | .BAR2_BASE => ⟨place1 0x200004 [], [⟨5, 0, .RW, false, []⟩]⟩
  | .PF1_WIN => ⟨place1 0x200008 [], [⟨2, 0, .RW, true, []⟩]⟩
  | .LINK_STATUS => ⟨place1 0x200010 [], [⟨31, 31, .RO, true, []⟩, ⟨18, 16, .RO, true, []⟩, ⟨12, 8, .RO, true, []⟩, ⟨0, 0, .RO, true, []⟩]⟩
  | .FUNC_STATUS => ⟨place1 0x200014 [], [⟨17, 16, .RO, true, []⟩, ⟨9, 8, .RO, true, []⟩, ⟨1, 0, .RO, true, []⟩]⟩
  | .HQ_MAP => ⟨place1 0x200100 [(16, 0x4)], [⟨31, 31, .RW, false, []⟩, ⟨5, 0, .RW, false, []⟩]⟩
  | .EVT_CFG => ⟨place1 0x200140 [(8, 0x4)], [⟨31, 31, .RW, false, []⟩, ⟨4, 0, .RW, false, []⟩]⟩
  | .MBX_CMD => ⟨place1 0x201000 [], [⟨31, 28, .WO, false, []⟩, ⟨12, 0, .WO, false, []⟩]⟩
  | .MBX_STATUS => ⟨place1 0x201004 [], [⟨31, 30, .RO, true, []⟩, ⟨27, 24, .RO, true, []⟩, ⟨23, 16, .RO, true, []⟩, ⟨15, 0, .RO, true, []⟩]⟩
  | .MBX_REQ => ⟨place1 0x202000 [(1024, 0x4)], [⟨31, 0, .RW, false, []⟩]⟩
  | .RX_NOT_ALLOWED => ⟨place1 0x220000 [], [⟨31, 0, .RO, true, []⟩]⟩
  | .BASE_LO => ⟨placeRing 0x0, [⟨31, 12, .RW, false, []⟩]⟩
  | .BASE_HI => ⟨placeRing 0x4, [⟨31, 0, .RW, false, []⟩]⟩
  | .RING_CFG => ⟨placeRing 0x8, [⟨31, 31, .RW, false, []⟩, ⟨30, 30, .RO, true, []⟩, ⟨20, 16, .RW, false, [(6, 16)]⟩, ⟨6, 0, .RW, false, []⟩]⟩
  | .RING_MOD => ⟨placeRing 0xC, [⟨26, 16, .RW, false, []⟩, ⟨7, 0, .RW, false, []⟩]⟩
  | .RING_HEAD => ⟨placeRing 0x10, [⟨15, 0, .RO, true, []⟩]⟩
  | .RING_TAIL => ⟨placeRing 0x14, [⟨15, 0, .RW, false, []⟩]⟩
  | .ERR_CAUSE => ⟨placeRing 0x18, [⟨2, 0, .RO, true, []⟩]⟩
  | .RING_FRAMES => ⟨placeRing 0x20, [⟨63, 0, .RO, true, []⟩]⟩
  | .RING_DROP => ⟨placeRing 0x28, [⟨31, 0, .RO, true, []⟩]⟩

/-- The reset values other than 0: bit position of the field and its value. Fields marked "image" reset to 0. -/
def regResets : Reg → List (Nat × Nat)
  | .DIE_STATUS => [(4, 15)]
  | .GLB_ID => [(16, 0x5120), (0, 0x1F6D)]
  | .REVISION => [(0, 0xA1)]
  | .BEHAVIOUR_LEVEL => [(16, 2), (0, 3)]
  | .FREE_CELLS => [(0, 0x80000)]
  | .FREE_DESC => [(0, 0x40000)]
  | .TIME_STATUS => [(10, 1)]
  | .SMP_CFG => [(0, 1)]
  | .SMP_THRESH => [(0, 0x1000)]
  | .SRC_CFG => [(24, 64)]
  | .SRC_STATUS => [(24, 7)]
  | .FLT_CFG => [(8, 110), (0, 2)]
  | .SRC_REACT => [(16, 1000), (12, 3)]
  | .MEM_CFG => [(16, 0x800)]
  | .STACK_TEMP => [(16, 8)]
  | .CH_CFG => [(8, 16)]
  | .LDR_STATUS => [(28, 2)]
  | .HIF_CFG => [(0, 0xF)]
  | .RING_CFG => [(30, 1), (16, 6)]
  | _ => []

end Sys2Proof.Machine

namespace Sys2Proof.Machine.F

abbrev CYCLE_COUNT : Fld := ⟨.CYCLE_COUNT, 63, 0⟩
abbrev EPOCH_COUNT : Fld := ⟨.EPOCH_COUNT, 31, 0⟩
abbrev DIE_STATUS_LINK_UP : Fld := ⟨.DIE_STATUS, 11, 8⟩
abbrev DIE_STATUS_IN_RESET : Fld := ⟨.DIE_STATUS, 7, 4⟩
abbrev DIE_STATUS_ENABLED : Fld := ⟨.DIE_STATUS, 3, 0⟩
abbrev GLB_ID_DEVICE : Fld := ⟨.GLB_ID, 31, 16⟩
abbrev GLB_ID_VENDOR : Fld := ⟨.GLB_ID, 15, 0⟩
abbrev REVISION : Fld := ⟨.REVISION, 7, 0⟩
abbrev BEHAVIOUR_LEVEL_FORMAT : Fld := ⟨.BEHAVIOUR_LEVEL, 19, 16⟩
abbrev BEHAVIOUR_LEVEL_LEVEL : Fld := ⟨.BEHAVIOUR_LEVEL, 3, 0⟩
abbrev SERIAL_LO : Fld := ⟨.SERIAL_LO, 31, 0⟩
abbrev SERIAL_HI : Fld := ⟨.SERIAL_HI, 31, 0⟩
abbrev SUBSYS_SUBSYS_ID : Fld := ⟨.SUBSYS, 31, 16⟩
abbrev SUBSYS_SUBSYS_VENDOR : Fld := ⟨.SUBSYS, 15, 0⟩
abbrev RESET_CTRL_KEY : Fld := ⟨.RESET_CTRL, 31, 16⟩
abbrev RESET_CTRL_HIF_RESET : Fld := ⟨.RESET_CTRL, 9, 9⟩
abbrev RESET_CTRL_ME_RESET : Fld := ⟨.RESET_CTRL, 8, 8⟩
abbrev RESET_CTRL_DIE_HOLD : Fld := ⟨.RESET_CTRL, 3, 0⟩
abbrev PRIV_VIOL_COUNT : Fld := ⟨.PRIV_VIOL_COUNT, 31, 0⟩
abbrev PRIV_VIOL_LAST_VALID : Fld := ⟨.PRIV_VIOL_LAST, 31, 31⟩
abbrev PRIV_VIOL_LAST_WRITE : Fld := ⟨.PRIV_VIOL_LAST, 30, 30⟩
abbrev PRIV_VIOL_LAST_REQUESTER : Fld := ⟨.PRIV_VIOL_LAST, 29, 24⟩
abbrev PRIV_VIOL_ADDR : Fld := ⟨.PRIV_VIOL_ADDR, 25, 0⟩
abbrev JTAG_CHALLENGE : Fld := ⟨.JTAG_CHALLENGE, 31, 0⟩
abbrev JTAG_RESPONSE : Fld := ⟨.JTAG_RESPONSE, 31, 0⟩
abbrev JTAG_STATUS_UNLOCKED : Fld := ⟨.JTAG_STATUS, 31, 31⟩
abbrev JTAG_STATUS_DISABLED : Fld := ⟨.JTAG_STATUS, 30, 30⟩
abbrev JTAG_STATUS_LOCKOUT : Fld := ⟨.JTAG_STATUS, 29, 29⟩
abbrev JTAG_STATUS_FAILS : Fld := ⟨.JTAG_STATUS, 1, 0⟩
abbrev OTP_CMD_KEY : Fld := ⟨.OTP_CMD, 31, 16⟩
abbrev OTP_CMD_OP : Fld := ⟨.OTP_CMD, 1, 0⟩
abbrev OTP_ADDR : Fld := ⟨.OTP_ADDR, 5, 0⟩
abbrev OTP_DATA : Fld := ⟨.OTP_DATA, 31, 0⟩
abbrev OTP_STATUS_BUSY : Fld := ⟨.OTP_STATUS, 31, 31⟩
abbrev OTP_STATUS_RESULT : Fld := ⟨.OTP_STATUS, 30, 28⟩
abbrev PORT_CFG_MAX_FRAME : Fld := ⟨.PORT_CFG, 23, 10⟩
abbrev PORT_CFG_FLOW_MODE : Fld := ⟨.PORT_CFG, 9, 8⟩
abbrev PORT_CFG_ADMIN_UP : Fld := ⟨.PORT_CFG, 7, 7⟩
abbrev PORT_CFG_AN_EN : Fld := ⟨.PORT_CFG, 6, 6⟩
abbrev PORT_CFG_FEC : Fld := ⟨.PORT_CFG, 5, 4⟩
abbrev PORT_CFG_MODE : Fld := ⟨.PORT_CFG, 3, 0⟩
abbrev PORT_STATUS_LANE_LOCK : Fld := ⟨.PORT_STATUS, 11, 8⟩
abbrev PORT_STATUS_FLUSHING : Fld := ⟨.PORT_STATUS, 7, 7⟩
abbrev PORT_STATUS_QUARANTINED : Fld := ⟨.PORT_STATUS, 6, 6⟩
abbrev PORT_STATUS_AN_DONE : Fld := ⟨.PORT_STATUS, 5, 5⟩
abbrev PORT_STATUS_REMOTE_FAULT : Fld := ⟨.PORT_STATUS, 4, 4⟩
abbrev PORT_STATUS_LOCAL_FAULT : Fld := ⟨.PORT_STATUS, 3, 3⟩
abbrev PORT_STATUS_HOLD_OFF : Fld := ⟨.PORT_STATUS, 2, 2⟩
abbrev PORT_STATUS_PCS_LOCK : Fld := ⟨.PORT_STATUS, 1, 1⟩
abbrev PORT_STATUS_LINK_UP : Fld := ⟨.PORT_STATUS, 0, 0⟩
abbrev PORT_EVENT_VERIFY_FAIL : Fld := ⟨.PORT_EVENT, 3, 3⟩
abbrev PORT_EVENT_FAULT : Fld := ⟨.PORT_EVENT, 2, 2⟩
abbrev PORT_EVENT_UP : Fld := ⟨.PORT_EVENT, 1, 1⟩
abbrev PORT_EVENT_DOWN : Fld := ⟨.PORT_EVENT, 0, 0⟩
abbrev PORT_EVENT_EN_VERIFY_FAIL : Fld := ⟨.PORT_EVENT_EN, 3, 3⟩
abbrev PORT_EVENT_EN_FAULT : Fld := ⟨.PORT_EVENT_EN, 2, 2⟩
abbrev PORT_EVENT_EN_UP : Fld := ⟨.PORT_EVENT_EN, 1, 1⟩
abbrev PORT_EVENT_EN_DOWN : Fld := ⟨.PORT_EVENT_EN, 0, 0⟩
abbrev LINK_TIMING_UP_HOLDOFF : Fld := ⟨.LINK_TIMING, 25, 16⟩
abbrev LINK_TIMING_DOWN_DEBOUNCE : Fld := ⟨.LINK_TIMING, 13, 0⟩
abbrev MM_CFG_VERIFY_LIMIT : Fld := ⟨.MM_CFG, 22, 20⟩
abbrev MM_CFG_VERIFY_TIME : Fld := ⟨.MM_CFG, 19, 12⟩
abbrev MM_CFG_ADD_FRAG_SIZE : Fld := ⟨.MM_CFG, 11, 10⟩
abbrev MM_CFG_VERIFY_EN : Fld := ⟨.MM_CFG, 9, 9⟩
abbrev MM_CFG_PREEMPT_EN : Fld := ⟨.MM_CFG, 8, 8⟩
abbrev MM_CFG_EXPRESS_MASK : Fld := ⟨.MM_CFG, 7, 0⟩
abbrev MM_STATUS_HOLD : Fld := ⟨.MM_STATUS, 4, 4⟩
abbrev MM_STATUS_ACTIVE : Fld := ⟨.MM_STATUS, 3, 3⟩
abbrev MM_STATUS_VERIFY_STATUS : Fld := ⟨.MM_STATUS, 2, 0⟩
abbrev SD_TX_EQ_RX_POL_INV : Fld := ⟨.SD_TX_EQ, 17, 17⟩
abbrev SD_TX_EQ_TX_POL_INV : Fld := ⟨.SD_TX_EQ, 16, 16⟩
abbrev SD_TX_EQ_POST : Fld := ⟨.SD_TX_EQ, 14, 10⟩
abbrev SD_TX_EQ_MAIN : Fld := ⟨.SD_TX_EQ, 9, 4⟩
abbrev SD_TX_EQ_PRE : Fld := ⟨.SD_TX_EQ, 3, 0⟩
abbrev SD_RX_STATUS_ADAPT_DONE : Fld := ⟨.SD_RX_STATUS, 1, 1⟩
abbrev SD_RX_STATUS_SIGNAL_DETECT : Fld := ⟨.SD_RX_STATUS, 0, 0⟩
abbrev RX_OCTETS : Fld := ⟨.RX_OCTETS, 63, 0⟩
abbrev RX_FRAMES : Fld := ⟨.RX_FRAMES, 63, 0⟩
abbrev TX_OCTETS : Fld := ⟨.TX_OCTETS, 63, 0⟩
abbrev TX_FRAMES : Fld := ⟨.TX_FRAMES, 63, 0⟩
abbrev RX_FCS_ERR : Fld := ⟨.RX_FCS_ERR, 31, 0⟩
abbrev RX_RUNT : Fld := ⟨.RX_RUNT, 31, 0⟩
abbrev RX_OVERSIZE : Fld := ⟨.RX_OVERSIZE, 31, 0⟩
abbrev RX_CODE_ERR : Fld := ⟨.RX_CODE_ERR, 31, 0⟩
abbrev RX_PAUSE : Fld := ⟨.RX_PAUSE, 31, 0⟩
abbrev TX_PAUSE : Fld := ⟨.TX_PAUSE, 31, 0⟩
abbrev FEC_CORRECTED : Fld := ⟨.FEC_CORRECTED, 31, 0⟩
abbrev FEC_UNCORRECTABLE : Fld := ⟨.FEC_UNCORRECTABLE, 31, 0⟩
abbrev LINK_FLAPS : Fld := ⟨.LINK_FLAPS, 31, 0⟩
abbrev MM_RX_FRAG : Fld := ⟨.MM_RX_FRAG, 31, 0⟩
abbrev MM_TX_FRAG : Fld := ⟨.MM_TX_FRAG, 31, 0⟩
abbrev MM_ASSEMBLY_ERR : Fld := ⟨.MM_ASSEMBLY_ERR, 31, 0⟩
abbrev MM_SMD_ERR : Fld := ⟨.MM_SMD_ERR, 31, 0⟩
abbrev MM_HOLD : Fld := ⟨.MM_HOLD, 31, 0⟩
abbrev RX_CTRL_OTHER : Fld := ⟨.RX_CTRL_OTHER, 31, 0⟩
abbrev TX_DOWN_DISCARD : Fld := ⟨.TX_DOWN_DISCARD, 31, 0⟩
abbrev RX_PFC : Fld := ⟨.RX_PFC, 31, 0⟩
abbrev TX_PFC : Fld := ⟨.TX_PFC, 31, 0⟩
abbrev PORT_CLASS_CFG_DEF_ACTION : Fld := ⟨.PORT_CLASS_CFG, 29, 28⟩
abbrev PORT_CLASS_CFG_MAL_ACTION : Fld := ⟨.PORT_CLASS_CFG, 27, 26⟩
abbrev PORT_CLASS_CFG_CLASS_PROFILE : Fld := ⟨.PORT_CLASS_CFG, 25, 23⟩
abbrev PORT_CLASS_CFG_IP_PROFILE : Fld := ⟨.PORT_CLASS_CFG, 22, 21⟩
abbrev PORT_CLASS_CFG_STREAM_FN : Fld := ⟨.PORT_CLASS_CFG, 20, 18⟩
abbrev PORT_CLASS_CFG_TRUST_DEI : Fld := ⟨.PORT_CLASS_CFG, 17, 17⟩
abbrev PORT_CLASS_CFG_TRUST_PCP : Fld := ⟨.PORT_CLASS_CFG, 16, 16⟩
abbrev PORT_CLASS_CFG_DEF_COLOUR : Fld := ⟨.PORT_CLASS_CFG, 15, 14⟩
abbrev PORT_CLASS_CFG_DEF_CLASS : Fld := ⟨.PORT_CLASS_CFG, 13, 11⟩
abbrev PORT_PVID : Fld := ⟨.PORT_PVID, 11, 0⟩
abbrev IP_PROFILE_USE_VID : Fld := ⟨.IP_PROFILE, 5, 5⟩
abbrev IP_PROFILE_USE_SRC : Fld := ⟨.IP_PROFILE, 4, 4⟩
abbrev IP_PROFILE_USE_PROTO : Fld := ⟨.IP_PROFILE, 3, 3⟩
abbrev IP_PROFILE_USE_PORTS : Fld := ⟨.IP_PROFILE, 2, 2⟩
abbrev IP_PROFILE_USE_DSCP : Fld := ⟨.IP_PROFILE, 1, 1⟩
abbrev IP_PROFILE_USE_DST : Fld := ⟨.IP_PROFILE, 0, 0⟩
abbrev PARSE_INFO : Fld := ⟨.PARSE_INFO, 6, 0⟩
abbrev MAL_COUNT : Fld := ⟨.MAL_COUNT, 31, 0⟩
abbrev CLASS_KEY_SEG_LKV_LSB : Fld := ⟨.CLASS_KEY_SEG, 25, 16⟩
abbrev CLASS_KEY_SEG_WIDTH : Fld := ⟨.CLASS_KEY_SEG, 6, 0⟩
abbrev PARSE_NODE : Fld := ⟨.PARSE_NODE, 31, 0⟩
abbrev RX_MALFORMED : Fld := ⟨.RX_MALFORMED, 31, 0⟩
abbrev RX_NO_MATCH : Fld := ⟨.RX_NO_MATCH, 31, 0⟩
abbrev RX_CLASS_DROP : Fld := ⟨.RX_CLASS_DROP, 31, 0⟩
abbrev RX_TRAP : Fld := ⟨.RX_TRAP, 31, 0⟩
abbrev TCAM_PART_ENABLE : Fld := ⟨.TCAM_PART, 31, 31⟩
abbrev TCAM_PART_LAST_BLK : Fld := ⟨.TCAM_PART, 15, 12⟩
abbrev TCAM_PART_FIRST_BLK : Fld := ⟨.TCAM_PART, 11, 8⟩
abbrev TCAM_PART_WIDTH : Fld := ⟨.TCAM_PART, 5, 4⟩
abbrev TCAM_PART_MODE : Fld := ⟨.TCAM_PART, 3, 3⟩
abbrev TCAM_PART_KIND : Fld := ⟨.TCAM_PART, 2, 0⟩
abbrev TCAM_GMASK : Fld := ⟨.TCAM_GMASK, 31, 0⟩
abbrev TCAM_BLK_STATUS_GEN : Fld := ⟨.TCAM_BLK_STATUS, 15, 8⟩
abbrev TCAM_BLK_STATUS_STATE : Fld := ⟨.TCAM_BLK_STATUS, 2, 0⟩
abbrev TCAM_SCRUB_FIX : Fld := ⟨.TCAM_SCRUB_FIX, 31, 0⟩
abbrev TCAM_SCRUB_DEFER : Fld := ⟨.TCAM_SCRUB_DEFER, 31, 0⟩
abbrev TCAM_SCRUB_SHADOW_UE : Fld := ⟨.TCAM_SCRUB_SHADOW_UE, 31, 0⟩
abbrev TCAM_ACTION_UE : Fld := ⟨.TCAM_ACTION_UE, 31, 0⟩
abbrev TCAM_REPAIRS : Fld := ⟨.TCAM_REPAIRS, 31, 0⟩
abbrev TCAM_OUT_SEARCHES : Fld := ⟨.TCAM_OUT_SEARCHES, 31, 0⟩
abbrev TCAM_SWEEPS : Fld := ⟨.TCAM_SWEEPS, 31, 0⟩
abbrev TCAM_PART_SEARCH : Fld := ⟨.TCAM_PART_SEARCH, 63, 0⟩
abbrev TCAM_PART_HIT : Fld := ⟨.TCAM_PART_HIT, 63, 0⟩
abbrev TCAM_CMD_PART : Fld := ⟨.TCAM_CMD, 10, 8⟩
abbrev TCAM_CMD_OP : Fld := ⟨.TCAM_CMD, 2, 0⟩
abbrev TCAM_ADDR_DST_ADDR : Fld := ⟨.TCAM_ADDR, 30, 16⟩
abbrev TCAM_ADDR_ADDR : Fld := ⟨.TCAM_ADDR, 14, 0⟩
abbrev TCAM_STATUS_BUSY : Fld := ⟨.TCAM_STATUS, 31, 31⟩
abbrev TCAM_STATUS_RESULT : Fld := ⟨.TCAM_STATUS, 30, 28⟩
abbrev TCAM_STATUS_MOVES : Fld := ⟨.TCAM_STATUS, 24, 16⟩
abbrev TCAM_STATUS_HIT : Fld := ⟨.TCAM_STATUS, 15, 15⟩
abbrev TCAM_STATUS_RESULT_ADDR : Fld := ⟨.TCAM_STATUS, 14, 0⟩
abbrev TCAM_DATA : Fld := ⟨.TCAM_DATA, 31, 0⟩
abbrev EM_SEED : Fld := ⟨.EM_SEED, 31, 0⟩
abbrev EM_FAR_SEED : Fld := ⟨.EM_FAR_SEED, 31, 0⟩
abbrev EM_CFG_FAR_QUEUE_MASK : Fld := ⟨.EM_CFG, 31, 24⟩
abbrev EM_CFG_EGRESS_LEARN : Fld := ⟨.EM_CFG, 0, 0⟩
abbrev EM_AGE_FLAP_LIMIT : Fld := ⟨.EM_AGE, 19, 16⟩
abbrev EM_AGE_AGE_PERIOD : Fld := ⟨.EM_AGE, 15, 0⟩
abbrev EM_INFO : Fld := ⟨.EM_INFO, 7, 0⟩
abbrev VLAN_VALID : Fld := ⟨.VLAN, 31, 31⟩
abbrev VLAN_LEARN_EN : Fld := ⟨.VLAN, 30, 30⟩
abbrev VLAN_FAR_EN : Fld := ⟨.VLAN, 29, 29⟩
abbrev VLAN_FLOOD_GROUP : Fld := ⟨.VLAN, 13, 0⟩
abbrev PORT_LEARN_CFG_MAX_LEARNED : Fld := ⟨.PORT_LEARN_CFG, 21, 2⟩
abbrev PORT_LEARN_CFG_FLUSH_ON_DOWN : Fld := ⟨.PORT_LEARN_CFG, 1, 1⟩
abbrev PORT_LEARN_CFG_LEARN_EN : Fld := ⟨.PORT_LEARN_CFG, 0, 0⟩
abbrev EM_CMD_TABLE : Fld := ⟨.EM_CMD, 3, 3⟩
abbrev EM_CMD_OP : Fld := ⟨.EM_CMD, 2, 0⟩
abbrev EM_ADDR : Fld := ⟨.EM_ADDR, 23, 0⟩
abbrev EM_STATUS_BUSY : Fld := ⟨.EM_STATUS, 31, 31⟩
abbrev EM_STATUS_RESULT : Fld := ⟨.EM_STATUS, 30, 28⟩
abbrev EM_STATUS_HIT : Fld := ⟨.EM_STATUS, 24, 24⟩
abbrev EM_STATUS_RESULT_ADDR : Fld := ⟨.EM_STATUS, 23, 0⟩
abbrev EM_DATA : Fld := ⟨.EM_DATA, 31, 0⟩
abbrev LEARNS : Fld := ⟨.LEARNS, 31, 0⟩
abbrev MOVES : Fld := ⟨.MOVES, 31, 0⟩
abbrev AGED : Fld := ⟨.AGED, 31, 0⟩
abbrev LEARN_REFUSED_FULL : Fld := ⟨.LEARN_REFUSED_FULL, 31, 0⟩
abbrev LEARN_REFUSED_RATE : Fld := ⟨.LEARN_REFUSED_RATE, 31, 0⟩
abbrev LEARN_REFUSED_LIMIT : Fld := ⟨.LEARN_REFUSED_LIMIT, 31, 0⟩
abbrev MOVE_REFUSED_LOCK : Fld := ⟨.MOVE_REFUSED_LOCK, 31, 0⟩
abbrev LEARN_STATIC_CONFLICT : Fld := ⟨.LEARN_STATIC_CONFLICT, 31, 0⟩
abbrev FLAP_LOCKS : Fld := ⟨.FLAP_LOCKS, 31, 0⟩
abbrev LEARN_EVICTED : Fld := ⟨.LEARN_EVICTED, 31, 0⟩
abbrev EM_UE : Fld := ⟨.EM_UE, 31, 0⟩
abbrev FAR_OVERFLOW : Fld := ⟨.FAR_OVERFLOW, 31, 0⟩
abbrev FAR_TIMEOUT : Fld := ⟨.FAR_TIMEOUT, 31, 0⟩
abbrev FAR_UE : Fld := ⟨.FAR_UE, 31, 0⟩
abbrev LEARNED_ENTRIES : Fld := ⟨.LEARNED_ENTRIES, 31, 0⟩
abbrev LAYBY_ENTRIES : Fld := ⟨.LAYBY_ENTRIES, 31, 0⟩
abbrev FAR_LOOKUPS : Fld := ⟨.FAR_LOOKUPS, 63, 0⟩
abbrev FAR_HITS : Fld := ⟨.FAR_HITS, 63, 0⟩
abbrev FWD_FLOOD : Fld := ⟨.FWD_FLOOD, 31, 0⟩
abbrev FWD_FILTERED : Fld := ⟨.FWD_FILTERED, 31, 0⟩
abbrev FWD_ROUTE_DROP : Fld := ⟨.FWD_ROUTE_DROP, 31, 0⟩
abbrev FWD_LEARNED : Fld := ⟨.FWD_LEARNED, 31, 0⟩
abbrev RW_CMD_TABLE : Fld := ⟨.RW_CMD, 3, 2⟩
abbrev RW_CMD_OP : Fld := ⟨.RW_CMD, 1, 0⟩
abbrev RW_INDEX : Fld := ⟨.RW_INDEX, 15, 0⟩
abbrev RW_STATUS_BUSY : Fld := ⟨.RW_STATUS, 31, 31⟩
abbrev RW_STATUS_RESULT : Fld := ⟨.RW_STATUS, 30, 28⟩
abbrev RW_DATA : Fld := ⟨.RW_DATA, 31, 0⟩
abbrev EDIT_CFG : Fld := ⟨.EDIT_CFG, 15, 0⟩
abbrev RTAG_CFG_EN : Fld := ⟨.RTAG_CFG, 31, 31⟩
abbrev RTAG_CFG_SEQ_LSB : Fld := ⟨.RTAG_CFG, 25, 16⟩
abbrev RTAG_CFG_FLAG_BIT : Fld := ⟨.RTAG_CFG, 3, 0⟩
abbrev REPL_UE : Fld := ⟨.REPL_UE, 31, 0⟩
abbrev EDIT_GROW : Fld := ⟨.EDIT_GROW, 5, 0⟩
abbrev MIRROR_CFG_SRC_KIND : Fld := ⟨.MIRROR_CFG, 31, 30⟩
abbrev MIRROR_CFG_TRAILER_EN : Fld := ⟨.MIRROR_CFG, 29, 29⟩
abbrev MIRROR_CFG_TRUNC : Fld := ⟨.MIRROR_CFG, 28, 24⟩
abbrev MIRROR_CFG_EDIT : Fld := ⟨.MIRROR_CFG, 23, 16⟩
abbrev MIRROR_CFG_SAMPLE_N : Fld := ⟨.MIRROR_CFG, 15, 0⟩
abbrev MIRROR_DEST_HQ : Fld := ⟨.MIRROR_DEST, 31, 28⟩
abbrev MIRROR_DEST_QUEUE : Fld := ⟨.MIRROR_DEST, 27, 25⟩
abbrev MIRROR_DEST_PORT : Fld := ⟨.MIRROR_DEST, 9, 0⟩
abbrev MIRROR_STREAM_HI : Fld := ⟨.MIRROR_STREAM, 31, 16⟩
abbrev MIRROR_STREAM_LO : Fld := ⟨.MIRROR_STREAM, 15, 0⟩
abbrev MIRROR_PORTS : Fld := ⟨.MIRROR_PORTS, 31, 0⟩
abbrev MIRROR_COPIES : Fld := ⟨.MIRROR_COPIES, 63, 0⟩
abbrev MIRROR_REFUSED : Fld := ⟨.MIRROR_REFUSED, 31, 0⟩
abbrev MIRROR_TRUNCATED : Fld := ⟨.MIRROR_TRUNCATED, 31, 0⟩
abbrev MC_HOLD_CFG : Fld := ⟨.MC_HOLD_CFG, 9, 0⟩
abbrev MC_HOLD_STATUS : Fld := ⟨.MC_HOLD_STATUS, 8, 0⟩
abbrev MC_HOLD_EXPIRED : Fld := ⟨.MC_HOLD_EXPIRED, 31, 0⟩
abbrev MC_HOLD_FULL : Fld := ⟨.MC_HOLD_FULL, 31, 0⟩
abbrev COPY_REFUSED : Fld := ⟨.COPY_REFUSED, 31, 0⟩
abbrev EDIT_UE : Fld := ⟨.EDIT_UE, 31, 0⟩
abbrev PORT_EDIT_CFG : Fld := ⟨.PORT_EDIT_CFG, 7, 0⟩
abbrev PORT_MAC_LO : Fld := ⟨.PORT_MAC_LO, 31, 0⟩
abbrev PORT_MAC_HI : Fld := ⟨.PORT_MAC_HI, 15, 0⟩
abbrev EDIT_DROP : Fld := ⟨.EDIT_DROP, 31, 0⟩
abbrev EDIT_TTL_DROP : Fld := ⟨.EDIT_TTL_DROP, 31, 0⟩
abbrev EDIT_OVERSIZE : Fld := ⟨.EDIT_OVERSIZE, 31, 0⟩
abbrev EDIT_NA : Fld := ⟨.EDIT_NA, 31, 0⟩
abbrev POOL_STATUS : Fld := ⟨.POOL_STATUS, 19, 0⟩
abbrev SHARED_USED : Fld := ⟨.SHARED_USED, 19, 0⟩
abbrev FREE_CELLS : Fld := ⟨.FREE_CELLS, 19, 0⟩
abbrev FREE_DESC : Fld := ⟨.FREE_DESC, 18, 0⟩
abbrev TRANSIT_USED : Fld := ⟨.TRANSIT_USED, 19, 0⟩
abbrev POOL_ALARM : Fld := ⟨.POOL_ALARM, 19, 0⟩
abbrev CFG_REFUSED : Fld := ⟨.CFG_REFUSED, 31, 0⟩
abbrev HDRM_OVERRUN : Fld := ⟨.HDRM_OVERRUN, 31, 0⟩
abbrev NO_DESC : Fld := ⟨.NO_DESC, 31, 0⟩
abbrev BUF_UE : Fld := ⟨.BUF_UE, 31, 0⟩
abbrev BUF_CE : Fld := ⟨.BUF_CE, 31, 0⟩
abbrev DELTA_MASK : Fld := ⟨.DELTA_MASK, 31, 0⟩
abbrev Q_CFG_W : Fld := ⟨.Q_CFG, 11, 8⟩
abbrev Q_CFG_ECN_EN : Fld := ⟨.Q_CFG, 7, 7⟩
abbrev Q_CFG_ALPHA_K : Fld := ⟨.Q_CFG, 6, 4⟩
abbrev Q_CFG_MODE : Fld := ⟨.Q_CFG, 1, 0⟩
abbrev Q_MIN : Fld := ⟨.Q_MIN, 19, 0⟩
abbrev Q_CELLS : Fld := ⟨.Q_CELLS, 19, 0⟩
abbrev Q_HWM : Fld := ⟨.Q_HWM, 19, 0⟩
abbrev Q_HDRM_CELLS : Fld := ⟨.Q_HDRM_CELLS, 19, 0⟩
abbrev WRED_LO : Fld := ⟨.WRED_LO, 19, 0⟩
abbrev WRED_HI_MAX_P : Fld := ⟨.WRED_HI, 31, 24⟩
abbrev WRED_HI_EN : Fld := ⟨.WRED_HI, 23, 23⟩
abbrev WRED_HI_MAX_TH : Fld := ⟨.WRED_HI, 19, 0⟩
abbrev Q_AVG : Fld := ⟨.Q_AVG, 27, 0⟩
abbrev PFC_XOFF : Fld := ⟨.PFC_XOFF, 19, 0⟩
abbrev PFC_XON : Fld := ⟨.PFC_XON, 19, 0⟩
abbrev PFC_HDRM : Fld := ⟨.PFC_HDRM, 19, 0⟩
abbrev PFC_STATUS_XOFF : Fld := ⟨.PFC_STATUS, 31, 31⟩
abbrev PFC_STATUS_ING_CELLS : Fld := ⟨.PFC_STATUS, 19, 0⟩
abbrev PFC_HDRM_USED : Fld := ⟨.PFC_HDRM_USED, 19, 0⟩
abbrev PORT_PFC_TIMING_REFRESH : Fld := ⟨.PORT_PFC_TIMING, 31, 16⟩
abbrev PORT_PFC_TIMING_QUANTA : Fld := ⟨.PORT_PFC_TIMING, 15, 0⟩
abbrev ENQ_COPIES : Fld := ⟨.ENQ_COPIES, 63, 0⟩
abbrev REFUSED_DT : Fld := ⟨.REFUSED_DT, 31, 0⟩
abbrev WRED_DROP : Fld := ⟨.WRED_DROP, 31, 0⟩
abbrev ECN_MARKED : Fld := ⟨.ECN_MARKED, 31, 0⟩
abbrev FLUSHED : Fld := ⟨.FLUSHED, 31, 0⟩
abbrev HDRM_ADMIT : Fld := ⟨.HDRM_ADMIT, 31, 0⟩
abbrev CT_BAD_DISCARD : Fld := ⟨.CT_BAD_DISCARD, 31, 0⟩
abbrev RLF_STATUS_TRAINED : Fld := ⟨.RLF_STATUS, 8, 8⟩
abbrev RLF_STATUS_GEN : Fld := ⟨.RLF_STATUS, 3, 0⟩
abbrev RLF_REPLAY_COUNT : Fld := ⟨.RLF_REPLAY_COUNT, 31, 0⟩
abbrev RLF_RETRAINS : Fld := ⟨.RLF_RETRAINS, 31, 0⟩
abbrev RLF_CODED : Fld := ⟨.RLF_CODED, 63, 0⟩
abbrev RLF_UNCODED : Fld := ⟨.RLF_UNCODED, 63, 0⟩
abbrev RLF_INSTALLS : Fld := ⟨.RLF_INSTALLS, 31, 0⟩
abbrev RLF_UNCODED_PENDING : Fld := ⟨.RLF_UNCODED_PENDING, 31, 0⟩
abbrev RLF_UNCODED_MASK : Fld := ⟨.RLF_UNCODED_MASK, 31, 0⟩
abbrev RLF_DISCARD : Fld := ⟨.RLF_DISCARD, 31, 0⟩
abbrev RLF_CTX_UE : Fld := ⟨.RLF_CTX_UE, 31, 0⟩
abbrev PORT_BUF_CFG : Fld := ⟨.PORT_BUF_CFG, 0, 0⟩
abbrev CT_BAD_TAIL : Fld := ⟨.CT_BAD_TAIL, 31, 0⟩
abbrev CT_STOMPED : Fld := ⟨.CT_STOMPED, 31, 0⟩
abbrev PORT_SCH_CFG_GATE_EN : Fld := ⟨.PORT_SCH_CFG, 31, 31⟩
abbrev PORT_SCH_CFG_LEN_OVH : Fld := ⟨.PORT_SCH_CFG, 30, 24⟩
abbrev PORT_SCH_CFG_GUARD_EXTRA : Fld := ⟨.PORT_SCH_CFG, 23, 15⟩
abbrev PORT_SCH_CFG_PORT_SHAPER : Fld := ⟨.PORT_SCH_CFG, 14, 0⟩
abbrev GCL_CTRL_CHANGE_REQ : Fld := ⟨.GCL_CTRL, 31, 31⟩
abbrev GCL_CTRL_CANCEL : Fld := ⟨.GCL_CTRL, 30, 30⟩
abbrev GCL_CTRL_INIT_GATES : Fld := ⟨.GCL_CTRL, 7, 0⟩
abbrev GCL_STATUS_CHANGE_PENDING : Fld := ⟨.GCL_STATUS, 31, 31⟩
abbrev GCL_STATUS_OPER_VALID : Fld := ⟨.GCL_STATUS, 30, 30⟩
abbrev GCL_STATUS_CHANGE_SHIFT : Fld := ⟨.GCL_STATUS, 29, 29⟩
abbrev GCL_STATUS_START_IN_PAST : Fld := ⟨.GCL_STATUS, 28, 28⟩
abbrev GCL_STATUS_BAD_LIST : Fld := ⟨.GCL_STATUS, 27, 27⟩
abbrev GCL_STATUS_CHANGED : Fld := ⟨.GCL_STATUS, 26, 26⟩
abbrev GCL_STATUS_WRITE_REFUSED : Fld := ⟨.GCL_STATUS, 25, 25⟩
abbrev GCL_STATUS_HOLD : Fld := ⟨.GCL_STATUS, 24, 24⟩
abbrev GCL_STATUS_OPER_GATES : Fld := ⟨.GCL_STATUS, 23, 16⟩
abbrev GCL_STATUS_OPER_INDEX : Fld := ⟨.GCL_STATUS, 9, 0⟩
abbrev GCL_ADMIN_BASE_NS : Fld := ⟨.GCL_ADMIN_BASE_NS, 31, 0⟩
abbrev GCL_ADMIN_BASE_SEC_LO : Fld := ⟨.GCL_ADMIN_BASE_SEC_LO, 31, 0⟩
abbrev GCL_ADMIN_BASE_SEC_HI : Fld := ⟨.GCL_ADMIN_BASE_SEC_HI, 15, 0⟩
abbrev GCL_ADMIN_CYCLE : Fld := ⟨.GCL_ADMIN_CYCLE, 29, 0⟩
abbrev GCL_ADMIN_LEN : Fld := ⟨.GCL_ADMIN_LEN, 10, 0⟩
abbrev GCL_OPER_BASE_NS : Fld := ⟨.GCL_OPER_BASE_NS, 31, 0⟩
abbrev GCL_OPER_BASE_SEC_LO : Fld := ⟨.GCL_OPER_BASE_SEC_LO, 31, 0⟩
abbrev GCL_OPER_BASE_SEC_HI : Fld := ⟨.GCL_OPER_BASE_SEC_HI, 15, 0⟩
abbrev GCL_OPER_CYCLE : Fld := ⟨.GCL_OPER_CYCLE, 29, 0⟩
abbrev GCL_OPER_LEN : Fld := ⟨.GCL_OPER_LEN, 10, 0⟩
abbrev GCL_CHANGE_TIME_NS : Fld := ⟨.GCL_CHANGE_TIME_NS, 31, 0⟩
abbrev GCL_CHANGE_TIME_SEC_LO : Fld := ⟨.GCL_CHANGE_TIME_SEC_LO, 31, 0⟩
abbrev GCL_CHANGE_TIME_SEC_HI : Fld := ⟨.GCL_CHANGE_TIME_SEC_HI, 15, 0⟩
abbrev GCL_CHANGES : Fld := ⟨.GCL_CHANGES, 31, 0⟩
abbrev GCL_START_IN_PAST : Fld := ⟨.GCL_START_IN_PAST, 31, 0⟩
abbrev LATE_MARKED : Fld := ⟨.LATE_MARKED, 31, 0⟩
abbrev Q_SCH_CFG_ALG : Fld := ⟨.Q_SCH_CFG, 31, 30⟩
abbrev Q_SCH_CFG_HIST_UNIT : Fld := ⟨.Q_SCH_CFG, 27, 24⟩
abbrev Q_SCH_CFG_QUANTUM : Fld := ⟨.Q_SCH_CFG, 19, 0⟩
abbrev Q_SHAPER : Fld := ⟨.Q_SHAPER, 14, 0⟩
abbrev Q_DL_BUDGET : Fld := ⟨.Q_DL_BUDGET, 31, 0⟩
abbrev Q_DL_CFG_LATE_ACTION : Fld := ⟨.Q_DL_CFG, 31, 30⟩
abbrev Q_DL_CFG_TOL : Fld := ⟨.Q_DL_CFG, 19, 0⟩
abbrev Q_DELAY_HWM : Fld := ⟨.Q_DELAY_HWM, 31, 0⟩
abbrev Q_DEPTH_SUM : Fld := ⟨.Q_DEPTH_SUM, 31, 0⟩
abbrev Q_DEPTH_MAX : Fld := ⟨.Q_DEPTH_MAX, 19, 0⟩
abbrev Q_LATE_DISCARD : Fld := ⟨.Q_LATE_DISCARD, 31, 0⟩
abbrev SHP_RATE : Fld := ⟨.SHP_RATE, 26, 0⟩
abbrev SHP_BURST : Fld := ⟨.SHP_BURST, 23, 0⟩
abbrev SHP_TOKENS : Fld := ⟨.SHP_TOKENS, 31, 0⟩
abbrev GCL_SEL_LIST : Fld := ⟨.GCL_SEL, 16, 16⟩
abbrev GCL_SEL_PORT : Fld := ⟨.GCL_SEL, 9, 0⟩
abbrev GCL_ENTRY : Fld := ⟨.GCL_ENTRY, 31, 0⟩
abbrev SCH_UE : Fld := ⟨.SCH_UE, 31, 0⟩
abbrev HIST : Fld := ⟨.HIST, 31, 0⟩
abbrev SC_CMD_TABLE : Fld := ⟨.SC_CMD, 6, 4⟩
abbrev SC_CMD_OP : Fld := ⟨.SC_CMD, 1, 0⟩
abbrev SC_INDEX : Fld := ⟨.SC_INDEX, 19, 0⟩
abbrev SC_STATUS_BUSY : Fld := ⟨.SC_STATUS, 31, 31⟩
abbrev SC_STATUS_RESULT : Fld := ⟨.SC_STATUS, 30, 28⟩
abbrev SC_DATA : Fld := ⟨.SC_DATA, 31, 0⟩
abbrev SC_UE : Fld := ⟨.SC_UE, 31, 0⟩
abbrev TIME_CFG_WORK_SOURCE : Fld := ⟨.TIME_CFG, 5, 4⟩
abbrev TIME_CFG_WORK_DOMAIN : Fld := ⟨.TIME_CFG, 1, 0⟩
abbrev SERVO_CFG_HOLDOVER_LIMIT : Fld := ⟨.SERVO_CFG, 31, 16⟩
abbrev SERVO_CFG_STEP_POLICY : Fld := ⟨.SERVO_CFG, 15, 15⟩
abbrev SERVO_CFG_SLEW_MAX : Fld := ⟨.SERVO_CFG, 12, 0⟩
abbrev STEP_THRESHOLD : Fld := ⟨.STEP_THRESHOLD, 19, 0⟩
abbrev TIME_STATUS_PPS_IN_LOST : Fld := ⟨.TIME_STATUS, 10, 10⟩
abbrev TIME_STATUS_RATE_PENDING : Fld := ⟨.TIME_STATUS, 9, 9⟩
abbrev TIME_STATUS_STEP_PENDING : Fld := ⟨.TIME_STATUS, 8, 8⟩
abbrev TIME_STATUS_FOLLOW_LOCK : Fld := ⟨.TIME_STATUS, 7, 4⟩
abbrev TIME_STATUS_STATE : Fld := ⟨.TIME_STATUS, 2, 0⟩
abbrev NOW_NS : Fld := ⟨.NOW_NS, 31, 0⟩
abbrev NOW_SEC_LO : Fld := ⟨.NOW_SEC_LO, 31, 0⟩
abbrev NOW_SEC_HI : Fld := ⟨.NOW_SEC_HI, 15, 0⟩
abbrev RATE_ADJ : Fld := ⟨.RATE_ADJ, 31, 0⟩
abbrev STEP_LO : Fld := ⟨.STEP_LO, 31, 0⟩
abbrev STEP_HI : Fld := ⟨.STEP_HI, 31, 0⟩
abbrev STEP_CTRL : Fld := ⟨.STEP_CTRL, 1, 0⟩
abbrev SET_NS : Fld := ⟨.SET_NS, 31, 0⟩
abbrev SET_SEC_LO : Fld := ⟨.SET_SEC_LO, 31, 0⟩
abbrev SET_SEC_HI : Fld := ⟨.SET_SEC_HI, 15, 0⟩
abbrev DOM_CFG_EN : Fld := ⟨.DOM_CFG, 8, 8⟩
abbrev DOM_CFG_DOMAIN_NUMBER : Fld := ⟨.DOM_CFG, 6, 0⟩
abbrev DOM_OFFSET_LO : Fld := ⟨.DOM_OFFSET_LO, 31, 0⟩
abbrev DOM_OFFSET_HI : Fld := ⟨.DOM_OFFSET_HI, 31, 0⟩
abbrev DOM_RATE : Fld := ⟨.DOM_RATE, 31, 0⟩
abbrev TIME_STEPS : Fld := ⟨.TIME_STEPS, 31, 0⟩
abbrev FOLLOW_UNLOCKS : Fld := ⟨.FOLLOW_UNLOCKS, 31, 0⟩
abbrev PPS_IN_BAD_PERIOD : Fld := ⟨.PPS_IN_BAD_PERIOD, 31, 0⟩
abbrev PPS_OUT_CFG_EN : Fld := ⟨.PPS_OUT_CFG, 31, 31⟩
abbrev PPS_OUT_CFG_WIDTH : Fld := ⟨.PPS_OUT_CFG, 18, 0⟩
abbrev PPS_IN_CFG : Fld := ⟨.PPS_IN_CFG, 0, 0⟩
abbrev PPS_IN_TS_NS : Fld := ⟨.PPS_IN_TS_NS, 31, 0⟩
abbrev PPS_IN_TS_SEC_LO : Fld := ⟨.PPS_IN_TS_SEC_LO, 31, 0⟩
abbrev PPS_IN_TS_SEC_HI : Fld := ⟨.PPS_IN_TS_SEC_HI, 15, 0⟩
abbrev SYNC_IN_CFG : Fld := ⟨.SYNC_IN_CFG, 1, 0⟩
abbrev SYNC_IN_TS_NS : Fld := ⟨.SYNC_IN_TS_NS, 31, 0⟩
abbrev SYNC_IN_TS_SEC_LO : Fld := ⟨.SYNC_IN_TS_SEC_LO, 31, 0⟩
abbrev SYNC_IN_TS_SEC_HI_VALID : Fld := ⟨.SYNC_IN_TS_SEC_HI, 31, 31⟩
abbrev SYNC_IN_TS_SEC_HI_RISING : Fld := ⟨.SYNC_IN_TS_SEC_HI, 30, 30⟩
abbrev SYNC_IN_TS_SEC_HI_SEC : Fld := ⟨.SYNC_IN_TS_SEC_HI, 15, 0⟩
abbrev SYNC_IN_MERGED : Fld := ⟨.SYNC_IN_MERGED, 31, 0⟩
abbrev SYNC_IN_OVERFLOW : Fld := ⟨.SYNC_IN_OVERFLOW, 31, 0⟩
abbrev SYNC_OUT_CFG_LEVEL : Fld := ⟨.SYNC_OUT_CFG, 2, 2⟩
abbrev SYNC_OUT_CFG_MODE : Fld := ⟨.SYNC_OUT_CFG, 1, 0⟩
abbrev SYNC_OUT_START_NS : Fld := ⟨.SYNC_OUT_START_NS, 31, 0⟩
abbrev SYNC_OUT_START_SEC_LO : Fld := ⟨.SYNC_OUT_START_SEC_LO, 31, 0⟩
abbrev SYNC_OUT_START_SEC_HI : Fld := ⟨.SYNC_OUT_START_SEC_HI, 15, 0⟩
abbrev SYNC_OUT_PERIOD : Fld := ⟨.SYNC_OUT_PERIOD, 29, 0⟩
abbrev SYNC_OUT_WIDTH : Fld := ⟨.SYNC_OUT_WIDTH, 29, 0⟩
abbrev PTP_TX_INFO_VALID : Fld := ⟨.PTP_TX_INFO, 31, 31⟩
abbrev PTP_TX_INFO_PORT : Fld := ⟨.PTP_TX_INFO, 30, 24⟩
abbrev PTP_TX_INFO_DOMAIN : Fld := ⟨.PTP_TX_INFO, 23, 22⟩
abbrev PTP_TX_INFO_SEQ_ID : Fld := ⟨.PTP_TX_INFO, 15, 0⟩
abbrev PTP_TX_NS : Fld := ⟨.PTP_TX_NS, 31, 0⟩
abbrev PTP_TX_SEC_LO : Fld := ⟨.PTP_TX_SEC_LO, 31, 0⟩
abbrev PTP_TX_SEC_HI : Fld := ⟨.PTP_TX_SEC_HI, 31, 0⟩
abbrev PTP_TX_LOST : Fld := ⟨.PTP_TX_LOST, 31, 0⟩
abbrev PORT_PTP_CFG : Fld := ⟨.PORT_PTP_CFG, 0, 0⟩
abbrev PTP_RX_DROP : Fld := ⟨.PTP_RX_DROP, 31, 0⟩
abbrev PTP_ONESTEP_NA : Fld := ⟨.PTP_ONESTEP_NA, 31, 0⟩
abbrev STREAM_EGRESS_VALID : Fld := ⟨.STREAM_EGRESS, 31, 31⟩
abbrev STREAM_EGRESS_KIND : Fld := ⟨.STREAM_EGRESS, 30, 30⟩
abbrev STREAM_EGRESS_EDIT : Fld := ⟨.STREAM_EGRESS, 23, 16⟩
abbrev STREAM_EGRESS_OPERAND : Fld := ⟨.STREAM_EGRESS, 15, 0⟩
abbrev PLN_CTRL_REPLAN : Fld := ⟨.PLN_CTRL, 31, 31⟩
abbrev PLN_CTRL_APPROVE_DETOUR : Fld := ⟨.PLN_CTRL, 3, 3⟩
abbrev PLN_CTRL_APPROVE_REQ : Fld := ⟨.PLN_CTRL, 2, 2⟩
abbrev PLN_CTRL_FREEZE : Fld := ⟨.PLN_CTRL, 1, 1⟩
abbrev PLN_STATUS_STATE : Fld := ⟨.PLN_STATUS, 31, 29⟩
abbrev PLN_STATUS_SHED_LEVEL : Fld := ⟨.PLN_STATUS, 26, 24⟩
abbrev PLN_STATUS_PENDING : Fld := ⟨.PLN_STATUS, 8, 0⟩
abbrev PLAN_ID : Fld := ⟨.PLAN_ID, 31, 0⟩
abbrev APPROVE_ID : Fld := ⟨.APPROVE_ID, 31, 0⟩
abbrev APPROVE_CMD : Fld := ⟨.APPROVE_CMD, 1, 0⟩
abbrev PLN_LOAD : Fld := ⟨.PLN_LOAD, 7, 0⟩
abbrev T_COMMIT_NS : Fld := ⟨.T_COMMIT_NS, 31, 0⟩
abbrev T_COMMIT_SEC_LO : Fld := ⟨.T_COMMIT_SEC_LO, 31, 0⟩
abbrev T_COMMIT_SEC_HI : Fld := ⟨.T_COMMIT_SEC_HI, 31, 0⟩
abbrev JOURNAL_ADDR : Fld := ⟨.JOURNAL_ADDR, 63, 0⟩
abbrev JOURNAL_HEAD : Fld := ⟨.JOURNAL_HEAD, 63, 0⟩
abbrev PLANS_COMMITTED : Fld := ⟨.PLANS_COMMITTED, 31, 0⟩
abbrev PLANS_ABORTED : Fld := ⟨.PLANS_ABORTED, 31, 0⟩
abbrev DETOURS : Fld := ⟨.DETOURS, 31, 0⟩
abbrev QUARANTINES : Fld := ⟨.QUARANTINES, 31, 0⟩
abbrev STREAMS_REFUSED : Fld := ⟨.STREAMS_REFUSED, 31, 0⟩
abbrev HH_LIMITS : Fld := ⟨.HH_LIMITS, 31, 0⟩
abbrev TRAP_SHAPED_DROP : Fld := ⟨.TRAP_SHAPED_DROP, 31, 0⟩
abbrev APPROVE_STALE : Fld := ⟨.APPROVE_STALE, 31, 0⟩
abbrev FOREIGN_LIST : Fld := ⟨.FOREIGN_LIST, 31, 0⟩
abbrev SS_INDEX : Fld := ⟨.SS_INDEX, 15, 0⟩
abbrev SS_DATA0_STATE : Fld := ⟨.SS_DATA0, 31, 28⟩
abbrev SS_DATA0_REASON : Fld := ⟨.SS_DATA0, 23, 16⟩
abbrev SS_DATA1 : Fld := ⟨.SS_DATA1, 31, 0⟩
abbrev SS_DATA2 : Fld := ⟨.SS_DATA2, 31, 0⟩
abbrev SS_DATA3 : Fld := ⟨.SS_DATA3, 31, 0⟩
abbrev EXPORT_CFG_PF1_EN : Fld := ⟨.EXPORT_CFG, 2, 2⟩
abbrev EXPORT_CFG_PF0_EN : Fld := ⟨.EXPORT_CFG, 1, 1⟩
abbrev EXPORT_CFG_EN : Fld := ⟨.EXPORT_CFG, 0, 0⟩
abbrev EXPORT_SEQ : Fld := ⟨.EXPORT_SEQ, 63, 0⟩
abbrev HISTORY_ADDR : Fld := ⟨.HISTORY_ADDR, 63, 0⟩
abbrev EXPORT_DROP_PF0 : Fld := ⟨.EXPORT_DROP_PF0, 31, 0⟩
abbrev EXPORT_DROP_PF1 : Fld := ⟨.EXPORT_DROP_PF1, 31, 0⟩
abbrev EXPORT_LATE : Fld := ⟨.EXPORT_LATE, 31, 0⟩
abbrev SKETCH_SEED : Fld := ⟨.SKETCH_SEED, 31, 0⟩
abbrev HH_CAND_BYTES : Fld := ⟨.HH_CAND_BYTES, 31, 0⟩
abbrev CAND_FULL : Fld := ⟨.CAND_FULL, 31, 0⟩
abbrev THREAD_CFG_ENABLE : Fld := ⟨.THREAD_CFG, 31, 31⟩
abbrev THREAD_CFG_PRIORITY : Fld := ⟨.THREAD_CFG, 1, 0⟩
abbrev ACCESS_MASK_DRAM_ALL : Fld := ⟨.ACCESS_MASK, 31, 31⟩
abbrev ACCESS_MASK_BLOCKS : Fld := ⟨.ACCESS_MASK, 16, 0⟩
abbrev WIN0_BASE : Fld := ⟨.WIN0, 25, 16⟩
abbrev WIN0_PAGES : Fld := ⟨.WIN0, 8, 0⟩
abbrev WIN1_BASE : Fld := ⟨.WIN1, 25, 16⟩
abbrev WIN1_PAGES : Fld := ⟨.WIN1, 8, 0⟩
abbrev DRAM_WIN_BASE : Fld := ⟨.DRAM_WIN, 25, 16⟩
abbrev DRAM_WIN_MIB : Fld := ⟨.DRAM_WIN, 10, 0⟩
abbrev SHARE_MSG_DYNAMIC : Fld := ⟨.SHARE_MSG, 31, 31⟩
abbrev SHARE_MSG_CAP : Fld := ⟨.SHARE_MSG, 28, 16⟩
abbrev SHARE_MSG_MIN : Fld := ⟨.SHARE_MSG, 12, 0⟩
abbrev SHARE_BUF_DYNAMIC : Fld := ⟨.SHARE_BUF, 31, 31⟩
abbrev SHARE_BUF_CAP : Fld := ⟨.SHARE_BUF, 26, 16⟩
abbrev SHARE_BUF_MIN : Fld := ⟨.SHARE_BUF, 10, 0⟩
abbrev ENTRY : Fld := ⟨.ENTRY, 31, 0⟩
abbrev THREAD_STATUS_CAUSE : Fld := ⟨.THREAD_STATUS, 31, 28⟩
abbrev THREAD_STATUS_STATE : Fld := ⟨.THREAD_STATUS, 2, 0⟩
abbrev WAIT_MASK_LO : Fld := ⟨.WAIT_MASK_LO, 31, 0⟩
abbrev WAIT_MASK_HI : Fld := ⟨.WAIT_MASK_HI, 31, 0⟩
abbrev THREAD_SLOTS : Fld := ⟨.THREAD_SLOTS, 31, 0⟩
abbrev THREAD_CTRL : Fld := ⟨.THREAD_CTRL, 1, 0⟩
abbrev HELD_MSG : Fld := ⟨.HELD, 28, 16⟩
abbrev HELD_BUF : Fld := ⟨.HELD, 10, 0⟩
abbrev ME_INFO : Fld := ⟨.ME_INFO, 7, 0⟩
abbrev CORE_CFG_ASLEEP : Fld := ⟨.CORE_CFG, 8, 8⟩
abbrev CORE_CFG_IRQ_MASK : Fld := ⟨.CORE_CFG, 0, 0⟩
abbrev DEADLOCKS : Fld := ⟨.DEADLOCKS, 31, 0⟩
abbrev SUP_NOTE_TYPE : Fld := ⟨.SUP_NOTE, 31, 28⟩
abbrev SUP_NOTE_THREAD : Fld := ⟨.SUP_NOTE, 27, 23⟩
abbrev SUP_NOTE_CHANNEL : Fld := ⟨.SUP_NOTE, 15, 8⟩
abbrev SUP_NOTE_DETAIL : Fld := ⟨.SUP_NOTE, 7, 0⟩
abbrev SUP_NOTE_LOST : Fld := ⟨.SUP_NOTE_LOST, 31, 0⟩
abbrev SHARE_REFUSED : Fld := ⟨.SHARE_REFUSED, 31, 0⟩
abbrev POOL_FREE_MSG : Fld := ⟨.POOL_FREE, 28, 16⟩
abbrev POOL_FREE_BUF : Fld := ⟨.POOL_FREE, 10, 0⟩
abbrev CHAN_CFG0_ENABLE : Fld := ⟨.CHAN_CFG0, 31, 31⟩
abbrev CHAN_CFG0_WRITER : Fld := ⟨.CHAN_CFG0, 28, 24⟩
abbrev CHAN_CFG0_READER : Fld := ⟨.CHAN_CFG0, 20, 16⟩
abbrev CHAN_CFG0_DEPTH : Fld := ⟨.CHAN_CFG0, 8, 0⟩
abbrev CHAN_CFG1_WR_EVENT : Fld := ⟨.CHAN_CFG1, 13, 8⟩
abbrev CHAN_CFG1_RD_EVENT : Fld := ⟨.CHAN_CFG1, 5, 0⟩
abbrev CHAN_STATUS_STAGING_HELD : Fld := ⟨.CHAN_STATUS, 31, 31⟩
abbrev CHAN_STATUS_STAGED : Fld := ⟨.CHAN_STATUS, 20, 16⟩
abbrev CHAN_STATUS_QUEUED : Fld := ⟨.CHAN_STATUS, 8, 0⟩
abbrev PORT513_CFG_TX_OWNER : Fld := ⟨.PORT513_CFG, 12, 8⟩
abbrev PORT513_CFG_RX_OWNER : Fld := ⟨.PORT513_CFG, 4, 0⟩
abbrev RX513_HEAD : Fld := ⟨.RX513_HEAD, 11, 0⟩
abbrev RX513_TAIL : Fld := ⟨.RX513_TAIL, 11, 0⟩
abbrev TX513_HEAD : Fld := ⟨.TX513_HEAD, 9, 0⟩
abbrev TX513_TAIL : Fld := ⟨.TX513_TAIL, 9, 0⟩
abbrev TX513_REFUSED : Fld := ⟨.TX513_REFUSED, 31, 0⟩
abbrev DBG_CMD_OP : Fld := ⟨.DBG_CMD, 31, 28⟩
abbrev DBG_CMD_THREAD : Fld := ⟨.DBG_CMD, 4, 0⟩
abbrev DBG_STATUS : Fld := ⟨.DBG_STATUS, 31, 0⟩
abbrev DBG_RESULT : Fld := ⟨.DBG_RESULT, 0, 0⟩
abbrev BP_ADDR : Fld := ⟨.BP_ADDR, 31, 0⟩
abbrev BP_CTRL_EN : Fld := ⟨.BP_CTRL, 31, 31⟩
abbrev BP_CTRL_THREADS : Fld := ⟨.BP_CTRL, 7, 0⟩
abbrev UC_STATUS_GEN : Fld := ⟨.UC_STATUS, 31, 24⟩
abbrev UC_STATUS_HORIZ_BAD : Fld := ⟨.UC_STATUS, 9, 9⟩
abbrev UC_STATUS_BUSY : Fld := ⟨.UC_STATUS, 8, 8⟩
abbrev UC_STATUS_MODE : Fld := ⟨.UC_STATUS, 1, 0⟩
abbrev UC_CMD : Fld := ⟨.UC_CMD, 1, 0⟩
abbrev UC_RESULT : Fld := ⟨.UC_RESULT, 1, 0⟩
abbrev UC_MCHK_STORE : Fld := ⟨.UC_MCHK, 31, 30⟩
abbrev UC_MCHK_THREAD : Fld := ⟨.UC_MCHK, 29, 25⟩
abbrev UC_MCHK_ADDR : Fld := ⟨.UC_MCHK, 13, 0⟩
abbrev MCHK_COUNT : Fld := ⟨.MCHK_COUNT, 31, 0⟩
abbrev UC_SCRUB_FIX : Fld := ⟨.UC_SCRUB_FIX, 31, 0⟩
abbrev UC_RD_ADDR_STORE : Fld := ⟨.UC_RD_ADDR, 31, 30⟩
abbrev UC_RD_ADDR_ADDR : Fld := ⟨.UC_RD_ADDR, 13, 0⟩
abbrev UC_RD_DATA : Fld := ⟨.UC_RD_DATA, 31, 0⟩
abbrev PMC_CTRL : Fld := ⟨.PMC_CTRL, 31, 31⟩
abbrev PMC_OVF : Fld := ⟨.PMC_OVF, 7, 0⟩
abbrev PMC_IRQ_EN : Fld := ⟨.PMC_IRQ_EN, 7, 0⟩
abbrev PMC_CFG_EN : Fld := ⟨.PMC_CFG, 31, 31⟩
abbrev PMC_CFG_THREADS : Fld := ⟨.PMC_CFG, 15, 8⟩
abbrev PMC_CFG_EVENT : Fld := ⟨.PMC_CFG, 7, 0⟩
abbrev PMC_LO : Fld := ⟨.PMC_LO, 31, 0⟩
abbrev PMC_HI : Fld := ⟨.PMC_HI, 15, 0⟩
abbrev SMP_CFG_EN : Fld := ⟨.SMP_CFG, 31, 31⟩
abbrev SMP_CFG_CLASS : Fld := ⟨.SMP_CFG, 30, 28⟩
abbrev SMP_CFG_THREADS : Fld := ⟨.SMP_CFG, 23, 16⟩
abbrev SMP_CFG_PERIOD : Fld := ⟨.SMP_CFG, 15, 0⟩
abbrev SMP_HEAD : Fld := ⟨.SMP_HEAD, 12, 0⟩
abbrev SMP_TAIL : Fld := ⟨.SMP_TAIL, 12, 0⟩
abbrev SMP_THRESH : Fld := ⟨.SMP_THRESH, 12, 0⟩
abbrev SMP_LOST : Fld := ⟨.SMP_LOST, 31, 0⟩
abbrev SAMPLE_ENTRY : Fld := ⟨.SAMPLE_ENTRY, 31, 0⟩
abbrev SRC_CFG_STORM_LIMIT : Fld := ⟨.SRC_CFG, 31, 24⟩
abbrev SRC_CFG_MASK : Fld := ⟨.SRC_CFG, 23, 23⟩
abbrev SRC_CFG_ENABLE : Fld := ⟨.SRC_CFG, 22, 16⟩
abbrev SRC_CFG_TYPE : Fld := ⟨.SRC_CFG, 4, 4⟩
abbrev SRC_CFG_PRIORITY : Fld := ⟨.SRC_CFG, 3, 0⟩
abbrev SRC_STATUS_PENDING : Fld := ⟨.SRC_STATUS, 31, 31⟩
abbrev SRC_STATUS_IN_SERVICE : Fld := ⟨.SRC_STATUS, 30, 30⟩
abbrev SRC_STATUS_AUTO_MASKED : Fld := ⟨.SRC_STATUS, 29, 29⟩
abbrev SRC_STATUS_INPUT : Fld := ⟨.SRC_STATUS, 28, 28⟩
abbrev SRC_STATUS_MERGED : Fld := ⟨.SRC_STATUS, 27, 27⟩
abbrev SRC_STATUS_TARGET : Fld := ⟨.SRC_STATUS, 26, 24⟩
abbrev SRC_STATUS_EPOCH_DELIVERIES : Fld := ⟨.SRC_STATUS, 7, 0⟩
abbrev CLAIM : Fld := ⟨.CLAIM, 8, 0⟩
abbrev COMPLETE : Fld := ⟨.COMPLETE, 8, 0⟩
abbrev TGT_STATUS_REQ : Fld := ⟨.TGT_STATUS, 31, 31⟩
abbrev TGT_STATUS_DELIVERED : Fld := ⟨.TGT_STATUS, 8, 0⟩
abbrev TGT_CLAIMS : Fld := ⟨.TGT_CLAIMS, 31, 0⟩
abbrev SW_RAISE : Fld := ⟨.SW_RAISE, 0, 0⟩
abbrev STORMS : Fld := ⟨.STORMS, 31, 0⟩
abbrev WITHDRAWALS : Fld := ⟨.WITHDRAWALS, 31, 0⟩
abbrev COMPLETE_STRAY : Fld := ⟨.COMPLETE_STRAY, 31, 0⟩
abbrev MASK_WINDOW_DELIVERIES : Fld := ⟨.MASK_WINDOW_DELIVERIES, 31, 0⟩
abbrev INTC_PENDING : Fld := ⟨.INTC_PENDING, 31, 0⟩
abbrev FLT_CFG_TJ_WARN : Fld := ⟨.FLT_CFG, 15, 8⟩
abbrev FLT_CFG_FIRST_MIN : Fld := ⟨.FLT_CFG, 2, 0⟩
abbrev FLT_CTRL_FIRST_CLEAR : Fld := ⟨.FLT_CTRL, 1, 1⟩
abbrev FLT_CTRL_FAULT_N_RELEASE : Fld := ⟨.FLT_CTRL, 0, 0⟩
abbrev FLT_STATUS_TERMINAL : Fld := ⟨.FLT_STATUS, 31, 31⟩
abbrev FLT_STATUS_FAULT_N : Fld := ⟨.FLT_STATUS, 30, 30⟩
abbrev FLT_STATUS_FIRST_VALID : Fld := ⟨.FLT_STATUS, 29, 29⟩
abbrev FLT_STATUS_CHIP_RESET_CAUSE : Fld := ⟨.FLT_STATUS, 28, 28⟩
abbrev FLT_STATUS_CONSEQ_OPEN : Fld := ⟨.FLT_STATUS, 26, 20⟩
abbrev FLT_STATUS_HIST_HEAD : Fld := ⟨.FLT_STATUS, 15, 0⟩
abbrev FIRST : Fld := ⟨.FIRST, 31, 0⟩
abbrev FIRST_FOLLOW : Fld := ⟨.FIRST_FOLLOW, 31, 0⟩
abbrev CONSEQ_COUNT : Fld := ⟨.CONSEQ_COUNT, 31, 0⟩
abbrev FLT_TEMP : Fld := ⟨.FLT_TEMP, 15, 0⟩
abbrev FLT_HIST : Fld := ⟨.FLT_HIST, 31, 0⟩
abbrev TRAP_MAP : Fld := ⟨.TRAP_MAP, 31, 0⟩
abbrev SRC_REACT_WINDOW : Fld := ⟨.SRC_REACT, 31, 16⟩
abbrev SRC_REACT_ESC_LIMIT : Fld := ⟨.SRC_REACT, 15, 12⟩
abbrev SRC_REACT_DEF : Fld := ⟨.SRC_REACT, 11, 11⟩
abbrev SRC_REACT_CLASS : Fld := ⟨.SRC_REACT, 10, 8⟩
abbrev SRC_REACT_REACT : Fld := ⟨.SRC_REACT, 4, 0⟩
abbrev ESC_REACT : Fld := ⟨.ESC_REACT, 4, 0⟩
abbrev FLT_SRC_STATUS : Fld := ⟨.FLT_SRC_STATUS, 3, 0⟩
abbrev SRC_COUNT : Fld := ⟨.SRC_COUNT, 31, 0⟩
abbrev MEM_CFG_RD_THRESHOLD : Fld := ⟨.MEM_CFG, 31, 16⟩
abbrev MEM_CFG_RD_NEIGHBOUR2 : Fld := ⟨.MEM_CFG, 1, 1⟩
abbrev MEM_CFG_PATROL_EN : Fld := ⟨.MEM_CFG, 0, 0⟩
abbrev STACK_TEMP_HOT : Fld := ⟨.STACK_TEMP, 31, 31⟩
abbrev STACK_TEMP_LIMIT : Fld := ⟨.STACK_TEMP, 23, 16⟩
abbrev STACK_TEMP_FILTERED : Fld := ⟨.STACK_TEMP, 15, 8⟩
abbrev STACK_TEMP_RAW : Fld := ⟨.STACK_TEMP, 7, 0⟩
abbrev LAST_UE_ADDR_LO : Fld := ⟨.LAST_UE_ADDR_LO, 31, 0⟩
abbrev LAST_UE_ADDR_HI : Fld := ⟨.LAST_UE_ADDR_HI, 1, 0⟩
abbrev MEM_CE_COUNT : Fld := ⟨.MEM_CE_COUNT, 31, 0⟩
abbrev MEM_UE_COUNT : Fld := ⟨.MEM_UE_COUNT, 31, 0⟩
abbrev CH_CFG_ERR_LIMIT : Fld := ⟨.CH_CFG, 15, 8⟩
abbrev CH_CFG_MODE : Fld := ⟨.CH_CFG, 1, 0⟩
abbrev CH_STATUS_GEN : Fld := ⟨.CH_STATUS, 31, 24⟩
abbrev CH_STATUS_ACTIVE_MODE : Fld := ⟨.CH_STATUS, 19, 16⟩
abbrev CH_STATUS_CATCHUP : Fld := ⟨.CH_STATUS, 15, 15⟩
abbrev CH_STATUS_DEBT_PC1 : Fld := ⟨.CH_STATUS, 14, 10⟩
abbrev CH_STATUS_DEBT_PC0 : Fld := ⟨.CH_STATUS, 9, 5⟩
abbrev CH_STATUS_STATE : Fld := ⟨.CH_STATUS, 2, 0⟩
abbrev CH_CTRL : Fld := ⟨.CH_CTRL, 0, 0⟩
abbrev CH_EVENT_UE : Fld := ⟨.CH_EVENT, 4, 4⟩
abbrev CH_EVENT_FLOOR : Fld := ⟨.CH_EVENT, 3, 3⟩
abbrev CH_EVENT_CATCHUP : Fld := ⟨.CH_EVENT, 2, 2⟩
abbrev CH_EVENT_RETRAIN_END : Fld := ⟨.CH_EVENT, 1, 1⟩
abbrev CH_EVENT_FAIL : Fld := ⟨.CH_EVENT, 0, 0⟩
abbrev CH_EVENT_EN_UE : Fld := ⟨.CH_EVENT_EN, 4, 4⟩
abbrev CH_EVENT_EN_FLOOR : Fld := ⟨.CH_EVENT_EN, 3, 3⟩
abbrev CH_EVENT_EN_CATCHUP : Fld := ⟨.CH_EVENT_EN, 2, 2⟩
abbrev CH_EVENT_EN_RETRAIN_END : Fld := ⟨.CH_EVENT_EN, 1, 1⟩
abbrev CH_EVENT_EN_FAIL : Fld := ⟨.CH_EVENT_EN, 0, 0⟩
abbrev CATCHUP_COUNT : Fld := ⟨.CATCHUP_COUNT, 31, 0⟩
abbrev RD_REFRESHES : Fld := ⟨.RD_REFRESHES, 31, 0⟩
abbrev FLOOR_HITS : Fld := ⟨.FLOOR_HITS, 31, 0⟩
abbrev PATROL_FIX : Fld := ⟨.PATROL_FIX, 31, 0⟩
abbrev MEM_RETRAINS : Fld := ⟨.MEM_RETRAINS, 31, 0⟩
abbrev FAILED_ACCESS : Fld := ⟨.FAILED_ACCESS, 31, 0⟩
abbrev LDR_STATUS_STATE : Fld := ⟨.LDR_STATUS, 31, 28⟩
abbrev LDR_STATUS_SAFE_CAUSE : Fld := ⟨.LDR_STATUS, 27, 24⟩
abbrev LDR_STATUS_UNSIGNED : Fld := ⟨.LDR_STATUS, 23, 23⟩
abbrev LDR_STATUS_PLAN_TIMEOUT : Fld := ⟨.LDR_STATUS, 22, 22⟩
abbrev LDR_STATUS_KEY_BLANK : Fld := ⟨.LDR_STATUS, 21, 21⟩
abbrev LDR_STATUS_SLOT : Fld := ⟨.LDR_STATUS, 20, 20⟩
abbrev LDR_STATUS_LEVEL : Fld := ⟨.LDR_STATUS, 19, 18⟩
abbrev LDR_STATUS_START_CAUSE : Fld := ⟨.LDR_STATUS, 15, 13⟩
abbrev LDR_STATUS_SIDEBAND_UP : Fld := ⟨.LDR_STATUS, 12, 9⟩
abbrev START_US : Fld := ⟨.START_US, 31, 0⟩
abbrev RESTARTS : Fld := ⟨.RESTARTS, 1, 0⟩
abbrev SLOT_RESULT_RESULT : Fld := ⟨.SLOT_RESULT, 31, 28⟩
abbrev SLOT_RESULT_REC_TYPE : Fld := ⟨.SLOT_RESULT, 27, 12⟩
abbrev SLOT_RESULT_REC_INDEX : Fld := ⟨.SLOT_RESULT, 4, 0⟩
abbrev BUILD_ID : Fld := ⟨.BUILD_ID, 31, 0⟩
abbrev ID_INTEGRATOR : Fld := ⟨.ID_INTEGRATOR, 31, 0⟩
abbrev ID_BOARD : Fld := ⟨.ID_BOARD, 31, 0⟩
abbrev ID_VERSION : Fld := ⟨.ID_VERSION, 31, 0⟩
abbrev LDR_NAME : Fld := ⟨.LDR_NAME, 31, 0⟩
abbrev LDR_CTRL_KEY : Fld := ⟨.LDR_CTRL, 31, 16⟩
abbrev LDR_CTRL_RELOAD : Fld := ⟨.LDR_CTRL, 0, 0⟩
abbrev RCV_CMD : Fld := ⟨.RCV_CMD, 2, 0⟩
abbrev RCV_ADDR : Fld := ⟨.RCV_ADDR, 26, 0⟩
abbrev RCV_LEN : Fld := ⟨.RCV_LEN, 12, 0⟩
abbrev RCV_STATUS_BUSY : Fld := ⟨.RCV_STATUS, 31, 31⟩
abbrev RCV_STATUS_RESULT : Fld := ⟨.RCV_STATUS, 30, 28⟩
abbrev RCV_DATA : Fld := ⟨.RCV_DATA, 31, 0⟩
abbrev HIF_CFG : Fld := ⟨.HIF_CFG, 3, 0⟩
abbrev BAR2_BASE : Fld := ⟨.BAR2_BASE, 5, 0⟩
abbrev PF1_WIN : Fld := ⟨.PF1_WIN, 2, 0⟩
abbrev LINK_STATUS_UP : Fld := ⟨.LINK_STATUS, 31, 31⟩
abbrev LINK_STATUS_RATE : Fld := ⟨.LINK_STATUS, 18, 16⟩
abbrev LINK_STATUS_WIDTH : Fld := ⟨.LINK_STATUS, 12, 8⟩
abbrev LINK_STATUS_L1 : Fld := ⟨.LINK_STATUS, 0, 0⟩
abbrev FUNC_STATUS_BME : Fld := ⟨.FUNC_STATUS, 17, 16⟩
abbrev FUNC_STATUS_PF1_D : Fld := ⟨.FUNC_STATUS, 9, 8⟩
abbrev FUNC_STATUS_PF0_D : Fld := ⟨.FUNC_STATUS, 1, 0⟩
abbrev HQ_MAP_FUNC : Fld := ⟨.HQ_MAP, 31, 31⟩
abbrev HQ_MAP_RING : Fld := ⟨.HQ_MAP, 5, 0⟩
abbrev EVT_CFG_FUNC : Fld := ⟨.EVT_CFG, 31, 31⟩
abbrev EVT_CFG_MASK : Fld := ⟨.EVT_CFG, 4, 0⟩
abbrev MBX_CMD_OP : Fld := ⟨.MBX_CMD, 31, 28⟩
abbrev MBX_CMD_LEN : Fld := ⟨.MBX_CMD, 12, 0⟩
abbrev MBX_STATUS_STATE : Fld := ⟨.MBX_STATUS, 31, 30⟩
abbrev MBX_STATUS_RESULT : Fld := ⟨.MBX_STATUS, 27, 24⟩
abbrev MBX_STATUS_REASON : Fld := ⟨.MBX_STATUS, 23, 16⟩
abbrev MBX_STATUS_ENTRY : Fld := ⟨.MBX_STATUS, 15, 0⟩
abbrev MBX_REQ : Fld := ⟨.MBX_REQ, 31, 0⟩
abbrev RX_NOT_ALLOWED : Fld := ⟨.RX_NOT_ALLOWED, 31, 0⟩
abbrev BASE_LO : Fld := ⟨.BASE_LO, 31, 12⟩
abbrev BASE_HI : Fld := ⟨.BASE_HI, 31, 0⟩
abbrev RING_CFG_EN : Fld := ⟨.RING_CFG, 31, 31⟩
abbrev RING_CFG_STOPPED : Fld := ⟨.RING_CFG, 30, 30⟩
abbrev RING_CFG_SIZE_LOG2 : Fld := ⟨.RING_CFG, 20, 16⟩
abbrev RING_CFG_VECTOR : Fld := ⟨.RING_CFG, 6, 0⟩
abbrev RING_MOD_MOD_TIME : Fld := ⟨.RING_MOD, 26, 16⟩
abbrev RING_MOD_MOD_COUNT : Fld := ⟨.RING_MOD, 7, 0⟩
abbrev RING_HEAD : Fld := ⟨.RING_HEAD, 15, 0⟩
abbrev RING_TAIL : Fld := ⟨.RING_TAIL, 15, 0⟩
abbrev ERR_CAUSE : Fld := ⟨.ERR_CAUSE, 2, 0⟩
abbrev RING_FRAMES : Fld := ⟨.RING_FRAMES, 63, 0⟩
abbrev RING_DROP : Fld := ⟨.RING_DROP, 31, 0⟩

end Sys2Proof.Machine.F
end

