-- ==== Sys2Proof/Machine/Store.lean ====
section
/-! DEFINITION. Sparse tables: lists of (key, value) pairs in one canonical form, keys strictly rising and no entry
equal to the table's default value. Every memory, every register cell and every big table of State is one. -/

namespace Sys2Proof.Machine

/-- A sparse table from numbers to values. An unlisted key holds the table's default value. -/
abbrev Tab (α : Type) := List (Nat × α)

/-- The value at a key: the first entry with the key, or the default `d`. -/
def tget {α : Type} (d : α) : Tab α → Nat → α
  | [], _ => d
  | (k, v) :: t, j => if k = j then v else tget d t j

/-- Put a value at a key, in key order, replacing an entry with the key. -/
def tins {α : Type} : Tab α → Nat → α → Tab α
  | [], j, v => [(j, v)]
  | (k, w) :: t, j, v =>
    if j < k then (j, v) :: (k, w) :: t
    else if j = k then (j, v) :: t
    else (k, w) :: tins t j v

/-- Remove the entry of a key. -/
def tdel {α : Type} (t : Tab α) (j : Nat) : Tab α := t.filter (fun e => e.1 != j)

/-- Write a value: an entry equal to the default is removed, so that equal tables are equal lists. -/
def tset {α : Type} [DecidableEq α] (d : α) (t : Tab α) (j : Nat) (v : α) : Tab α :=
  if v = d then tdel t j else tins t j v

/-- Whether a key is listed. -/
def thas {α : Type} (t : Tab α) (j : Nat) : Bool := t.any (fun e => e.1 == j)

/-- The keys rise strictly from above `lo`. -/
def tsortedFrom {α : Type} : Nat → Tab α → Bool
  | _, [] => true
  | lo, (k, _) :: t => decide (lo ≤ k) && tsortedFrom (k + 1) t

/-- The canonical form: keys strictly rising, no entry equal to the default. -/
def twf {α : Type} [DecidableEq α] (d : α) (t : Tab α) : Bool :=
  tsortedFrom 0 t && t.all (fun e => decide (e.2 ≠ d))

/-- Read `n` consecutive bytes of a byte memory whose unlisted bytes read 0. -/
def readBytes (m : Tab Byte) (a : Nat) : Nat → List Byte
  | 0 => []
  | n + 1 => tget 0 m a :: readBytes m (a + 1) n

/-- Write consecutive bytes. -/
def writeBytes (m : Tab Byte) (a : Nat) : List Byte → Tab Byte
  | [] => m
  | b :: bs => writeBytes (tset 0 m a b) (a + 1) bs

end Sys2Proof.Machine
end

