-- ==== Sys2Proof/Machine/Types.lean ====
section
/-! DEFINITION. The data types of the pieces of State. -/

namespace Sys2Proof.Machine

/-- One TCAM row (04_associative_search.md R86). -/
structure TcamRow where
  value : BitVec 160 := 0
  mask : BitVec 160 := 0
  valid : Bool := false
  prio : Nat := 0
  action : Word := 0
deriving DecidableEq, Repr

/-- One slot of an exact-match table (05_exact_match_learning.md R116, Table 5.2). -/
structure EmEntry where
  key : BitVec 128 := 0
  action : BitVec 48 := 0
  valid : Bool := false
  static : Bool := false
  hit : Bool := false
  lock : Nat := 0
  flap : Nat := 0
  wideHead : Bool := false
  wideTail : Bool := false
deriving DecidableEq, Repr

/-- How a command of a window ended; a window of the hub (RW, SC) holds it from the command's effect until its BUSY clears. -/
structure CmdEnd where
  result : Nat := 0
  /-- MOVES, HIT and RESULT_ADDR, where the command writes them -/
  moves : Option Nat := none
  hit : Option Bool := none
  addr : Option Nat := none
deriving DecidableEq, Repr

/-- A command of TCAM window `j` of die `d` in progress (04 R101), with the operands that its CMD write took: OP and PART, ADDR and DST_ADDR,
and the 42 DATA words. -/
structure TcamCmd where
  d : Nat
  j : Nat
  op : Nat
  part : Nat
  addr : Nat
  dst : Nat
  data : List Nat
deriving DecidableEq, Repr

/-- A command of exact-match window `j` of die `d` in progress (05 R138), with its operands: OP, TABLE, ADDR and the 10 DATA words. -/
structure EmCmd where
  d : Nat
  j : Nat
  op : Nat
  table : Nat
  addr : Nat
  data : List Nat
deriving DecidableEq, Repr

/-- A learn request (05 R128): the station (VID, SA) on a port. -/
structure LearnReq where
  vid : Nat
  sa : Nat
  port : Nat
  ingress : Bool
deriving DecidableEq, Repr

/-- The destination that the port die decides for a frame (05 R122, Table 7.2). -/
inductive Dest where
  /-- no forwarding copy (row 1 of Table 6.1) -/
  | none
  | port (p : Nat)
  | group (g : Nat)
  /-- a route to a next hop of KIND 0, and the port it gives (06 R150) -/
  | nhPort (nh p : Nat)
  /-- a route to a next hop of KIND 1, and the group it gives -/
  | nhGroup (nh g : Nat)
  /-- trapped: the trap code and whether the copy goes to port 512 (else 513) -/
  | trap (code : Nat) (host : Bool)
  /-- the far lookup is pending (DEST_KIND 5) -/
  | far
deriving DecidableEq, Repr

/-- What the port die's pipeline found for a frame: the metadata of Table 7.2. -/
structure Cls where
  handle : Nat := 0xFFFF
  vid : Nat := 0
  cls : Nat := 0
  queue : Nat := 0
  colour : Nat := 0
  dest : Dest := .none
  learn : Bool := false
  /-- trap code of a copy to port 513, 0 none -/
  trap513 : Nat := 0
  /-- trap code of a copy to port 512, 0 none -/
  trap512 : Nat := 0
  seq : Option Nat := Option.none
  ct : Bool := false
  ect : Bool := false
  da : Nat := 0
  sa : Nat := 0
  /-- the parse ran through an IPv4 node, an IPv6 node, with the destinations (05 R122, 04 R96) -/
  via4 : Bool := false
  via6 : Bool := false
  dst4 : Nat := 0
  dst6 : Nat := 0
deriving DecidableEq, Repr

/-- Where a received or injected frame stands. -/
inductive FrameStage where
  /-- being received, its pipeline pass not begun -/
  | receiving
  /-- waiting on the hub for a far lookup (05 R126) -/
  | farWait
  /-- classified, waiting for the hub input stage -/
  | classified
  /-- its copies are made -/
  | buffered
  /-- discarded before any copy was made; kept until its tail is in -/
  | dropped
deriving DecidableEq, Repr

/-- A frame inside the part. -/
structure Frame where
  /-- ingress port; 512 for a frame of a host ring, 513 for one of the ME transmit ring -/
  port : Nat
  /-- the bytes received so far, from the destination address through the FCS -/
  bytes : List Byte := []
  /-- the length L, once the tail is in -/
  len : Option Nat := none
  stage : FrameStage := .receiving
  /-- the frame was found bad (bad tail, 07 R180) -/
  bad : Bool := false
  /-- received as preemptable fragments (02 R47) -/
  fragments : Bool := false
  /-- ingress MAC milestone on the working clock -/
  tIn : Nat := 0
  /-- classification-done milestone, 32-bit ns (01 R30, 09 R242) -/
  tClass : Nat := 0
  /-- buffer-write milestone, 32-bit ns -/
  tBuf : Nat := 0
  cls : Cls := {}
  /-- an ingress learn to commit when the tail proves good (05 R128) -/
  learn : Option LearnReq := none
  /-- dies whose first copy of this frame has left: it made the egress learn, or forwent it (05 R128) -/
  learnDies : List Nat := []
  /-- cells charged per copy, C of 07 R181 -/
  charge : Nat := 0
  /-- the charge is provisional: the length was not known -/
  provisional : Bool := false
  /-- charged to PFC headroom (07 R189) -/
  headroom : Bool := false
  /-- its cells count in ING_CELLS of this pair and have not been released -/
  pair : Option Nat := none
  /-- its cells count in TRANSIT_USED -/
  transit : Bool := false
  /-- its last cell is written -/
  lastCell : Bool := false
  /-- a frame of a host ring or of the ME transmit ring: the edit program of its copy to a port (18 R457) -/
  inject : Option Nat := none
  /-- the decision of sequence recovery at the first dequeue (08 R221): some true passes, some false discards -/
  recovery : Option Bool := none
  /-- the sequence number every copy carries after the first dequeue (08 R220) -/
  seqOut : Option Nat := none
  /-- bytes charged to the frame's meter while its length was not known (08 R227) -/
  metered : Option (Nat × Nat × Bool × Bool) := none
  /-- cells taken from the free list, and whether they have gone back -/
  cells : Nat := 0
  freed : Bool := false
  /-- the sketched frame's pipeline (die × 2 + pipeline) and class key, until its length is added (11 R294) -/
  sketch : Option (Nat × Nat) := Option.none
  /-- how the frame crossed the junction (07 R175): coded with a context (true) or installing one (false), and its index -/
  coding : Option (Bool × Nat) := Option.none
  /-- frame bytes handed to the junction in flits, and frame bytes that the hub has received (07 R172, R176) -/
  handed : Nat := 0
  crossed : Nat := 0
  /-- the flit that ends the frame on the junction has been handed over -/
  ended : Bool := false
  /-- the bank of its first cell (07 R166) -/
  bank : Nat := 0
  /-- policing discarded the frame (08 R224) -/
  refused : Bool := false
deriving DecidableEq, Repr

/-- One copy of a frame: the attributes its descriptor holds (07 R167). -/
structure Copy where
  id : Nat
  frame : Nat
  /-- logical egress port 0 to 513 -/
  port : Nat
  /-- global queue number (07 R182) -/
  q : Nat
  edit : Nat := 0
  nh : Option Nat := none
  vid : Nat := 0
  cls : Nat := 0
  colour : Nat := 0
  trap : Nat := 0
  /-- mirror session, the trailer's PORT and DIR (06 R160, R161) -/
  mirror : Option (Nat × Nat × Bool) := none
  /-- cells charged to the queue -/
  charge : Nat := 0
  /-- charged to headroom rather than to the queue (07 R189) -/
  headroom : Bool := false
  /-- deadline on the working clock (08 R212) -/
  deadline : Option Int := none
  /-- wheel slot the copy is filed in (08 R213) -/
  slot : Option Nat := none
  /-- eligible for dequeue (01 R33) -/
  eligible : Bool := false
  /-- late and sent marked (08 R215) -/
  late : Bool := false
  ecn : Bool := false
  /-- may make an egress learn -/
  learn : Bool := false
  /-- generation of the egress die at enqueue (15 R396) -/
  gen : Nat := 0
  /-- the sequence number the copy carries after dequeue -/
  seq : Option Nat := none
  /-- cut-through eligible (07 R179), and dequeued before the last cell was written -/
  ctEl : Bool := false
  ct : Bool := false
  /-- a refusal of the copy has been counted in NO_DESC or REFUSED_DT (07 R183) -/
  counted : Bool := false
  /-- timestamp mode, domain, sequenceId and reference of a transmit record of port 513 (09 R251) -/
  ts : Option (Nat × Nat × Nat × Nat) := none
  /-- projected start, and dequeue milestone in 32-bit ns (01 R30) -/
  tStart : Nat := 0
  tDeq : Nat := 0
deriving DecidableEq, Repr

/-- Where a dequeued Ethernet copy stands on its egress die. -/
inductive TxStage where
  /-- crossing the junction, or waiting on the die -/
  | waiting
  /-- on the wire -/
  | sending
  /-- preempted, its remainder held (08 R210) -/
  | held
deriving DecidableEq, Repr

/-- A copy on its egress port die, with its edited bytes once the rewrite engine has run. -/
structure TxCopy where
  copy : Copy
  stage : TxStage := .waiting
  bytes : List Byte := []
  /-- the edit program has run; the body bytes of the frame it took in -/
  edited : Bool := false
  taken : Nat := 0
  /-- the copy leaves with a stomped FCS -/
  stomped : Bool := false
  /-- L' at dequeue (08 R201), and whether the copy still holds its descriptor (07 R167) -/
  projLen : Nat := 0
  desc : Bool := false
  coding : Option (Bool × Nat) := none
  /-- fragments sent so far, the bytes they carried, and when the fragment in flight began (02 R49) -/
  frags : Nat := 0
  sent : Nat := 0
  fragAt : Nat := 0
  /-- frame bytes handed to the junction in flits, and whether the flit that ends the copy is among them (07 R172) -/
  handed : Nat := 0
  ended : Bool := false
  /-- frame bytes that had crossed when a retrain cut the copy (07 R171) -/
  cut : Option Nat := none
  /-- egress MAC milestone in steps of 0.25 ns, once taken (01 R30) -/
  tEgress : Option Nat := none
deriving DecidableEq, Repr

/-- A flit of a Ralhafold link (07 R169, Table 7.1), with the number of the frame (die to hub) or copy (hub to die) whose bytes it
carries, which the model keeps beside it. `kind`: 0 IDLE, 1 START, 2 CSTART, 3 DATA. -/
structure Flit where
  owner : Nat
  kind : Nat
  channel : Nat
  fin : Bool := false
  aux : Nat := 0
  payload : List Byte := []
deriving DecidableEq, Repr

/-- One direction of a Ralhafold link (07 R169 to R171): the flits that wait at the sending interface in the order they were handed
over, the replay buffer with a flit that was sent and has not been accepted, the sequence numbers of the two sides, and the ACK (context,
GEN) and INVAL messages of its receiver that are on their way back on the sideband (R177). -/
structure LinkDir where
  queue : List Flit := []
  replay : Option Flit := none
  sendSeq : Nat := 0
  recvSeq : Nat := 0
  acks : List (Nat × Nat) := []
  invals : List Nat := []
deriving DecidableEq, Repr

/-- A register access to a PD_d window that waits for the end of a retrain (07 R171): requester, offset, and the word of a write. -/
structure SideAccess where
  req : Requester
  off : Nat
  word : Option Nat := none
deriving DecidableEq, Repr

/-- A copy to port 512 on one of the 64 staging slots (18 R454): its ring, the descriptors it takes, its bytes and whether
it is stomped. -/
structure HostRx where
  copy : Copy
  ring : Nat
  need : Nat
  bytes : List Byte
  err : Bool := false
  /-- ingress port, handle and ingress milestone, for the write-back -/
  inPort : Nat := 0
  handle : Nat := 0xFFFF
  tIn : Nat := 0
deriving DecidableEq, Repr

/-- The state of a port's transmitter (02 R54, R58). -/
inductive TxPin where
  /-- electrical idle -/
  | idle
  /-- transmitting: frames, idle symbols or remote fault -/
  | on
  /-- completing the frame in flight before electrical idle -/
  | draining
deriving DecidableEq, Repr

/-- State of an Ethernet port that no register shows. -/
structure PortSt where
  tx : TxPin := .idle
  /-- the SGMII control word reports link up, full duplex, 1000 Mb/s (02 R39) -/
  sgmiiUp : Bool := false
  /-- local fault ordered sets are being received (02 R506) -/
  lfSets : Bool := false
  /-- the quad transmit PLL of the lane is not locked (02 R506, 20 R497) -/
  pllLost : Bool := false
  /-- verify frames sent and not answered (02 R48) -/
  verifySent : Nat := 0
  /-- MAC control frames that admission asked for, oldest first: priority mask and quanta (02 R46) -/
  ctrl : List (Nat × Nat) := []
  /-- the down event has been raised and the hub has not yet begun the flush -/
  downPending : Bool := false
  /-- FREE_p of 08 R199, on the working clock, and the copy whose projected end it is -/
  free : Nat := 0
  freeBy : Option Nat := none
  /-- the Clause 37 abilities advertised: full duplex, and symmetric PAUSE (02 R39) -/
  advert : Option (Bool × Bool) := none
  /-- the PCS lane found on each physical lane of a MODE 6 port (02 R41) -/
  laneOrder : List Nat := []
  /-- the hub holds the port up: set when the link comes up, cleared when the hub receives the port-down event (07 R193) -/
  hubUp : Bool := false
deriving DecidableEq, Repr

/-- State of a stream's recovery function and latent error detection (08 R221, R223). -/
structure RecSt where
  history : Nat := 0
  resetPending : Bool := true
  /-- GLB.CYCLE_COUNT of the last pass -/
  lastPass : Nat := 0
  ledPassed : Nat := 0
  ledDiscarded : Nat := 0
deriving DecidableEq, Repr

/-- The two buckets of a meter, in units of 1/24,000,000 byte, and the cycle of their last refill (08 R226). -/
structure MeterSt where
  tc : Nat := 0
  tp : Nat := 0
  since : Nat := 0
deriving DecidableEq, Repr

/-- A shaper (08 R217): what is missing from BURST, in units of 1/24,000,000 byte, and the cycle it was reckoned at, so that
a shaper starts at BURST; `wait`: on the wheel, or on the overflow list, with its ready slot (08 R218). -/
structure ShaperSt where
  spent : Nat := 0
  since : Nat := 0
  wait : Option Nat := none
  overflow : Bool := false
deriving DecidableEq, Repr

/-- The running list of a port gate or of a stream gate (08 R205, R208, R225). -/
structure GateRun where
  /-- start T_c on the working clock, ns -/
  base : Nat := 0
  cycle : Nat := 0
  first : Nat := 0
  len : Nat := 0
deriving DecidableEq, Repr

/-- State of a stream gate beyond its table words: the running list, the pending change with its time, the replaced
list with the time of the change, and the state the event list shows. -/
structure StreamGateSt where
  oper : Option GateRun := none
  pending : Option GateRun := none
  old : Option (GateRun × Nat) := none
  hadList : Bool := false
  openNow : Bool := false
deriving DecidableEq, Repr

/-- One header context of a Ralhafold link end (07 R174 to R177): 0 INVALID, 1 PENDING, 2 VALID. -/
structure Ctx where
  state : Nat := 0
  mask : Nat := 0
  content : List Byte := []
deriving DecidableEq, Repr

/-- A stream declaration of record 0x0080 (10_planner.md R260, Table 10.1). -/
structure Decl where
  sched : Bool := false
  ident : Bool := false
  cls : Nat := 0
  queue : Nat := 0
  /-- EGRESS and ALT_EGRESS words -/
  egress : Nat := 0
  altEgress : Nat := 0
  inPort : Nat := 0
  maxLen : Nat := 0
  period : Nat := 0
  phase : Nat := 0
  jitter : Nat := 0
  frames : Nat := 0
  /-- the identification entries, when IDENT = 1: die and key -/
  idents : List (Nat × Nat) := []
deriving DecidableEq, Repr

/-- A window reserved in the list of a port (10 R270): its start on [0, C) and its length in ps, its queue, and lo of its group. -/
structure Resv where
  start : Nat
  len : Nat
  queue : Nat
  lo : Int
deriving DecidableEq, Repr

/-- What a plan says of one stream with SCHED = 1 (10 R268 to R271): its egress in force in the form of STREAM_EGRESS, whether that is
the alternate, the reason of Table 10.4, its bound in ps, its phase window in ns, and its windows (port, offset in ps). -/
structure PlanStream where
  handle : Nat
  egress : Nat := 0
  detoured : Bool := false
  reason : Nat := 0
  bound : Nat := 0
  phaseLo : Int := 0
  phaseHi : Int := 0
  wins : List (Nat × Nat) := []
deriving DecidableEq, Repr

/-- A plan (10 R270 to R272): its streams in handle order, its reservations and its lists by port. -/
structure Plan where
  id : Nat := 0
  /-- the trigger of its journal records: a bit of Table 10.5 -/
  trigger : Nat := 0xFF
  /-- the triggers that a second abort sets again -/
  triggers : Nat := 0
  /-- a plan of detours (R279), which no full synthesis made -/
  isDetour : Bool := false
  /-- the down ports of a detour, and the ports of a quarantine that waits for approval (R287) -/
  downs : List Nat := []
  quar : List Nat := []
  streams : List PlanStream := []
  resv : Tab (List Resv) := []
  lists : Tab (List Nat) := []
deriving DecidableEq, Repr

/-- A commit between its prepare and its apply phase (10 R283, R284): T_c in ns, the ports changed, the streams it blocked, PARTIAL and
FOREIGN_LIST. -/
structure Commit where
  plan : Plan := {}
  tc : Nat := 0
  ports : List Nat := []
  blocked : List Nat := []
  /-- the ports whose change request was this commit's -/
  mine : List Nat := []
  isPartial : Bool := false
  foreign : Bool := false
deriving DecidableEq, Repr

/-- A fault event stamped and held until its commit (15 R387). -/
structure FaultEv where
  src : Nat
  /-- die index 0 to 3, 4 for the hub -/
  die : Nat
  detail : Nat
  /-- working-clock stamp -/
  stamp : Nat
  /-- raised by an ME thread (Table 15.4, sources 7 and 8) -/
  me : Bool := false
deriving DecidableEq, Repr

/-- An entry of a die's transmit timestamp FIFO (09 R252): die-local port, domain, sequenceId, time. -/
structure TxStamp where
  port : Nat
  domain : Nat
  seqId : Nat
  time : Nat
deriving DecidableEq, Repr

/-- A SYNC_OUT schedule in force (09 R258): START on the working clock in units of 0.25 ns, PERIOD and WIDTH in ns. -/
structure Sched where
  start : Nat := 0
  period : Nat := 0
  width : Nat := 0
deriving DecidableEq, Repr

/-- The time base beyond its registers (09_time_base.md). -/
structure TimeSt where
  /-- RATE_ADJ in force (R237) -/
  rate : Int := 0
  /-- the RATE_ADJ write that waits for its apply instant, in units of the working clock (R245) -/
  ratePend : Option (Int × Nat) := none
  /-- the STEP_CTRL command that waits: a step by an amount, or a set to a value (true); and its apply instant -/
  stepPend : Option (Bool × Int × Nat) := none
  /-- a step fell in the running epoch (10 R266) -/
  stepped : Bool := false
  /-- good beacons in a row of each die (R241) -/
  goodBeacons : Tab Nat := []
  /-- PPS_IN: the time of the last rising edge -/
  ppsLast : Option Nat := none
  /-- SYNC_IN: the last accepted edge, and the FIFO of times with their edge (true rising) -/
  syncLast : Tab (Option Nat) := []
  syncFifo : Tab (List (Nat × Bool)) := []
  /-- transmit timestamp FIFO of each die (R252) -/
  txFifo : Tab (List TxStamp) := []
  /-- levels of PPS_OUT and SYNC_OUT_n -/
  ppsOut : Bool := false
  syncOut : Tab Bool := []
  /-- the level of SYNC_OUT_n before START of a single edge (R258) -/
  syncBefore : Tab Bool := []
  /-- SYNC_OUT schedules in force (R258) -/
  syncSched : Tab Sched := []
  /-- a follower's offset from the master, in 2^-32 ns (R240) -/
  follow : Tab Int := []
  /-- RATE_ADJ values with the core cycle from which each was in force, newest first (R253) -/
  rateHist : List (Nat × Int) := []
deriving DecidableEq, Repr

/-- One ME channel beyond its registers (12_management_engine.md R314 to R317). -/
structure Chan where
  /-- staging words, by word number, and which of them have been written, as bits -/
  staging : Tab Nat := []
  written : Nat := 0
  /-- the thread that holds the staged words -/
  holder : Option Nat := none
  /-- queued messages, oldest first: the thread whose share is charged, and the words -/
  queue : List (Nat × List Nat) := []
deriving DecidableEq, Repr

/-- The management engine beyond its registers (12_management_engine.md, 13_me_instruction_set.md). Keys: thread t × 32 + g for
general registers; core × 4 + store for the microcode stores. -/
structure MeSt where
  /-- g1 to g31 of each thread, 64 bits -/
  gpr : Tab Nat := []
  /-- program counters, byte addresses -/
  pc : Tab Nat := []
  /-- temporary registers T0 to T3 of each thread, key t × 4 + i (R348) -/
  temps : Tab Nat := []
  /-- the mc at which a running one-shot timer expires (R310) -/
  timer : Tab (Option Nat) := []
  /-- destination register of the WFE a thread waits in -/
  waitRd : Tab Nat := []
  /-- the state that a thread in HALT would otherwise hold (R325) -/
  haltFrom : Tab Nat := []
  /-- threads resumed at a breakpoint, which they pass once -/
  bpPass : Tab Bool := []
  /-- mc at which a thread last issued, round-robin pointers by core × 4 + priority, words issued in the running epoch (R304, R305) -/
  lastIssue : Tab Nat := []
  rr : Tab Nat := []
  slots : Tab Nat := []
  /-- the mc up to which the slots of each core have been filled, and the words each thread has issued beyond its commands (R304) -/
  issueMc : Tab Nat := []
  ahead : Tab Nat := []
  /-- the opcode of an instruction begun that does not yet retire: DEVR, DEVW on a full queue, DEVSYNC; and a HALT that waits for the thread's
  next instruction boundary (R325) -/
  held : Tab Nat := []
  haltReq : Tab Bool := []
  /-- the path on which an instruction that waits to retire was dispatched: 0 two-level, 1 fall-back (R362) -/
  heldPath : Tab Nat := []
  /-- the supervisor queue, oldest first (R320) -/
  notes : List Nat := []
  /-- the all-quiet detector has acted since a thread last issued (R324) -/
  quietActed : Bool := false
  chans : Tab Chan := []
  /-- holder of each scratch buffer (R313) -/
  bufHolder : Tab (Option Nat) := []
  /-- the DEVR a thread waits on: rd and address; posted writes of each core: thread, address, value (R343) -/
  devr : Tab (Option (Nat × Nat)) := []
  devw : Tab (List (Nat × Nat × Nat)) := []
  /-- microcode stores, stored bits with parity, key (core × 4 + store) × 16,384 + address (R347) -/
  uc : Tab Nat := []
  /-- the command running on a core: 1 RELOAD, 2 SCRUB; and the next word of a scrub (R355, R358) -/
  ucCmd : Tab Nat := []
  scrubAt : Tab Nat := []
  /-- precise sampling: retirements counted, records due, and the sample buffers, key core × 4,096 + entry (R362, R363) -/
  smpCount : Tab Nat := []
  smpDue : Tab (List (List Nat)) := []
  smpBuf : Tab (List Nat) := []
deriving DecidableEq, Repr

/-- A request waiting at a DRAM channel (16_dram.md R405, R406): service class, HBM3 address, the cycle it arrived. -/
structure DramReq where
  cls : Nat
  addr : Nat
  write : Bool
  since : Nat
  /-- bytes that it reads or writes -/
  len : Nat := 8
  /-- what stood in the words that a write covers in part, by address: it is done as a read-modify-write of them (R402) -/
  old : List (Nat × Byte) := []
  /-- younger requests to the open row that have passed it (R406) -/
  passed : Nat := 0
deriving DecidableEq, Repr

/-- The DRAM controllers beyond their registers (16_dram.md). Bank keys: (channel × 2 + pseudo-channel) × 2^16 + bank. -/
structure DramSt where
  /-- queued requests of each channel, in the order they arrived -/
  queue : Tab (List DramReq) := []
  /-- the bank the BANK_ROTATE pick visited last, pseudo-channel × 2^16 + bank + 1 (0: none yet) -/
  bankPtr : Tab Nat := []
  /-- the open row of each bank -/
  openRow : Tab (Option Nat) := []
  /-- activate table of each bank: (row, count) by entry index, and its FLOOR (R412) -/
  act : Tab (List (Nat × Nat)) := []
  floor : Tab Nat := []
  /-- RD_THRESHOLD in force on each channel (Table 16.4) -/
  thresh : Tab Nat := []
  /-- the burst the patrol of each channel reads next (R408) -/
  patrol : Tab Nat := []
  /-- cycles of the recent uncorrectable errors of each channel, newest first (R415) -/
  ueTimes : Tab (List Nat) := []
deriving DecidableEq, Repr

/-- The interrupt controller beyond its registers (14_interrupts.md). -/
structure IntcSt where
  /-- rotation pointer of each source, 6 after reset (R369) -/
  rot : Tab Nat := []
  /-- the window of a write that set MASK: the cycle of the write, and whether its one delivery has been made (R373) -/
  maskWin : Tab (Option (Nat × Bool)) := []
deriving DecidableEq, Repr

/-- A frame read from a transmit ring (18 R457): the ring, the addresses of its descriptors, the frame, and whether a copy was refused or
the frame is bad. -/
structure HostTx where
  ring : Nat
  descs : List Nat
  frame : Nat
  refused : Bool := false
  bad : Bool := false
deriving DecidableEq, Repr

/-- The host interface beyond its registers (18_host_interface.md). -/
structure HifSt where
  /-- MSI-X table: address low, address high and data of vector v of function f, key (f × 128 + v) × 4 + word -/
  msixWord : Tab Nat := []
  /-- vectors whose mask bit is clear, key f × 128 + v: every vector is masked at reset -/
  msixUnmasked : Tab Bool := []
  /-- pending bits (R463) -/
  msixPend : Tab Bool := []
  /-- Function Mask of MSI-X Message Control -/
  fnMask : Tab Bool := []
  /-- MSI-X writes sent, by key f × 128 + v (the model's count of what leaves on the link) -/
  msixSent : Tab Nat := []
  /-- messages that wait for the link to return to L0 (R464, R465): a vector's key, or 256 for PM_PME -/
  tlpWait : List Nat := []
  /-- PME_En and PME_Status of each function, and PM_PME messages sent (R465) -/
  pmeEn : Tab Bool := []
  pmeStatus : Tab Bool := []
  pmeSent : Nat := 0
  /-- ASPM L1 enabled in Link Control (R464) -/
  aspmL1 : Bool := false
  /-- PENDING_COUNT of each ring, and rings whose moderation timer runs (R462) -/
  ringPend : Tab Nat := []
  ringTimer : Tab Bool := []
  /-- rings disabled whose begun writes have not completed (R459) -/
  stopping : Tab Bool := []
  /-- events lost on an event ring since its last OVERFLOW record, and PHASE inverted (R460) -/
  evtLost : Tab Nat := []
  phase : Tab Bool := []
  /-- records written to the event rings and not yet freed, oldest first (R460) -/
  evtRec : Tab (List (List Byte)) := []
  /-- the transmit ring served last (R457) -/
  txLast : Nat := 63
  /-- frames read from a transmit ring and not yet written back (R457) -/
  txDone : List HostTx := []
  /-- a function level reset has begun and not completed (R466) -/
  flr : Tab Bool := []
  /-- length in bytes of the request that waits, and whether PF0 submitted it (R467) -/
  mbxLen : Nat := 0
  mbxHost : Bool := false
  /-- channels 224 to 255 on which an extension thread has submitted an entry, in the order of submission (R470) -/
  mbxChan : List Nat := []
  /-- AER status bits of each function, by the order of Table 18.7 (R471) -/
  aer : Tab Nat := []
  /-- writes to host memory of the last DMA of the device, in order: address and bytes (the model's record of what leaves on the link) -/
  hostWrites : List (Nat × List Byte) := []
  /-- writes to host memory that wait for the link to return to L0, in issue order (R452, R464) -/
  dmaWait : List (Nat × List Byte) := []
  /-- completion of the host's last configuration or BAR2 request, or of a memory request since then that was refused: 0 successful, 1 Unsupported Request, 2 Configuration Request Retry Status; and whether it
  carried the poisoned bit (R426, R451) -/
  cpl : Nat := 0
  poisoned : Bool := false
  /-- both functions have answered since the last FUSE_LOAD: LOAD has been reached (17 R426) -/
  enumerated : Bool := false
  /-- base address registers 0, 2 and 4 of each function, key f × 8 + n (R448); Max_Payload_Size and Max_Read_Request_Size codes, key f × 2
  and f × 2 + 1 (R446); MSI-X Enable -/
  bars : Tab Nat := []
  sizes : Tab Nat := []
  msixEnable : Tab Bool := []
  /-- memory space enable of each function -/
  memEnable : Tab Bool := []
deriving DecidableEq, Repr

/-- A recovery mailbox command that runs (17 R442): its OP, and RCV_ADDR and RCV_LEN as it took them. -/
structure RcvRun where
  op : Nat
  addr : Nat
  len : Nat
deriving DecidableEq, Repr

/-- Supplies, reset, flash, fuses, loader, JTAG and SMBus beyond their registers (17_startup_image.md, 19_register_map.md, 20_electrical_package.md). -/
structure LdrSt where
  /-- rails that are not good (R419), in the order of Table 20.1 -/
  railBad : Tab Bool := []
  /-- samples in a row of a good rail that lay outside its range (R419) -/
  railOut : Tab Nat := []
  /-- fewer than 2 ms have passed since the last rail became good (R420) -/
  settling : Bool := false
  /-- RESET_N is recognised low (R420) -/
  resetLow : Bool := false
  /-- the flash of R427: 128 MiB; an unlisted byte reads 0xFF, erased -/
  flash : Tab Byte := []
  /-- pages and sectors whose content is undefined since a PROGRAM or ERASE was cut off there: address and length (R443) -/
  cut : List (Nat × Nat) := []
  /-- fuse words (Table 19.6) and the RESULT of the command that runs (R484) -/
  otp : Tab Nat := []
  otpRun : Option Nat := none
  /-- the slot the loader is trying, 0 A and 1 B -/
  trying : Nat := 0
  /-- the record that was refused: type and index; a rollback is under way (R424, R439) -/
  refused : Option (Nat × Nat) := none
  /-- HBM3 base training has ended (R414) -/
  trained : Bool := false
  /-- HBM3 final calibration has ended (R414) -/
  calibrated : Bool := false
  rcvRun : Option RcvRun := none
  /-- the RESULT held until RCV_COMMAND_END, with what CHECK found (R442) -/
  rcvResult : Nat := 0
  /-- the rails are down: POWER_OFF or RESET_HELD (R422) -/
  held : Bool := false
  /-- a rail has stopped being good since the last start, so that the next start counts as power-up (R420) -/
  powerUp : Bool := false
  /-- an unlock attempt is being compared (R483) -/
  jtagTry : Bool := false
  /-- the register read that SMBus has started, and its data once ready (R476) -/
  smbRead : Option Nat := none
  smbData : Option Nat := none
  /-- pins that a TAP instruction controls, and the level it gives them (R494) -/
  scan : List (Pin × Bool) := []
deriving DecidableEq, Repr

/-- Telemetry and the sketches beyond the registers (11_telemetry.md). -/
structure TelSt where
  /-- live sketch counters, key (pipeline × 4 + row) × 4,096 + index, and the bank latched at the last boundary -/
  sketch : Tab Nat := []
  shadow : Tab Nat := []
  /-- candidate keys of each pipeline in entry order, and those latched with their estimates (R296) -/
  cand : Tab (List Nat) := []
  candLatched : Tab (List (Nat × Nat)) := []
  /-- the block being built, as its sweep has read it (R298) -/
  building : Option (List Byte) := none
  /-- the next block carries FLAGS.GAP (R299) -/
  gap : Bool := false
  /-- the working clock at the start of the running epoch -/
  epochStart : Nat := 0
deriving DecidableEq, Repr

/-- The big tables: rows of TCAM and exact-match memory, rewrite and stream tables, gate lists, with their shadows. -/
structure Tables where
  /-- TCAM rows, key die × 32,768 + address -/
  tcam : Tab TcamRow := []
  /-- the TCAM shadow in DRAM (04 R105) -/
  tcamShadow : Tab TcamRow := []
  /-- near table and lay-by slots, key die × 2^20 + address (05 R116) -/
  near : Tab EmEntry := []
  /-- rewrite tables: programs, next hops, groups, copy entries (06 R145, R150, R151), words -/
  rw : Tab Nat := []
  rwShadow : Tab Nat := []
  /-- stream tables 0 to 6 of the SC window (08 R235), words -/
  sc : Tab Nat := []
  scShadow : Tab Nat := []
  /-- gate list words, key (port × 2 + physical list) × 1,024 + entry (08 R204) -/
  gcl : Tab Nat := []
  gclShadow : Tab Nat := []
  /-- commands of the TCAM and exact-match windows that wait or run, in the order of their CMD writes (04 R101, 05 R138) -/
  tcamRun : List TcamCmd := []
  emRun : List EmCmd := []
  /-- commands of the hub's windows that have taken effect and not yet ended, key: window -/
  rwEnd : Tab (Option CmdEnd) := []
  scEnd : Tab (Option CmdEnd) := []
  /-- next row of each die's scrubber (04 R105) -/
  scrubAt : Tab Nat := []
deriving DecidableEq, Repr

/-- The hub and port-die data path. -/
structure DataPath where
  frames : Tab Frame := []
  /-- copies in the queues, in the order they were enqueued -/
  copies : List Copy := []
  /-- copies under the multicast hold, in arrival order (06 R148, R149) -/
  held : List Copy := []
  /-- dequeued Ethernet copies not yet transmitted -/
  tx : List TxCopy := []
  /-- overdue deadline copies by id, in the order they were moved (08 R213) -/
  overdue : List Nat := []
  nextCopy : Nat := 0
  ports : Tab PortSt := []
  /-- remaining pause of queue 8 p + n, in quanta; 0 not paused (02 R45) -/
  pause : Tab Nat := []
  /-- pending far requests in order: die and frame (05 R126) -/
  farPending : List (Nat × Nat) := []
  /-- far lookups issued and not yet returned: die and frame -/
  farIssued : List (Nat × Nat) := []
  /-- the die after which the far round robin goes on -/
  farLast : Nat := 3
  /-- learn requests waiting, with their die, in commit order (05 R131) -/
  learnQ : List (Nat × LearnReq) := []
  /-- learn tokens taken from the 64 of a die (05 R131) -/
  learnSpent : Tab Nat := []
  /-- sending and receiving header contexts, key (die × 2 + direction) × 4,096 + index -/
  sendCtx : Tab Ctx := []
  recvCtx : Tab Ctx := []
  /-- the links, key die × 2 + direction (07 R169) -/
  links : Tab LinkDir := []
  /-- frames whose decoded header has reached the hub and whose input stage has not run, in order of arrival (07 R170) -/
  arrived : List Nat := []
  /-- register accesses that wait for a link's retrain, oldest first (07 R171) -/
  sideWait : List SideAccess := []
  /-- bank in which the frame started last began (07 R166) -/
  lastBank : Nat := 31
  /-- cycle in which XOFF of a pair was last set, and in which a PFC request was last made for it (07 R191) -/
  xoffAt : Tab (Option Nat) := []
  pfcAt : Tab (Option Nat) := []
  /-- pairs whose threshold update waits for the next cycle (07 R191) -/
  pfcDue : List Nat := []
  /-- failures in a row of the flit being replayed, key die × 2 + direction (07 R171) -/
  flitFails : Tab Nat := []
  /-- dies whose link is retraining, and those whose retrain failed (01 R21) -/
  retraining : Tab Bool := []
  linkDead : Tab Bool := []
  /-- a frame selected since the session was enabled, modulo SAMPLE_N (06 R160) -/
  mirrorCount : Tab Nat := []
  /-- DEFICIT of each queue and group pointer of each port (08 R198) -/
  deficit : Tab Nat := []
  dwrrPtr : Tab Nat := []
  shapers : Tab ShaperSt := []
  /-- present slot of the shaper timing wheel (08 R218) -/
  shaperPos : Nat := 0
  /-- which physical list of a port is the oper list (08 R207) -/
  operList : Tab Nat := []
  /-- when the pending port list change falls due and its accepted parameters (08 R207, R208) -/
  gclPending : Tab (Option GateRun) := []
  gclOper : Tab (Option GateRun) := []
  /-- holds sent to a port: the time at which each takes effect, on the working clock (08 R210, R211) -/
  holdAt : Tab (Option Nat) := []
  recov : Tab RecSt := []
  meters : Tab MeterSt := []
  streamGates : Tab StreamGateSt := []
  /-- depth samples of the running epoch per queue: sum and maximum (08 R230) -/
  depthSum : Tab Nat := []
  depthMax : Tab Nat := []
  /-- source 135 was raised in this epoch (08 R215) -/
  lateRaised : Bool := false
  /-- copies to port 512 that hold one of the 64 staging slots (18 R454) -/
  hostRx : List HostRx := []
  /-- the count of free values drawn so far: what makes each of them its own -/
  fresh : Nat := 0
  /-- epoch cell of the gPTP frames a port received in the epoch (09 R250) -/
  ptpCount : Tab Nat := []
deriving DecidableEq, Repr

end Sys2Proof.Machine
end

