-- ==== Sys2Proof/Machine/State.lean ====
section
/-! DEFINITION. The state of the block, its reasons to stop, and the state right after reset. -/

namespace Sys2Proof.Machine

/-- The fault unit beyond its registers (15_faults.md). -/
structure FaultSt where
  /-- events stamped and not yet committed (R387) -/
  events : List FaultEv := []
  /-- CYCLE_COUNT of the last non-consequential commit, key source × 8 + die (R392) -/
  lastCommit : Tab (Option Nat) := []
  /-- reset units in reset: 0 ME, 1 HIF, 2 + c MEM_c, 34 + d PD_d (R393) -/
  unitReset : Tab Bool := []
  /-- open consequential windows, by the same numbers -/
  windowOpen : Tab Bool := []
  /-- a sensor's last reading was above 125 °C (R386) -/
  tjOver : Tab Bool := []
  /-- a sensor stands above TJ_WARN, with its hysteresis (Table 15.7) -/
  tjWarm : Tab Bool := []
  /-- failed returns of a die since its last good return (R397) -/
  dieFails : Tab Nat := []
  /-- dies whose reset has ended and whose tables are rebuilt, with the verify to come (05 R140) -/
  rebuilt : Tab Bool := []
deriving DecidableEq, Repr

/-- The Planner and the start image's declarations beyond the registers (10_planner.md). -/
structure PlnSt where
  decls : Tab (Option Decl) := []
  /-- words 0 to 39 of record 0x0090, defaults applied (R263) -/
  policy : Tab Nat := []
  /-- least and greatest observed phase of the running epoch in ns, per handle (R265) -/
  phase : Tab (Option (Int × Int)) := []
  /-- the epochs of OBS_EPOCHS in which a stream had a phase, newest first: epoch, least, greatest (R265, R268) -/
  obs : Tab (List (Nat × Int × Int)) := []
  /-- consecutive epochs with a phase outside the plan's window (Table 10.5, bit 4) -/
  outside : Tab Nat := []
  /-- port-down events the Planner has not yet seen: the port, whether the link was declared down, and the cycle (R279, R281) -/
  downs : List (Nat × Bool × Nat) := []
  /-- tokens taken from the 64 of port 513's trap bucket (R290) -/
  trapSpent : Nat := 0
  /-- the plan in force, the plan that awaits approval, and the commit that is prepared -/
  inForce : Option Plan := none
  waiting : Option Plan := none
  commit : Option Commit := none
  /-- a plan whose commit has aborted once and is tried again (R284) -/
  retry : Option Plan := none
  /-- triggers of the synthesis that runs, and the epoch of the last full synthesis or abort (R282, R284) -/
  running : Nat := 0
  lastFull : Option Nat := none
  /-- ports whose detour is pending, and ports that have been up for RETURN_HOLD (R279, R280) -/
  downPorts : List Nat := []
  returnOk : List Nat := []
  /-- cycles of the link-declared-down events of a port, and quarantines that fell due while frozen (R281, R286) -/
  flaps : Tab (List Nat) := []
  quarDue : List Nat := []
  /-- quarantines that ended while frozen (R281, R286) -/
  quarEnd : List Nat := []
  /-- image values of Q_MIN (R275) -/
  qminImage : Tab Nat := []
  /-- mean link delay of a port in ns as last measured, and the cable delay last used for its headroom (R274) -/
  linkDelay : Tab (Option Nat) := []
  usedDelay : Tab (Option Nat) := []
  /-- flows above HH_THRESHOLD: die, class key, consecutive epochs; and the limit rules: die, key, consecutive epochs below half (R278) -/
  hhHot : List (Nat × Nat × Nat) := []
  hhRules : List (Nat × Nat × Nat) := []
  /-- the running BUF_PERIOD (R276): REFUSED_DT at its start, greatest Q_DEPTH_MAX, least free shared pool, bytes on the wire at its start
  by port, and its epochs -/
  bufRefused : Tab Nat := []
  bufDepth : Tab Nat := []
  bufFree : Option Nat := none
  bufOctets : Tab Nat := []
  bufEpochs : Nat := 0
  /-- consecutive epochs above 85 % and below 70 % (R289) -/
  loadHigh : Nat := 0
  loadLow : Nat := 0
  /-- ports of PLAN_PORTS whose list another requester has changed since the last commit (R285) -/
  foreign : List Nat := []
  /-- steps of the working clock seen, for the SURVEY record -/
  steps : Nat := 0
  /-- handle that each requester has written to SS_INDEX, by requester code (Table 10.12) -/
  ssIndex : Tab Nat := []
deriving DecidableEq, Repr

/-- The whole machine. -/
structure State where
  /-- commands waiting, first in, first out -/
  pending : List Instr := []
  /-- the register cells: one cell per field and index, unlisted cells at their reset value -/
  regs : Tab Nat := []
  /-- the working clock in units of 2^-32 ns (09 R237) -/
  work : Nat := 0
  tb : Tables := {}
  dp : DataPath := {}
  flt : FaultSt := {}
  pln : PlnSt := {}
  time : TimeSt := {}
  tel : TelSt := {}
  /-- HBM3 contents; unlisted bytes read 0 -/
  hbm : Tab Byte := []
  /-- the ME SRAM of 4 MiB -/
  sram : Tab Byte := []
  intc : IntcSt := {}
  me : MeSt := {}
  dram : DramSt := {}
  hif : HifSt := {}
  ldr : LdrSt := {}
  /-- pending-event register of each ME thread (12 R303) -/
  events : Tab Nat := []
  /-- the latch of each requester (00 R14): the counter or timestamp it holds and its upper words -/
  latch : Tab (Option (Nat × List Nat)) := []
  /-- the value that the last read of each requester returned on its bus (the model's own field) -/
  readOut : Tab Nat := []
deriving DecidableEq, Repr

/-- Why a step stops. No command of this block faults: an error is an effect on State (status bits, fault events), so that no
constructor is needed; the one below keeps the type inhabited and nothing raises it. Safe. -/
inductive Fault where
  | none
deriving DecidableEq, Repr

/-- Why a command has no meaning. -/
inductive Refusal where
  /-- the command is not modelled yet: raised by a refused arm of `exec` only. Safe. -/
  | notModelled (mnemonic : String)
deriving DecidableEq, Repr

/-- The block right after reset (17_startup_image.md R421, R422): in FUSE_LOAD, the first state after RESET_HELD, every register at its
reset value, every rail good, RESET_N high, nothing in any memory, no command waiting. -/
def State.reset : State := {}

end Sys2Proof.Machine
end

