-- ==== Sys2Proof/Machine/Ops.lean ====
section
/-! DEFINITION. The named operations every command is written with: register cells, counters, time, interrupt sources,
fault events, ME events and privilege violations. -/

namespace Sys2Proof.Machine

/-- The number of a register in the cell keys. -/
def Reg.code (r : Reg) : Nat := r.ctorIdx

/-- The key of a register cell: the field that begins at bit `lo` of register `r` at index `i`. -/
def cellKey (r : Reg) (lo i : Nat) : Nat := (i * 512 + r.code) * 64 + lo

/-- Level sources of Table 14.3 (14_interrupts.md R378). -/
def levelSources : List Nat := [68, 70, 97, 128, 224, 225]

/-- Hub and host sources of Table 14.3 below 256. -/
def srcExistsLow (n : Nat) : Bool :=
  (decide (1 ≤ n) && decide (n ≤ 6)) || n == 10 || n == 16 || (decide (32 ≤ n) && decide (n ≤ 40)) ||
  (decide (64 ≤ n) && decide (n ≤ 70)) || (decide (96 ≤ n) && decide (n ≤ 109)) || (decide (128 ≤ n) && decide (n ≤ 146)) ||
  (decide (192 ≤ n) && decide (n ≤ 225))

/-- The interrupt sources of Table 14.3; every other number is reserved (14 R378). -/
def srcExists (n : Nat) : Bool :=
  srcExistsLow n || n == 384 ||
  (decide (256 ≤ n) && decide (n < 384) && [0, 1, 2, 4, 5, 6, 8, 9, 12, 16].contains ((n - 256) % 32))

/-- The class of a fault source, by Table 15.1; 0 for a reserved one. -/
def faultClass : Nat → Nat
  | 1 | 2 | 3 | 4 => 5
  | 5 | 22 => 4
  | 17 | 18 | 21 | 26 | 67 | 74 => 3
  | 6 | 9 | 12 | 13 | 16 | 19 | 20 | 25 | 28 | 32 | 65 | 66 | 71 | 72 | 73 => 2
  | 10 | 11 | 23 | 24 | 64 | 69 | 70 => 1
  | _ => 0

/-- The fault sources of Table 15.1. -/
def faultExists (n : Nat) : Bool :=
  [1, 2, 3, 4, 5, 6, 7, 8, 9, 10, 11, 12, 13, 16, 17, 18, 19, 20, 21, 22, 23, 24, 25, 26, 28, 29, 32, 64, 65, 66, 67,
   69, 70, 71, 72, 73, 74].contains n

/-- The default reaction bits of a fault source, Table 15.1: 1 INT, 2 TRAP, 4 BLOCK_RESET, 8 CHIP_RESET, 16 FAULT_N. -/
def faultDefault : Nat → Nat
  | 5 | 22 => 24
  | 6 | 9 | 10 | 11 | 12 | 13 | 16 | 18 | 19 | 20 | 25 | 28 | 32 | 65 | 66 | 71 | 72 | 73 => 1
  | 17 | 21 => 5
  | 26 => 7
  | 67 | 74 => 3
  | _ => 0

/-- The default of ESC_REACT[c] (15 R392). -/
def escDefault : Nat → Nat
  | 1 | 2 => 1
  | 3 => 3
  | 4 => 24
  | _ => 0

/-- The reset value of a register cell: the table of the registers, and the few fields whose value depends on the index. -/
def cellReset (r : Reg) (lo i : Nat) : Nat :=
  match r with
  | .SRC_CFG => if srcExists i then (if lo = 24 then 64 else if lo = 4 then (if levelSources.contains i then 1 else 0) else 0) else 0
  | .SRC_STATUS => if lo = 24 ∧ srcExists i = true then 7 else 0
  | .SRC_REACT =>
    if faultExists i then
      (if lo = 16 then 1000 else if lo = 12 then 3 else if lo = 8 then faultClass i else if lo = 0 then faultDefault i else 0)
    else 0
  | .ESC_REACT => if lo = 0 then escDefault i else 0
  | .HQ_MAP => if lo = 0 then i % 64 else 0
  | _ => tget 0 (regResets r) lo

/-- The value of a register cell. -/
def State.cell (s : State) (r : Reg) (lo i : Nat) : Nat := tget (cellReset r lo i) s.regs (cellKey r lo i)

/-- Write a register cell. -/
def State.setCell (s : State) (r : Reg) (lo i v : Nat) : State :=
  { s with regs := tset (cellReset r lo i) s.regs (cellKey r lo i) v }

/-- The value of a register field at an index. -/
def State.fld (s : State) (f : Fld) (i : Nat) : Nat := s.cell f.reg f.lo i

/-- Clear a field at every index: for a field whose reset value is 0. -/
def State.clearFld (s : State) (f : Fld) : State :=
  { s with regs := s.regs.filter (fun e => !(e.1 / 64 % 512 == f.reg.code && e.1 % 64 == f.lo)) }

/-- Write a register field, keeping the bits that fit it. -/
def State.setFld (s : State) (f : Fld) (i v : Nat) : State := s.setCell f.reg f.lo i (v % 2 ^ f.width)

/-- Set several fields, in order. -/
def State.setFlds (s : State) (l : List (Fld × Nat × Nat)) : State := l.foldl (fun s x => s.setFld x.1 x.2.1 x.2.2) s

/-- Add to a saturating counter (most 32-bit counters). -/
def State.addSat (s : State) (f : Fld) (i n : Nat) : State := s.setFld f i (min (s.fld f i + n) (2 ^ f.width - 1))

/-- Increment a saturating counter. -/
def State.bump (s : State) (f : Fld) (i : Nat) : State := s.addSat f i 1

/-- Add to a counter that wraps (the 64-bit counters). -/
def State.addWrap (s : State) (f : Fld) (i n : Nat) : State := s.setFld f i (s.fld f i + n)

/-- Lower a gauge. -/
def State.lower (s : State) (f : Fld) (i n : Nat) : State := s.setFld f i (s.fld f i - n)

/-- The hub core cycle count (01 R28). -/
def State.cycle (s : State) : Nat := s.fld F.CYCLE_COUNT 0

/-- One nanosecond of the working clock. -/
def nsUnit : Nat := 2 ^ 32

/-- The working clock in whole nanoseconds. -/
def State.workNs (s : State) : Nat := s.work / nsUnit

/-- The nanosecond part of a working-clock time. -/
def timeNs (t : Nat) : Nat := t / nsUnit % 1000000000

/-- The seconds part of a working-clock time, 48 bits. -/
def timeSec (t : Nat) : Nat := t / nsUnit / 1000000000 % 2 ^ 48

/-- The two fraction bits of a working-clock time (Table 9.1). -/
def timeFrac (t : Nat) : Nat := t / 2 ^ 30 % 4

/-- The NS word of Table 9.1: nanoseconds in [31:2], fraction in [1:0]. -/
def timeNsWord (t : Nat) : Nat := timeNs t * 4 + timeFrac t

/-- A working-clock time truncated to 32 bits of whole nanoseconds (09 R242). -/
def timeNs32 (t : Nat) : Nat := t / nsUnit % 2 ^ 32

/-- The working clock as the follower of port die `d` keeps it (09 R240). -/
def followerTime (d : Nat) (s : State) : Nat := (Int.ofNat s.work + tget 0 s.time.follow d).toNat

/-- A requester's latch takes the upper words of a counter or timestamp (00 R14). -/
def setLatch (q : Requester) (key : Nat) (words : List Nat) (s : State) : State :=
  { s with latch := tset none s.latch q.code (some (key, words)) }

/-- The upper word `i` of a counter or timestamp as a requester reads it (00 R14): latched, or else the live one. -/
def latched (q : Requester) (key i live : Nat) (s : State) : Nat :=
  match tget none s.latch q.code with
  | some (k, ws) => if k = key then ws.getD i 0 else live
  | none => live

/-- A read returns a value to its requester. -/
def setOut (q : Requester) (v : Nat) (s : State) : State := { s with readOut := tset 0 s.readOut q.code v }

/-- Ethernet port index of die-local port k: registers of the port block are indexed by the global port (01 R22). -/
def dieOf (p : Nat) : Nat := p / 128

/-- The pipeline of a port (01 R22). -/
def pipeOf (p : Nat) : Nat := p % 128 / 64

/-- Port die d is enabled by the start image. -/
def State.dieEnabled (s : State) (d : Nat) : Bool := (s.fld F.DIE_STATUS_ENABLED 0).testBit d

/-- Lanes p + 1 to p + 3 of a joined group name no port (01 R23). -/
def joinedLane (p : Nat) (s : State) : Bool := p % 4 != 0 && s.fld F.PORT_CFG_MODE (p / 4 * 4) == 6

/-- A port that a table may name: 0 to 513, not on a disabled die, not a lane of a joined group (01 R17, R23, 06 R145). -/
def portNamed (p : Nat) (s : State) : Bool :=
  decide (p ≤ 513) && (decide (512 ≤ p) || (s.dieEnabled (dieOf p) && !joinedLane p s))

/-- A port number that no image record may name: one of a disabled die, or of a lane of a joined group (01 R17, R23). -/
def portBarred (p : Nat) (s : State) : Bool := decide (p < 512) && !portNamed p s

/-- Port die d is held in die reset (01 R18). -/
def State.dieInReset (s : State) (d : Nat) : Bool := (s.fld F.DIE_STATUS_IN_RESET 0).testBit d

/-- Port die d is enabled and out of reset: its registers answer and its ports may carry traffic. -/
def State.dieUp (s : State) (d : Nat) : Bool := s.dieEnabled d && !s.dieInReset d

/-- The part is Terminal (15 R386). -/
def State.terminal (s : State) : Bool := s.fld F.FLT_STATUS_TERMINAL 0 == 1

/-- The device is in RUN (17 R422) and not Terminal: receivers and transmitters work (17 R425, 15 R386). -/
def State.runs (s : State) : Bool := s.fld F.LDR_STATUS_STATE 0 == 8 && !s.terminal

/-- The value of register `r` at an index as a word: its fields in their places. -/
def regWord (r : Reg) (i : Nat) (s : State) : Nat := (regInfo r).fields.foldl (fun v f => v + s.cell r f.lo i * 2 ^ f.lo) 0

/-- Set or clear one bit of a number. -/
def setBit (v b : Nat) (on : Bool) : Nat := if on then v ||| 2 ^ b else v - (v &&& 2 ^ b)

/-- Make an interrupt source pending as an edge (14 R367). -/
def raiseSrc (n : Nat) (s : State) : State :=
  if srcExists n = false then s
  else if s.fld F.SRC_STATUS_PENDING n = 1 then s.setFld F.SRC_STATUS_MERGED n 1
  else s.setFld F.SRC_STATUS_PENDING n 1

/-- The condition of a level source changes (14 R367): pending while it holds, unless in service; when it ends before a
claim the source stops being pending, and a delivery not yet claimed goes with it. -/
def setLevel (n : Nat) (on : Bool) (s : State) : State :=
  if s.fld F.SRC_STATUS_INPUT n = (if on then 1 else 0) then s else
  let s := s.setFld F.SRC_STATUS_INPUT n (if on then 1 else 0)
  if s.fld F.SRC_STATUS_IN_SERVICE n = 1 then s
  else if on then s.setFld F.SRC_STATUS_PENDING n 1
  else s.setFlds [(F.SRC_STATUS_PENDING, n, 0), (F.SRC_STATUS_TARGET, n, 7)]

/-- Stamp a fault event with the working clock of its die; the fault unit commits it later (15 R380, R387). A source that is not
die-scoped carries die 4. -/
def raiseFault (src die detail : Nat) (s : State) : State :=
  let e : FaultEv := { src := src, die := die, detail := detail % 65536, stamp := if die < 4 then followerTime die s else s.work }
  { s with flt := { s.flt with events := s.flt.events ++ [e] } }

/-- The same for an event that an ME thread raised (Table 15.4). -/
def raiseFaultMe (src die detail : Nat) (s : State) : State :=
  let e : FaultEv := { src := src, die := die, detail := detail % 65536, stamp := s.work, me := true }
  { s with flt := { s.flt with events := s.flt.events ++ [e] } }

/-- Make an event pending in an ME thread (12 R307). -/
def raiseEvent (t bit : Nat) (s : State) : State :=
  { s with events := tset 0 s.events t (setBit (tget 0 s.events t) bit true) }

/-- The register block of an offset, as a bit of an access mask: GLB, INTC, FLT, TIME, LDR, HIF, ME, PLN, BUF, SCH,
STR, MEM, TEL, PD_0 to PD_3 (Table 12.8, Table 19.1). -/
def blockOf (o : Nat) : Nat :=
  if o < 0x100000 then 0 else if o < 0x140000 then 1 else if o < 0x180000 then 2 else if o < 0x1C0000 then 3
  else if o < 0x200000 then 4 else if o < 0x400000 then 5 else if o < 0x800000 then 6 else if o < 0xA00000 then 7
  else if o < 0xC00000 then 8 else if o < 0xE00000 then 9 else if o < 0x1000000 then 10 else if o < 0x1400000 then 11
  else if o < 0x2000000 then 12 else 13 + (o - 0x2000000) / 0x800000

/-- A requester holds the privileged view of a block (00 R10, 12 R327). -/
def privileged (q : Requester) (blk : Nat) (s : State) : Bool :=
  match q with
  | .pf0 => true
  | .thread t => if t = 0 then true else (s.fld F.ACCESS_MASK_BLOCKS t).testBit blk
  | .jtag => s.fld F.JTAG_STATUS_UNLOCKED 0 == 1
  | .pf1 => false
  | .smbus => false

/-! ### Performance counters (13 R360, R361) -/

/-- A counter of a core counts `n` events of its kind: it wraps modulo 2^48, sets its sticky bit and may raise source 39. -/
def pmcAdd (c k n : Nat) (s : State) : State :=
  let i := c * 8 + k
  let v := s.fld F.PMC_LO i + s.fld F.PMC_HI i * 2 ^ 32 + n
  let s1 := s.setFlds [(F.PMC_LO, i, v), (F.PMC_HI, i, v / 2 ^ 32)]
  if v < 2 ^ 48 then s1
  else
    let s2 := s1.setFld F.PMC_OVF c (setBit (s1.fld F.PMC_OVF c) k true)
    if (s.fld F.PMC_IRQ_EN c).testBit k then raiseSrc 39 s2 else s2

/-- Counter `k` of core `c` is enabled for an event: of thread number `i` within the core, or of the core (none). -/
def pmcCounts (c k ev : Nat) (i : Option Nat) (s : State) : Bool :=
  s.fld F.PMC_CTRL c == 1 && s.fld F.PMC_CFG_EN (c * 8 + k) == 1 && s.fld F.PMC_CFG_EVENT (c * 8 + k) == ev &&
  (match i with | some j => (s.fld F.PMC_CFG_THREADS (c * 8 + k)).testBit j | none => true)

/-- `n` events of number `ev` of thread `t`. -/
def pmcThread (t ev n : Nat) (s : State) : State :=
  let c := t / 8
  if n = 0 ∨ s.fld F.PMC_CTRL c = 0 then s
  else (List.range 8).foldl (fun s k => if pmcCounts c k ev (some (t % 8)) s then pmcAdd c k n s else s) s

/-- `n` events of number `ev` of core `c`. -/
def pmcCore (c ev n : Nat) (s : State) : State :=
  if n = 0 ∨ s.fld F.PMC_CTRL c = 0 then s
  else (List.range 8).foldl (fun s k => if pmcCounts c k ev none s then pmcAdd c k n s else s) s

/-- Record a privilege violation (00 R11, 19 R482) with its Note (fault source 7, detail the block bit). -/
def privViolation (q : Requester) (write : Bool) (off : Nat) (s : State) : State :=
  (match q with | .thread _ => raiseFaultMe | _ => raiseFault) 7 4 (blockOf off) <|
    ((match q with | .thread t => pmcThread t 27 1 s | _ => s).bump F.PRIV_VIOL_COUNT 0).setFlds
      [(F.PRIV_VIOL_LAST_VALID, 0, 1), (F.PRIV_VIOL_LAST_WRITE, 0, if write then 1 else 0),
       (F.PRIV_VIOL_LAST_REQUESTER, 0, q.code), (F.PRIV_VIOL_ADDR, 0, off)]

/-- The offset of an index within the dimensions of a place (row-major). -/
def dimOffset : List (Nat × Nat) → Nat → Nat
  | [], _ => 0
  | (_, st) :: ds, i =>
    let inner := (ds.map Prod.fst).foldl (· * ·) 1
    (i / inner) * st + dimOffset ds (i % inner)

/-- How many elements a place holds. -/
def Place.size (p : Place) : Nat := (p.dims.map Prod.fst).foldl (· * ·) 1

/-- The offset of register `r` at index `i`. -/
def regOffset (r : Reg) (i : Nat) : Nat :=
  match (regInfo r).places.find? (fun p => decide (p.idx0 ≤ i) && decide (i < p.idx0 + p.size)) with
  | some p => p.base + dimOffset p.dims (i - p.idx0)
  | none => 0

/-- A register write that only the privileged view may make: discarded while the part is Terminal (15 R386) and in the
window of a die that is disabled or in reset (01 R17, R18); a privilege violation in the observer view (00 R11). -/
def gated (q : Requester) (off : Nat) (act : State → State) (s : State) : State :=
  if s.terminal then s
  else if 13 ≤ blockOf off ∧ s.dieUp (blockOf off - 13) = false then s
  else if privileged q (blockOf off) s then act s
  else privViolation q true off s

end Sys2Proof.Machine
end

