-- ==== Sys2Proof/Machine/Intr.lean ====
section
/-! DEFINITION. The interrupt controller and the MSI-X messages (14_interrupts.md; 18_host_interface.md R462 to R465). -/

namespace Sys2Proof.Machine

/-! ### MSI-X -/

/-- Replace the host-interface part. -/
def State.withHif (s : State) (h : HifSt) : State := { s with hif := h }

/-- Bus Master Enable of function `f`. -/
def bme (f : Nat) (s : State) : Bool := (s.fld F.FUNC_STATUS_BME 0).testBit f

/-- The power state of function `f`: 0 D0, 3 D3hot. -/
def dState (f : Nat) (s : State) : Nat := if f = 0 then s.fld F.FUNC_STATUS_PF0_D 0 else s.fld F.FUNC_STATUS_PF1_D 0

/-- Vectors of a function's table (Table 18.1). -/
def vectorCount (f : Nat) : Nat := if f = 0 then 128 else 16

/-- A vector may be sent: neither it nor its function masked, and Bus Master Enable set (R463). MSI-X Enable = 0 masks the function. -/
def canSignal (f v : Nat) (s : State) : Bool :=
  tget false s.hif.msixEnable f && tget false s.hif.msixUnmasked (f * 128 + v) && !tget false s.hif.fnMask f && bme f s

/-- The place of PM_PME among the waiting messages, beyond every vector's key. -/
def pmeKey : Nat := 256

/-- A message leaves, or waits for the link to return from L1 (R464): the MSI-X write of a vector's key, or PM_PME. -/
def sendTlp (k : Nat) (s : State) : State :=
  if s.fld F.LINK_STATUS_L1 0 = 1 then s.withHif { s.hif with tlpWait := s.hif.tlpWait ++ [k] }
  else if k = pmeKey then s.withHif { s.hif with pmeSent := s.hif.pmeSent + 1 }
  else s.withHif { s.hif with msixSent := tset 0 s.hif.msixSent k (tget 0 s.hif.msixSent k + 1) }

/-- The MSI-X write of a vector, by key. -/
def sendMsix (k : Nat) (s : State) : State := sendTlp k s

/-- A PM_PME message is sent, leaving L1 first (R465). -/
def sendPme (s : State) : State := sendTlp pmeKey s

/-- The device is in SAFE (17 R441). -/
def State.safe (s : State) : Bool := s.fld F.LDR_STATUS_STATE 0 == 9

/-- MSIX_SIGNAL (R463, R465): vector `v` of function `f` is sent, or its pending bit sets; in D3hot with PME_En it also sets
PME_Status and PM_PME is sent. In SAFE there is no MSI-X (17 R441). -/
def signalVector (f v : Nat) (s : State) : State :=
  if vectorCount f ≤ v ∨ s.safe = true then s
  else
    let k := f * 128 + v
    let pend (s : State) : State := s.withHif { s.hif with msixPend := tset false s.hif.msixPend k true }
    if dState f s ≠ 0 then
      let s1 := pend s
      if tget false s1.hif.pmeEn f then
        if tget false s1.hif.pmeStatus f then s1
        else sendPme (s1.withHif { s1.hif with pmeStatus := tset false s1.hif.pmeStatus f true })
      else s1
    else if canSignal f v s then sendMsix k s
    else pend s

/-- A pending vector is sent once it can be (R463). -/
def flushVector (f v : Nat) (s : State) : State :=
  let k := f * 128 + v
  if tget false s.hif.msixPend k = true ∧ dState f s = 0 ∧ canSignal f v s = true then
    sendMsix k (s.withHif { s.hif with msixPend := tset false s.hif.msixPend k false })
  else s

/-- Every pending vector of a function that can be sent is sent. -/
def flushVectors (f : Nat) (s : State) : State := (List.range (vectorCount f)).foldl (fun s v => flushVector f v s) s

/-! ### Delivery -/

/-- The sources of the controller. -/
def allSources : List Nat := (List.range 385).filter srcExists

/-- Source `n` is delivered to target `j` and not yet claimed. -/
def deliveredTo (j n : Nat) (s : State) : Bool :=
  s.fld F.SRC_STATUS_TARGET n == j && s.fld F.SRC_STATUS_IN_SERVICE n == 0

/-- The request line of target `j` (R370). -/
def requestLine (j : Nat) (s : State) : Bool := allSources.any (fun n => deliveredTo j n s)

/-- The core is asleep: none of its threads is in RUN (12 R306). -/
def coreAsleep (c : Nat) (s : State) : Bool := (List.range 8).all (fun k => s.fld F.THREAD_STATUS_STATE (c * 8 + k) != 1)

/-- What an asserted request does at its target (R370): INTERRUPT in the threads of a core (12 R308, R309), MSI-X vector 0 of a
function; the INT_N pin follows the line. -/
def assertRequest (j : Nat) (s : State) : State :=
  if j < 4 then
    if s.fld F.CORE_CFG_IRQ_MASK j = 0 ∨ coreAsleep j s = true then
      (List.range 8).foldl (fun s k => raiseEvent (j * 8 + k) 2 s) s
    else s
  else if j = 4 then signalVector 0 0 s
  else if j = 5 then signalVector 1 0 s
  else s

/-- The first target after `rot` that `enable` names (R369). -/
def nextTarget (enable rot : Nat) : Nat → Nat
  | 0 => 7
  | n + 1 => let j := (rot + 1) % 7; if enable.testBit j then j else nextTarget enable j n

/-- A level source whose condition is a register's value is sampled: PPS_IN_LOST and the pool alarm. -/
def sampleLevel (n : Nat) (s : State) : State :=
  if n = 97 then setLevel 97 (s.fld F.TIME_STATUS_PPS_IN_LOST 0 == 1) s
  else s

/-- The source may be delivered (R369, R376); a masked one only by the one decision of its mask window (R373). -/
def deliverable (n : Nat) (s : State) : Bool :=
  srcExists n && s.fld F.SRC_STATUS_PENDING n == 1 && s.fld F.SRC_STATUS_IN_SERVICE n == 0 &&
  s.fld F.SRC_STATUS_TARGET n == 7 && s.fld F.SRC_STATUS_AUTO_MASKED n == 0 && s.fld F.SRC_CFG_ENABLE n != 0 &&
  (s.fld F.SRC_CFG_MASK n == 0 ||
   (match tget none s.intc.maskWin n with | some (t, used) => !used && decide (s.cycle < t + 48) | none => false))

/-- DELIVERY (R369, R376): the source goes to the next enabled target after ROT, or the storm guard masks it. -/
def deliver (n : Nat) (s : State) : State :=
  if deliverable n s = false then s
  else if s.fld F.SRC_CFG_STORM_LIMIT n ≤ s.fld F.SRC_STATUS_EPOCH_DELIVERIES n then
    let s1 := raiseSrc 16 ((s.setFld F.SRC_STATUS_AUTO_MASKED n 1).bump F.STORMS 0)
    (if 32 ≤ n ∧ n < 64 then raiseFaultMe 8 4 n s1 else raiseFault 8 4 n s1)
  else
    let j := nextTarget (s.fld F.SRC_CFG_ENABLE n) (tget 6 s.intc.rot n) 7
    let s1 := if s.fld F.SRC_CFG_MASK n = 1 then
        let s2 := s.bump F.MASK_WINDOW_DELIVERIES 0
        { s2 with intc := { s2.intc with maskWin := tset none s2.intc.maskWin n ((tget none s2.intc.maskWin n).map (fun w => (w.1, true))) } }
      else s
    let was := requestLine j s1
    let s3 := (s1.setFld F.SRC_STATUS_TARGET n j).setFld F.SRC_STATUS_EPOCH_DELIVERIES n (s1.fld F.SRC_STATUS_EPOCH_DELIVERIES n + 1)
    let s4 : State := { s3 with intc := { s3.intc with rot := tset 6 s3.intc.rot n j } }
    if was then s4 else assertRequest j s4

/-- INTERRUPT_DELIVERY of source `n`. -/
def interruptDelivery (n : Nat) (s : State) : State := deliver n (sampleLevel n s)

/-! ### Claim and complete -/

/-- The owners of target `j` (Table 14.1, R368). -/
def ownsTarget (q : Requester) (j : Nat) : Bool :=
  match q with
  | .thread t => decide (j < 4) && t / 8 == j
  | .pf0 => j == 4 || j == 6
  | .pf1 => j == 5
  | .smbus => j == 6
  | .jtag => false

/-- The source that a claim of target `j` returns (R371): the highest PRIORITY, ties to the lowest number; 0 when there is none. -/
def claimValue (j : Nat) (s : State) : Nat :=
  allSources.foldl (fun best n =>
    if deliveredTo j n s then
      if best = 0 ∨ s.fld F.SRC_CFG_PRIORITY best < s.fld F.SRC_CFG_PRIORITY n then n else best
    else best) 0

/-- CLAIM (R371): a read of CLAIM_j. A read by any other requester claims nothing. -/
def claimRead (q : Requester) (j : Nat) (s : State) : State :=
  if 7 ≤ j then s
  else
    let n := claimValue j s
    let s1 := setOut q n s
    if ownsTarget q j = false ∨ n = 0 then s1
    else
      (s1.setFlds [(F.SRC_STATUS_PENDING, n, 0), (F.SRC_STATUS_IN_SERVICE, n, 1), (F.SRC_STATUS_TARGET, n, j)]).bump F.TGT_CLAIMS j

/-- The service of source `n` ends (R372): a level source is re-sampled. -/
def endService (n : Nat) (s : State) : State :=
  let s1 := s.setFlds [(F.SRC_STATUS_IN_SERVICE, n, 0), (F.SRC_STATUS_TARGET, n, 7)]
  if levelSources.contains n ∧ s1.fld F.SRC_STATUS_INPUT n = 1 then s1.setFld F.SRC_STATUS_PENDING n 1 else s1

/-- COMPLETE (R372, R368): a write of COMPLETE_j with source `n`. -/
def completeWrite (q : Requester) (j n : Nat) (s : State) : State :=
  if 7 ≤ j ∨ s.terminal = true then s
  else if ownsTarget q j = false then (if q = .pf0 then s else privViolation q true (regOffset .COMPLETE j) s)
  else
    let m := n % 512
    let s1 :=
      if srcExists m = true ∧ s.fld F.SRC_STATUS_IN_SERVICE m = 1 ∧ s.fld F.SRC_STATUS_TARGET m = j then endService m s
      else s.bump F.COMPLETE_STRAY 0
    if requestLine j s1 then
      (if j = 4 then signalVector 0 0 s1 else if j = 5 then signalVector 1 0 s1 else s1)
    else s1

/-! ### Configuration -/

/-- MASK of source `n` takes a value (R373): setting it opens the window in which one delivery more may be decided. -/
def setMask (n m : Nat) (s : State) : State :=
  let s1 := s.setFld F.SRC_CFG_MASK n m
  let win := if m = 1 then (if s.fld F.SRC_CFG_MASK n = 1 then tget none s.intc.maskWin n else some (s.cycle, false)) else none
  { s1 with intc := { s1.intc with maskWin := tset none s1.intc.maskWin n win } }

/-- ENABLE of source `n` takes a value (R374): an unclaimed delivery to a target removed is withdrawn and delivered again. -/
def setEnable (n e : Nat) (s : State) : State :=
  let j := s.fld F.SRC_STATUS_TARGET n
  let s1 := s.setFld F.SRC_CFG_ENABLE n e
  if deliveredTo j n s = true ∧ j < 7 ∧ e.testBit j = false then
    deliver n ((s1.setFld F.SRC_STATUS_TARGET n 7).bump F.WITHDRAWALS 0)
  else s1

/-- SRC_MASK_WRITE (R373). -/
def srcMaskWrite (q : Requester) (n m : Nat) (s : State) : State :=
  if srcExists n then gated q (regOffset .SRC_CFG n) (setMask n (m % 2)) s else s

/-- SRC_ENABLE_WRITE (R374). -/
def srcEnableWrite (q : Requester) (n e : Nat) (s : State) : State :=
  if srcExists n then gated q (regOffset .SRC_CFG n) (setEnable n (e % 128)) s else s

/-- A write of SRC_CFG[n] as a whole (Table 14.4): a STORM_LIMIT of 0 is discarded. -/
def srcCfgWrite (n w : Nat) (s : State) : State :=
  if srcExists n = false then s
  else
    let s1 := s.setFld F.SRC_CFG_PRIORITY n w
    let s2 := if w / 2 ^ 24 % 256 = 0 then s1 else s1.setFld F.SRC_CFG_STORM_LIMIT n (w / 2 ^ 24)
    setEnable n (w / 2 ^ 16 % 128) (setMask n (w / 2 ^ 23 % 2) s2)

/-- SW_RAISE (R377). -/
def swRaise (q : Requester) (s : State) : State := gated q (regOffset .SW_RAISE 0) (raiseSrc 384) s

/-- What the epoch boundary does in the controller (R376): a source that the storm guard masked and that is still pending goes before any that
becomes pending after the boundary. -/
def intcEpoch (s : State) : State :=
  let masked := allSources.filter (fun n => s.fld F.SRC_STATUS_AUTO_MASKED n == 1)
  masked.foldl (fun s n => deliver n s) ((s.clearFld F.SRC_STATUS_EPOCH_DELIVERIES).clearFld F.SRC_STATUS_AUTO_MASKED)

/-- What an ME block reset does in the controller (R375). -/
def intcMeReset (s : State) : State :=
  allSources.foldl (fun s n => if s.fld F.SRC_STATUS_IN_SERVICE n = 1 ∧ s.fld F.SRC_STATUS_TARGET n < 4 then endService n s else s) s

end Sys2Proof.Machine
end

