-- ==== Sys2Proof/Machine/Rings.lean ====
section
/-! DEFINITION. Completions on the rings of the host interface, their moderation, and the event rings (18_host_interface.md R458, R460, R462). -/

namespace Sys2Proof.Machine

/-- The function of a ring, in the numbering of the ring registers: 0 to 63 PF0 receive, 64 to 127 PF0 transmit, 128 to 135 event, 136 PF0
telemetry, 137 to 144 PF1 receive, 145 PF1 telemetry. -/
def ringFunc (r : Nat) (s : State) : Nat :=
  if r < 128 then 0 else if r < 136 then s.fld F.EVT_CFG_FUNC (r - 128) else if r = 136 then 0 else 1

/-- A function is in D0 with Bus Master Enable. -/
def funcUp (f : Nat) (s : State) : Bool := dState f s == 0 && bme f s

/-- Descriptors of a ring (R458). -/
def ringSize (r : Nat) (s : State) : Nat := 2 ^ s.fld F.RING_CFG_SIZE_LOG2 r

/-- Host address of descriptor `i` of a ring. -/
def ringAddr (r i : Nat) (s : State) : Nat :=
  s.fld F.BASE_HI r * 2 ^ 32 + s.fld F.BASE_LO r * 4096 + 32 * (i % ringSize r s)

/-- Max_Payload_Size of function `f` in bytes (R446). -/
def maxPayload (f : Nat) (s : State) : Nat := 128 * 2 ^ tget 0 s.hif.sizes (f * 2)

/-- A write cut into requests of at most `n` bytes (R452). -/
def splitWrite (n : Nat) (w : Nat × List Byte) : List (Nat × List Byte) :=
  (List.range ((w.2.length + n - 1) / n)).map (fun k => (w.1 + n * k, (w.2.drop (n * k)).take n))

/-- Writes of function `f` leave after those of the same DMA, in issue order and cut at Max_Payload_Size (R452); in L1 they wait for the exit (R464). -/
def moreWrites (f : Nat) (ws : List (Nat × List Byte)) (s : State) : State :=
  let parts := ws.flatMap (splitWrite (maxPayload f s))
  if s.fld F.LINK_STATUS_L1 0 = 1 then s.withHif { s.hif with dmaWait := s.hif.dmaWait ++ parts }
  else s.withHif { s.hif with hostWrites := s.hif.hostWrites ++ parts }

/-- The writes of one DMA of function `f`. -/
def postWrites (f : Nat) (ws : List (Nat × List Byte)) (s : State) : State := moreWrites f ws (s.withHif { s.hif with hostWrites := [] })

/-- A ring signals its vector (R462, R463): PENDING_COUNT returns to 0 and the timer stops; VECTOR 0 signals nothing. -/
def ringSignal (r : Nat) (s : State) : State :=
  let s1 := s.withHif { s.hif with ringPend := tset 0 s.hif.ringPend r 0, ringTimer := tset false s.hif.ringTimer r false }
  if s.fld F.RING_CFG_VECTOR r = 0 then s1 else signalVector (ringFunc r s) (s.fld F.RING_CFG_VECTOR r) s1

/-- A completion on a ring (R462). -/
def ringComplete (r : Nat) (s : State) : State :=
  let n := tget 0 s.hif.ringPend r + 1
  let count := s.fld F.RING_MOD_MOD_COUNT r
  let s1 := s.withHif { s.hif with ringPend := tset 0 s.hif.ringPend r n }
  if s.fld F.RING_MOD_MOD_TIME r = 0 ∨ (count ≠ 0 ∧ count ≤ n) then ringSignal r s1
  else if n = 1 then s1.withHif { s1.hif with ringTimer := tset false s1.hif.ringTimer r true }
  else s1

/-- MODERATION_TIMER_EXPIRY (R462). -/
def moderationExpiry (r : Nat) (s : State) : State :=
  if tget false s.hif.ringTimer r = true ∧ 0 < tget 0 s.hif.ringPend r then ringSignal r s else s

/-- Write one record to an event ring at HEAD: bytes 8 to 31, then bytes 0 to 7 with PHASE (Table 18.5). -/
def eventPut (e ty : Nat) (body : List Byte) (s : State) : State :=
  let r := 128 + e
  let h := s.fld F.RING_HEAD r
  let n := ringSize r s
  let ph := tget false s.hif.phase e
  let head := toLe 2 ty ++ [if ph then 0 else 1, 0] ++ toLe 4 (s.fld F.EPOCH_COUNT 0)
  let rest := body ++ List.replicate (24 - body.length) 0
  let a := ringAddr r h s
  let s1 := (s.setFld F.RING_HEAD r ((h + 1) % n)).addWrap F.RING_FRAMES r 1
  let s2 := s1.withHif { s1.hif with
    phase := if h + 1 = n then tset false s1.hif.phase e (!ph) else s1.hif.phase
    evtRec := tset [] s1.hif.evtRec e (tget [] s1.hif.evtRec e ++ [head ++ rest]) }
  ringComplete r (postWrites (ringFunc r s) [(a + 8, rest), (a, head)] s2)

/-- An event ring takes a record more. -/
def eventRoom (e : Nat) (s : State) : Bool :=
  let r := 128 + e
  (s.fld F.RING_HEAD r + 1) % ringSize r s != s.fld F.RING_TAIL r && funcUp (ringFunc r s) s

/-- An event is lost on its ring (R460). -/
def eventLoss (e : Nat) (s : State) : State :=
  (s.bump F.RING_DROP (128 + e)).withHif { s.hif with evtLost := tset 0 s.hif.evtLost e (tget 0 s.hif.evtLost e + 1) }

/-- One event on one ring: after a loss the next record that can be written is an OVERFLOW record with the count lost. -/
def eventOn (e ty : Nat) (body : List Byte) (s : State) : State :=
  let lost := tget 0 s.hif.evtLost e
  let s1 := if lost ≠ 0 ∧ eventRoom e s = true then
      eventPut e 6 (toLe 4 lost) (s.withHif { s.hif with evtLost := tset 0 s.hif.evtLost e 0 })
    else s
  if eventRoom e s1 then eventPut e ty body s1 else eventLoss e s1

/-- EVENT_RECORD_WRITE (R460): an event of TYPE 1 FAULT, 2 PORT, 3 JOURNAL, 4 MAILBOX or 5 TIME goes to every enabled event ring whose
MASK takes its class; `body` holds bytes 8 onward. -/
def eventRecord (ty : Nat) (body : List Byte) (s : State) : State :=
  (List.range 8).foldl (fun s e =>
    if s.fld F.RING_CFG_EN (128 + e) = 1 ∧ s.fld F.RING_CFG_STOPPED (128 + e) = 0 ∧ (s.fld F.EVT_CFG_MASK e).testBit (ty - 1) = true then
      eventOn e ty body s
    else s) s

end Sys2Proof.Machine
end

