-- ==== Sys2Proof/Machine/Servo.lean ====
section
/-! DEFINITION. Rate changes and steps as they are requested, and the servo of the firmware (09_time_base.md R237, R245, R249, R253). -/

namespace Sys2Proof.Machine

/-- Replace the time-base part. -/
def State.withTime (s : State) (t : TimeSt) : State := { s with time := t }

/-- A signed 32-bit value. -/
def signed32 (v : Nat) : Int := if v < 2 ^ 31 then Int.ofNat v else Int.ofNat v - Int.ofNat (2 ^ 32)

/-- A signed 64-bit value in two words. -/
def signed64 (lo hi : Nat) : Int :=
  let v := lo + hi * 2 ^ 32
  if v < 2 ^ 63 then Int.ofNat v else Int.ofNat v - Int.ofNat (2 ^ 64)

/-- The apply instant of a write accepted now (R245): the first whole microsecond at least 1 µs away. -/
def applyInstant (s : State) : Nat :=
  let us := 1000 * nsUnit
  (s.work + us + us - 1) / us * us

/-- RATE_ADJ_WRITE (R237, R245): a value outside ±2,147,484 is discarded; else it waits for its apply instant, replacing one
that waits. -/
def rateAdjWrite (v : Nat) (s : State) : State :=
  let r := signed32 (v % 2 ^ 32)
  if 2147484 < r.natAbs then s
  else
    let s1 := s.setFlds [(F.RATE_ADJ, 0, v), (F.TIME_STATUS_RATE_PENDING, 0, 1)]
    s1.withTime { s1.time with ratePend := some (r, applyInstant s) }

/-- TIME_STEP (R245): STEP_CTRL with OP 1 schedules a step by DELTA. -/
def timeStep (s : State) : State :=
  if s.fld F.TIME_STATUS_STEP_PENDING 0 = 1 then s
  else
    let s1 := s.setFld F.TIME_STATUS_STEP_PENDING 0 1
    s1.withTime { s1.time with stepPend := some (false, signed64 (s.fld F.STEP_LO 0) (s.fld F.STEP_HI 0), applyInstant s) }

/-- TIME_SET (R245): STEP_CTRL with OP 2 schedules a step to SET_*; an NS above 999,999,999 makes it do nothing. -/
def timeSet (s : State) : State :=
  let ns := s.fld F.SET_NS 0 / 4
  if s.fld F.TIME_STATUS_STEP_PENDING 0 = 1 ∨ 999999999 < ns then s
  else
    let sec := s.fld F.SET_SEC_LO 0 + s.fld F.SET_SEC_HI 0 * 2 ^ 32
    let v : Nat := (sec * 1000000000 + ns) * 4 + s.fld F.SET_NS 0 % 4
    let s1 := s.setFld F.TIME_STATUS_STEP_PENDING 0 1
    s1.withTime { s1.time with stepPend := some (true, Int.ofNat v, applyInstant s) }

/-- TIME.STATUS.STATE changes, and source 96 is raised (R249). -/
def setServo (v : Nat) (s : State) : State :=
  let old := s.fld F.TIME_STATUS_STATE 0
  if old = v then s else eventRecord 5 [BitVec.ofNat 8 v, BitVec.ofNat 8 old] (raiseSrc 96 (s.setFld F.TIME_STATUS_STATE 0 v))

/-- The sum of RATE_ADJ times its duration from cycle `lo` to `hi` over a history, newest first. -/
def rateSum (lo hi : Nat) : List (Nat × Int) → Int
  | [] => 0
  | (t, r) :: l => if t ≤ lo then r * Int.ofNat (hi - lo) else r * Int.ofNat (hi - t) + rateSum lo t l

/-- 16 s of the hub core. -/
def meanSpan : Nat := 48000000000

/-- The mean of RATE_ADJ over the last 16 s (R253). -/
def meanRate (s : State) : Int :=
  let span := min s.cycle meanSpan
  if span = 0 then s.time.rate
  else
    let sum := rateSum (s.cycle - span) s.cycle s.time.rateHist
    let q := sum / Int.ofNat span
    if sum % Int.ofNat span ≠ 0 ∧ Config.meanRound sum span = true then q + 1 else q

/-- A rate change takes effect; the mean of R253 needs 16 s of them. -/
def applyRate (r : Int) (s : State) : State :=
  let recent (e : Nat × Int) : Bool := decide (s.cycle ≤ e.1 + meanSpan)
  s.withTime { s.time with
    rate := r
    rateHist := (s.cycle, r) :: (s.time.rateHist.takeWhile recent ++ (s.time.rateHist.dropWhile recent).take 1) }

/-- SLEW_MAX, in units of 0.1 ppm, as a bound on RATE_ADJ (R249). -/
def slewLimit (s : State) : Nat := s.fld F.SERVO_CFG_SLEW_MAX 0 * 2 ^ 32 / 10000000

/-- The servo has a measurement from its source (R249): it steps where STEP_POLICY permits and the offset exceeds STEP_THRESHOLD, else it steers
through RATE_ADJ within SLEW_MAX. The offset it measures and the rate it chooses are free. -/
def servoSteer (s : State) : State :=
  let n := s.dp.fresh
  let s1 : State := { s with dp := { s.dp with fresh := n + 1 } }
  let off := Config.servoOffset n
  let two (m : Nat) (v : Int) : Nat := (v % Int.ofNat m).toNat
  if s.fld F.SERVO_CFG_STEP_POLICY 0 = 1 ∧ s.fld F.STEP_THRESHOLD 0 * 4000 < off.natAbs then
    if s.fld F.TIME_STATUS_STEP_PENDING 0 = 1 then s1
    else timeStep (s1.setFlds [(F.STEP_LO, 0, two (2 ^ 64) (-off) % 2 ^ 32), (F.STEP_HI, 0, two (2 ^ 64) (-off) / 2 ^ 32)])
  else
    let lim : Int := slewLimit s
    rateAdjWrite (two (2 ^ 32) (max (-lim) (min lim (Config.servoRate n)))) s1

/-- The source that steers the working clock is heard (R249, R253): from FREE_RUN or HOLDOVER the state becomes LOCKING; once there, whether the
servo finds itself locked is free. -/
def servoUpdate (s : State) : State :=
  let st := s.fld F.TIME_STATUS_STATE 0
  if st = 0 ∨ st = 3 then servoSteer (setServo 1 s)
  else setServo (if Config.servoLocked s.dp.fresh then 2 else 1) (servoSteer s)

/-- The firmware holds the mean of RATE_ADJ and the state becomes HOLDOVER (R253). -/
def enterHoldover (s : State) : State :=
  if s.fld F.TIME_STATUS_STATE 0 = 2 then
    setServo 3 (rateAdjWrite ((meanRate s) % Int.ofNat (2 ^ 32)).toNat s)
  else s

/-- SYNC_RECEIPT_TIMEOUT (R253): the working domain steers and has had no Sync. -/
def syncReceiptTimeout (s : State) : State :=
  if s.fld F.TIME_CFG_WORK_SOURCE 0 = 1 then enterHoldover s else s

/-- HOLDOVER_LIMIT_EXPIRY (R253). -/
def holdoverExpiry (s : State) : State := if s.fld F.TIME_STATUS_STATE 0 = 3 then setServo 0 s else s

/-- A Sync message of the working domain has come in on `bs` (R247, R249): messageType 0 and the domain number of WORK_DOMAIN, in use. -/
def isWorkSync (bs : List Byte) (s : State) : Bool :=
  let d := s.fld F.TIME_CFG_WORK_DOMAIN 0
  s.fld F.TIME_CFG_WORK_SOURCE 0 == 1 && s.fld F.DOM_CFG_EN d == 1 && beNat (slice bs 14 1) % 16 == 0 &&
  beNat (slice bs 18 1) == s.fld F.DOM_CFG_DOMAIN_NUMBER d

/-- WORK_SOURCE is written (R249): 0 leaves the clock in free run. -/
def workSourceWritten (s : State) : State := if s.fld F.TIME_CFG_WORK_SOURCE 0 = 0 then setServo 0 s else s

/-- The defaults of R249 and R253 where the image gives SERVO_CFG and STEP_THRESHOLD no value. -/
def servoDefaults (s : State) : State :=
  let put (f : Fld) (v : Nat) (s : State) : State := if s.fld f 0 = 0 then s.setFld f 0 v else s
  put F.STEP_THRESHOLD 1000 (put F.SERVO_CFG_SLEW_MAX 1000 (put F.SERVO_CFG_HOLDOVER_LIMIT 300 s))

end Sys2Proof.Machine
end

