-- ==== Sys2Proof/Machine/Hbm.lean ====
section
/-! DEFINITION. The HBM3 address space (16_dram.md R401 to R403, R416), the requests that wait at its channels, and the reset
units with their consequential windows (15_faults.md R393). -/

namespace Sys2Proof.Machine

/-- The channel of an HBM3 address (R401). -/
def dramChan (a : Nat) : Nat := (a / 2 ^ 8 % 32) ^^^ (a / 2 ^ 13 % 32)

/-- The pseudo-channel of an HBM3 address. -/
def dramPc (a : Nat) : Nat := a / 2 ^ 7 % 2

/-- The line within the pseudo-channel, A[33:13]. -/
def dramLine (a : Nat) : Nat := a / 2 ^ 13 % 2 ^ 21

/-- The address holds data: inside the 16 GiB and outside the reserved region (R403), on a channel that has not failed (R416). -/
def hbmLive (a : Nat) (s : State) : Bool :=
  decide (a < 2 ^ 34) && !(decide (0xC0000000 ≤ a) && decide (a < 0x100000000)) && s.fld F.CH_STATUS_STATE (dramChan a) != 4

/-- Read `n` bytes of HBM3; what is not live reads 0. -/
def hbmRead (s : State) (a : Nat) : Nat → List Byte
  | 0 => []
  | n + 1 => (if hbmLive a s then tget 0 s.hbm a else 0) :: hbmRead s (a + 1) n

/-- Write bytes of HBM3; a write to what is not live is discarded. -/
def hbmPut (s : State) (a : Nat) : List Byte → Tab Byte → Tab Byte
  | [], m => m
  | b :: bs, m => hbmPut s (a + 1) bs (if hbmLive a s then tset 0 m a b else m)

/-- Write bytes of HBM3. -/
def hbmWrite (a : Nat) (bs : List Byte) (s : State) : State := { s with hbm := hbmPut s a bs s.hbm }

/-- Replace the DRAM part. -/
def State.withDram (s : State) (d : DramSt) : State := { s with dram := d }

/-- A request joins the queue of its channel (R405, R406). -/
def dramQueue (r : DramReq) (s : State) : State :=
  let c := dramChan r.addr
  s.withDram { s.dram with queue := tset [] s.dram.queue c (tget [] s.dram.queue c ++ [r]) }

/-- A request for `n` bytes at an address, within one burst. -/
def dramRequest (cls : Nat) (write : Bool) (a n : Nat) (s : State) : State :=
  dramQueue { cls := cls, addr := a, write := write, since := s.cycle, len := n } s

/-- Requests for `n` bytes from an address on, one to each 64-byte burst (R402). -/
def dramRequests (cls : Nat) (write : Bool) (a n : Nat) (s : State) : State :=
  (List.range ((a + n - 1) / 64 + 1 - a / 64)).foldl (fun s k =>
    let b := (a / 64 + k) * 64
    let lo := max a b
    dramRequest cls write lo (min (a + n) (b + 64) - lo) s) s

/-- The addresses of the words of which a write of `n` bytes covers only a part. -/
def partWords (a n : Nat) : List Nat :=
  let e := a + n
  (if a % 8 ≠ 0 then [a / 8] else []) ++ (if e % 8 ≠ 0 ∧ (a % 8 = 0 ∨ e / 8 ≠ a / 8) then [e / 8] else [])

/-- A write of bytes within one burst: of a word covered in part, what stood there is kept until the request issues (R402, R407). -/
def dramWrite (cls a : Nat) (bs : List Byte) (s : State) : State :=
  let old := (partWords a bs.length).flatMap (fun w => ((List.range 8).map (fun k => 8 * w + k)).filterMap (fun x =>
    if a ≤ x ∧ x < a + bs.length then some (x, tget 0 s.hbm x) else none))
  dramQueue { cls := cls, addr := a, write := true, since := s.cycle, len := bs.length, old := old } (hbmWrite a bs s)

/-! ### Reset units (15 R393): 0 ME, 1 HIF, 2 + c MEM_c, 34 + d PD_d -/

/-- The bit of a reset unit in STATUS.CONSEQ_OPEN. -/
def conseqBit (u : Nat) : Nat := if u < 2 then u else if u < 34 then 2 else u - 31

/-- Recompute STATUS.CONSEQ_OPEN. -/
def showWindows (s : State) : State :=
  s.setFld F.FLT_STATUS_CONSEQ_OPEN 0 ((s.flt.windowOpen.filter (fun e => e.2)).foldl (fun v e => setBit v (conseqBit e.1) true) 0)

/-- The reset of a unit begins: its consequential window opens. -/
def unitBegin (u : Nat) (s : State) : State :=
  showWindows { s with flt := { s.flt with unitReset := tset false s.flt.unitReset u true, windowOpen := tset false s.flt.windowOpen u true } }

/-- The reset of a unit ends; its window stays open for 2 µs. -/
def unitEnd (u : Nat) (s : State) : State := { s with flt := { s.flt with unitReset := tset false s.flt.unitReset u false } }

/-- The consequential window of a unit closes. -/
def windowClose (u : Nat) (s : State) : State :=
  showWindows { s with flt := { s.flt with windowOpen := tset false s.flt.windowOpen u false } }

/-- The unit is in reset. -/
def inUnitReset (u : Nat) (s : State) : Bool := tget false s.flt.unitReset u

end Sys2Proof.Machine
end

