-- ==== Sys2Proof/Machine/Tcam.lean ====
section
/-! DEFINITION. Associative search (04_associative_search.md): searches, the command windows, scrubbing and repair. -/

namespace Sys2Proof.Machine

/-- A partition in use: blocks `first` to `last`, `g` blocks ganged, its kind and mode (R87 to R89). -/
structure Part where
  n : Nat
  first : Nat
  last : Nat
  g : Nat
  ordered : Bool
  kind : Nat
deriving DecidableEq, Repr

/-- Partition n of die d, when enabled. -/
def tcamPart (d n : Nat) (s : State) : Option Part :=
  let i := d * 8 + n
  if n < 8 ∧ s.fld F.TCAM_PART_ENABLE i = 1 then
    some { n := n, first := s.fld F.TCAM_PART_FIRST_BLK i, last := s.fld F.TCAM_PART_LAST_BLK i,
           g := 2 ^ s.fld F.TCAM_PART_WIDTH i, ordered := s.fld F.TCAM_PART_MODE i == 1, kind := s.fld F.TCAM_PART_KIND i }
  else none

/-- The enabled partitions of a die. -/
def tcamParts (d : Nat) (s : State) : List Part := (List.range 8).filterMap (fun n => tcamPart d n s)

/-- How many entries a partition holds (R88). -/
def Part.size (p : Part) : Nat := 2048 * (p.last + 1 - p.first) / p.g

/-- The die address of the partition's entry e, counted in cascade order (R87, R88). -/
def Part.addr (p : Part) (e : Nat) : Nat := (p.first + p.g * (e / 2048)) * 2048 + e % 2048

/-- The entry whose address is `a`, when `a` is an entry address of the partition. -/
def Part.entry? (p : Part) (a : Nat) : Option Nat :=
  let b := a / 2048
  if p.first ≤ b ∧ b ≤ p.last ∧ (b - p.first) % p.g = 0 then some ((b - p.first) / p.g * 2048 + a % 2048) else none

/-- The partition that has `a` as an entry address. -/
def partAt (d a : Nat) (s : State) : Option (Part × Nat) :=
  (tcamParts d s).findSome? (fun p => (p.entry? a).map (fun e => (p, e)))

/-- The row at a die address. -/
def tcamRow (d a : Nat) (s : State) : TcamRow := tget {} s.tb.tcam (d * 32768 + a)

/-- Write a row and post it to the shadow (R101). -/
def tcamPut (d a : Nat) (r : TcamRow) (s : State) : State :=
  { s with tb := { s.tb with tcam := tset {} s.tb.tcam (d * 32768 + a) r,
                             tcamShadow := tset {} s.tb.tcamShadow (d * 32768 + a) r } }

/-- An entry of a partition: value and mask over its whole width. -/
structure TcamEntry where
  value : Nat
  mask : Nat
  valid : Bool
  prio : Nat
  action : Word
deriving DecidableEq, Repr

/-- Read the entry at address `a` of a group of `g` blocks: the lowest block holds the most significant bits (R87). -/
def tcamEntry (d g a : Nat) (s : State) : TcamEntry :=
  let rows := (List.range g).map (fun j => tcamRow d (a + 2048 * j) s)
  let r := tcamRow d a s
  { value := rows.foldl (fun v r => v * 2 ^ 160 + r.value.toNat) 0
    mask := rows.foldl (fun v r => v * 2 ^ 160 + r.mask.toNat) 0
    valid := r.valid, prio := r.prio, action := r.action }

/-- Write an entry into every block of its group (R87). -/
def tcamPutEntry (d g a : Nat) (e : TcamEntry) (s : State) : State :=
  (List.range g).foldl (fun s j =>
    tcamPut d (a + 2048 * j)
      { value := BitVec.ofNat 160 (e.value / 2 ^ (160 * (g - 1 - j))), mask := BitVec.ofNat 160 (e.mask / 2 ^ (160 * (g - 1 - j)))
        valid := e.valid, prio := e.prio, action := e.action } s) s

/-- Clear the valid bits of an entry's rows. -/
def tcamClearEntry (d g a : Nat) (s : State) : State :=
  (List.range g).foldl (fun s j => tcamPut d (a + 2048 * j) { tcamRow d (a + 2048 * j) s with valid := false } s) s

/-- A block is out of service: in repair, in verify or failed (R109 to R111). -/
def blkOut (d b : Nat) (s : State) : Bool := decide (2 ≤ s.fld F.TCAM_BLK_STATUS_STATE (d * 16 + b))

/-- Some block of the group that holds address `a` is out. -/
def groupOut (d g a : Nat) (s : State) : Bool := (List.range g).any (fun j => blkOut d (a / 2048 + j) s)

/-- Some block of the partition is out. -/
def partOut (d : Nat) (p : Part) (s : State) : Bool :=
  (List.range (p.last + 1 - p.first)).any (fun j => blkOut d (p.first + j) s)

/-- The valid entries of a partition in cascade order, with their addresses. -/
def validEntries (d : Nat) (p : Part) (s : State) : List (Nat × TcamEntry) :=
  s.tb.tcam.filterMap (fun kr =>
    if kr.1 / 32768 = d ∧ kr.2.valid = true then
      (p.entry? (kr.1 % 32768)).map (fun _ => (kr.1 % 32768, tcamEntry d p.g (kr.1 % 32768) s))
    else none)

/-- An entry matches a key under a global mask (R90). -/
def TcamEntry.matchesKey (e : TcamEntry) (key gmask : Nat) : Bool := ((key ^^^ e.value) &&& e.mask &&& gmask) == 0

/-- The winner among matching entries in cascade order (R92). -/
def tcamWinner (ordered : Bool) : List (Nat × TcamEntry) → Option (Nat × TcamEntry)
  | [] => none
  | x :: rest =>
    if ordered then some x
    else match tcamWinner ordered rest with
      | some y => if x.2.prio < y.2.prio then some y else some x
      | none => some x

/-- A search of a partition (R92, R93), counted in its counters (Table 4.9) and, while a block of the partition is out,
in TCAM_OUT_SEARCHES (R110). Entries of `skip` read an uncorrectable action and do not match (R108). -/
def tcamSearch (d : Nat) (p : Part) (key gmask : Nat) (skip : List Nat) (s : State) : State × Option (Nat × Word) :=
  let hits := (validEntries d p s).filter (fun x =>
    x.2.matchesKey key gmask && !groupOut d p.g x.1 s && !skip.contains x.1)
  let s1 := s.addWrap F.TCAM_PART_SEARCH (d * 8 + p.n) 1
  let s2 := if partOut d p s then s1.bump F.TCAM_OUT_SEARCHES d else s1
  match tcamWinner p.ordered hits with
  | some (a, e) => (s2.addWrap F.TCAM_PART_HIT (d * 8 + p.n) 1, some (a, e.action))
  | none => (s2, none)

/-- The entries whose action words read uncorrectable, among those that win in turn (R108): each address with whether its rewrite reads back right. -/
def winnersUe (ordered : Bool) (ue : List (Nat × Bool)) : Nat → List (Nat × TcamEntry) → List (Nat × Bool)
  | 0, _ => []
  | n + 1, hits =>
    match tcamWinner ordered hits with
    | none => []
    | some (a, _) =>
      match ue.find? (fun u => u.1 == a) with
      | none => []
      | some u => u :: winnersUe ordered ue n (hits.filter (fun x => x.1 != a))

/-- The `n` DATA words of a command from word `w0` on as a number, least significant first. -/
def TcamCmd.num (c : TcamCmd) (w0 n : Nat) : Nat := (List.range n).foldl (fun v k => v + c.data.getD (w0 + k) 0 * 2 ^ (32 * k)) 0

/-- The entry that a command's DATA words hold, for a width of `g` blocks: words above the width are ignored (R101). -/
def TcamCmd.entry (c : TcamCmd) (g : Nat) : TcamEntry :=
  { value := c.num 0 (5 * g), mask := c.num 20 (5 * g)
    valid := (c.data.getD 40 0 / 65536) % 2 == 1, prio := c.data.getD 40 0 % 65536
    action := BitVec.ofNat 32 (c.data.getD 41 0) }

/-- Put an entry into TCAM_DATA (READ): words above the width read 0. -/
def tcamDataPut (d j : Nat) (e : TcamEntry) (s : State) : State :=
  let base := (d * 2 + j) * 42
  let s := (List.range 20).foldl (fun s w => (s.setFld F.TCAM_DATA (base + w) (e.value / 2 ^ (32 * w))).setFld F.TCAM_DATA
    (base + 20 + w) (e.mask / 2 ^ (32 * w))) s
  (s.setFld F.TCAM_DATA (base + 40) ((if e.valid then 65536 else 0) + e.prio)).setFld F.TCAM_DATA (base + 41) e.action.toNat

/-- The mask of a route of a prefix length (R97): four type bits, the VID bits when VID_EN = 1, the top prefix bits. -/
def routeMask (kind pl vidEn : Nat) : Nat :=
  let w := if kind = 2 then 160 else 320
  let dw := if kind = 2 then 32 else 128
  0xF * 2 ^ (w - 4) + (if vidEn = 1 then 0xFFF * 2 ^ (w - 16) else 0) + (2 ^ pl - 1) * 2 ^ (dw - pl)

/-- The entry has the mask form of R97 and its rank as its priority. -/
def routeForm (kind : Nat) (e : TcamEntry) : Bool :=
  let dw := if kind = 2 then 32 else 128
  decide (e.prio / 2 ≤ dw) && e.mask == routeMask kind (e.prio / 2) (e.prio % 2)

/-- A partition of kind 2 or 3 holds routes under the order invariant (R98). -/
def Part.routes (p : Part) : Bool := p.kind == 2 || p.kind == 3

/-- Placing rank `r` at address `a` keeps the order invariant against the valid entries (R98). -/
def keepsOrder (entries : List (Nat × TcamEntry)) (a r : Nat) : Bool :=
  entries.all (fun x => x.1 == a || (if x.1 < a then decide (r ≤ x.2.prio) else decide (x.2.prio ≤ r)))

/-- Two routes are the same under R100: same mask and same compared bits. -/
def sameRoute (a b : TcamEntry) : Bool := a.mask == b.mask && (a.value &&& a.mask) == (b.value &&& b.mask)

/-- The lowest number from `x` that an ascending list does not hold. -/
def lowestFree (x : Nat) : List Nat → Nat
  | [] => x
  | v :: vs => if v < x then lowestFree x vs else if v = x then lowestFree (x + 1) vs else x

/-- The highest number below `x` that a descending list does not hold. -/
def highestFree (x : Nat) : List Nat → Option Nat
  | [] => if x = 0 then none else some (x - 1)
  | v :: vs => if x = 0 then none else if x ≤ v then highestFree x vs else if v = x - 1 then highestFree (x - 1) vs else some (x - 1)

/-- Move the rank entry from `f` to `t` in a list of (entry, rank). -/
def moveRank (l : List (Nat × Nat)) (f t : Nat) : List (Nat × Nat) := l.map (fun x => if x.1 = f then (t, x.2) else x)

/-- The moves of R104 towards higher addresses: the list of (from, to), and where the new entry goes. -/
def shuffleUp (hi : Nat) : Nat → List (Nat × Nat) → Nat → List (Nat × Nat) × Nat
  | 0, _, cur => ([], cur)
  | fuel + 1, l, cur =>
    if cur ≤ hi then ([], cur)
    else
      match (l.filter (fun x => decide (x.1 < cur))).foldl (fun (m : Option (Nat × Nat)) x =>
          match m with | none => some x | some y => if y.1 < x.1 then some x else m) none with
      | none => ([], cur)
      | some q =>
        let s := (l.filter (fun x => decide (hi ≤ x.1) && decide (x.1 < cur) && x.2 == q.2)).foldl
          (fun m x => min m x.1) q.1
        let r := shuffleUp hi fuel (moveRank l s cur) s
        ((s, cur) :: r.1, r.2)

/-- The moves of R104 towards lower addresses. -/
def shuffleDown (lo : Nat) : Nat → List (Nat × Nat) → Nat → List (Nat × Nat) × Nat
  | 0, _, cur => ([], cur)
  | fuel + 1, l, cur =>
    if lo ≤ cur + 1 then ([], cur)
    else
      match (l.filter (fun x => decide (cur < x.1))).foldl (fun (m : Option (Nat × Nat)) x =>
          match m with | none => some x | some y => if x.1 < y.1 then some x else m) none with
      | none => ([], cur)
      | some q =>
        let s := (l.filter (fun x => decide (cur < x.1) && decide (x.1 < lo) && x.2 == q.2)).foldl
          (fun m x => max m x.1) q.1
        let r := shuffleDown lo fuel (moveRank l s cur) s
        ((s, cur) :: r.1, r.2)

/-- The ordered insertion of R104 over a partition of `size` entries: the moves and the place, or none when full.
`l` lists the valid entries as (entry, rank), ascending. -/
def orderedPlace (size r : Nat) (l : List (Nat × Nat)) : Option (List (Nat × Nat) × Nat) :=
  let lo := l.foldl (fun m x => if r < x.2 then max m (x.1 + 1) else m) 0
  let hi := l.foldl (fun m x => if x.2 < r then min m x.1 else m) size
  let free := lowestFree lo (l.map Prod.fst)
  if free < hi then some ([], free)
  else
    let up := lowestFree hi (l.map Prod.fst)
    if up < size then some (shuffleUp hi (l.length + 1) l up)
    else (highestFree lo (l.map Prod.fst).reverse).map (fun cur => shuffleDown lo (l.length + 1) l cur)

/-- Write the entry moves of an ordered insertion: each writes the destination, then clears the source (R102). -/
def tcamMoves (d : Nat) (p : Part) (moves : List (Nat × Nat)) (s : State) : State :=
  moves.foldl (fun s m =>
    let e := tcamEntry d p.g (p.addr m.1) s
    tcamClearEntry d p.g (p.addr m.1) (tcamPutEntry d p.g (p.addr m.2) { e with valid := true } s)) s

/-- The end of a command with a RESULT code only. -/
def endWith (r : Nat) : CmdEnd := { result := r }

/-- READ (Table 4.5). -/
def tcamOpRead (c : TcamCmd) (s : State) : State × CmdEnd :=
  match partAt c.d c.addr s with
  | none => (s, endWith 4)
  | some (p, _) =>
    if groupOut c.d p.g c.addr s then (s, endWith 7) else (tcamDataPut c.d c.j (tcamEntry c.d p.g c.addr s) s, endWith 0)

/-- WRITE (Table 4.5): in a route partition a valid entry must have the form of R97 and keep the order. -/
def tcamOpWrite (c : TcamCmd) (s : State) : State × CmdEnd :=
  match partAt c.d c.addr s with
  | none => (s, endWith 4)
  | some (p, _) =>
    let e := c.entry p.g
    if groupOut c.d p.g c.addr s then (s, endWith 7)
    else if p.routes = true ∧ e.valid = true ∧ routeForm p.kind e = false then (s, endWith 6)
    else if p.routes = true ∧ e.valid = true ∧ keepsOrder (validEntries c.d p s) c.addr e.prio = false then (s, endWith 5)
    else (tcamPutEntry c.d p.g c.addr e s, endWith 0)

/-- CLEAR (Table 4.5). -/
def tcamOpClear (c : TcamCmd) (s : State) : State × CmdEnd :=
  match partAt c.d c.addr s with
  | none => (s, endWith 4)
  | some (p, _) => if groupOut c.d p.g c.addr s then (s, endWith 7) else (tcamClearEntry c.d p.g c.addr s, endWith 0)

/-- MOVE (R102): the source is tested before the destination. -/
def tcamOpMove (c : TcamCmd) (s : State) : State × CmdEnd :=
  match partAt c.d c.addr s with
  | none => (s, endWith 4)
  | some (p, ea) =>
    let e := tcamEntry c.d p.g c.addr s
    if groupOut c.d p.g c.addr s then (s, endWith 7)
    else if e.valid = false then (s, endWith 3)
    else
      match p.entry? c.dst with
      | none => (s, endWith 4)
      | some eb =>
        if groupOut c.d p.g c.dst s then (s, endWith 7)
        else if (tcamRow c.d c.dst s).valid then (s, endWith 4)
        else if p.routes = true ∧ keepsOrder (validEntries c.d p s) c.dst e.prio = false then (s, endWith 5)
        else (tcamMoves c.d p [(ea, eb)] s, endWith 0)

/-- The end of an INSERT with a RESULT code: MOVES counts the moves of the last INSERT (Table 4.10). -/
def insertEnd (r : Nat) : CmdEnd := { result := r, moves := some 0 }

/-- Where an INSERT of priority or rank `prio` writes, and the moves it makes first (R103, R104): none when the partition is full. -/
def insertPlace (d : Nat) (p : Part) (prio : Nat) (s : State) : Option (List (Nat × Nat) × Nat) :=
  let used := (validEntries d p s).filterMap (fun x => (p.entry? x.1).map (fun k => (k, x.2.prio)))
  if p.ordered then orderedPlace p.size prio used
  else
    let k := lowestFree 0 (used.map Prod.fst)
    if k < p.size then some ([], k) else none

/-- INSERT (R103, R104) of an entry in a partition. -/
def tcamInsertEntry (d : Nat) (p : Part) (e0 : TcamEntry) (s : State) : State × CmdEnd :=
  let e := { e0 with valid := true }
  if partOut d p s then (s, insertEnd 7)
  else if p.routes = true ∧ routeForm p.kind e = false then (s, insertEnd 6)
  else if p.routes = true ∧ (validEntries d p s).any (fun x => sameRoute x.2 e) = true then (s, insertEnd 2)
  else
    match insertPlace d p e.prio s with
    | none => (s, insertEnd 1)
    | some (moves, k) =>
      (tcamPutEntry d p.g (p.addr k) e (tcamMoves d p moves s),
       { result := 0, moves := some moves.length, addr := some (p.addr k) })

/-- INSERT of the entry that the command's DATA hold. -/
def tcamOpInsert (c : TcamCmd) (s : State) : State × CmdEnd :=
  match tcamPart c.d c.part s with
  | none => (s, insertEnd 4)
  | some p => tcamInsertEntry c.d p (c.entry p.g) s

/-- The valid entry with a value, a mask and a priority: of several the one at the lowest address. -/
def tcamSame (d : Nat) (p : Part) (e : TcamEntry) (s : State) : Option Nat :=
  ((validEntries d p s).find? (fun x => x.2.value == e.value && x.2.mask == e.mask && x.2.prio == e.prio)).map Prod.fst

/-- DELETE (Table 4.5) of the entry with a value, a mask and a priority. -/
def tcamDeleteEntry (d : Nat) (p : Part) (e : TcamEntry) (s : State) : State × CmdEnd :=
  if partOut d p s then (s, endWith 7)
  else match tcamSame d p e s with
    | none => (s, endWith 3)
    | some a => (tcamClearEntry d p.g a s, endWith 0)

/-- DELETE of the entry that the command's DATA hold. -/
def tcamOpDelete (c : TcamCmd) (s : State) : State × CmdEnd :=
  match tcamPart c.d c.part s with
  | none => (s, endWith 4)
  | some p => tcamDeleteEntry c.d p (c.entry p.g) s

/-- A row is rewritten from the shadow. -/
def tcamFromShadow (d a : Nat) (s : State) : State :=
  { s with tb := { s.tb with tcam := tset {} s.tb.tcam (d * 32768 + a) (tget {} s.tb.tcamShadow (d * 32768 + a)) } }

/-- A block enters repair (R109 steps 1 and 2): its rows are rewritten from the shadow. -/
def tcamRepair (d b : Nat) (s : State) : State :=
  let kept := s.tb.tcam.filter (fun e => e.1 / 2048 != d * 16 + b)
  let fresh := s.tb.tcamShadow.filter (fun e => e.1 / 2048 == d * 16 + b)
  let s := { s with tb := { s.tb with tcam := fresh.foldl (fun (t : Tab TcamRow) (e : Nat × TcamRow) => tins t e.1 e.2) kept } }
  raiseFault 66 d b <| raiseSrc (256 + 32 * d + 5) <|
    (s.setFld F.TCAM_BLK_STATUS_STATE (d * 16 + b) 2).bump F.TCAM_REPAIRS d

/-- A row that differs from the shadow is rewritten and read back (R107); a read-back that differs starts a repair. -/
def tcamRewrite (d a : Nat) (readBackOk : Bool) (s : State) : State :=
  if readBackOk then
    raiseFault 64 d (a / 2048) <| raiseSrc (256 + 32 * d + 4) <| (tcamFromShadow d a s).bump F.TCAM_SCRUB_FIX d
  else tcamRepair d (a / 2048) (tcamFromShadow d a s)

/-- A search met an uncorrectable action word (R108): the row is rewritten at once. -/
def tcamActionUe (d a : Nat) (readBackOk : Bool) (s : State) : State := tcamRewrite d a readBackOk (s.bump F.TCAM_ACTION_UE d)

/-- A search in which the action words of `ue` read uncorrectable (R108): those entries do not match, and their rows are rewritten. -/
def tcamSearchEcc (d : Nat) (p : Part) (key gmask : Nat) (ue : List (Nat × Bool)) (s : State) : State × Option (Nat × Word) :=
  let hits := (validEntries d p s).filter (fun x => x.2.matchesKey key gmask && !groupOut d p.g x.1 s)
  let bad := winnersUe p.ordered ue hits.length hits
  let r := tcamSearch d p key gmask (bad.map Prod.fst) s
  (bad.foldl (fun s u => tcamActionUe d u.1 u.2 s) r.1, r.2)

/-- SEARCH (Table 4.5): the key and the global mask stand in DATA. -/
def tcamOpSearch (c : TcamCmd) (ue : List (Nat × Bool)) (s : State) : State × CmdEnd :=
  match tcamPart c.d c.part s with
  | none => (s, endWith 4)
  | some p =>
    match tcamSearchEcc c.d p (c.num 0 (5 * p.g)) (c.num 20 (5 * p.g)) ue s with
    | (s1, some (a, act)) =>
      (s1.setFld F.TCAM_DATA ((c.d * 2 + c.j) * 42 + 41) act.toNat, { result := 0, hit := some true, addr := some a })
    | (s1, none) => (s1, { result := 0, hit := some false })

/-- The effect of a command (Table 4.5). -/
def tcamEffect (c : TcamCmd) (ue : List (Nat × Bool)) (s : State) : State × CmdEnd :=
  match c.op with
  | 1 => tcamOpRead c s
  | 2 => tcamOpWrite c s
  | 3 => tcamOpClear c s
  | 4 => tcamOpMove c s
  | 5 => tcamOpInsert c s
  | 6 => tcamOpDelete c s
  | 7 => tcamOpSearch c ue s
  | _ => (s, endWith 0)

/-- A window serves a requester: window 0 the ME threads, window 1 PF0 and JTAG (R101, 05 R138). -/
def windowServes (q : Requester) (j : Nat) : Bool :=
  match q with
  | .thread _ => j == 0
  | _ => j == 1

/-- A command joins the engine of its die (R101): BUSY sets, and the command holds what its window's registers hold now. -/
def tcamJoin (d j op part : Nat) (s : State) : State :=
  let c : TcamCmd := { d := d, j := j, op := op, part := part, addr := s.fld F.TCAM_ADDR_ADDR (d * 2 + j),
                       dst := s.fld F.TCAM_ADDR_DST_ADDR (d * 2 + j),
                       data := (List.range 42).map (fun w => s.fld F.TCAM_DATA ((d * 2 + j) * 42 + w)) }
  let s1 := s.setFld F.TCAM_STATUS_BUSY (d * 2 + j) 1
  { s1 with tb := { s1.tb with tcamRun := s1.tb.tcamRun ++ [c] } }

/-- A write of TCAM_CMD_j with an OP of Table 4.5 (R101): discarded while BUSY; else the command joins the die's engine. -/
def tcamStart (q : Requester) (d j op part : Nat) (s : State) : State :=
  gated q (regOffset .TCAM_CMD (d * 2 + j)) (fun s =>
    if op = 0 ∨ s.fld F.TCAM_STATUS_BUSY (d * 2 + j) = 1 ∨ windowServes q j = false then s else tcamJoin d j op part s) s

/-- Write the fields of a status register that a command's end names. -/
def putEnd (busy result : Fld) (moves hit addr : Option Fld) (i : Nat) (e : CmdEnd) (s : State) : State :=
  let s := (s.setFld busy i 0).setFld result i e.result
  let s := match moves, e.moves with | some f, some v => s.setFld f i v | _, _ => s
  let s := match hit, e.hit with | some f, some v => s.setFld f i (if v then 1 else 0) | _, _ => s
  match addr, e.addr with | some f, some v => s.setFld f i v | _, _ => s

/-- The rows of the entry at address `a` (R87). -/
def Part.rows (p : Part) (a : Nat) : List Nat := (List.range p.g).map (fun k => a + 2048 * k)

/-- The rows that are the destination of a command (R106): those that it writes. -/
def tcamDest (c : TcamCmd) (s : State) : List Nat :=
  if c.op = 2 ∨ c.op = 3 then (match partAt c.d c.addr s with | some (p, _) => p.rows c.addr | none => [])
  else if c.op = 4 then
    (match partAt c.d c.addr s with | some (p, _) => if (p.entry? c.dst).isSome then p.rows c.dst else [] | none => [])
  else
    match tcamPart c.d c.part s with
    | none => []
    | some p =>
      if c.op = 5 then
        (match insertPlace c.d p (c.entry p.g).prio s with
         | some (moves, k) => (moves.map Prod.snd ++ [k]).flatMap (fun e => p.rows (p.addr e))
         | none => [])
      else if c.op = 6 then (match tcamSame c.d p (c.entry p.g) s with | some a => p.rows a | none => [])
      else []

/-- The rows that a command moves entries away from (R102, R104): their valid bits clear. -/
def tcamFrom (c : TcamCmd) (s : State) : List Nat :=
  if c.op = 4 then (match partAt c.d c.addr s with | some (p, _) => p.rows c.addr | none => [])
  else if c.op ≠ 5 then []
  else
    match tcamPart c.d c.part s with
    | none => []
    | some p =>
      match insertPlace c.d p (c.entry p.g).prio s with
      | some (moves, _) => (moves.map Prod.fst).flatMap (fun e => p.rows (p.addr e))
      | none => []

/-- The place of a row in the TCAM shadow (16 R403). -/
def tcamShadowAddr (d a : Nat) : Nat := 0x51000000 + 0x400000 * d + 64 * a

/-- The shadow writes of a command's rows are requests of class 2 (16 R405). -/
def tcamTraffic (d : Nat) (rows : List Nat) (s : State) : State :=
  rows.foldl (fun s a => dramRequest 2 true (tcamShadowAddr d a) 64 s) s

/-- TCAM_COMMAND_END (R101): the command that a die's engine runs, the oldest of the die, acts and ends, if it is that of window j: BUSY clears
and RESULT is set. Action words of `ue` read uncorrectable in a SEARCH. -/
def tcamFinish (d j : Nat) (ue : List (Nat × Bool)) (s : State) : State :=
  match s.tb.tcamRun.find? (fun c => c.d == d) with
  | none => s
  | some c =>
    if c.j ≠ j then s
    else
      let r := tcamEffect c ue { s with tb := { s.tb with tcamRun := s.tb.tcamRun.filter (fun x => x != c) } }
      let s1 := if r.2.result = 0 then tcamTraffic d (tcamDest c s ++ tcamFrom c s) r.1 else r.1
      putEnd F.TCAM_STATUS_BUSY F.TCAM_STATUS_RESULT (some F.TCAM_STATUS_MOVES) (some F.TCAM_STATUS_HIT)
        (some F.TCAM_STATUS_RESULT_ADDR) (d * 2 + j) r.2 s1

/-- The row belongs to the destination of a command in progress (R106). -/
def rowBusy (d a : Nat) (s : State) : Bool := s.tb.tcamRun.any (fun c => c.d == d && (tcamDest c s).contains a)

/-- TCAM_SCRUB_SLOT (R105 to R107): the next row of the sweep, compared with its shadow (read at service class 1, 16 R405). -/
def tcamScrub (d : Nat) (find : ScrubFind) (s : State) : State :=
  let a := tget 0 s.tb.scrubAt d
  let next := if a + 1 < 32768 then a + 1 else 0
  let s0 := { s with tb := { s.tb with scrubAt := tset 0 s.tb.scrubAt d next } }
  let s1 := if next = 0 then s0.bump F.TCAM_SWEEPS d else s0
  if s.fld F.TCAM_BLK_STATUS_STATE (d * 16 + a / 2048) ≠ 1 then s1
  else if rowBusy d a s then s1.bump F.TCAM_SCRUB_DEFER d
  else
    let s2 := dramRequest 1 false (tcamShadowAddr d a) 64 s1
    match find with
    | .same => s2
    | .unacked => s1.bump F.TCAM_SCRUB_DEFER d
    | .shadowUe => raiseFault 65 d (a / 2048) (s2.bump F.TCAM_SCRUB_SHADOW_UE d)
    | .differs ok => tcamRewrite d a ok s2

/-- The verify pass of every block whose rows have been rewritten begins (R109 step 3). -/
def tcamVerify (s : State) : State :=
  (List.range 64).foldl (fun s i => if s.fld F.TCAM_BLK_STATUS_STATE i = 2 then s.setFld F.TCAM_BLK_STATUS_STATE i 3 else s) s

/-- The blocks of die `d` that an enabled partition holds are in service, the others unused (R89, Table 4.7). -/
def tcamInService (d : Nat) (s : State) : State :=
  (List.range 16).foldl (fun s b =>
    let used := (tcamParts d s).any (fun p => decide (p.first ≤ b) && decide (b ≤ p.last))
    s.setFld F.TCAM_BLK_STATUS_STATE (d * 16 + b) (if used then 1 else 0)) s

/-- TCAM_REPAIR_END (R109, R111): the verify pass of a block in repair ends. -/
def tcamRepairEnd (d b : Nat) (ok : Bool) (s : State) : State :=
  let i := d * 16 + b
  if s.fld F.TCAM_BLK_STATUS_STATE i = 2 ∨ s.fld F.TCAM_BLK_STATUS_STATE i = 3 then
    if ok then (s.setFld F.TCAM_BLK_STATUS_STATE i 1).addWrap F.TCAM_BLK_STATUS_GEN i 1
    else raiseFault 67 d b <| raiseSrc (256 + 32 * d + 6) <| s.setFld F.TCAM_BLK_STATUS_STATE i 4
  else s

end Sys2Proof.Machine
end

