-- ==== Sys2Proof/Machine/ExactMatch.lean ====
section
/-! DEFINITION. Exact-match tables, learning and ageing (05_exact_match_learning.md). -/

namespace Sys2Proof.Machine

/-- One CRC step over a bit, most significant bit first, of a register of width `w` with polynomial `poly`. -/
def crcStep (w poly reg : Nat) (bit : Bool) : Nat :=
  let top := reg.testBit (w - 1)
  let sh := reg * 2 % 2 ^ w
  if top != bit then sh ^^^ poly else sh

/-- A CRC over the low `n` bits of a number, from the most significant down. -/
def crcBits (w poly : Nat) (v : Nat) : Nat → Nat → Nat
  | 0, reg => reg
  | n + 1, reg => crcBits w poly v n (crcStep w poly reg (v.testBit n))

/-- The hash of R115: CRC-32C over the key, seeded with the table's seed. -/
def emHash (seed width key : Nat) : Nat := crcBits 32 0x1EDC6F41 key width (seed % 2 ^ 32)

/-- Keys of type 0x4 are 256 bits wide, the others 128 (Table 5.1). -/
def keyWidth (key : Nat) : Nat := if key / 2 ^ 252 = 4 then 256 else 128

/-- The near bucket of a key on a die. -/
def nearBucket (d key : Nat) (s : State) : Nat := emHash (s.fld F.EM_SEED d) (keyWidth key) key % 2 ^ 17

/-- Key of a bridging entry (Table 5.1, type 0x7). -/
def bridgeKey (vid mac : Nat) : Nat := 7 * 2 ^ 124 + vid * 2 ^ 112 + mac

/-- KIND, COPY and OPERAND of an action (Table 5.3). -/
def EmEntry.kind (e : EmEntry) : Nat := e.action.toNat / 2 ^ 44
def EmEntry.copyTo (e : EmEntry) : Nat := e.action.toNat / 2 ^ 42 % 4
def EmEntry.operand (e : EmEntry) : Nat := e.action.toNat % 65536

/-- A learned entry. -/
def EmEntry.learned (e : EmEntry) : Bool := e.valid && !e.static && !e.wideTail

/-- The slot at a near address of a die. -/
def nearAt (d a : Nat) (s : State) : EmEntry := tget {} s.tb.near (d * 2 ^ 20 + a)

/-- Write a near slot, keeping the gauges LEARNED_ENTRIES, LAYBY_ENTRIES and FWD_LEARNED (R142); the lay-by becoming
full raises its source (R121). -/
def nearSet (d a : Nat) (e : EmEntry) (s : State) : State :=
  let o := nearAt d a s
  let s := { s with tb := { s.tb with near := tset {} s.tb.near (d * 2 ^ 20 + a) e } }
  let s := if o.learned then
      (let s := s.lower F.LEARNED_ENTRIES d 1
       if dieOf o.operand = d then s.lower F.FWD_LEARNED o.operand 1 else s) else s
  let s := if e.learned then
      (let s := s.addSat F.LEARNED_ENTRIES d 1
       if dieOf e.operand = d then s.addSat F.FWD_LEARNED e.operand 1 else s) else s
  if a < 0x80000 then s
  else if o.valid = e.valid then s
  else if e.valid then
    (let s := s.addSat F.LAYBY_ENTRIES d 1
     if s.fld F.LAYBY_ENTRIES d = 4096 then raiseSrc (256 + 32 * d + 8) s else s)
  else s.lower F.LAYBY_ENTRIES d 1

/-- The flag half-word of an entry (Table 5.2). -/
def EmEntry.flags (e : EmEntry) : Nat :=
  (if e.valid then 2 ^ 15 else 0) + (if e.static then 2 ^ 14 else 0) + (if e.hit then 2 ^ 13 else 0) + e.lock % 4 * 2 ^ 11 +
    e.flap % 16 * 2 ^ 7 + (if e.wideHead then 2 ^ 6 else 0) + (if e.wideTail then 2 ^ 5 else 0)

/-- The 24 bytes of an entry (Table 5.2), and the entry of 24 bytes. -/
def emBytes (e : EmEntry) : List Byte := toBe 16 e.key.toNat ++ toBe 6 e.action.toNat ++ toBe 2 e.flags

def emOfBytes (bs : List Byte) : EmEntry :=
  let w := be16 bs 22
  { key := BitVec.ofNat 128 (beNat (slice bs 0 16)), action := BitVec.ofNat 48 (beNat (slice bs 16 6)),
    valid := w.testBit 15, static := w.testBit 14, hit := w.testBit 13, lock := bitsOf w 11 2, flap := bitsOf w 7 4,
    wideHead := w.testBit 6, wideTail := w.testBit 5 }

/-- The place of a near address in the static shadow (16 R403). -/
def shadowAddr (d a : Nat) : Nat := 0x54000000 + 0x2000000 * d + 32 * a

/-- The static shadow of a near slot (R139). -/
def shadowAt (d a : Nat) (s : State) : EmEntry := emOfBytes (hbmRead s (shadowAddr d a) 24)

/-- A list with its repeats of the element before dropped. -/
def dropRepeats : List Nat → List Nat
  | a :: b :: l => if a = b then dropRepeats (b :: l) else a :: dropRepeats (b :: l)
  | l => l

/-- The near addresses of die `d` whose shadow holds anything. -/
def shadowSlots (d : Nat) (s : State) : List Nat :=
  dropRepeats (s.hbm.filterMap (fun e =>
    if shadowAddr d 0 ≤ e.1 ∧ e.1 < shadowAddr d 0x81000 then some ((e.1 - shadowAddr d 0) / 32) else none))

/-- Write a static slot and its shadow (R139). -/
def nearSetStatic (d a : Nat) (e : EmEntry) (s : State) : State := hbmWrite (shadowAddr d a) (emBytes e) (nearSet d a e s)

/-- The lay-by slots of a die in use: address and entry, ascending. -/
def laybyUsed (d : Nat) (s : State) : List (Nat × EmEntry) :=
  s.tb.near.filterMap (fun x =>
    if x.1 / 2 ^ 20 = d ∧ 0x80000 ≤ x.1 % 2 ^ 20 ∧ x.2.valid = true then some (x.1 % 2 ^ 20, x.2) else none)

/-- The slot holds the key: a narrow key in an entry of one slot, a wide one in a head slot with its tail after it. -/
def slotHas (d a key : Nat) (s : State) : Bool :=
  let e := nearAt d a s
  if keyWidth key = 128 then e.valid && !e.wideHead && !e.wideTail && e.key.toNat == key
  else e.valid && e.wideHead && e.key.toNat == key / 2 ^ 128 && (nearAt d (a + 1) s).key.toNat == key % 2 ^ 128

/-- A near lookup: the bucket's slots first, then the lay-by (R118). -/
def nearFind (d key : Nat) (s : State) : Option Nat :=
  let b := nearBucket d key s
  match (List.range 4).find? (fun k => slotHas d (4 * b + k) key s) with
  | some k => some (4 * b + k)
  | none => ((laybyUsed d s).find? (fun x => slotHas d x.1 key s)).map Prod.fst

/-- The free near place of a key: the lowest free slot or aligned pair of its bucket, else of the lay-by (R119). -/
def nearFree (d key : Nat) (s : State) : Option Nat :=
  let b := nearBucket d key s
  let free (a : Nat) : Bool := !(nearAt d a s).valid
  if keyWidth key = 128 then
    match (List.range 4).find? (fun k => free (4 * b + k)) with
    | some k => some (4 * b + k)
    | none =>
      let i := lowestFree 0x80000 ((laybyUsed d s).map Prod.fst)
      if i < 0x81000 then some i else none
  else
    match [0, 2].find? (fun k => free (4 * b + k) && free (4 * b + k + 1)) with
    | some k => some (4 * b + k)
    | none =>
      let pairs := (laybyUsed d s).map (fun x => (x.1 - 0x80000) / 2)
      let i := lowestFree 0 pairs
      if i < 2048 then some (0x80000 + 2 * i) else none

/-- Store an entry of either width at an address. -/
def nearPlace (d a key : Nat) (action : BitVec 48) (static hit : Bool) (s : State) : State :=
  let put := if static then nearSetStatic else nearSet
  if keyWidth key = 128 then
    put d a { key := BitVec.ofNat 128 key, action := action, valid := true, static := static, hit := hit } s
  else
    put d (a + 1) { key := BitVec.ofNat 128 key, valid := true, wideTail := true }
      (put d a { key := BitVec.ofNat 128 (key / 2 ^ 128), action := action, valid := true, static := static, wideHead := true } s)

/-- Free the slot at an address, and its tail slot when it heads a wide entry. -/
def nearErase (d a : Nat) (s : State) : State :=
  let e := nearAt d a s
  let put := if e.static then nearSetStatic else nearSet
  let s1 := put d a {} s
  if e.wideHead then put d (a + 1) {} s1 else s1

/-- The full key of the entry whose head or only slot is at an address. -/
def nearKey (d a : Nat) (s : State) : Nat :=
  let e := nearAt d a s
  if e.wideHead then e.key.toNat * 2 ^ 128 + (nearAt d (a + 1) s).key.toNat else e.key.toNat

/-- The bucket room that an entry of the lay-by fits: a free slot, or a free aligned pair (R120). -/
def bucketRoom (d b : Nat) (wide : Bool) (s : State) : Option Nat :=
  let free (a : Nat) : Bool := !(nearAt d a s).valid
  if wide then ([0, 2].find? (fun k => free (4 * b + k) && free (4 * b + k + 1))).map (4 * b + ·)
  else ((List.range 4).find? (fun k => free (4 * b + k))).map (4 * b + ·)

/-- Lay-by moves into a bucket with free room (R120): the entry at the lowest lay-by address that fits, repeated. -/
def laybyMove (d b : Nat) : Nat → State → State
  | 0, s => s
  | fuel + 1, s =>
    let cand := (laybyUsed d s).findSome? (fun x =>
      if x.2.wideTail then none
      else if nearBucket d (nearKey d x.1 s) s ≠ b then none
      else (bucketRoom d b x.2.wideHead s).map (fun a => (x.1, a)))
    match cand with
    | none => s
    | some (la, a) =>
      let e := nearAt d la s
      let put := if e.static then nearSetStatic else nearSet
      let s1 := put d a e s
      let s2 := if e.wideHead then put d (a + 1) (nearAt d (la + 1) s) s1 else s1
      laybyMove d b fuel (nearErase d la s2)

/-- Delete the entry at an address and let the lay-by fill the freed room. -/
def nearDelete (d a : Nat) (s : State) : State :=
  let b := if a < 0x80000 then a / 4 else nearBucket d (nearKey d a s) s
  laybyMove d b 4 (nearErase d a s)

/-- A lookup read the entry uncorrectable (R118): a static entry is rewritten from its shadow, a learned one deleted. -/
def nearUe (d a : Nat) (s : State) : State :=
  let s1 := raiseFault 69 d 0 (s.bump F.EM_UE d)
  if (nearAt d a s).static then nearSet d a (shadowAt d a s1) s1 else nearDelete d a s1

/-- A lookup of a key reads this slot: the slots of its bucket and the whole lay-by (R118). -/
def nearReads (d key a : Nat) (s : State) : Bool :=
  a / 4 == nearBucket d key s || (decide (0x80000 ≤ a) && decide (a < 0x81000))

/-- A near lookup, where the slots of `ue` read uncorrectable (R118): those entries count as a miss. -/
def nearLookup (d key : Nat) (ue : List Nat) (s : State) : State × Option (Nat × EmEntry) :=
  let bad := ue.filter (fun a => nearReads d key a s && (nearAt d a s).valid)
  let hit := (nearFind d key s).filter (fun a => !bad.contains a && !(keyWidth key == 256 && bad.contains (a + 1)))
  (bad.foldl (fun s a => nearUe d a s) s, hit.map (fun a => (a, nearAt d a s)))

/-- Delete every learned entry of a die that `sel` picks, with the lay-by moves that follow. -/
def deleteLearned (d : Nat) (sel : EmEntry → Bool) (s : State) : State :=
  let as := s.tb.near.filterMap (fun x =>
    if x.1 / 2 ^ 20 = d ∧ x.2.learned = true ∧ sel x.2 = true then some (x.1 % 2 ^ 20, nearBucket d x.2.key.toNat s) else none)
  let s1 := as.foldl (fun s a => nearErase d a.1 s) s
  as.foldl (fun s a => laybyMove d a.2 4 s) s1

/-- FLUSH_ON_DOWN (R134): on every enabled die, the learned entries of a down port. -/
def flushPort (p : Nat) (s : State) : State :=
  if s.fld F.PORT_LEARN_CFG_FLUSH_ON_DOWN p = 1 then
    (List.range 4).foldl (fun s d => if s.dieEnabled d then deleteLearned d (fun e => e.operand == p) s else s) s
  else s

/-- What a pass's read-and-clear leaves of a learned entry (R132), none when it deletes it; a source hit in the same cycle wins (R133). -/
def agedEntry (e : EmEntry) (hitNow : Bool) : Option EmEntry :=
  if e.lock ≠ 0 then some { e with lock := e.lock - 1, hit := hitNow, flap := 0 }
  else if e.hit || hitNow then some { e with hit := hitNow, flap := 0 }
  else none

/-- AGE_PASS_START (R132, R133): the pass over the learned entries of a die; a source hit meets the entries at `hits` in the cycle in which the
pass reads them. -/
def agePass (d : Nat) (hits : List Nat) (s : State) : State :=
  let as := s.tb.near.filterMap (fun x => if x.1 / 2 ^ 20 = d ∧ x.2.learned = true then some (x.1 % 2 ^ 20) else none)
  let gone := as.filter (fun a => (agedEntry (nearAt d a s) (hits.contains a)).isNone)
  let s1 := as.foldl (fun s a =>
    match agedEntry (nearAt d a s) (hits.contains a) with
    | some e => nearSet d a e s
    | none => (nearErase d a s).bump F.AGED d) s
  gone.foldl (fun s1 a => laybyMove d (if a < 0x80000 then a / 4 else nearBucket d (nearKey d a s) s) 4 s1) s1

/-- The action of a learned entry: KIND 2, the port. -/
def portAction (p : Nat) : BitVec 48 := BitVec.ofNat 48 (2 * 2 ^ 44 + p)

/-- The source hit check of a key (R129, R131): an entry of the same port has HIT set in the lookup cycle. -/
def sourceHitKey (d key port : Nat) (ue : List Nat) (s : State) : Bool × State :=
  match nearLookup d key ue s with
  | (s1, none) => (false, s1)
  | (s1, some (a, e)) =>
    if e.kind = 2 ∧ e.operand = port then
      (true, (if e.static then nearSetStatic else nearSet) d a { e with hit := true } s1)
    else (false, s1)

/-- The same for the key of the source. -/
def sourceHit (d vid sa port : Nat) (ue : List Nat) (s : State) : Bool × State := sourceHitKey d (bridgeKey vid sa) port ue s

/-- A learn request for a key that the engine's lookup did not find (R129). -/
def learnInsert (d key : Nat) (r : LearnReq) (s : State) : State × Bool :=
  let max := s.fld F.PORT_LEARN_CFG_MAX_LEARNED r.port
  if r.ingress = true ∧ max ≠ 0 ∧ s.fld F.FWD_LEARNED r.port = max then (s.bump F.LEARN_REFUSED_LIMIT d, false)
  else match nearFree d key s with
    | none => (s.bump F.LEARN_REFUSED_FULL d, false)
    | some a => ((nearPlace d a key (portAction r.port) false true s).bump F.LEARNS d, true)

/-- A learn request is acted on at the head of the queue (R129, R130): the state, and whether a token is used. -/
def learnActKey (d key : Nat) (r : LearnReq) (ue : List Nat) (s : State) : State × Bool :=
  match nearLookup d key ue s with
  | (s, none) => learnInsert d key r s
  | (s, some (a, e)) =>
    if e.kind = 2 ∧ e.operand = r.port then
      ((if e.static then nearSetStatic else nearSet) d a { e with hit := true } s, false)
    else if e.static then (s.bump F.LEARN_STATIC_CONFLICT d, false)
    else if e.lock ≠ 0 then (s.bump F.MOVE_REFUSED_LOCK d, false)
    else
      let flap := min 15 (e.flap + 1)
      let locks := flap == s.fld F.EM_AGE_FLAP_LIMIT d
      let s1 := (nearSet d a { e with action := portAction r.port, hit := true, flap := flap, lock := if locks then 2 else e.lock } s).bump
        F.MOVES d
      (if locks then raiseSrc (256 + 32 * d + 9) (s1.bump F.FLAP_LOCKS d) else s1, true)

/-- The same for a request. -/
def learnAct (d : Nat) (r : LearnReq) (ue : List Nat) (s : State) : State × Bool := learnActKey d (bridgeKey r.vid r.sa) r ue s

/-- Commit a learn request into a die's queue of 256 (R131). -/
def learnCommit (d : Nat) (r : LearnReq) (s : State) : State :=
  if 256 ≤ (s.dp.learnQ.filter (fun x => x.1 == d)).length then s.bump F.LEARN_REFUSED_RATE d
  else { s with dp := { s.dp with learnQ := s.dp.learnQ ++ [(d, r)] } }

/-- Remove the first element that satisfies a test. -/
def dropFirst {α : Type} (f : α → Bool) : List α → List α
  | [] => []
  | x :: xs => if f x then xs else x :: dropFirst f xs

/-- LEARN_QUEUE_HEAD (R131): the head request of a die, with a token at hand; slots of `ue` read uncorrectable in its lookup. -/
def learnHead (d : Nat) (ue : List Nat) (s : State) : State :=
  match s.dp.learnQ.find? (fun x => x.1 == d) with
  | none => s
  | some (_, r) =>
    if 64 ≤ tget 0 s.dp.learnSpent d then s
    else
      let s0 := { s with dp := { s.dp with learnQ := dropFirst (fun x => x.1 == d) s.dp.learnQ } }
      let r' := learnAct d r ue s0
      if r'.2 then { r'.1 with dp := { r'.1.dp with learnSpent := tset 0 r'.1.dp.learnSpent d (tget 0 r'.1.dp.learnSpent d + 1) } }
      else r'.1

/-- LEARN_TOKEN_REFILL (R131): 64 tokens, capped at 64. -/
def learnRefill (d : Nat) (s : State) : State := { s with dp := { s.dp with learnSpent := tset 0 s.dp.learnSpent d 0 } }

/-- The far bucket and overflow line of a key (R115, R125), by the far seed of die `d`. -/
def farHash (d key : Nat) (s : State) : Nat := emHash (s.fld F.EM_FAR_SEED d) 128 key

/-- The far addresses a key may stand at: its bucket's slots, then its overflow line's. -/
def farPlaces (d key : Nat) (s : State) : List Nat :=
  let h := farHash d key s
  (List.range 4).map (fun k => 4 * (h % 2 ^ 21) + k) ++ (List.range 4).map (fun k => 0x800000 + 4 * (h / 2 ^ 18) + k)

/-- The HBM3 address of a far slot: 128-byte lines of four slots, then the overflow lines (R125, 16 R403). -/
def farAddr (a : Nat) : Nat :=
  if a < 0x800000 then 0x40000000 + 128 * (a / 4) + 24 * (a % 4)
  else 0x50000000 + 128 * ((a - 0x800000) / 4) + 24 * (a % 4)

/-- The far slot at an address of EM_ADDR's encoding. -/
def farAt (a : Nat) (s : State) : EmEntry := emOfBytes (hbmRead s (farAddr a) 24)

/-- OVF_COUNT of the bucket of a key: byte 96 of its line (R125). -/
def ovfAddr (d key : Nat) (s : State) : Nat := 0x40000000 + 128 * (farHash d key s % 2 ^ 21) + 96

def ovfCount (d key : Nat) (s : State) : Nat := beNat (hbmRead s (ovfAddr d key s) 1)

/-- Write a far slot of a key; OVF_COUNT of its bucket follows what stands in the overflow line (R125). -/
def farPut (d key a : Nat) (e : EmEntry) (s : State) : State :=
  let s1 := hbmWrite (farAddr a) (emBytes e) s
  if a < 0x800000 then s1
  else hbmWrite (ovfAddr d key s) (toBe 1 (if e.valid then ovfCount d key s + 1 else ovfCount d key s - 1)) s1

/-- A far lookup (R126): the bucket line, and the overflow line where no slot of it holds the key and OVF_COUNT is not 0. -/
def farFind (d key : Nat) (s : State) : Option (Nat × EmEntry) :=
  let at? (a : Nat) : Option (Nat × EmEntry) :=
    let e := farAt a s
    if e.valid = true ∧ e.key.toNat = key then some (a, e) else none
  match ((farPlaces d key s).take 4).findSome? at? with
  | some x => some x
  | none => if ovfCount d key s = 0 then none else ((farPlaces d key s).drop 4).findSome? at?

/-- The free far place of a key: the lowest free slot of its bucket, then of its overflow line (R137). -/
def farFree (d key : Nat) (s : State) : Option Nat := (farPlaces d key s).find? (fun a => !(farAt a s).valid)

/-- The key that a command's DATA hold; a key whose top four bits are 0x4 is 256 bits wide, any other stands in words 0 to 3. -/
def EmCmd.key (c : EmCmd) : Nat :=
  let v := (List.range 8).foldl (fun v w => v + c.data.getD w 0 * 2 ^ (32 * w)) 0
  if v / 2 ^ 252 = 4 then v else v % 2 ^ 128

/-- The action that a command's DATA hold. -/
def EmCmd.action (c : EmCmd) : BitVec 48 := BitVec.ofNat 48 (c.data.getD 8 0 + (c.data.getD 9 0 % 65536) * 2 ^ 32)

/-- Put an entry into EM_DATA. -/
def emDataPut (d j key : Nat) (e : EmEntry) (s : State) : State :=
  let base := (d * 2 + j) * 10
  let s := (List.range 8).foldl (fun s w => s.setFld F.EM_DATA (base + w) (key / 2 ^ (32 * w))) s
  (s.setFld F.EM_DATA (base + 8) e.action.toNat).setFld F.EM_DATA (base + 9) (e.action.toNat / 2 ^ 32 + e.flags * 65536)

/-- The type code of a key (Table 5.1). -/
def keyType (key : Nat) : Nat := if keyWidth key = 256 then 4 else key / 2 ^ 124 % 16

/-- The table takes keys of this type (R114, R125). -/
def keyAllowed (far : Bool) (key : Nat) : Bool :=
  let t := keyType key
  t == 7 || (!far && (t == 1 || t == 2 || t == 3 || (t == 4 && keyWidth key == 256)))

/-- The entry rules of R114 and R117: the key's type and the action that goes with it; a port that it names must be one (01 R17, R23). -/
def entryAllowed (far : Bool) (key : Nat) (action : BitVec 48) : Bool :=
  let a := action.toNat
  let kind := a / 2 ^ 44
  let op := a % 65536
  let reserved := a / 65536 % 2 ^ 26 == 0
  keyAllowed far key && reserved &&
    (if keyType key = 7 then
      a / 2 ^ 42 % 4 != 3 &&
        ((kind == 2 && decide (op ≤ 513)) || (kind == 3 && decide (op ≤ 16383)) || (kind == 4 && decide (op < 4)) || (kind == 5 && op == 0))
    else a / 2 ^ 42 % 4 == 0 && kind == 1 && decide (op ≤ 65534))

/-- READ of an exact-match table (Table 5.4); an uncorrectable entry ends it. -/
def emOpRead (c : EmCmd) (ue : Bool) (s : State) : State × CmdEnd :=
  let e := if c.table = 0 then nearAt c.d c.addr s else farAt c.addr s
  if (if c.table = 0 then 0x81000 else 0x810000) ≤ c.addr then (s, endWith 4)
  else if ue then (s, endWith 6)
  else (emDataPut c.d c.j e.key.toNat e s, endWith 0)

/-- The entry of a command's key. -/
def emFind (c : EmCmd) (s : State) : Option (Nat × EmEntry) :=
  if c.table = 0 then (nearFind c.d c.key s).map (fun a => (a, nearAt c.d a s)) else farFind c.d c.key s

/-- LOOKUP (Table 5.4). -/
def emOpLookup (c : EmCmd) (ue : Bool) (s : State) : State × CmdEnd :=
  if keyAllowed (c.table == 1) c.key = false then (s, endWith 5)
  else if ue then (s, endWith 6)
  else match emFind c s with
    | some (a, e) => (emDataPut c.d c.j c.key e s, { result := 0, hit := some true, addr := some a })
    | none => (s, { result := 3, hit := some false })

/-- The address at which a static INSERT with no free room displaces a learned entry (R139): the lowest slot of the
bucket that holds one, for a wide key the lowest aligned pair that holds no static entry. -/
def displaceAt (d key : Nat) (s : State) : Option Nat :=
  let b := nearBucket d key s
  if keyWidth key = 128 then ((List.range 4).find? (fun k => (nearAt d (4 * b + k) s).learned)).map (4 * b + ·)
  else ([0, 2].find? (fun k =>
    let e0 := nearAt d (4 * b + k) s
    let e1 := nearAt d (4 * b + k + 1) s
    (!e0.valid || e0.learned) && (!e1.valid || e1.learned))).map (4 * b + ·)

/-- INSERT of a static entry into the near table (R139). -/
def nearInsert (d key : Nat) (act : BitVec 48) (s : State) : State × CmdEnd :=
  match nearFind d key s, nearFree d key s with
  | some _, _ => (s, endWith 2)
  | none, some a => (nearPlace d a key act true false s, { result := 0, addr := some a })
  | none, none =>
    match displaceAt d key s with
    | none => (s, endWith 1)
    | some a =>
      let both := if keyWidth key = 128 then [a] else [a, a + 1]
      let s1 := both.foldl (fun s x => if (nearAt d x s).learned then (nearErase d x s).bump F.LEARN_EVICTED d else s) s
      (nearPlace d a key act true false s1, { result := 0, addr := some a })

/-- INSERT of a static entry into the far table (R137, R139). -/
def farInsert (d key : Nat) (act : BitVec 48) (s : State) : State × CmdEnd :=
  match farFind d key s, farFree d key s with
  | some _, _ => (s, endWith 2)
  | none, none => (s, endWith 1)
  | none, some a =>
    (farPut d key a { key := BitVec.ofNat 128 key, action := act, valid := true, static := true } s, { result := 0, addr := some a })

/-- INSERT (Table 5.4). -/
def emOpInsert (c : EmCmd) (s : State) : State × CmdEnd :=
  if entryAllowed (c.table == 1) c.key c.action = false then (s, endWith 5)
  else if c.table = 0 then nearInsert c.d c.key c.action s
  else farInsert c.d c.key c.action s

/-- DELETE (Table 5.4). -/
def emOpDelete (c : EmCmd) (s : State) : State × CmdEnd :=
  if keyAllowed (c.table == 1) c.key = false then (s, endWith 5)
  else match emFind c s with
    | none => (s, endWith 3)
    | some (a, _) => (if c.table = 0 then nearDelete c.d a s else farPut c.d c.key a {} s, { result := 0, addr := some a })

/-- FLUSH (Table 5.7): by port, by VID, by both, or every learned entry; the near table only. -/
def emOpFlush (c : EmCmd) (s : State) : State × CmdEnd :=
  let w := c.data.getD 0 0
  let byPort := w.testBit 31
  let byVid := w.testBit 30
  if c.table = 0 then
    (deleteLearned c.d (fun e => (!byPort || e.operand == w % 1024) &&
      (!byVid || e.key.toNat / 2 ^ 112 % 4096 == w / 1024 % 4096)) s, endWith 0)
  else (s, endWith 0)

/-- The effect of a command (Table 5.4). -/
def emEffect (c : EmCmd) (ue : Bool) (s : State) : State × CmdEnd :=
  match c.op with
  | 1 => emOpRead c ue s
  | 2 => emOpLookup c ue s
  | 3 => emOpInsert c s
  | 4 => emOpDelete c s
  | 5 => emOpFlush c s
  | _ => (s, endWith 0)

/-- A command joins the engine of its die (R138): BUSY sets, and the command holds what its window's registers hold now. -/
def emJoin (d j op table : Nat) (s : State) : State :=
  let c : EmCmd := { d := d, j := j, op := op, table := table, addr := s.fld F.EM_ADDR (d * 2 + j),
                     data := (List.range 10).map (fun w => s.fld F.EM_DATA ((d * 2 + j) * 10 + w)) }
  let s1 := s.setFld F.EM_STATUS_BUSY (d * 2 + j) 1
  { s1 with tb := { s1.tb with emRun := s1.tb.emRun ++ [c] } }

/-- A write of EM_CMD_j with an OP (R138): discarded while BUSY; else the command joins the die's engine. -/
def emStart (q : Requester) (d j op table : Nat) (s : State) : State :=
  gated q (regOffset .EM_CMD (d * 2 + j)) (fun s =>
    if op = 0 ∨ 6 ≤ op ∨ s.fld F.EM_STATUS_BUSY (d * 2 + j) = 1 ∨ windowServes q j = false then s else emJoin d j op table s) s

/-- The command of window j that runs: the oldest of its die and, for the far table, the oldest far command of all dies (R138). -/
def emRunning (d j : Nat) (s : State) : Option EmCmd :=
  match s.tb.emRun.find? (fun c => c.d == d) with
  | none => none
  | some c => if c.j = j ∧ (c.table = 0 ∨ s.tb.emRun.find? (fun x => x.table != 0) = some c) then some c else none

/-- What a command that ended with RESULT 0 writes to the far table or to a static shadow is a request of class 2 (16 R405). -/
def emTraffic (c : EmCmd) (e : CmdEnd) (before s : State) : State :=
  match e.addr with
  | none => s
  | some a =>
    if e.result ≠ 0 ∨ (c.op ≠ 3 ∧ c.op ≠ 4) then s
    else if c.table ≠ 0 then dramRequests 2 true (farAddr a) 24 s
    else if c.op = 4 ∧ (nearAt c.d a before).static = false then s
    else dramRequests 2 true (shadowAddr c.d a) (if keyWidth c.key = 256 then 56 else 24) s

/-- EM_COMMAND_END (R138): the command acts and ends; `ue`: a READ or LOOKUP met an uncorrectable entry. -/
def emFinish (d j : Nat) (ue : Bool) (s : State) : State :=
  match emRunning d j s with
  | none => s
  | some c =>
    let r := emEffect c ue { s with tb := { s.tb with emRun := s.tb.emRun.filter (fun x => x != c) } }
    putEnd F.EM_STATUS_BUSY F.EM_STATUS_RESULT none (some F.EM_STATUS_HIT) (some F.EM_STATUS_RESULT_ADDR) (d * 2 + j) r.2 (emTraffic c r.2 s r.1)

end Sys2Proof.Machine
end

