-- ==== Sys2Proof/Machine/Rewrite.lean ====
section
/-! DEFINITION. The rewrite tables and their window, and the edit programs (06_rewrite_replication_mirroring.md). -/

namespace Sys2Proof.Machine

/-- The key of word `w` of entry `i` of a rewrite table: 0 programs, 1 next hops, 2 groups, 3 copy entries. -/
def rwKey (table i w : Nat) : Nat := (table * 65536 + i) * 16 + w

/-- Word `w` of an entry of a rewrite table. -/
def rwWord (table i w : Nat) (s : State) : Nat := tget 0 s.tb.rw (rwKey table i w)

/-- Words of one entry (Table 6.7). -/
def rwLen (table : Nat) : Nat := if table = 0 then 12 else if table = 1 then 4 else if table = 2 then 1 else 2

/-- Entries of a table. -/
def rwCount (table : Nat) : Nat := if table = 0 then 256 else if table = 2 then 16384 else 65536

/-- Write an entry and its shadow. -/
def rwPut (table i : Nat) (ws : List Nat) (s : State) : State :=
  let put (t : Tab Nat) : Tab Nat := (ws.zipIdx).foldl (fun t x => tset 0 t (rwKey table i x.2) (x.1 % 2 ^ 32)) t
  { s with tb := { s.tb with rw := put s.tb.rw, rwShadow := put s.tb.rwShadow } }

/-- The entry is rewritten from its shadow (R164). -/
def rwFromShadow (table i : Nat) (s : State) : State :=
  { s with tb := { s.tb with rw := (List.range (rwLen table)).foldl (fun t w =>
      tset 0 t (rwKey table i w) (tget 0 s.tb.rwShadow (rwKey table i w))) s.tb.rw } }

/-- An uncorrectable read of a program or a next hop on die `d` (R164); `k`: 0 a program word, 1 a next hop. -/
def editTableUe (d table i k : Nat) (s : State) : State := raiseFault 70 d k ((rwFromShadow table i s).bump F.EDIT_UE d)

/-- Arguments and reserved bits of one operation word (Table 6.4). -/
def editWordOk (w : Nat) : Bool :=
  let allowed := match w / 2 ^ 28 with
    | 1 | 2 => 0x1
    | 3 => 0xFFF07FF
    | 5 => 0xFFF000C
    | 6 => 0x1F0
    | 7 => 0x600
    | 8 => 0x3
    | 10 => 0x7F
    | 13 => 0x3FFFFFF
    | _ => 0
  let a := w % 2 ^ 28
  (a &&& allowed) == a &&
  (match w / 2 ^ 28 with
    | 3 => bitsOf a 0 2 != 3 && bitsOf a 2 2 != 3 && bitsOf a 4 2 != 3
    | 5 => bitsOf a 2 2 != 3
    | 6 => decide (bitsOf a 4 2 < 2)
    | 8 => bitsOf a 0 2 != 3
    | 13 => decide (bitsOf a 24 2 < 2)
    | _ => true)

/-- EDIT_GROW of a program (R156): 4 per PUSH_TAG and 6 per INSERT_RTAG up to the first END. -/
def editGrow : List Nat → Nat
  | [] => 0
  | w :: ws =>
    match w / 2 ^ 28 with
    | 0 => 0
    | 3 => 4 + editGrow ws
    | 11 => 6 + editGrow ws
    | _ => editGrow ws

/-- The ports that a run of copy entries names, with entry `j` taken as naming `p`. -/
def runPorts (first count j p : Nat) (s : State) : List Nat :=
  (List.range count).map (fun k => if first + k = j then p else rwWord 3 (first + k) 0 s % 1024)

/-- A list names no number twice. -/
def allDistinct : List Nat → Bool
  | [] => true
  | x :: xs => !xs.contains x && allDistinct xs

/-- The checks of a WRITE to a rewrite table but for the repeated-port rule: none refused 0, else BAD_INDEX 1 or BAD_ENTRY 2 (R145, R150,
R151). -/
def rwForm (table i : Nat) (ws : List Nat) (s : State) : Nat :=
  let w (k : Nat) : Nat := ws.getD k 0
  if rwCount table ≤ i then 1
  else match table with
  | 0 => if i = 0 then 1 else if (ws.take 8).all editWordOk then 0 else 2
  | 1 =>
    let kind := bitsOf (w 2) 30 2
    let op := bitsOf (w 2) 0 16
    if bitsOf (w 1) 28 4 ≠ 0 ∨ bitsOf (w 2) 24 6 ≠ 0 ∨ w 3 ≠ 0 ∨ bitsOf (w 1) 16 12 = 0xFFF ∨ kind = 3 then 2
    else if kind = 0 ∧ portNamed op s = false then 2
    else if kind = 1 ∧ 16383 < op then 2
    else 0
  | 2 =>
    let count := bitsOf (w 0) 16 11
    let first := bitsOf (w 0) 0 16
    if bitsOf (w 0) 27 4 ≠ 0 ∨ 65536 < first + count ∨ 514 < count then 2 else 0
  | _ =>
    let p := bitsOf (w 0) 0 10
    if bitsOf (w 0) 24 4 ≠ 0 ∨ bitsOf (w 0) 10 6 ≠ 0 ∨ 4096 ≤ w 1 ∨ w 1 = 0xFFF ∨ portNamed p s = false then 2 else 0

/-- The group entries with VALID = 1, each with its index. -/
def validGroups (s : State) : List (Nat × Nat) :=
  s.tb.rw.filterMap (fun e =>
    let t := e.1 / 16
    if 131072 ≤ t ∧ t < 131072 + 16384 ∧ e.1 % 16 = 0 ∧ bitsOf e.2 31 1 = 1 then some (t - 131072, e.2) else none)

/-- The write would leave the run of a valid group naming one port twice (R145). -/
def rwRepeats (table i : Nat) (ws : List Nat) (s : State) : Bool :=
  let w := ws.getD 0 0
  if table = 2 then bitsOf w 31 1 == 1 && !allDistinct (runPorts (bitsOf w 0 16) (bitsOf w 16 11) 65536 0 s)
  else if table = 3 then (validGroups s).any (fun g =>
    decide (bitsOf g.2 0 16 ≤ i) && decide (i < bitsOf g.2 0 16 + bitsOf g.2 16 11) &&
      !allDistinct (runPorts (bitsOf g.2 0 16) (bitsOf g.2 16 11) i (bitsOf w 0 10) s))
  else false

/-- The checks of a WRITE to a rewrite table (R145, R150, R151). -/
def rwCheck (table i : Nat) (ws : List Nat) (s : State) : Nat :=
  match rwForm table i ws s with
  | 0 => if rwRepeats table i ws s then 2 else 0
  | r => r

/-- READ of the rewrite window (R163). -/
def rwOpRead (j table : Nat) (ue : Bool) (s : State) : State × CmdEnd :=
  let i := s.fld F.RW_INDEX j
  if rwCount table ≤ i then (s, endWith 1)
  else if ue then (s, endWith 3)
  else ((List.range (rwLen table)).foldl (fun s w => s.setFld F.RW_DATA (j * 12 + w) (rwWord table i w s)) s, endWith 0)

/-- The entry that RW_DATA holds for a table. -/
def rwData (j table : Nat) (s : State) : List Nat := (List.range (rwLen table)).map (fun w => s.fld F.RW_DATA (j * 12 + w))

/-- An accepted WRITE: the whole entry at once, its shadow, and EDIT_GROW of a program. -/
def rwStore (table i : Nat) (ws : List Nat) (s : State) : State :=
  let s1 := rwPut table i ws s
  if table = 0 then s1.setFld F.EDIT_GROW i (editGrow (ws.take 8)) else s1

/-- WRITE of the rewrite window (R163). -/
def rwOpWrite (j table : Nat) (s : State) : State × CmdEnd :=
  let i := s.fld F.RW_INDEX j
  match rwCheck table i (rwData j table s) s with
  | 0 => (rwStore table i (rwData j table s) s, endWith 0)
  | r => (s, endWith r)

/-- A write of RW_CMD_j (R163): discarded while BUSY; else BUSY sets, the command acts, and its end is held. -/
def rwStart (q : Requester) (j : Nat) (op : State → State × CmdEnd) (s : State) : State :=
  gated q (regOffset .RW_CMD j) (fun s =>
    if s.fld F.RW_STATUS_BUSY j = 1 ∨ windowServes q j = false then s
    else
      let r := op (s.setFld F.RW_STATUS_BUSY j 1)
      { r.1 with tb := { r.1.tb with rwEnd := tset none r.1.tb.rwEnd j (some r.2) } }) s

/-- RW_COMMAND_END (R163). -/
def rwFinish (j : Nat) (s : State) : State :=
  match tget none s.tb.rwEnd j with
  | none => s
  | some e => putEnd F.RW_STATUS_BUSY F.RW_STATUS_RESULT none none none j e
      { s with tb := { s.tb with rwEnd := tset none s.tb.rwEnd j none } }

/-! ### Edit programs -/

/-- What an edit program may use beside the copy's bytes (Table 6.4). -/
structure EditCtx where
  cls : Nat := 0
  colour : Nat := 0
  vid : Nat := 0
  /-- DMAC and VID of the copy's next hop, when it carries one -/
  nh : Option (Nat × Nat) := none
  portMac : Nat := 0
  tpid : Nat := 0
  seq : Option Nat := none
  data : List Nat := []
deriving DecidableEq, Repr

/-- Header positions found by the walk of R152 in the bytes before the FCS. -/
structure Walk where
  tags : Nat := 0
  rtag : Option Nat := none
  /-- start of L3 and whether it is IPv6 -/
  l3 : Option (Nat × Bool) := none
deriving DecidableEq, Repr

/-- Tags from byte `o`, at most `fuel`. -/
def countTags (tpid : Nat) (bs : List Byte) : Nat → Nat → Nat
  | 0, _ => 0
  | fuel + 1, o =>
    let t := be16 bs o
    if o + 2 ≤ bs.length ∧ (t = 0x8100 ∨ t = 0x88A8 ∨ t = tpid) then 1 + countTags tpid bs fuel (o + 4) else 0

/-- The walk of R152. -/
def walkHeader (tpid : Nat) (bs : List Byte) : Walk :=
  let n := countTags tpid bs 3 12
  let o := 12 + 4 * n
  let hasR := decide (o + 2 ≤ bs.length) && be16 bs o == 0xF1C1
  let o3 := if hasR then o + 6 else o
  let t := be16 bs o3
  { tags := n
    rtag := if hasR then some o else none
    l3 := if o3 + 2 ≤ bs.length ∧ t = 0x0800 then some (o3 + 2, false)
          else if o3 + 2 ≤ bs.length ∧ t = 0x86DD then some (o3 + 2, true) else none }

/-- Replace bytes from `o`. -/
def patch (bs : List Byte) (o : Nat) (new : List Byte) : List Byte := bs.take o ++ new ++ bs.drop (o + new.length)

/-- Bytes `o` to `o + n - 1` lie within the copy and below byte 192 (R152). -/
def canTouch (bs : List Byte) (o n : Nat) : Bool := decide (o + n ≤ bs.length) && decide (o + n ≤ 192)

/-- The IPv4 header checksum after a 16-bit word of the header changed from `old` to `new` (R153, incremental). -/
def checksumUpdate (hc old new : Nat) : Nat :=
  0xFFFF - fold16 ((0xFFFF - hc) + (0xFFFF - old) + new)

/-- Change the 16-bit word at `o` of an IPv4 header that starts at `l3`, with its checksum. -/
def ipv4Word (bs : List Byte) (l3 o new : Nat) : List Byte :=
  let old := be16 bs o
  patch (patch bs o (toBe 2 new)) (l3 + 10) (toBe 2 (checksumUpdate (be16 bs (l3 + 10)) old new))

/-- The TPID code of an operation. -/
def tpidOf (c : EditCtx) (code : Nat) : Nat := if code = 0 then 0x8100 else if code = 1 then 0x88A8 else c.tpid

/-- The VID that VID_SRC names; none when the operation cannot act. -/
def vidOf (c : EditCtx) (src vid : Nat) : Option Nat :=
  match src with
  | 0 => some c.vid
  | 1 => some vid
  | _ => match c.nh with
    | some (_, v) => if v = 0 then none else some v
    | none => none

/-- The PCP that PCP_SRC names. -/
def pcpOf (c : EditCtx) (bs : List Byte) (tags src pcp : Nat) : Nat :=
  match src with
  | 0 => c.cls
  | 1 => pcp
  | _ => if tags = 0 then 0 else bitsOf (be16 bs 14) 13 3

/-- The DEI of an operation. -/
def deiOf (c : EditCtx) (a : Nat) : Nat :=
  if bitsOf a 9 1 = 1 then (if c.colour = 0 then 0 else 1) else bitsOf a 10 1

/-- What one operation does to a copy. -/
inductive EditRes where
  | ok (bs : List Byte)
  /-- it cannot act: EDIT_NA -/
  | na
  | drop
  | ttlDrop
deriving DecidableEq, Repr

/-- DEC_TTL at byte `o` of a header at `l3` (Table 6.4). -/
def decTtl (bs : List Byte) (l3 : Nat) (v6 : Bool) : EditRes :=
  let o := if v6 then l3 + 7 else l3 + 8
  if canTouch bs o 1 = false ∨ (v6 = false ∧ canTouch bs (l3 + 10) 2 = false) then .na
  else
    let ttl := beNat (slice bs o 1)
    if ttl ≤ 1 then .ttlDrop
    else if v6 then .ok (patch bs o [BitVec.ofNat 8 (ttl - 1)])
    else .ok (ipv4Word bs l3 o (be16 bs o - 256))

/-- Write the 6 DSCP bits, keeping the ECN bits. -/
def setDscp (bs : List Byte) (l3 : Nat) (v6 : Bool) (dscp : Nat) : EditRes :=
  if canTouch bs l3 2 = false ∨ (v6 = false ∧ canTouch bs (l3 + 10) 2 = false) then .na
  else
    let w := be16 bs l3
    if v6 then .ok (patch bs l3 (toBe 2 (bitsOf w 12 4 * 4096 + dscp * 64 + bitsOf w 0 6)))
    else .ok (ipv4Word bs l3 l3 (bitsOf w 8 8 * 256 + dscp * 4 + bitsOf w 0 2))

/-- One edit operation (Table 6.4) on the bytes before the FCS. -/
def editOp (c : EditCtx) (w : Nat) (bs : List Byte) : EditRes :=
  let a := w % 2 ^ 28
  let k := walkHeader c.tpid bs
  match w / 2 ^ 28 with
  | 1 =>
    let mac := if bitsOf a 0 1 = 0 then c.nh.map Prod.fst else some (c.data.getD 0 0 + (c.data.getD 1 0 % 65536) * 2 ^ 32)
    match mac with
    | some m => if canTouch bs 0 6 then .ok (patch bs 0 (toBe 6 m)) else .na
    | none => .na
  | 2 =>
    let m := if bitsOf a 0 1 = 0 then c.portMac else c.data.getD 2 0 + (c.data.getD 3 0 % 65536) * 2 ^ 32
    if canTouch bs 6 6 then .ok (patch bs 6 (toBe 6 m)) else .na
  | 3 =>
    match vidOf c (bitsOf a 2 2) (bitsOf a 16 12) with
    | some v =>
      if k.tags = 3 ∨ bs.length < 12 then .na
      else
        let tci := pcpOf c bs k.tags (bitsOf a 4 2) (bitsOf a 6 3) * 8192 + deiOf c a * 4096 + v
        .ok (bs.take 12 ++ toBe 2 (tpidOf c (bitsOf a 0 2)) ++ toBe 2 tci ++ bs.drop 12)
    | none => .na
  | 4 => if k.tags = 0 then .na else if canTouch bs 12 4 then .ok (bs.take 12 ++ bs.drop 16) else .na
  | 5 =>
    match vidOf c (bitsOf a 2 2) (bitsOf a 16 12) with
    | some v =>
      if k.tags = 0 then .na
      else if canTouch bs 14 2 then .ok (patch bs 14 (toBe 2 (bitsOf (be16 bs 14) 12 4 * 4096 + v))) else .na
    | none => .na
  | 6 =>
    if k.tags = 0 then .na
    else if canTouch bs 14 2 then
      .ok (patch bs 14 (toBe 2 (pcpOf c bs k.tags (bitsOf a 4 2) (bitsOf a 6 3) * 8192 + bitsOf (be16 bs 14) 0 13)))
    else .na
  | 7 =>
    if k.tags = 0 then .na
    else if canTouch bs 14 2 then
      .ok (patch bs 14 (toBe 2 (bitsOf (be16 bs 14) 13 3 * 8192 + deiOf c a * 4096 + bitsOf (be16 bs 14) 0 12)))
    else .na
  | 8 => if k.tags = 0 then .na else if canTouch bs 12 2 then .ok (patch bs 12 (toBe 2 (tpidOf c (bitsOf a 0 2)))) else .na
  | 9 => match k.l3 with | some (o, v6) => decTtl bs o v6 | none => .na
  | 10 =>
    match k.l3 with
    | some (o, v6) => setDscp bs o v6 (if bitsOf a 6 1 = 1 then 8 * c.cls else bitsOf a 0 6)
    | none => .na
  | 11 =>
    match c.seq with
    | none => .na
    | some n =>
      match k.rtag with
      | some o => if canTouch bs (o + 4) 2 then .ok (patch bs (o + 4) (toBe 2 n)) else .na
      | none =>
        let o := 12 + 4 * k.tags
        if bs.length < o then .na else .ok (bs.take o ++ toBe 2 0xF1C1 ++ toBe 2 0 ++ toBe 2 n ++ bs.drop o)
  | 12 => match k.rtag with | some o => if canTouch bs o 6 then .ok (bs.take o ++ bs.drop (o + 6)) else .na | none => .na
  | 13 =>
    let base := if bitsOf a 24 2 = 0 then some 0 else k.l3.map Prod.fst
    match base with
    | some b => if canTouch bs (b + bitsOf a 16 8) 2 then .ok (patch bs (b + bitsOf a 16 8) (toBe 2 (bitsOf a 0 16))) else .na
    | none => .na
  | 14 => .drop
  | 15 =>
    if canTouch bs 0 12 then .ok (patch bs 0 (slice bs 6 6 ++ slice bs 0 6)) else .na
  | _ => .ok bs

/-- Run the operation words in order until END (R151): the bytes, how many could not act, and a discard. -/
def editRun (c : EditCtx) : List Nat → List Byte → Nat → List Byte × Nat × Option EditRes
  | [], bs, na => (bs, na, none)
  | w :: ws, bs, na =>
    if w / 2 ^ 28 = 0 then (bs, na, none)
    else match editOp c w bs with
      | .ok bs' => editRun c ws bs' na
      | .na => editRun c ws bs (na + 1)
      | r => (bs, na, some r)

/-- The ECN mark of R154: 01 or 10 becomes 11 in the L3 header. -/
def applyEcn (tpid : Nat) (bs : List Byte) : List Byte :=
  match (walkHeader tpid bs).l3 with
  | none => bs
  | some (o, v6) =>
    let w := be16 bs o
    let ecn := if v6 then bitsOf w 4 2 else bitsOf w 0 2
    if ecn = 1 ∨ ecn = 2 then
      (if v6 then patch bs o (toBe 2 (w ||| 0x30)) else ipv4Word bs o o (w ||| 0x3))
    else bs

/-- The DEI of the outer tag set on a late marked copy (08 R215). -/
def applyLate (tpid : Nat) (bs : List Byte) : List Byte :=
  if (walkHeader tpid bs).tags = 0 then bs else patch bs 14 (toBe 2 (be16 bs 14 ||| 0x1000))

/-- The reflected CRC-32 of an Ethernet FCS over bytes, one bit per step (R155 computes a new FCS). -/
def fcsStep (reg : Nat) : Nat → Nat
  | 0 => reg
  | n + 1 => fcsStep (if reg % 2 = 1 then (reg / 2) ^^^ 0xEDB88320 else reg / 2) n

/-- The FCS register after a list of bytes. -/
def fcsBytes : Nat → List Byte → Nat
  | reg, [] => reg
  | reg, b :: bs => fcsBytes (fcsStep (reg ^^^ b.toNat) 8) bs

/-- The four FCS bytes of a frame body, in transmission order. -/
def fcsOf (bs : List Byte) : List Byte := toLe 4 (fcsBytes 0xFFFFFFFF bs ^^^ 0xFFFFFFFF)

/-- The stomped FCS: the correct CRC XOR 0xFFFF_FFFF (07 R180). -/
def stompOf (bs : List Byte) : List Byte := toLe 4 (fcsBytes 0xFFFFFFFF bs)

/-- Pad a body with zeros to 60 bytes, so that the copy has 64 with its FCS (R155). -/
def padBody (bs : List Byte) : List Byte := bs ++ List.replicate (60 - bs.length) 0

end Sys2Proof.Machine
end

