-- ==== Sys2Proof/Machine/Gates.lean ====
section
/-! DEFINITION. Gate lists of ports and of streams, the stream tables and their window (08_egress_scheduling.md R204 to R211, R225, R235). -/

namespace Sys2Proof.Machine

/-- Word `w` of entry `i` of a stream table (08 R235): 0 contexts, 1 gates, 2 pool, 3 meters, 4 to 6 counters. -/
def scKey (table i w : Nat) : Nat := (table * 2 ^ 20 + i) * 8 + w

def scWord (table i w : Nat) (s : State) : Nat := tget 0 s.tb.sc (scKey table i w)

/-- Write a word of a stream table. -/
def scSet (table i w v : Nat) (s : State) : State :=
  { s with tb := { s.tb with sc := tset 0 s.tb.sc (scKey table i w) (v % 2 ^ 32) } }

/-- A field of a stream table word. -/
def scFld (table i w hi lo : Nat) (s : State) : Nat := bitsOf (scWord table i w s) lo (hi + 1 - lo)

/-- Write bits `hi..lo` of a stream table word. -/
def scSetFld (table i w hi lo v : Nat) (s : State) : State :=
  let x := scWord table i w s
  let m := 2 ^ (hi + 1 - lo)
  scSet table i w (x - bitsOf x lo (hi + 1 - lo) * 2 ^ lo + v % m * 2 ^ lo) s

/-- Count in a stream counter, saturating (08 R236). -/
def scBump (table i w n : Nat) (s : State) : State := scSet table i w (min (scWord table i w s + n) 0xFFFFFFFF) s

/-- Write the whole entry, and its shadow for tables 0 to 3 (R229). -/
def scPut (table i : Nat) (ws : List Nat) (s : State) : State :=
  let put (t : Tab Nat) : Tab Nat := (ws.zipIdx).foldl (fun t x => tset 0 t (scKey table i x.2) (x.1 % 2 ^ 32)) t
  { s with tb := { s.tb with sc := put s.tb.sc, scShadow := if table < 4 then put s.tb.scShadow else s.tb.scShadow } }

/-! ### Lists -/

/-- Where a list of intervals (8 ns units) stands at a position of its cycle: the entry running and where it ends.
The last entry holds to the end of the cycle; an entry the cycle's end meets is cut there (R205). -/
def listAt (interval : Nat → Nat) (cycle pos : Nat) : Nat → Nat → Nat → Nat × Nat
  | 0, i, _ => (i, cycle)
  | left + 1, i, start =>
    let stop := start + 8 * interval i
    if left = 0 ∨ cycle ≤ stop then (i, cycle)
    else if pos < stop then (i, stop)
    else listAt interval cycle pos left (i + 1) stop

/-- The entry of a run at a time, as an index below its length, with the time (ns) at which that entry ends. -/
def GateRun.at (r : GateRun) (interval : Nat → Nat) (ns : Nat) : Nat × Nat :=
  let k := (ns - r.base) / r.cycle
  let pos := (ns - r.base) % r.cycle
  let e := listAt interval r.cycle pos r.len 0 0
  (e.1, r.base + k * r.cycle + e.2)

/-- R208: the start S of a new list with base B and cycle C for a request accepted at `acc` (ns), and whether the base
lay in the past. -/
def listStart (base cycle acc : Nat) : Nat × Bool :=
  if acc + 2000 ≤ base then (base, false)
  else (base + (acc + 2000 - base + cycle - 1) / cycle * cycle, base != 0)

/-- R208: the change time, the first cycle boundary of the running list at or after S. -/
def changeTime (oper : Option GateRun) (start : Nat) : Nat :=
  match oper with
  | none => start
  | some r => if start ≤ r.base then r.base else r.base + (start - r.base + r.cycle - 1) / r.cycle * r.cycle

/-- The working clock in nanoseconds, a started nanosecond counted whole. -/
def State.workNsUp (s : State) : Nat := (s.work + nsUnit - 1) / nsUnit

/-! ### Port gates -/

/-- The physical list that is the admin list of a port (R207). -/
def adminList (p : Nat) (s : State) : Nat := 1 - tget 0 s.dp.operList p

/-- Entry `i` of physical list `l` of port `p`. -/
def gclWord (p l i : Nat) (s : State) : Nat := tget 0 s.tb.gcl ((p * 2 + l) * 1024 + i)

/-- Write a gate list entry and its shadow. -/
def gclPut (p l i v : Nat) (s : State) : State :=
  let k := (p * 2 + l) * 1024 + i
  { s with tb := { s.tb with gcl := tset 0 s.tb.gcl k (v % 2 ^ 32), gclShadow := tset 0 s.tb.gclShadow k (v % 2 ^ 32) } }

/-- The whole-nanosecond time of a base given in three registers. -/
def baseNs (ns lo hi : Nat) : Nat := (lo + hi * 2 ^ 32) * 1000000000 + ns

/-- The parameters of the admin list lie in range, and no entry below LEN has INTERVAL 0 or OP 3 (R205, R207). -/
def adminOk (p : Nat) (s : State) : Bool :=
  let len := s.fld F.GCL_ADMIN_LEN p
  let cyc := s.fld F.GCL_ADMIN_CYCLE p
  s.fld F.PORT_SCH_CFG_GATE_EN p == 1 && decide (1 ≤ len) && decide (len ≤ 1024) && decide (1000 ≤ cyc) &&
  decide (cyc ≤ 1000000000) && decide (s.fld F.GCL_ADMIN_BASE_NS p ≤ 999999999) &&
  (List.range len).all (fun i =>
    let w := gclWord p (adminList p s) i s
    bitsOf w 0 22 != 0 && bitsOf w 30 2 != 3)

/-- A change request of a port (R207, R208). -/
def gclRequest (p : Nat) (s : State) : State :=
  if adminOk p s = false then raiseSrc 134 (s.setFld F.GCL_STATUS_BAD_LIST p 1)
  else
    let base := baseNs (s.fld F.GCL_ADMIN_BASE_NS p) (s.fld F.GCL_ADMIN_BASE_SEC_LO p) (s.fld F.GCL_ADMIN_BASE_SEC_HI p)
    let cyc := s.fld F.GCL_ADMIN_CYCLE p
    let st := listStart base cyc s.workNsUp
    let tc := changeTime (tget none s.dp.gclOper p) st.1
    let s1 := if st.2 then raiseSrc 133 ((s.setFld F.GCL_STATUS_START_IN_PAST p 1).bump F.GCL_START_IN_PAST p) else s
    let s2 := if tc ≠ st.1 then s1.setFld F.GCL_STATUS_CHANGE_SHIFT p 1 else s1
    let s3 := s2.setFlds [(F.GCL_STATUS_CHANGE_PENDING, p, 1), (F.GCL_CHANGE_TIME_NS, p, tc % 1000000000),
      (F.GCL_CHANGE_TIME_SEC_LO, p, tc / 1000000000), (F.GCL_CHANGE_TIME_SEC_HI, p, tc / 1000000000 / 2 ^ 32)]
    let run : GateRun := { base := tc, cycle := cyc, first := 0, len := s.fld F.GCL_ADMIN_LEN p }
    { s3 with dp := { s3.dp with gclPending := tset none s3.dp.gclPending p (some run) } }

/-- A cancel of a pending change (R207): accepted at least 1 µs before the change time. -/
def gclCancelOk (p : Nat) (s : State) : Bool :=
  match tget none s.dp.gclPending p with
  | some r => decide (s.work + 1000 * nsUnit ≤ r.base * nsUnit)
  | none => false

/-- The pending change is taken back. -/
def gclDrop (p : Nat) (s : State) : State :=
  let s1 := s.setFld F.GCL_STATUS_CHANGE_PENDING p 0
  { s1 with dp := { s1.dp with gclPending := tset none s1.dp.gclPending p none } }

/-- A write of GCL_CTRL (R207): CANCEL first, then CHANGE_REQ, then INIT_GATES as written. -/
def gclCtrl (p : Nat) (cancel request : Bool) (s : State) : State :=
  let s1 := if cancel = true ∧ gclCancelOk p s = true then gclDrop p s else s
  if request = false then s1
  else if s1.fld F.GCL_STATUS_CHANGE_PENDING p = 1 then s1.setFld F.GCL_STATUS_WRITE_REFUSED p 1
  else gclRequest p s1

/-- GCL_CHANGE_APPLY (R207): the lists exchange roles and the OPER registers take the accepted parameters. -/
def gclApply (p : Nat) (s : State) : State :=
  match tget none s.dp.gclPending p with
  | none => s
  | some r =>
    let s1 := s.setFlds [(F.GCL_OPER_BASE_NS, p, s.fld F.GCL_ADMIN_BASE_NS p), (F.GCL_OPER_BASE_SEC_LO, p, s.fld F.GCL_ADMIN_BASE_SEC_LO p),
      (F.GCL_OPER_BASE_SEC_HI, p, s.fld F.GCL_ADMIN_BASE_SEC_HI p), (F.GCL_OPER_CYCLE, p, s.fld F.GCL_ADMIN_CYCLE p),
      (F.GCL_OPER_LEN, p, s.fld F.GCL_ADMIN_LEN p), (F.GCL_STATUS_OPER_VALID, p, 1), (F.GCL_STATUS_CHANGED, p, 1),
      (F.GCL_STATUS_CHANGE_PENDING, p, 0), (F.GCL_STATUS_OPER_INDEX, p, 0)]
    let s2 := raiseSrc 132 (s1.bump F.GCL_CHANGES p)
    { s2 with dp := { s2.dp with
      gclPending := tset none s2.dp.gclPending p none
      gclOper := tset none s2.dp.gclOper p (some r)
      operList := tset 0 s2.dp.operList p (adminList p s) } }

/-- The gates of a port at a time (ns), and the time at which the running entry ends; none where nothing ends (R206, R209). -/
def portGatesAt (p ns : Nat) (s : State) : Nat × Option Nat :=
  if s.fld F.PORT_SCH_CFG_GATE_EN p = 0 then (0xFF, none)
  else
    let pend := tget none s.dp.gclPending p
    let cut (t : Nat) : Nat := match pend with | some r => if ns < r.base then min t r.base else t | none => t
    let usePend := match pend with | some r => decide (r.base ≤ ns) | none => false
    if usePend then
      match pend with
      | some r =>
        let l := adminList p s
        let e := r.at (fun i => bitsOf (gclWord p l i s) 0 22) ns
        (bitsOf (gclWord p l e.1 s) 22 8, some e.2)
      | none => (0xFF, none)
    else
      match tget none s.dp.gclOper p with
      | some r =>
        if ns < r.base then (s.fld F.GCL_CTRL_INIT_GATES p, some (cut r.base))
        else
          let l := tget 0 s.dp.operList p
          let e := r.at (fun i => bitsOf (gclWord p l i s) 0 22) ns
          (bitsOf (gclWord p l e.1 s) 22 8, some (cut e.2))
      | none => (s.fld F.GCL_CTRL_INIT_GATES p, pend.map (fun r => r.base))

/-- The word of the gate entry that is in force on port `p` at a time (ns), none where no list runs. -/
def portWordAt (p ns : Nat) (s : State) : Option Nat :=
  if s.fld F.PORT_SCH_CFG_GATE_EN p = 0 then none
  else
    let word (l : Nat) (r : GateRun) : Nat := gclWord p l (r.at (fun i => bitsOf (gclWord p l i s) 0 22) ns).1 s
    match (tget none s.dp.gclPending p).filter (fun r => decide (r.base ≤ ns)), (tget none s.dp.gclOper p).filter (fun r => decide (r.base ≤ ns)) with
    | some r, _ => some (word (adminList p s) r)
    | none, some r => some (word (tget 0 s.dp.operList p) r)
    | none, none => none

/-- The next Set-And-Hold entry of port `p` begins after `ns` and no later than `till`, at most `fuel` entries on (R211). -/
def holdAhead (p till : Nat) (s : State) : Nat → Nat → Bool
  | 0, _ => false
  | fuel + 1, ns =>
    match (portGatesAt p ns s).2 with
    | none => false
    | some stop =>
      if stop ≤ ns ∨ till < stop then false
      else ((portWordAt p stop s).map (fun w => bitsOf w 30 2)) == some 1 || holdAhead p till s fuel stop

/-- Gate `n` of port `p` is open from `ns` without interruption until `till`, at most `fuel` entries (condition 6 of Table 8.1). -/
def gateOpenFrom (p n till : Nat) (s : State) : Nat → Nat → Bool
  | 0, _ => false
  | fuel + 1, ns =>
    let g := portGatesAt p ns s
    if g.1.testBit n = false then false
    else match g.2 with
      | none => true
      | some stop => if till ≤ stop then true else if stop ≤ ns then false else gateOpenFrom p n till s fuel stop

/-! ### Stream gates and the SC window -/

/-- Entries of a stream table, by R235. -/
def scCount (table : Nat) : Nat := if table = 1 then 4096 else if table = 2 ∨ table = 3 then 32768 else 65536

/-- The state of a stream gate beyond its words. -/
def gateSt (g : Nat) (s : State) : StreamGateSt := tget {} s.dp.streamGates g

def setGateSt (g : Nat) (v : StreamGateSt) (s : State) : State :=
  { s with dp := { s.dp with streamGates := tset {} s.dp.streamGates g v } }

/-- A run covers a pool entry. -/
def covers (r : Option GateRun) (i : Nat) : Bool :=
  match r with | some r => decide (r.first ≤ i) && decide (i < r.first + r.len) | none => false

/-- Pool entry `i` cannot be written: it lies in an oper region, a pending one, or one replaced within 10 µs (R225). -/
def poolLocked (i : Nat) (s : State) : Bool :=
  s.dp.streamGates.any (fun e => covers e.2.oper i || covers e.2.pending i || covers (e.2.old.map Prod.fst) i)

/-- The state of a stream gate at a time (ns) (R224, R225). -/
def streamGateOpen (g ns : Nat) (s : State) : Bool :=
  let st := gateSt g s
  let via (r : GateRun) : Bool :=
    let e := r.at (fun i => scFld 2 (r.first + i) 0 21 0 s) ns
    scFld 2 (r.first + e.1) 0 31 31 s == 1
  if scFld 1 g 0 31 31 s = 0 then true
  else if scFld 1 g 0 29 29 s = 1 then false
  else match st.oper with
    | some r =>
      if r.base ≤ ns then via r
      else match st.old with
        | some (o, _) => if o.base ≤ ns then via o else scFld 1 g 0 28 28 s == 1
        | none => scFld 1 g 0 28 28 s == 1
    | none => scFld 1 g 0 28 28 s == 1

/-- The bits of a stream table word that hold fields (Tables 8.5 to 8.7); the others are reserved and read 0. -/
def scMask (table w : Nat) : Nat :=
  match table, w with
  | 0, 0 => 0xFFFF1FFF
  | 0, 1 => 0x80007FFF
  | 0, 2 => 0xFFFFFFFF
  | 0, 3 => 0xC00FFFFF
  | 0, 4 => 0xFFC0FFFF
  | 0, 5 => 0xFFFFFFFF
  | 0, 6 => 0xFFFFFFFF
  | 1, 0 => 0xF8007FFF
  | 1, 1 => 0x7FF
  | 1, 2 => 0x3FFFFFFF
  | 1, 3 => 0xFFFFFFFF
  | 1, 4 => 0xFFFFFFFF
  | 1, 5 => 0xFFFF
  | 1, 6 => 0x7FF7FFF
  | 1, 7 => 0x80000000
  | 2, 0 => 0x803FFFFF
  | 3, 0 => 0xF7FFFFFF
  | 3, 1 => 0x7FFFFFF
  | 3, 2 => 0xFFFFFF
  | 3, 3 => 0xFFFFFF
  | 4, _ => 0xFFFFFFFF
  | 5, _ => 0xFFFFFFFF
  | 6, 0 => 0xFFFFFFFF
  | _, _ => 0

/-- The ranges of a stream context that WRITE refuses with BAD_ENTRY (Table 8.5). -/
def ctxOk (w : Nat → Nat) : Bool :=
  let sdu := bitsOf (w 0) 16 14
  let recEn := bitsOf (w 4) 30 1
  let ledEn := bitsOf (w 5) 31 1
  (sdu == 0 || (decide (64 ≤ sdu) && decide (sdu ≤ 9216))) && bitsOf (w 3) 30 2 != 3 &&
  (recEn == 0 || (decide (2 ≤ bitsOf (w 4) 22 7) && decide (bitsOf (w 4) 22 7 ≤ 64) && bitsOf (w 4) 0 16 != 0)) &&
  (ledEn == 0 || (decide (2 ≤ bitsOf (w 5) 28 3) && bitsOf (w 5) 0 16 != 0))

/-- The ranges of a meter (Table 8.7): CIR ≤ PIR ≤ 100,000,000 and PIR not 0. -/
def meterOk (w : Nat → Nat) : Bool :=
  let cir := bitsOf (w 0) 0 27
  let pir := bitsOf (w 1) 0 27
  decide (cir ≤ pir) && decide (1 ≤ pir) && decide (pir ≤ 100000000)

/-- The buckets of a meter are full at the present cycle. -/
def meterFull (m : Nat) (s : State) : State :=
  let st : MeterSt := { tc := scFld 3 m 2 23 0 s * 24000000, tp := scFld 3 m 3 23 0 s * 24000000, since := s.cycle }
  { s with dp := { s.dp with meters := tset {} s.dp.meters m st } }

/-- Set RESET_PENDING of a stream's recovery (R221, R235). -/
def recReset (h : Nat) (s : State) : State :=
  { s with dp := { s.dp with recov := tset {} s.dp.recov h { tget ({} : RecSt) s.dp.recov h with resetPending := true } } }

/-- What a write puts into word `w` of an entry whose word is `old`, for the bits with write rules of their own (R224, Tables 8.5, 8.6, 8.7). -/
def scMerge (table w old new : Nat) : Nat :=
  let new := new &&& scMask table w
  match table, w with
  | 0, 6 => bitsOf old 16 16 * 65536 + new % 65536
  | 1, 0 => setBit (setBit new 29 (new.testBit 29 && old.testBit 29)) 27 (new.testBit 27 && old.testBit 27)
  | 1, 6 => old
  | 1, 7 => old
  | 3, 0 => setBit new 28 (new.testBit 28 && old.testBit 28)
  | _, _ => new

/-- WRITE of a stream table (R235). -/
def scOpWrite (j table : Nat) (s : State) : State × CmdEnd :=
  let i := s.fld F.SC_INDEX j
  let old (w : Nat) : Nat := scWord table i w s
  let new (w : Nat) : Nat := scMerge table w (old w) (s.fld F.SC_DATA (j * 8 + w))
  let s1 := scPut table i ((List.range 8).map new) s
  if scCount table ≤ i then (s, endWith 1)
  else match table with
    | 0 =>
      if ctxOk new = false then (s, endWith 2)
      else if bitsOf (old 4) 22 9 ≠ bitsOf (new 4) 22 9 then (recReset i s1, endWith 0)
      else (s1, endWith 0)
    | 1 =>
      let admin (f : Nat → Nat) : List Nat := [bitsOf (f 0) 0 15, f 1, f 2, f 3, f 4, f 5]
      if (gateSt i s).pending.isSome = true ∧ admin old ≠ admin new then (s, endWith 3) else (s1, endWith 0)
    | 2 => if poolLocked i s then (s, endWith 3) else (s1, endWith 0)
    | 3 => if meterOk new = false then (s, endWith 2) else (meterFull i s1, endWith 0)
    | _ => (s1, endWith 0)

/-- READ of a stream table (R235). -/
def scOpRead (j table : Nat) (ue : Bool) (s : State) : State × CmdEnd :=
  let i := s.fld F.SC_INDEX j
  if scCount table ≤ i then (s, endWith 1)
  else if ue then (s, endWith 5)
  else ((List.range 8).foldl (fun s w => s.setFld F.SC_DATA (j * 8 + w) (scWord table i w s)) s, endWith 0)

/-- The admin list of a stream gate is in range, and no entry has INTERVAL 0 (R225, by R205 and R207). -/
def gateListOk (g : Nat) (s : State) : Bool :=
  let first := scFld 1 g 0 14 0 s
  let len := scFld 1 g 1 10 0 s
  let cyc := scFld 1 g 2 29 0 s
  decide (1 ≤ len) && decide (len ≤ 1024) && decide (first + len ≤ 32768) && decide (1000 ≤ cyc) && decide (cyc ≤ 1000000000) &&
  decide (scWord 1 g 3 s ≤ 999999999) && (List.range len).all (fun k => scFld 2 (first + k) 0 21 0 s != 0)

/-- CHANGE of a stream gate's list (R225, R235). -/
def scOpChange (j table : Nat) (s : State) : State × CmdEnd :=
  let g := s.fld F.SC_INDEX j
  if table ≠ 1 then (s, endWith 2)
  else if 4096 ≤ g then (s, endWith 1)
  else if (gateSt g s).pending.isSome then (s, endWith 3)
  else if gateListOk g s = false then (s, endWith 4)
  else
    let cyc := scFld 1 g 2 29 0 s
    let st := listStart (baseNs (scWord 1 g 3 s) (scWord 1 g 4 s) (scWord 1 g 5 s)) cyc s.workNsUp
    let run : GateRun := { base := changeTime (gateSt g s).oper st.1, cycle := cyc, first := scFld 1 g 0 14 0 s, len := scFld 1 g 1 10 0 s }
    let s1 := if st.2 then raiseSrc 133 (scSetFld 1 g 0 27 27 1 s) else s
    (setGateSt g { gateSt g s1 with pending := some run } (scSetFld 1 g 7 31 31 1 s1), endWith 0)

/-- A write of SC_CMD_j (R235): discarded while BUSY; TABLE 7 or OP 0 does nothing; else BUSY sets, the command acts, its end is held. -/
def scStart (q : Requester) (j table : Nat) (op : State → State × CmdEnd) (s : State) : State :=
  gated q (regOffset .SC_CMD j) (fun s =>
    if s.fld F.SC_STATUS_BUSY j = 1 ∨ table = 7 ∨ windowServes q j = false then s
    else
      let r := op (s.setFld F.SC_STATUS_BUSY j 1)
      { r.1 with tb := { r.1.tb with scEnd := tset none r.1.tb.scEnd j (some r.2) } }) s

/-- SC_COMMAND_END (R235). -/
def scFinish (j : Nat) (s : State) : State :=
  match tget none s.tb.scEnd j with
  | none => s
  | some e => putEnd F.SC_STATUS_BUSY F.SC_STATUS_RESULT none none none j e
      { s with tb := { s.tb with scEnd := tset none s.tb.scEnd j none } }

/-- STREAM_GATE_CHANGE_APPLY (R225): OPER_FIRST and OPER_LEN take the admin values; the replaced region stays locked. -/
def streamGateApply (g : Nat) (s : State) : State :=
  let st := gateSt g s
  match st.pending with
  | none => s
  | some r =>
    let s1 := scSetFld 1 g 7 31 31 0 (scSet 1 g 6 (r.len * 65536 + r.first) s)
    setGateSt g { st with oper := some r, pending := none, old := st.oper.map (fun o => (o, r.base)), hadList := true } s1

/-- STREAM_GATE_ENTRY_BEGIN (R225): entry `i` of the running list begins. -/
def streamGateEntry (g i : Nat) (s : State) : State :=
  let st := gateSt g s
  match st.oper with
  | some r => if i < r.len then setGateSt g { st with openNow := scFld 2 (r.first + i) 0 31 31 s == 1 } s else s
  | none => s

/-- STREAM_GATE_REGION_RELEASE (R225): 10 µs after the change the replaced region becomes writable. -/
def streamGateRelease (g : Nat) (s : State) : State := setGateSt g { gateSt g s with old := none } s

/-- The context of a stream is rewritten from its shadow after an uncorrectable read (R229). -/
def ctxUe (h : Nat) (s : State) : State :=
  let s1 := { s with tb := { s.tb with sc := (List.range 8).foldl (fun t w =>
      tset 0 t (scKey 0 h w) (tget 0 s.tb.scShadow (scKey 0 h w))) s.tb.sc } }
  let s2 := if scFld 0 h 1 31 31 s1 = 1 then meterFull (scFld 0 h 1 14 0 s1) s1 else s1
  raiseFault 12 4 h (recReset h (s2.bump F.SC_UE 0))

end Sys2Proof.Machine
end

