-- ==== Sys2Proof/Machine/Buffer.lean ====
section
/-! DEFINITION. The accounts of the shared buffer (07_shared_buffer.md R166 to R168, R181, R182, R188, R189): cells, descriptors,
the transit reserve, PFC headroom and the XOFF thresholds, and the release of a frame's cells. -/

namespace Sys2Proof.Machine

/-- A frame by its number. -/
def frameAt (f : Nat) (s : State) : Option Frame := (s.dp.frames.find? (fun x => x.1 == f)).map Prod.snd

/-- Store a frame. -/
def setFrame (f : Nat) (fr : Frame) (s : State) : State := { s with dp := { s.dp with frames := tins s.dp.frames f fr } }

/-- Forget a frame. -/
def dropFrame (f : Nat) (s : State) : State := { s with dp := { s.dp with frames := tdel s.dp.frames f } }

/-- The state of a port that no register shows. -/
def portSt (p : Nat) (s : State) : PortSt := tget {} s.dp.ports p

def setPortSt (p : Nat) (v : PortSt) (s : State) : State := { s with dp := { s.dp with ports := tset {} s.dp.ports p v } }

/-- Cells of `n` bytes (R166). -/
def cellsOf (n : Nat) : Nat := (n + 127) / 128

/-- The charge of a frame (R181): ⌈L / 128⌉, or that of MAX_FRAME of the ingress port while the length is not known. -/
def chargeOf (fr : Frame) (s : State) : Nat :=
  match fr.len with
  | some l => cellsOf l
  | none => cellsOf (s.fld F.PORT_CFG_MAX_FRAME fr.port)

/-- The port of a queue (R182). -/
def portOfQueue (q : Nat) : Nat := if q < 4096 then q / 8 else if q < 4112 then 512 else 513

/-- The queue of a port's queue `n`, or of host queue `n` for port 512 (R182). -/
def queueOf (p n : Nat) : Nat := if p < 512 then 8 * p + n else if p = 512 then 4096 + n else 4112 + n

/-- The length of a frame when it is known. -/
def knownLen (f : Nat) (s : State) : Option Nat := (frameAt f s).bind (fun fr => fr.len)

/-- FREE of R183. -/
def freeShared (s : State) : Nat := s.fld F.POOL_STATUS 0 - s.fld F.SHARED_USED 0

/-- Source 128 is a level: FREE below POOL_ALARM (R195). -/
def poolLevel (s : State) : State := setLevel 128 (decide (freeShared s < s.fld F.POOL_ALARM 0)) s

/-- The high-water mark of a queue follows Q_CELLS + Q_HDRM_CELLS (Table 7.9). -/
def queueHwm (q : Nat) (s : State) : State :=
  s.setFld F.Q_HWM q (max (s.fld F.Q_HWM q) (s.fld F.Q_CELLS q + s.fld F.Q_HDRM_CELLS q))

/-- Set Q_CELLS of a queue; SHARED_USED is the sum over the queues of what lies above Q_MIN (R182). -/
def setQCells (q v : Nat) (s : State) : State :=
  let m := s.fld F.Q_MIN q
  let used := s.fld F.SHARED_USED 0 + (v - m) - (s.fld F.Q_CELLS q - m)
  poolLevel (queueHwm q ((s.setFld F.Q_CELLS q v).setFld F.SHARED_USED 0 used))

/-- Set Q_MIN of a queue, with SHARED_USED and SHARED_SIZE (R182). -/
def setQMin (q v : Nat) (s : State) : State :=
  let m := s.fld F.Q_MIN q
  let c := s.fld F.Q_CELLS q
  let s1 := s.setFlds [(F.Q_MIN, q, v), (F.SHARED_USED, 0, s.fld F.SHARED_USED 0 + (c - v) - (c - m)),
    (F.POOL_STATUS, 0, s.fld F.POOL_STATUS 0 + m - v)]
  poolLevel s1

/-- A MAC control frame that admission asks of a port: the priorities and the quanta (R188, 02 R46). -/
def ctrlRequest (p mask quanta : Nat) (s : State) : State :=
  let st := portSt p s
  setPortSt p { st with ctrl := st.ctrl ++ [(mask, quanta)] } s

/-- ING_CELLS of a port under FLOW_MODE 1: the sum over the classes (R188). -/
def portIngress (p : Nat) (s : State) : Nat :=
  (List.range 8).foldl (fun a n => a + s.fld F.PFC_STATUS_ING_CELLS (8 * p + n)) 0

/-- A PFC request has been made for pair `i` in the present cycle (R191). -/
def pfcAsked (i : Nat) (s : State) : Bool := tget none s.dp.pfcAt i == some s.cycle

/-- Ask for a control frame for pair `i`, and note the cycle (R191). -/
def pfcAsk (p i mask quanta : Nat) (s : State) : State :=
  ctrlRequest p mask quanta { s with dp := { s.dp with pfcAt := tset none s.dp.pfcAt i (some s.cycle) } }

/-- XOFF of pair `i` sets or clears; the cycle in which it sets is kept (R191). -/
def xoffPut (i : Nat) (on : Bool) (s : State) : State :=
  let s1 := s.setFld F.PFC_STATUS_XOFF i (if on then 1 else 0)
  if on then { s1 with dp := { s1.dp with xoffAt := tset none s1.dp.xoffAt i (some s.cycle) } } else s1

/-- PFC_XOFF (R188): the threshold update of one pair, or of pair 8p on a FLOW_MODE 1 port. A pair that has made its request of this cycle
is looked at again in the next (R191). -/
def pfcUpdate (p n : Nat) (s : State) : State :=
  let mode := s.fld F.PORT_CFG_FLOW_MODE p
  let i := if mode = 1 then 8 * p else 8 * p + n
  let used := if mode = 1 then portIngress p s else s.fld F.PFC_STATUS_ING_CELLS i
  let mask := if mode = 1 then 0xFF else 2 ^ n
  if mode = 0 ∨ mode = 3 then s
  else
    let act : Option Bool :=
      if s.fld F.PFC_STATUS_XOFF i = 0 then (if s.fld F.PFC_XOFF i ≤ used then some true else none)
      else if used ≤ s.fld F.PFC_XON i then some false else none
    match act with
    | none => s
    | some on =>
      if pfcAsked i s then
        (if s.dp.pfcDue.contains i then s else { s with dp := { s.dp with pfcDue := s.dp.pfcDue ++ [i] } })
      else pfcAsk p i mask (if on then s.fld F.PORT_PFC_TIMING_QUANTA p else 0) (xoffPut i on s)

/-- The threshold updates that waited for the next cycle are made (R191). -/
def pfcNext (s : State) : State :=
  s.dp.pfcDue.foldl (fun s i => pfcUpdate (i / 8) (i % 8) s) { s with dp := { s.dp with pfcDue := [] } }

/-- The bank of cell `k` of a frame (R166). -/
def cellBank (fr : Frame) (k : Nat) : Nat := (fr.bank + k) % 32

/-- Buffer write (01 R30): the first cell of a frame is written, in the bank after that of the frame started before it (R166). Its cells leave
the free list, ING_CELLS counts its charge, and the charge goes to PFC headroom when XOFF was set in an earlier cycle (R191) and the headroom
holds it (R189), else to the transit reserve. -/
def firstCell (f : Nat) (s : State) : State :=
  match frameAt f s with
  | none => s
  | some fr =>
    if fr.cells ≠ 0 then s else
    let c := chargeOf fr s
    let cells := cellsOf fr.bytes.length
    let i := 8 * fr.port + fr.cls.cls
    let wants := decide (fr.port < 512) && s.fld F.PORT_CFG_FLOW_MODE fr.port == 2 && s.fld F.PFC_STATUS_XOFF i == 1 &&
      tget none s.dp.xoffAt i != some s.cycle
    let fits := decide (s.fld F.PFC_HDRM_USED i + c ≤ s.fld F.PFC_HDRM i)
    let hd := wants && fits
    let s1 := if wants = true ∧ fits = false then raiseSrc 129 (s.bump F.HDRM_OVERRUN 0) else s
    let s2 := if hd then s1.addSat F.PFC_HDRM_USED i c else s1.addSat F.TRANSIT_USED 0 c
    let s3 := s2.lower F.FREE_CELLS 0 cells
    let s4 := if fr.port < 512 then pfcUpdate fr.port fr.cls.cls (s3.addSat F.PFC_STATUS_ING_CELLS i c) else s3
    let b := (s.dp.lastBank + 1) % 32
    setFrame f { fr with charge := c, provisional := fr.len.isNone, headroom := hd, transit := !hd, cells := cells,
                         tBuf := timeNs32 s.work, bank := b } { s4 with dp := { s4.dp with lastBank := b } }

/-- A frame's first copy is admitted: its cells leave the transit reserve (R182). -/
def leaveTransit (f : Nat) (s : State) : State :=
  match frameAt f s with
  | none => s
  | some fr => if fr.transit then setFrame f { fr with transit := false } (s.lower F.TRANSIT_USED 0 fr.charge) else s

/-- A copy of the frame waits in a queue, under a hold or on a receive slot. -/
def hasCopies (f : Nat) (s : State) : Bool :=
  s.dp.copies.any (fun c => c.frame == f) || s.dp.held.any (fun c => c.frame == f)

/-- CELL_RELEASE (R167): once no copy is left and the last cell is written, the cells go back and every charge of the
frame ends; the frame is forgotten when no port die holds a copy of it. -/
def settle (f : Nat) (s : State) : State :=
  match frameAt f s with
  | none => s
  | some fr =>
    if fr.stage ≠ .buffered ∨ fr.lastCell = false ∨ hasCopies f s = true then s
    else
      let i := 8 * fr.port + fr.cls.cls
      let s1 := if fr.freed then s else
        let a := s.setFld F.FREE_CELLS 0 (s.fld F.FREE_CELLS 0 + fr.cells)
        let b := if fr.headroom then a.lower F.PFC_HDRM_USED i fr.charge
          else if fr.transit then a.lower F.TRANSIT_USED 0 fr.charge else a
        if fr.port < 512 then pfcUpdate fr.port fr.cls.cls (b.lower F.PFC_STATUS_ING_CELLS i fr.charge) else b
      let still := s1.dp.tx.any (fun t => t.copy.frame == f) || s1.dp.hostRx.any (fun h => h.copy.frame == f)
      if still then setFrame f { fr with freed := true, transit := false, headroom := false } s1 else dropFrame f s1

/-- A descriptor goes back (R167). -/
def freeDesc (s : State) : State := s.setFld F.FREE_DESC 0 (s.fld F.FREE_DESC 0 + 1)

/-- Take a queued copy out of its queue's accounts (R182, R189). -/
def uncharge (c : Copy) (s : State) : State :=
  if c.headroom then s.lower F.Q_HDRM_CELLS c.q c.charge
  else setQCells c.q (s.fld F.Q_CELLS c.q - c.charge) s

/-- Remove a queued copy: its charge and its place in the queue. -/
def unqueue (c : Copy) (s : State) : State :=
  let s1 := uncharge c s
  { s1 with dp := { s1.dp with copies := s1.dp.copies.filter (fun x => x.id != c.id), overdue := s1.dp.overdue.filter (· != c.id) } }

/-- Discard a queued copy: descriptor and, when it was the last, the frame's cells. -/
def discardCopy (c : Copy) (s : State) : State := settle c.frame (freeDesc (unqueue c s))

/-- How many frames have held copies (06 R149). -/
def heldFrames (s : State) : List Nat :=
  s.dp.held.foldl (fun l c => if l.contains c.frame then l else l ++ [c.frame]) []

/-- MC_HOLD_STATUS.HELD reports the frames held (06 R149). -/
def heldCount (s : State) : State := s.setFld F.MC_HOLD_STATUS 0 (heldFrames s).length

end Sys2Proof.Machine
end

