-- ==== Sys2Proof/Machine/Flits.lean ====
section
/-! DEFINITION. The Ralhafold links: header context coding, flits with their metadata and CRC, and what crosses in each direction
(07_shared_buffer.md R169 to R177), and bad tails (R180). -/

namespace Sys2Proof.Machine

/-! ### Header context coding -/

/-- The delta mask of a frame (07 R174). -/
def deltaMask (port len : Nat) (s : State) : Nat :=
  s.fld F.DELTA_MASK port ||| (if len = 64 then 0xC0000000 else 0)

/-- Bytes 0 to 63 with the words of the mask set to zero; bit i of the mask covers bytes 2 i and 2 i + 1. -/
def maskBytes (m : Nat) (bs : List Byte) : List Byte :=
  (slice bs 0 64).zipIdx.map (fun x => if m.testBit (x.2 / 2) then 0 else x.1)

/-- How many of the low 32 bits are set. -/
def popCount (m : Nat) : Nat := ((List.range 32).filter (fun b => m.testBit b)).length

/-- The context index of a header (07 R175): CRC-32C from 0 over the masked bytes and the mask. -/
def ctxIndex (m : Nat) (bs : List Byte) : Nat :=
  crcBits 32 0x1EDC6F41 (beNat (maskBytes m bs) * 2 ^ 32 + m) 544 0 % 4096

/-- The key of a context of die `d`, direction `j`. -/
def ctxKey (d j i : Nat) : Nat := (d * 2 + j) * 4096 + i

/-- The sender's procedure of R175 for a frame of at least 64 bytes; `len` is its length when known, else 0. The answer
says how the frame crosses: coded with index i (true), installing index i (false), or neither. -/
def ctxSend (d j port len : Nat) (bs : List Byte) (s : State) : State × Option (Bool × Nat) :=
  if bs.length < 64 then (s, none)
  else
    let m := deltaMask port len s
    let x := d * 2 + j
    if 4 < popCount m then ((s.bump F.RLF_UNCODED_MASK x).addWrap F.RLF_UNCODED x 1, none)
    else
      let i := ctxIndex m bs
      let c := tget ({} : Ctx) s.dp.sendCtx (ctxKey d j i)
      if c.state = 2 ∧ c.mask = m ∧ maskBytes m c.content = maskBytes m bs then (s.addWrap F.RLF_CODED x 1, some (true, i))
      else if c.state = 1 then ((s.bump F.RLF_UNCODED_PENDING x).addWrap F.RLF_UNCODED x 1, none)
      else
        let c' : Ctx := { state := 1, mask := m, content := slice bs 0 64 }
        let s1 := (s.bump F.RLF_INSTALLS x).addWrap F.RLF_UNCODED x 1
        ({ s1 with dp := { s1.dp with sendCtx := tset {} s1.dp.sendCtx (ctxKey d j i) c' } }, some (false, i))

/-- CONTEXT_INSTALL (07 R177): the receiver stores bytes 0 to 63 of an installing frame. -/
def ctxInstall (d j port len : Nat) (bs : List Byte) (s : State) : State :=
  if bs.length < 64 then s
  else
    let m := deltaMask port len s
    let c : Ctx := { state := 2, mask := m, content := slice bs 0 64 }
    { s with dp := { s.dp with recvCtx := tset {} s.dp.recvCtx (ctxKey d j (ctxIndex m bs)) c } }

/-- One direction of a link: 0 die to hub, 1 hub to die. -/
def linkOf (d j : Nat) (s : State) : LinkDir := tget {} s.dp.links (d * 2 + j)

def setLink (d j : Nat) (l : LinkDir) (s : State) : State := { s with dp := { s.dp with links := tset {} s.dp.links (d * 2 + j) l } }

/-- The receiver of direction `j` has stored context `i` and sends ACK with its GEN (R177). -/
def sendAck (d j i : Nat) (s : State) : State :=
  let l := linkOf d j s
  setLink d j { l with acks := l.acks ++ [(i, s.fld F.RLF_STATUS_GEN d)] } s

/-- The receiver of direction `j` has met an uncorrectable context and sends INVAL (R177). -/
def sendInval (d j i : Nat) (s : State) : State :=
  let l := linkOf d j s
  setLink d j { l with invals := l.invals ++ [i] } s

/-- Set the state of a sending context. -/
def setSendCtx (d j i st : Nat) (s : State) : State :=
  let c := tget ({} : Ctx) s.dp.sendCtx (ctxKey d j i)
  { s with dp := { s.dp with sendCtx := tset {} s.dp.sendCtx (ctxKey d j i) { c with state := st } } }

/-- CONTEXT_ACK (07 R177): an ACK that is on its way reaches the sender; the current GEN makes a pending context VALID, an older one is
discarded. -/
def ctxAck (d j i gen : Nat) (s : State) : State :=
  let l := linkOf d j s
  if l.acks.contains (i, gen) = false then s
  else
    let s1 := setLink d j { l with acks := dropFirst (fun x => x == (i, gen)) l.acks } s
    if gen = s.fld F.RLF_STATUS_GEN d ∧ (tget ({} : Ctx) s.dp.sendCtx (ctxKey d j i)).state = 1 then setSendCtx d j i 2 s1 else s1

/-- CONTEXT_INVAL (07 R177): an INVAL that is on its way reaches the sender, which sets the context INVALID. -/
def ctxInval (d j i : Nat) (s : State) : State :=
  let l := linkOf d j s
  if l.invals.contains i = false then s
  else setSendCtx d j i 0 (setLink d j { l with invals := dropFirst (fun x => x == i) l.invals } s)

/-! ### Bad tails -/

/-- BAD_TAIL (R180): the frame is marked, and each of its copies is discarded or will be sent stomped. -/
def badCopies (f : Nat) (s : State) : State :=
  let gone (c : Copy) : Bool := c.frame == f && (c.mirror.isNone || c.port == 513)
  let s1 := (s.dp.copies.filter gone).foldl (fun s c => freeDesc (unqueue c (s.bump F.CT_BAD_DISCARD c.q))) s
  let s2 := (s1.dp.held.filter gone).foldl (fun s c => s.bump F.CT_BAD_DISCARD c.q) s1
  let s3 := heldCount { s2 with dp := { s2.dp with
    held := s2.dp.held.filter (fun c => !gone c)
    tx := s2.dp.tx.map (fun t => if t.copy.frame = f then { t with stomped := true } else t) } }
  settle f s3

/-- The frame is found bad: CT_BAD_TAIL of its ingress port when its start flit has crossed (not where the hub alone finds it,
08 R227), and its copies (R180). -/
def badTail (f : Nat) (count : Bool) (s : State) : State :=
  match frameAt f s with
  | none => s
  | some fr =>
    if fr.bad then s
    else
      let s1 := setFrame f { fr with bad := true, learn := none } s
      let crossed := fr.stage = .classified ∨ fr.stage = .farWait ∨ fr.stage = .buffered
      let s2 := if count = true ∧ crossed ∧ fr.port < 512 then s1.bump F.CT_BAD_TAIL fr.port else s1
      badCopies f s2

/-! ### Flits (R169) -/

/-- Bytes 0 to 29 of a flit (Table 7.1), the payload filled with zeros. -/
def flitBody (f : Flit) : List Byte :=
  toBe 2 (f.kind * 2 ^ 14 + f.channel * 2 ^ 6 + (if f.fin then 32 else 0) + f.aux) ++ (f.payload ++ List.replicate (28 - f.payload.length) 0).take 28

/-- The CRC-16 of 30 bytes: polynomial 0x1021, most significant bit first, the register starting at the flit's sequence number. -/
def flitCrc (seq : Nat) (body : List Byte) : Nat := crcBits 16 0x1021 (beNat body) 240 (seq % 2 ^ 16)

/-- The 32 bytes of a flit on the link. -/
def flitWire (seq : Nat) (f : Flit) : List Byte := flitBody f ++ toBe 2 (flitCrc seq (flitBody f))

/-- What a receiver that counts `seq` checks of 32 bytes. -/
def flitGood (seq : Nat) (bs : List Byte) : Bool := bs.length == 32 && beNat (slice bs 30 2) == flitCrc seq (bs.take 30)

/-- The IDLE flit. -/
def idleFlit : Flit := { owner := 0, kind := 0, channel := 0 }

/-- The first START or CSTART flit that no earlier flit of its channel precedes. -/
def startReady : List Nat → List Flit → Option Flit
  | _, [] => none
  | seen, f :: fs => if f.kind ≠ 3 ∧ seen.contains f.channel = false then some f else startReady (f.channel :: seen) fs

/-- The flit that a sending interface sends next (R170): a start flit before DATA flits, each channel in its order. -/
def flitNext (q : List Flit) : Option Flit :=
  match startReady [] q with
  | some f => some f
  | none => q.head?

/-- The flit on the link: the one under replay, else the next one with a sequence number of its own, else IDLE. -/
def flitOut (l : LinkDir) : Flit × LinkDir :=
  match l.replay with
  | some f => (f, l)
  | none => match flitNext l.queue with
    | some f => (f, { l with queue := dropFirst (fun x => x == f) l.queue, replay := some f, sendSeq := (l.sendSeq + 1) % 2 ^ 16 })
    | none => (idleFlit, { l with replay := some idleFlit, sendSeq := (l.sendSeq + 1) % 2 ^ 16 })

/-- The sequence number that the flit under way carries in its CRC. -/
def LinkDir.outSeq (l : LinkDir) : Nat := (l.sendSeq + (2 ^ 16 - 1)) % 2 ^ 16

/-! ### Metadata (R172) -/

/-- Fields from the most significant one down, each a width and a value. -/
def packBits (l : List (Nat × Nat)) : Nat := l.foldl (fun v x => v * 2 ^ x.1 + x.2 % 2 ^ x.1) 0

/-- The code of a trap copy in [73:70] of Table 7.2, and back. -/
def trapCode : Nat → Nat
  | 0x20 => 1
  | 0x30 => 2
  | 0x40 => 3
  | _ => 0

def trapOf : Nat → Nat
  | 1 => 0x20
  | 2 => 0x30
  | 3 => 0x40
  | _ => 0

/-- DEST_KIND and DEST of a destination; a frame without a forwarding copy goes as PORT 0xFFFF. -/
def destCode : Dest → Nat × Nat
  | .none => (0, 0xFFFF)
  | .port p => (0, p)
  | .group g => (1, g)
  | .nhPort _ p => (2, p)
  | .nhGroup _ g => (3, g)
  | .trap code host => (4, code * 256 + (if host then 1 else 0))
  | .far => (5, 0)

/-- HANDLE of Table 7.2: the next-hop index for DEST_KIND 2 and 3. -/
def handleWord (c : Cls) : Nat :=
  match c.dest with
  | .nhPort h _ => h
  | .nhGroup h _ => h
  | _ => c.handle

/-- INGRESS_TS: the ingress milestone in 0.25 ns, 34 bits. -/
def ingressTs (fr : Frame) : Nat := fr.tIn / 2 ^ 30 % 2 ^ 34

/-- CLS_OFFSET: classification done less INGRESS_TS in ns, at most 2,047. -/
def clsOffset (fr : Frame) : Nat := min ((fr.tClass + (2 ^ 32 - timeNs32 fr.tIn)) % 2 ^ 32) 2047

/-- The metadata of a frame from its die to the hub (Table 7.2). -/
def metaUp (fr : Frame) : Nat :=
  let c := fr.cls
  packBits [(14, fr.len.getD 0), (16, handleWord c), (12, c.vid), (3, c.cls), (3, c.queue), (2, c.colour), (3, (destCode c.dest).1),
    (16, (destCode c.dest).2), (1, if c.learn then 1 else 0), (2, trapCode c.trap513), (2, trapCode c.trap512), (1, if c.seq.isSome then 1 else 0),
    (16, c.seq.getD 0), (34, ingressTs fr), (11, clsOffset fr), (1, if c.ct then 1 else 0), (1, if c.ect then 1 else 0), (6, 0)]

/-- The destination that DEST_KIND, DEST and HANDLE spell; FAR leaves it to the far lookup. -/
def destOf (kind dest handle : Nat) (now : Dest) : Dest :=
  match kind with
  | 0 => if dest = 0xFFFF then .none else .port dest
  | 1 => .group dest
  | 2 => .nhPort handle dest
  | 3 => .nhGroup handle dest
  | 4 => .trap (dest / 256) (dest % 2 == 1)
  | _ => now

/-- The full-width ingress milestone from its truncated form (R173): the time nearest below the hub's, which a follower may lead by at most
1.024 µs. -/
def extendTs (ts : Nat) (s : State) : Nat :=
  let now := s.work / 2 ^ 30 + 2 ^ 12
  (now - (now % 2 ^ 34 + (2 ^ 34 - ts)) % 2 ^ 34) * 2 ^ 30

/-- A frame as the hub knows it from the metadata of its start flit (R172, R173). -/
def metaFrame (m : Nat) (fr : Frame) (s : State) : Frame :=
  let kind := bitsOf m 91 3
  let handle := bitsOf m 114 16
  let ts := bitsOf m 19 34
  { fr with
    tIn := extendTs ts s
    tClass := if kind = 5 then fr.tClass else (ts / 4 + bitsOf m 8 11) % 2 ^ 32
    cls := { fr.cls with
      handle := if kind = 2 ∨ kind = 3 then 0xFFFF else handle
      vid := bitsOf m 102 12, cls := bitsOf m 99 3, queue := bitsOf m 96 3, colour := bitsOf m 94 2
      dest := destOf kind (bitsOf m 75 16) handle fr.cls.dest
      learn := bitsOf m 74 1 == 1, trap513 := trapOf (bitsOf m 72 2), trap512 := trapOf (bitsOf m 70 2)
      seq := if bitsOf m 69 1 = 1 then some (bitsOf m 53 16) else none
      ct := bitsOf m 7 1 == 1, ect := bitsOf m 6 1 == 1 } }

/-- The metadata of a copy from the hub to its die (Table 7.3). -/
def metaDown (t : TxCopy) (fr : Frame) : Nat :=
  let c := t.copy
  packBits [(14, fr.len.getD 0), (8, c.edit), (16, c.nh.getD 0), (1, if c.nh.isSome then 1 else 0), (12, c.vid), (3, c.cls), (2, c.colour),
    (16, c.seq.getD 0), (1, if c.seq.isSome then 1 else 0), (9, fr.port), (1, if c.learn then 1 else 0), (1, if c.ecn then 1 else 0),
    (1, if c.late then 1 else 0), (1, if c.ct then 1 else 0), (32, c.tDeq), (26, 0)]

/-- A copy as its egress die knows it from the metadata of its start flit. -/
def metaCopy (m : Nat) (c : Copy) : Copy :=
  { c with
    edit := bitsOf m 122 8, nh := if bitsOf m 105 1 = 1 then some (bitsOf m 106 16) else none
    vid := bitsOf m 93 12, cls := bitsOf m 90 3, colour := bitsOf m 88 2
    seq := if bitsOf m 71 1 = 1 then some (bitsOf m 72 16) else none
    learn := bitsOf m 61 1 == 1, ecn := bitsOf m 60 1 == 1, late := bitsOf m 59 1 == 1, ct := bitsOf m 58 1 == 1, tDeq := bitsOf m 26 32 }

/-! ### Handing over (R172, R176) -/

/-- The 2-byte words of a mask, in ascending order. -/
def deltaWords (m : Nat) (bs : List Byte) : List Byte :=
  (List.range 32).flatMap (fun i => if m.testBit i then slice bs (2 * i) 2 else [])

/-- Bytes 0 to 63 from a stored content and the delta words of its mask. -/
def rebuildHead (m : Nat) (content delta : List Byte) : List Byte :=
  (List.range 32).flatMap (fun i =>
    if m.testBit i then slice delta (2 * popCount (m % 2 ^ i)) 2 else slice content (2 * i) 2)

/-- The start flit of a frame or copy, and the frame bytes it takes: START, with INSTALL where it installs a context, or CSTART. -/
def startFlit (owner channel md mask : Nat) (coding : Option (Bool × Nat)) (bs : List Byte) : Flit × Nat :=
  match coding with
  | some (true, i) =>
    let room := 8 - 2 * popCount mask
    ({ owner := owner, kind := 2, channel := channel, payload := toBe 18 md ++ toBe 2 i ++ deltaWords mask bs ++ slice bs 64 room },
     min (64 + room) (max 64 bs.length))
  | some (false, _) => ({ owner := owner, kind := 1, channel := channel, aux := 1, payload := toBe 18 md ++ slice bs 0 10 }, min 10 bs.length)
  | none => ({ owner := owner, kind := 1, channel := channel, payload := toBe 18 md ++ slice bs 0 10 }, min 10 bs.length)

/-- The DATA flits of the bytes from `at` on: the whole rest when the tail is in (the last one ends the frame), else the full ones only. -/
def dataFlits (owner channel : Nat) (bs : List Byte) (start : Nat) (whole bad : Bool) : List Flit :=
  let n := bs.length - start
  let k := if whole then max 1 ((n + 27) / 28) else n / 28
  (List.range k).map (fun i =>
    let p := slice bs (start + 28 * i) 28
    let last := whole && i + 1 == k
    { owner := owner, kind := 3, channel := channel, fin := last, aux := if last then (if bad then 31 else p.length) else 0, payload := p })

/-- A start flit and the DATA flits of the bytes at hand; the start flit itself ends a whole frame that it holds (END with AUX its frame bytes). -/
def handFlits (owner channel md mask : Nat) (coding : Option (Bool × Nat)) (bs : List Byte) (whole bad : Bool) : List Flit × Nat :=
  let x := startFlit owner channel md mask coding bs
  if whole = true ∧ bs.length ≤ x.2 then
    ([{ x.1 with fin := true, aux := if bad then 31 else match coding with | some (true, _) => bs.length - 64 | _ => bs.length }], bs.length)
  else
    let ds := dataFlits owner channel bs x.2 whole bad
    (x.1 :: ds, if whole then bs.length else x.2 + 28 * ds.length)

/-- Put flits at the end of a sending interface's queue. -/
def offerFlits (d j : Nat) (fs : List Flit) (s : State) : State :=
  let l := linkOf d j s
  setLink d j { l with queue := l.queue ++ fs } s

/-- A classified frame is coded and handed to its die's link (R172, R175). -/
def handUp (f : Nat) (fr : Frame) (s : State) : State × Frame :=
  let d := dieOf fr.port
  let x := ctxSend d 0 fr.port (fr.len.getD 0) fr.bytes s
  let h := handFlits f (fr.port % 128) (metaUp fr) (deltaMask fr.port (fr.len.getD 0) s) x.2 fr.bytes fr.len.isSome fr.bad
  (offerFlits d 0 h.1 x.1, { fr with coding := x.2, handed := h.2, ended := fr.len.isSome })

/-- The rest of a frame whose tail has come in is handed over. -/
def handRest (f : Nat) (fr : Frame) (s : State) : State × Frame :=
  if fr.handed = 0 ∨ fr.ended = true then (s, fr)
  else (offerFlits (dieOf fr.port) 0 (dataFlits f (fr.port % 128) fr.bytes fr.handed true fr.bad) s, { fr with handed := fr.bytes.length, ended := true })

/-- The channel of a copy to an Ethernet port: [13] 1 from an express queue, [12:6] the die-local port. -/
def downChannel (c : Copy) (s : State) : Nat :=
  (if (s.fld F.MM_CFG_EXPRESS_MASK c.port).testBit (c.q % 8) then 128 else 0) + c.port % 128

/-- A dequeued copy is coded and handed to the link of its egress die. -/
def handDown (t : TxCopy) (fr : Frame) (s : State) : State × TxCopy :=
  let d := dieOf t.copy.port
  let x := ctxSend d 1 fr.port (fr.len.getD 0) fr.bytes s
  let h := handFlits t.copy.id (downChannel t.copy s) (metaDown t fr) (deltaMask fr.port (fr.len.getD 0) s) x.2 fr.bytes fr.lastCell t.stomped
  (offerFlits d 1 h.1 x.1, { t with coding := x.2, handed := h.2, ended := fr.lastCell })

/-- The rest of every copy of frame `f` that was being cut through is handed over. -/
def handDownRest (f : Nat) (fr : Frame) (s : State) : State :=
  let mine (t : TxCopy) : Bool := t.copy.frame == f && t.handed != 0 && !t.ended
  let s1 := (s.dp.tx.filter mine).foldl (fun s t =>
    offerFlits (dieOf t.copy.port) 1 (dataFlits t.copy.id (downChannel t.copy s) fr.bytes t.handed true t.stomped) s) s
  { s1 with dp := { s1.dp with tx := s1.dp.tx.map (fun t => if mine t then { t with handed := fr.bytes.length, ended := true } else t) } }

/-! ### Crossing (R170, R176, R177) -/

/-- CONTEXT_UE (R177): the receiver's context is uncorrectable; INVAL goes back to the sender, and until then the context decodes nothing. -/
def ctxReadUe (d j i : Nat) (s : State) : State :=
  let k := ctxKey d j i
  let c : Ctx := { tget {} s.dp.recvCtx k with state := 0 }
  sendInval d j i (raiseFault 72 d j { (s.bump F.RLF_CTX_UE (d * 2 + j)) with dp := { s.dp with recvCtx := tset {} s.dp.recvCtx k c } })

/-- The receiver decodes the head of a coded frame: bytes 0 to 63, none where its context is uncorrectable or not valid. -/
def decodeHead (d j : Nat) (fl : Flit) (ue : Bool) (s : State) : State × Option (List Byte) :=
  let i := beNat (slice fl.payload 18 2) % 4096
  let c := tget ({} : Ctx) s.dp.recvCtx (ctxKey d j i)
  if ue then (ctxReadUe d j i s, none)
  else if c.state = 2 then (s, some (rebuildHead c.mask c.content (slice fl.payload 20 (2 * popCount c.mask))))
  else (s, none)

/-- A flit of frame `f` reaches the hub: the header of a start flit, the bytes it carries, a bad tail where its head cannot be decoded. -/
def arriveUp (d : Nat) (fl : Flit) (ue : Bool) (s : State) : State :=
  match frameAt fl.owner s with
  | none => s
  | some fr =>
    match fl.kind with
    | 1 =>
      let fr1 := metaFrame (beNat (fl.payload.take 18)) fr s
      let n := if fl.fin = true ∧ fl.aux ≤ 28 then fl.aux else min 10 fr.bytes.length
      setFrame fl.owner { fr1 with bytes := patch fr.bytes 0 (slice fl.payload 18 n), crossed := n }
        { s with dp := { s.dp with arrived := s.dp.arrived ++ [fl.owner] } }
    | 2 =>
      let x := decodeHead d 0 fl ue { s with dp := { s.dp with arrived := s.dp.arrived ++ [fl.owner] } }
      let fr1 := metaFrame (beNat (fl.payload.take 18)) fr s
      match x.2 with
      | some h => setFrame fl.owner { fr1 with bytes := patch fr.bytes 0 h, crossed := min fr.handed fr.bytes.length } x.1
      | none => badTail fl.owner true (setFrame fl.owner { fr1 with crossed := min fr.handed fr.bytes.length } x.1)
    | 3 =>
      let n := if fl.fin = true ∧ fl.aux ≤ 28 then fl.aux else fl.payload.length
      setFrame fl.owner { fr with bytes := patch fr.bytes fr.crossed (slice fl.payload 0 n), crossed := fr.crossed + n } s
    | _ => s

/-- A flit of a copy reaches its egress die. -/
def arriveDown (d : Nat) (fl : Flit) (ue : Bool) (s : State) : State :=
  let put (g : TxCopy → TxCopy) (s : State) : State :=
    { s with dp := { s.dp with tx := s.dp.tx.map (fun t => if t.copy.id = fl.owner then g t else t) } }
  let m := beNat (fl.payload.take 18)
  match fl.kind with
  | 1 => put (fun t => { t with copy := metaCopy m t.copy }) s
  | 2 =>
    let x := decodeHead d 1 fl ue s
    put (fun t => { t with copy := metaCopy m t.copy, stomped := t.stomped || x.2.isNone }) x.1
  | _ => s

/-- One flit crosses: its CRC is checked against the receiver's count, and it is accepted, or stays in the replay buffer. -/
def flitCross (d j owner : Nat) (ue : Bool) (s : State) : State :=
  let x := flitOut (linkOf d j s)
  if flitGood x.2.recvSeq (flitWire x.2.outSeq x.1) then
    let s1 := setLink d j { x.2 with replay := none, recvSeq := (x.2.recvSeq + 1) % 2 ^ 16 } s
    let s2 : State := { s1 with dp := { s1.dp with flitFails := tset 0 s1.dp.flitFails (d * 2 + j) 0 } }
    if j = 0 then arriveUp d x.1 (ue && x.1.owner == owner) s2 else arriveDown d x.1 (ue && x.1.owner == owner) s2
  else setLink d j x.2 s

/-- The flits of an owner that have not been accepted: its start flit only, or all. -/
def flitWaits (d j owner : Nat) (startOnly : Bool) (s : State) : Bool :=
  let l := linkOf d j s
  (l.queue ++ l.replay.toList).any (fun f => f.kind != 0 && f.owner == owner && (!startOnly || f.kind != 3))

/-- Flits cross in the order of R170 until those of an owner have; a link that retrains carries none (R171). -/
def linkDrain (d j owner : Nat) (startOnly ue : Bool) : Nat → State → State
  | 0, s => s
  | n + 1, s => if flitWaits d j owner startOnly s then linkDrain d j owner startOnly ue n (flitCross d j owner ue s) else s

/-- The link carries an owner's start flit, or all its flits, with whatever goes before them. -/
def linkCarry (d j owner : Nat) (startOnly ue : Bool) (s : State) : State :=
  if tget false s.dp.retraining d then s else linkDrain d j owner startOnly ue ((linkOf d j s).queue.length + 1) s

/-- The header of frame `f` is at the hub: its start flit has crossed. -/
def headerUp (f : Nat) (ue : Bool) (s : State) : State :=
  match frameAt f s with
  | none => s
  | some fr => if fr.port < 512 then linkCarry (dieOf fr.port) 0 f true ue s else s

/-- Every flit of frame `f` that was handed over has crossed. -/
def bodyUp (f : Nat) (s : State) : State :=
  match frameAt f s with
  | none => s
  | some fr => if fr.port < 512 then linkCarry (dieOf fr.port) 0 f false false s else s

/-- Flits of frame `f` wait to cross to the hub. -/
def waitsUp (f : Nat) (startOnly : Bool) (s : State) : Bool :=
  match frameAt f s with
  | none => false
  | some fr => decide (fr.port < 512) && flitWaits (dieOf fr.port) 0 f startOnly s

end Sys2Proof.Machine
end

