-- ==== Sys2Proof/Machine/Sketch.lean ====
section
/-! DEFINITION. The heavy-flow sketch of each forwarding pipeline (11_telemetry.md R294 to R296). -/

namespace Sys2Proof.Machine

/-- The counter of row `r` that a class key uses: CRC-32C over its 160 bits, seeded with SKETCH_SEED[r]. -/
def sketchIndex (x r key : Nat) (s : State) : Nat :=
  (x * 4 + r) * 4096 + crcBits 32 0x1EDC6F41 key 160 (s.fld F.SKETCH_SEED (x / 2 * 4 + r)) % 4096

/-- The estimate of a key in a bank: the least of its four counters (R295). -/
def sketchEstimate (bank : Tab Nat) (x key : Nat) (s : State) : Nat :=
  (List.range 4).foldl (fun a r => min a (tget 0 bank (sketchIndex x r key s))) (2 ^ 32 - 1)

/-- Add `n` to the four counters, saturating at 32 bits. -/
def sketchBank (x key n : Nat) (s : State) : Tab Nat :=
  (List.range 4).foldl (fun t r =>
    let i := sketchIndex x r key s
    tset 0 t i (min (tget 0 t i + n) 0xFFFFFFFF)) s.tel.sketch

/-- SKETCH_ADD (R294, R296): add `n` bytes to pipeline `x`, and list the key when its estimate reaches HH_CAND_BYTES. -/
def sketchAdd (x key n : Nat) (s : State) : State :=
  let bank := sketchBank x key n s
  let l := tget [] s.tel.cand x
  let s1 : State := { s with tel := { s.tel with sketch := bank } }
  if sketchEstimate bank x key s < s.fld F.HH_CAND_BYTES (x / 2) ∨ l.contains key = true then s1
  else if 64 ≤ l.length then s1.bump F.CAND_FULL x
  else { s1 with tel := { s1.tel with cand := tset [] s1.tel.cand x (l ++ [key]) } }

/-- SKETCH_LATCH (R296): at the boundary the live banks and candidate tables of the dies are latched and cleared. -/
def sketchLatch (s : State) : State :=
  let latched := s.tel.cand.map (fun e => (e.1, e.2.map (fun k => (k, sketchEstimate s.tel.sketch e.1 k s))))
  { s with tel := { s.tel with shadow := s.tel.sketch, sketch := [], candLatched := latched, cand := [] } }

end Sys2Proof.Machine
end

