-- ==== Sys2Proof/Machine/Classify.lean ====
section
/-! DEFINITION. The ingress pipeline of a port die: parsing, stream identification, class rules and the forwarding lookup
(03_parsing_classification.md R70 to R83, 05_exact_match_learning.md R122 to R128). -/

namespace Sys2Proof.Machine

/-- The LKV field of a class key segment. -/
def segField (k : Lkv) (lsb width : Nat) : Nat := bitsOf k.toNat lsb width

/-- The class key of R78: profile, handle, and the profile's four segments downward from bit 140. -/
def classKey (d profile handle : Nat) (k : Lkv) (s : State) : Nat :=
  let segs := (List.range 4).map (fun i =>
    let n := d * 32 + 4 * profile + i
    (s.fld F.CLASS_KEY_SEG_LKV_LSB n, s.fld F.CLASS_KEY_SEG_WIDTH n))
  let r := segs.foldl (fun (a : Nat × Nat) x => (a.1 * 2 ^ x.2 + segField k x.1 x.2, a.2 - x.2)) (0, 141)
  profile * 2 ^ 157 + handle * 2 ^ 141 + r.1 * 2 ^ r.2

/-- The null key and the source MAC and VLAN key (Table 3.4). -/
def macKey (type vid mac : Nat) : Nat := type * 2 ^ 124 + vid * 2 ^ 112 + mac

/-- A field that enters the key only with its USE bit (R76). -/
def useIf (b v : Nat) : Nat := if b = 1 then v else 0

/-- The IPv4 and IPv6 keys of Table 3.4 under IP profile `m` of die `d`. -/
def ipKey (d m : Nat) (p : ParseSt) (s : State) : Nat :=
  let i := d * 4 + m
  let vid := useIf (s.fld F.IP_PROFILE_USE_VID i) p.vid
  let proto := useIf (s.fld F.IP_PROFILE_USE_PROTO i) (p.role 7)
  let sport := useIf (s.fld F.IP_PROFILE_USE_PORTS i) (p.role 8)
  let dport := useIf (s.fld F.IP_PROFILE_USE_PORTS i) (p.role 9)
  let dscp := useIf (s.fld F.IP_PROFILE_USE_DSCP i) (p.role 10)
  if p.ipKind = 4 then
    3 * 2 ^ 124 + vid * 2 ^ 112 + useIf (s.fld F.IP_PROFILE_USE_SRC i) (p.role 4) * 2 ^ 80 +
      useIf (s.fld F.IP_PROFILE_USE_DST i) (p.role 5) * 2 ^ 48 + proto * 2 ^ 40 + sport * 2 ^ 24 + dport * 2 ^ 8 + dscp * 4 + m
  else
    4 * 2 ^ 252 + vid * 2 ^ 240 + proto * 2 ^ 232 + sport * 2 ^ 216 + dport * 2 ^ 200 + dscp * 2 ^ 194 + m * 2 ^ 192 +
      useIf (s.fld F.IP_PROFILE_USE_DST i) (p.role 6)

/-- The stream identification key of a port's function, if it makes one (R74). -/
def streamKey (port : Nat) (p : ParseSt) (s : State) : Option Nat :=
  let null := macKey 1 p.vid (p.role 2)
  match s.fld F.PORT_CLASS_CFG_STREAM_FN port with
  | 1 => some null
  | 2 => some (macKey 2 p.vid (p.role 3))
  | 3 => if p.ipKind = 0 then none else some (ipKey (dieOf port) (s.fld F.PORT_CLASS_CFG_IP_PROFILE port) p s)
  | 4 => if p.ipKind = 0 then some null else some (ipKey (dieOf port) (s.fld F.PORT_CLASS_CFG_IP_PROFILE port) p s)
  | _ => none

/-- The partition of a kind on a die (at most one, R89). -/
def partOfKind (d kind : Nat) (s : State) : Option Part := (tcamParts d s).find? (fun p => p.kind == kind)

/-- The global mask of a partition (R90): all ones for kind 1. -/
def gmaskOf (d : Nat) (p : Part) (s : State) : Nat :=
  if p.kind = 1 then 2 ^ 160 - 1
  else (List.range 20).foldl (fun v w => v + s.fld F.TCAM_GMASK (d * 160 + 20 * p.n + w) * 2 ^ (32 * w)) 0

/-- A pipeline search of a partition kind; the action words of `ue` read uncorrectable (R108). -/
def pipeSearch (d kind key : Nat) (ue : List (Nat × Bool)) (s : State) : State × Option (Nat × Word) :=
  match partOfKind d kind s with
  | none => (s, none)
  | some p => tcamSearchEcc d p key (gmaskOf d p s) ue s

/-- Count a trap copy of the ingress port and note its code, unless one to that port is already decided (06 R144). -/
def addTrap (host : Bool) (code port : Nat) (r : State × Cls) : State × Cls :=
  let c := r.2
  if host then (if c.trap512 = 0 then (r.1.bump F.RX_TRAP port, { c with trap512 := code }) else r)
  else (if c.trap513 = 0 then (r.1.bump F.RX_TRAP port, { c with trap513 := code }) else r)

/-- The handle that stream identification gives a frame, 0xFFFF for none (R75, R76). -/
def streamHandle (port : Nat) (p : ParseSt) (nearUe : List Nat) (s : State) : State × Nat :=
  match streamKey port p s with
  | none => (s, 0xFFFF)
  | some key =>
    let r := nearLookup (dieOf port) key nearUe s
    (r.1, match r.2 with | some (_, e) => e.operand | none => 0xFFFF)

/-- A discard, a copy to a trap, or no action of its own: actions 1 to 3 of Tables 3.6 and 3.9. -/
def frameAction (action reason port q : Nat) (c : Cls) (s : State) : State × Option (Cls × Nat) :=
  match action with
  | 1 => (s.bump F.RX_CLASS_DROP port, none)
  | 2 => let x := addTrap false reason port (s, c); (x.1, some (x.2, q))
  | 3 => let x := addTrap true reason port (s, c); (x.1, some (x.2, q))
  | _ => (s, some (c, q))

/-- The class rule that a frame hit acts on its classification `c` (Table 3.9). -/
def ruleHit (port : Nat) (act : Word) (c : Cls) (s : State) : State × Option (Cls × Nat) :=
  let a := act.toNat
  frameAction (bitsOf a 19 2) 0x30 port (bitsOf a 21 4) { c with
    handle := if c.handle = 0xFFFF ∧ bitsOf a 0 16 ≠ 0xFFFF then bitsOf a 0 16 else c.handle
    cls := if bitsOf a 28 4 ≠ 0xF then bitsOf a 28 4 else c.cls
    colour := if bitsOf a 25 3 ≠ 7 then bitsOf a 25 3 else c.colour } s

/-- What the class rules make of a frame: the rule that hit, or the default action of the port for a frame without a handle. -/
def ruleResult (port : Nat) (rr : State × Option (Nat × Word)) (c : Cls) : State × Option (Cls × Nat) :=
  match rr.2 with
  | some (_, act) => ruleHit port act c rr.1
  | none =>
    if c.handle ≠ 0xFFFF then (rr.1, some (c, 0xF))
    else frameAction (rr.1.fld F.PORT_CLASS_CFG_DEF_ACTION port) 0x20 port 0xF c (rr.1.bump F.RX_NO_MATCH port)

/-- The queue of a classified frame, and the class and queue of a declared stream. -/
def classQueue (c : Cls) (q : Nat) (s : State) : Cls :=
  match tget none s.pln.decls c.handle with
  | some dcl => if c.handle ≠ 0xFFFF then { c with cls := dcl.cls, queue := dcl.queue } else { c with queue := if q = 0xF then c.cls else q }
  | none => { c with queue := if q = 0xF then c.cls else q }

/-- The classification of R82 after the parse: class, colour, queue and handle, with the drops and trap copies decided.
The answer is none when the frame goes nowhere. -/
def classify (port : Nat) (p : ParseSt) (nearUe : List Nat) (tcamUe : List (Nat × Bool)) (s : State) : State × Option Cls :=
  let d := dieOf port
  let tagged := decide (0 < p.tagCount)
  let cls0 := if s.fld F.PORT_CLASS_CFG_TRUST_PCP port = 1 ∧ tagged = true then p.pcp else s.fld F.PORT_CLASS_CFG_DEF_CLASS port
  let col0 := if s.fld F.PORT_CLASS_CFG_TRUST_DEI port = 1 ∧ tagged = true ∧ p.dei = 1 then 1 else s.fld F.PORT_CLASS_CFG_DEF_COLOUR port
  let rh := streamHandle port p nearUe s
  let rr := pipeSearch d 1 (classKey d (s.fld F.PORT_CLASS_CFG_CLASS_PROFILE port) rh.2 p.lkv rh.1) tcamUe rh.1
  let c0 : Cls := { handle := rh.2, vid := p.vid, cls := cls0, colour := col0, da := p.role 2, sa := p.role 3,
                    via4 := p.via4, via6 := p.via6, dst4 := p.role 5, dst6 := p.role 6 }
  let r1 := ruleResult port rr c0
  (r1.1, r1.2.map (fun x => classQueue x.1 x.2 r1.1))

/-- The route key of a frame in the partition of a kind (04 R96). -/
def routeKey (kind : Nat) (c : Cls) : Nat :=
  if kind = 2 then 5 * 2 ^ 156 + c.vid * 2 ^ 144 + c.dst4 else 6 * 2 ^ 316 + c.vid * 2 ^ 304 + c.dst6

/-- A route hit acts on Table 4.3, and a next hop on Table 6.3: the ingress die reads it for the destination (06 R150), and where the read is
uncorrectable the forwarding copy goes (06 R164). -/
def routeDest (port : Nat) (act : Word) (nhUe : Bool) (s : State) : State × Dest :=
  let a := act.toNat
  match bitsOf a 30 2 with
  | 0 =>
    let nh := bitsOf a 0 16
    let w := rwWord 1 nh 2 s
    if nhUe then (editTableUe (dieOf port) 1 nh 1 s, .none)
    else match bitsOf w 30 2 with
    | 0 => (s, .nhPort nh (bitsOf w 0 16))
    | 1 => (s, .nhGroup nh (bitsOf w 0 16))
    | _ => (s.bump F.FWD_ROUTE_DROP port, .none)
  | 1 => (s, .none)
  | 2 => (s, .trap 0x41 false)
  | _ => (s, .trap 0x41 true)

/-- What the search for a frame's route found: the route acts, or the frame is dropped. -/
def routedDest (port : Nat) (nhUe : Bool) (r : State × Option (Nat × Word)) : State × Dest :=
  match r.2 with
  | some (_, act) => routeDest port act nhUe r.1
  | none => (r.1.bump F.FWD_ROUTE_DROP port, .none)

/-- The destination that a found entry gives a frame: a port, a group, or a route. -/
def entryTarget (port : Nat) (e : EmEntry) (tcamUe : List (Nat × Bool)) (nhUe : Bool) (c : Cls) (s : State) : State × Dest :=
  match e.kind with
  | 2 => if e.operand = port then (s.bump F.FWD_FILTERED port, .none) else (s, .port e.operand)
  | 3 => (s, .group e.operand)
  | 4 =>
    let kind := if c.via4 = true ∧ e.operand % 2 = 1 then 2 else if c.via6 = true ∧ e.operand / 2 % 2 = 1 then 3 else 0
    if kind = 0 then (s.bump F.FWD_ROUTE_DROP port, .none)
    else routedDest port nhUe (pipeSearch (dieOf port) kind (routeKey kind c) tcamUe s)
  | _ => (s, .none)

/-- The case of R122 on an entry that hit, with its COPY. -/
def entryDest (port : Nat) (e : EmEntry) (tcamUe : List (Nat × Bool)) (nhUe : Bool) (c : Cls) (s : State) : State × Cls :=
  let r := entryTarget port e tcamUe nhUe c s
  let c1 := { c with dest := r.2 }
  match e.copyTo with
  | 1 => addTrap false 0x40 port (r.1, c1)
  | 2 => addTrap true 0x40 port (r.1, c1)
  | _ => (r.1, c1)

/-- A frame that no entry holds is flooded in its VLAN (R122). -/
def floodDest (port : Nat) (c : Cls) (s : State) : State × Cls :=
  (s.bump F.FWD_FLOOD port, { c with dest := .group (s.fld F.VLAN_FLOOD_GROUP (dieOf port * 4096 + c.vid)) })

/-- The egress in force of a handle on a die (10 R262): KIND 0 a port, KIND 1 a group. -/
def egressOf (d h : Nat) (s : State) : Dest :=
  let i := d * 65536 + h
  if s.fld F.STREAM_EGRESS_KIND i = 0 then .port (s.fld F.STREAM_EGRESS_OPERAND i) else .group (s.fld F.STREAM_EGRESS_OPERAND i)

/-- What the lookup `r` of a frame's destination comes to (05 R122), in state `s` before it. -/
def forwardBy (port : Nat) (tcamUe : List (Nat × Bool)) (nhUe : Bool) (c : Cls) (s : State) (r : State × Option (Nat × EmEntry)) : State × Cls :=
  let d := dieOf port
  if c.handle ≠ 0xFFFF then
    (if s.fld F.STREAM_EGRESS_VALID (d * 65536 + c.handle) = 0 then (r.1.bump F.FWD_FILTERED port, { c with dest := .none })
     else (r.1, { c with dest := egressOf d c.handle s }))
  else match r.2 with
    | some (_, e) => entryDest port e tcamUe nhUe c r.1
    | none =>
      if s.fld F.VLAN_FAR_EN (d * 4096 + c.vid) = 1 ∧ (s.fld F.EM_CFG_FAR_QUEUE_MASK d).testBit c.queue = true then (r.1, { c with dest := .far })
      else floodDest port c r.1

/-- The forwarding lookup of R122 up to the far lookup: a far-eligible near miss has the destination `far` (R124). -/
def forward (port : Nat) (nearUe : List Nat) (tcamUe : List (Nat × Bool)) (nhUe : Bool) (c : Cls) (s : State) : State × Cls :=
  if s.fld F.VLAN_VALID (dieOf port * 4096 + c.vid) = 0 then (s.bump F.FWD_FILTERED port, { c with dest := .none })
  else forwardBy port tcamUe nhUe c s (nearLookup (dieOf port) (bridgeKey c.vid c.da) nearUe s)

/-- The frame is learnable (R128), given that classification forwards it. -/
def learnable (port : Nat) (p : ParseSt) (s : State) : Bool :=
  s.fld F.PORT_LEARN_CFG_LEARN_EN port == 1 && s.fld F.VLAN_LEARN_EN (dieOf port * 4096 + p.vid) == 1 && p.mal == 0 && p.eth

/-- Commit the frame's ingress learn when its tail is in and good, else keep it for the tail (R128). -/
def frameLearn (d f : Nat) (fr : Frame) (req : Option LearnReq) (s : State) : State :=
  match req with
  | none => setFrame f fr s
  | some r => if fr.len.isSome then learnCommit d r (setFrame f fr s) else setFrame f { fr with learn := some r } s

/-- Post a far request, or take a far miss with FAR_OVERFLOW when 32 are pending on the die (R126): only a frame that uses the far table loses its
CT (07 R179). -/
def postFar (d f : Nat) (fr : Frame) (s : State) : State × Frame :=
  if 32 ≤ (s.dp.farPending.filter (fun x => x.1 == d)).length then
    (fun (r : State × Cls) => (r.1, { fr with cls := r.2, stage := .classified })) (floodDest fr.port fr.cls (s.bump F.FAR_OVERFLOW d))
  else
    let s1 := s.addWrap F.FAR_LOOKUPS d 1
    ({ s1 with dp := { s1.dp with farPending := s1.dp.farPending ++ [(d, f)] } }, { fr with stage := .farWait, cls := { fr.cls with ct := false } })

/-! ### PIPELINE_ENTRY -/

/-- A MAC control frame (02 R44). -/
def isMacControl (bs : List Byte) : Bool := decide (14 ≤ bs.length) && be16 bs 12 == 0x8808

/-- An untagged gPTP frame of a port with PTP_EN (09 R250). -/
def isPtp (port : Nat) (bs : List Byte) (s : State) : Bool :=
  decide (14 ≤ bs.length) && be16 bs 12 == 0x88F7 && beNat (slice bs 0 6) == 0x0180C200000E && s.fld F.PORT_PTP_CFG port == 1

/-- The sketch entry of a frame that classification forwards without a stream (11 R294): its length is added at once when
it is known, else when the tail arrives. -/
def sketchFrame (f port key : Nat) (fr : Frame) (s : State) : State :=
  let x := dieOf port * 2 + pipeOf port
  match fr.len with
  | some l => sketchAdd x key l s
  | none => setFrame f { (frameAt f s).getD fr with sketch := some (x, key) } s

/-- A malformed frame (R70): dropped, or a copy to the trap that MAL_ACTION names. -/
def malformedFrame (f now act : Nat) (fr : Frame) (p : ParseSt) (s : State) : State :=
  if act = 0 then setFrame f { fr with stage := .dropped, tClass := now } s
  else
    let cls := s.fld F.PORT_CLASS_CFG_DEF_CLASS fr.port
    let c : Cls := { vid := p.vid, cls := cls, queue := cls, colour := s.fld F.PORT_CLASS_CFG_DEF_COLOUR fr.port,
                     dest := .trap (0x0F + p.mal) (act == 2) }
    let x := handUp f { fr with stage := .classified, tClass := now, cls := c } (s.bump F.RX_TRAP fr.port)
    setFrame f x.2 x.1

/-- The frame is learned and handed to its link; one that waits for the far table crosses as usual, and its first cell starts (R126). -/
def learnAndWait (d f : Nat) (req : Option LearnReq) (ctxUe : Bool) (y : State × Frame) : State :=
  let x := handUp f y.2 y.1
  if y.2.stage = .farWait then firstCell f (headerUp f ctxUe (frameLearn d f x.2 req x.1)) else frameLearn d f x.2 req x.1

/-- A frame without a stream enters the sketch (11 R294). -/
def sketchUnstreamed (f key : Nat) (fr : Frame) (c : Cls) (s : State) : State :=
  if c.handle = 0xFFFF then sketchFrame f fr.port key fr s else s

/-- A classified frame is looked up and learned (R122 to R128); `len` is its length. -/
def forwardFrame (f now len : Nat) (fr : Frame) (p : ParseSt) (u : LookupUe) (x : ActUe) (c0 : Cls) (s : State) : State :=
  let port := fr.port
  let d := dieOf port
  let learn := learnable port p s
  let hit := if learn then sourceHit d p.vid (p.role 3) port u.near s else (true, s)
  let r := forward port u.near x.tcam x.nh c0 hit.2
  let c : Cls := { r.2 with
    learn := learn
    seq := if s.fld F.RTAG_CFG_EN 0 = 1 ∧ p.flags.testBit (s.fld F.RTAG_CFG_FLAG_BIT 0) = true
      then some (bitsOf p.lkv.toNat (s.fld F.RTAG_CFG_SEQ_LSB 0) 16) else none
    ect := match (walkHeader (s.fld F.EDIT_CFG 0) (fr.bytes.take (len - 4))).l3 with
      | some (o, v6) => let e := if v6 then bitsOf (be16 fr.bytes o) 4 2 else bitsOf (be16 fr.bytes o) 0 2; e == 1 || e == 2
      | none => false
    ct := s.fld F.PORT_BUF_CFG port == 1 && !fr.fragments }
  let req := if learn = true ∧ hit.1 = false then some ⟨p.vid, p.role 3, port, true⟩ else none
  let fr2 := { fr with cls := c, tClass := now, stage := .classified }
  sketchUnstreamed f (classKey d (s.fld F.PORT_CLASS_CFG_CLASS_PROFILE port) 0xFFFF p.lkv s) fr c
    (learnAndWait d f req u.ctx (if c.dest = .far then postFar d f fr2 r.1 else (r.1, fr2)))

/-- A frame that classification forwards, or that it ends. -/
def classifiedFrame (f now len : Nat) (fr : Frame) (p : ParseSt) (u : LookupUe) (x : ActUe) (r : State × Option Cls) : State :=
  match r.2 with
  | none => setFrame f { fr with stage := .dropped, tClass := now } r.1
  | some c => forwardFrame f now len fr p u x c r.1

/-- A frame that is parsed: the malformed ones are counted (R70), the others classified. -/
def parsedFrame (f now len : Nat) (fr : Frame) (p : ParseSt) (u : LookupUe) (x : ActUe) (s : State) : State :=
  let port := fr.port
  let act := s.fld F.PORT_CLASS_CFG_MAL_ACTION port
  if p.mal = 0 then classifiedFrame f now len fr p u x (classify port p u.near x.tcam s)
  else
    let s0 := (s.bump F.RX_MALFORMED port).bump F.MAL_COUNT (dieOf port * 32 + 16 * pipeOf port + p.mal - 1)
    if act = 3 then classifiedFrame f now len fr p u x (classify port p u.near x.tcam s0)
    else malformedFrame f now act fr p s0

/-- A frame whose tail is not in may enter the pipeline: 192 bytes are there, and the frame goes on past them (01 R31, 02 R43). -/
def windowFull (fr : Frame) (win : List Byte) (len : Nat) (s : State) : Bool :=
  fr.len.isSome || (decide (192 ≤ win.length) && decide (192 < len) && decide (192 < s.fld F.PORT_CFG_MAX_FRAME fr.port + 1))

/-- PIPELINE_ENTRY (01 R31): the frame passes parser, classification and forwarding lookup. `win` is the parse window of
a frame whose tail is not in, `len` its length; `u`: what reads uncorrectable. -/
def pipelineEntry (f : Nat) (win : List Byte) (len : Nat) (u : LookupUe) (x : ActUe) (s : State) : State :=
  match frameAt f s with
  | none => s
  | some fr0 =>
    if fr0.stage ≠ .receiving ∨ windowFull fr0 win len s = false then s
    else
      let fr := if fr0.len.isSome then fr0 else { fr0 with bytes := win.take 192 }
      if isMacControl fr.bytes = true ∨ isPtp fr.port fr.bytes s = true then setFrame f { fr with stage := .dropped } s
      else
        let n := fr.len.getD len
        let word (k i : Nat) : Nat := s.fld F.PARSE_NODE ((dieOf fr.port * 64 + k) * 16 + i)
        parsedFrame f (timeNs32 (followerTime (dieOf fr.port) s)) n fr
          (parseFrame word { win := fr.bytes.take 192, len := n } fr.port (s.fld F.PORT_PVID fr.port)) u x s

/-- FAR_LOOKUP_ISSUE (R126): one pending request, the dies in turn after the one served last; its bucket line is read at the highest service
class (16 R405). -/
def farIssue (s : State) : State :=
  let next := (List.range 4).findSome? (fun k =>
    let d := (s.dp.farLast + 1 + k) % 4
    (s.dp.farPending.find? (fun x => x.1 == d)))
  match next with
  | none => s
  | some x =>
    let s1 := { s with dp := { s.dp with
      farPending := dropFirst (fun y => y == x) s.dp.farPending
      farIssued := s.dp.farIssued ++ [x]
      farLast := x.1 } }
    match frameAt x.2 s with
    | some fr => dramRequests 0 false (farAddr (4 * (farHash x.1 (bridgeKey fr.cls.vid fr.cls.da) s % 2 ^ 21))) 128 s1
    | none => s1

/-- The far lookup of a frame ends with this entry, or with a miss (R122, R126, R127). -/
def farEnd (f : Nat) (e : Option EmEntry) (x : ActUe) (s : State) : State :=
  match frameAt f s with
  | none => s
  | some fr =>
    let s1 := { s with dp := { s.dp with farPending := s.dp.farPending.filter (fun x => x.2 != f),
                                          farIssued := s.dp.farIssued.filter (fun x => x.2 != f) } }
    let r := match e with
      | some e => entryDest fr.port e x.tcam x.nh fr.cls s1
      | none => floodDest fr.port fr.cls s1
    setFrame f { fr with cls := r.2, stage := .classified, tClass := timeNs32 s.work } r.1

/-- FAR_LOOKUP_RESULT (R126, R127): the far table answers; an uncorrectable line counts as a miss. -/
def farResult (f : Nat) (ecc : Ecc) (x : ActUe) (s : State) : State :=
  match frameAt f s with
  | none => s
  | some fr =>
    let d := dieOf fr.port
    if s.dp.farIssued.any (fun x => x.2 == f) = false ∨ fr.stage ≠ .farWait then s
    else if ecc = .ue then farEnd f none x (raiseFault 13 4 d (s.bump F.FAR_UE d))
    else match farFind d (bridgeKey fr.cls.vid fr.cls.da) s with
      | some (_, e) => farEnd f (some e) x (s.addWrap F.FAR_HITS d 1)
      | none => farEnd f none x s

/-- FAR_LOOKUP_TIMEOUT (R127): a request abandoned at 900 ns is a far miss. -/
def farTimeout (f : Nat) (s : State) : State :=
  match frameAt f s with
  | none => s
  | some fr => if fr.stage = .farWait then farEnd f none {} (s.bump F.FAR_TIMEOUT (dieOf fr.port)) else s

end Sys2Proof.Machine
end

