-- ==== Sys2Proof/Machine/Hub.lean ====
section
/-! DEFINITION. The hub input stage: policing (08_egress_scheduling.md R224 to R229), deadlines (R212, R213), copies and
mirror sessions (06_rewrite_replication_mirroring.md R143 to R162), admission and holds (07_shared_buffer.md R182 to R189). -/

namespace Sys2Proof.Machine

/-! ### Port rates and times -/

/-- The MAC rate of a port in Mb/s, by its mode (Table 2.1). -/
def rateOf (p : Nat) (s : State) : Nat :=
  match s.fld F.PORT_CFG_MODE p with
  | 1 | 2 => 1000
  | 3 => 2500
  | 4 => 10000
  | 5 => 25000
  | 6 => 100000
  | _ => 0

/-- The time of `n` bytes at `rate` Mb/s on the working clock, in units of 2^-32 ns, fractions dropped. -/
def byteTime (n rate : Nat) : Nat := if rate = 0 then 0 else n * 8000 * nsUnit / rate

/-- The typical transmit and receive latency of a port in ns (Table 2.3). -/
def txLatency (p : Nat) (s : State) : Nat :=
  match s.fld F.PORT_CFG_MODE p, s.fld F.PORT_CFG_FEC p with
  | 1, _ => 136
  | 2, _ => 136
  | 3, _ => 64
  | 4, 0 => 35
  | 4, _ => 47
  | 5, 0 => 18
  | 5, 1 => 24
  | 5, _ => 26
  | 6, _ => 22
  | _, _ => 0

/-- OFFSET_p of R199: 12 ns + 90 cc + the typical transmit latency. -/
def offsetOf (p : Nat) (s : State) : Nat := (12 + 30 + txLatency p s) * nsUnit

/-- One cc on the working clock. -/
def ccUnit : Nat := nsUnit / 3

/-- The stored length of a copy (R201): of a mirror copy, the truncated length with trailer and FCS. -/
def storedLen (c : Copy) (l : Nat) (s : State) : Nat :=
  match c.mirror with
  | none => l
  | some (m, _, _) =>
    let n := s.fld F.MIRROR_CFG_TRUNC m
    let kept := if n = 0 then l - 4 else min (l - 4) (64 * n)
    kept + (if s.fld F.MIRROR_CFG_TRAILER_EN m = 1 then 12 else 0) + 4

/-- L' of R201: the stored length, or MAX_FRAME of the ingress port while LENGTH is 0, plus EDIT_GROW on an Ethernet port. -/
def copyLen (c : Copy) (s : State) : Nat :=
  let grow := if c.port < 512 then s.fld F.EDIT_GROW c.edit else 0
  match frameAt c.frame s with
  | none => grow
  | some fr => match fr.len with
    | some l => storedLen c l s + grow
    | none => s.fld F.PORT_CFG_MAX_FRAME fr.port + grow

/-- The present slot of a port's deadline wheel (R213), as an absolute slot number: the slot of t + OFFSET_p. -/
def presentSlot (p : Nat) (s : State) : Nat := (s.work + offsetOf p s) / (32 * nsUnit)

/-! ### Policing -/

/-- The context that polices a frame (R224). -/
def policyCtx (h : Nat) : Nat := if h = 0xFFFF then 65535 else h

/-- Refill both buckets of a meter to the present cycle: RATE kb/s adds RATE units of 1/24,000,000 byte in each cc (R226). -/
def meterNow (m : Nat) (s : State) : MeterSt :=
  let st := tget ({} : MeterSt) s.dp.meters m
  let dt := s.cycle - st.since
  { tc := min (st.tc + scFld 3 m 0 26 0 s * dt) (scFld 3 m 2 23 0 s * 24000000)
    tp := min (st.tp + scFld 3 m 1 26 0 s * dt) (scFld 3 m 3 23 0 s * 24000000)
    since := s.cycle }

def setMeter (m : Nat) (v : MeterSt) (s : State) : State := { s with dp := { s.dp with meters := tset {} s.dp.meters m v } }

/-- The trTCM of R226: the state, the colour, and which buckets were drawn from. -/
def meterRun (m l colour : Nat) (s : State) : State × Nat × Bool × Bool :=
  let st := meterNow m s
  let need := l * 24000000
  let w0 (b : Nat) : Bool := (scWord 3 m 0 s).testBit b
  let aware := w0 31
  let r : Nat × Bool × Bool :=
    if (aware = true ∧ colour = 2) ∨ st.tp < need then (2, false, false)
    else if (aware = true ∧ colour = 1) ∨ st.tc < need then (1, true, false)
    else (0, true, true)
  let st' : MeterSt := { st with tp := if r.2.1 then st.tp - need else st.tp, tc := if r.2.2 then st.tc - need else st.tc }
  let s1 := setMeter m st' s
  if w0 29 = true ∧ (r.1 = 2 ∨ w0 28 = true) then (scSetFld 3 m 0 28 28 1 s1, 2, r.2) else (s1, r.1, r.2)

/-- Count an oversize frame, and block the filter where the context says so (R224, R227). -/
def sduDrop (x : Nat) (s : State) : State :=
  let s1 := scBump 4 x 1 1 s
  if scFld 0 x 0 30 30 s = 1 then raiseSrc 138 (scSetFld 0 x 0 31 31 1 s1) else s1

/-- POLICING (R224): none when the frame is discarded. -/
def police (fr : Frame) (scUe : Bool) (s : State) : State × Option Frame :=
  let x := policyCtx fr.cls.handle
  if scUe then (ctxUe x s, none)
  else if scFld 0 x 0 31 31 s = 1 then (scBump 4 x 1 1 s, none)
  else
    let sdu := scFld 0 x 0 29 16 s
    let tooLong := match fr.len with | some l => decide (sdu ≠ 0 ∧ sdu < l) | none => false
    if tooLong then (sduDrop x s, none)
    else
      let g := scFld 0 x 0 11 0 s
      if scFld 0 x 0 12 12 s = 1 ∧ streamGateOpen g (fr.tIn / nsUnit) s = false then
        let s1 := scBump 4 x 2 1 s
        (if scFld 1 g 0 30 30 s = 1 ∧ scFld 1 g 0 29 29 s = 0 then raiseSrc 137 (scSetFld 1 g 0 29 29 1 s1) else s1, none)
      else if scFld 0 x 1 31 31 s = 1 then
        let m := scFld 0 x 1 14 0 s
        let l := fr.len.getD (s.fld F.PORT_CFG_MAX_FRAME fr.port)
        let r := meterRun m l fr.cls.colour s
        let s1 := scBump 4 x (3 + r.2.1) 1 r.1
        let fr' : Frame := { fr with cls := { fr.cls with colour := r.2.1 },
                                     metered := if fr.len.isNone then some (m, l, r.2.2.1, r.2.2.2) else none }
        if r.2.1 = 2 ∧ scFld 3 m 0 30 30 s = 1 then (scBump 4 x 6 1 s1, none)
        else (scBump 4 x 0 1 s1, some fr')
      else (scBump 4 x 0 1 s, some fr)

/-- The credit of R227 once the length of a metered frame is known. -/
def meterCredit (fr : Frame) (l : Nat) (s : State) : State :=
  match fr.metered with
  | none => s
  | some (m, charged, drewP, drewC) =>
    let st := meterNow m s
    let back := (charged - l) * 24000000
    setMeter m { st with
      tp := if drewP then min (st.tp + back) (scFld 3 m 3 23 0 s * 24000000) else st.tp
      tc := if drewC then min (st.tc + back) (scFld 3 m 2 23 0 s * 24000000) else st.tc } s

/-- PHASE_OBSERVE (10_planner.md R265): the least and greatest phase of the epoch, in ns. -/
def phaseObserve (fr : Frame) (s : State) : State :=
  match tget none s.pln.decls fr.cls.handle with
  | none => s
  | some d =>
    if d.sched = false ∨ d.period = 0 then s
    else
      let x0 : Nat := ((fr.tIn / nsUnit : Nat) + (d.period - d.phase % d.period)) % d.period
      let x : Int := if d.period ≤ 2 * x0 then (x0 : Int) - d.period else x0
      let v : Int × Int := match tget none s.pln.phase fr.cls.handle with
        | none => (x, x)
        | some (a, b) => (min a x, max b x)
      { s with pln := { s.pln with phase := tset none s.pln.phase fr.cls.handle (some v) } }

/-! ### Admission -/

/-- What admission says of a copy. -/
inductive Verdict where
  | admitted
  /-- admitted without WRED_TEST: the copy needs nothing of the shared pool -/
  | plain
  /-- the port is down: refused at once in every mode -/
  | down
  /-- no free descriptor -/
  | noDesc
  /-- the threshold test -/
  | threshold
deriving DecidableEq, Repr

/-- ALPHA_K of a queue is a two's complement number of three bits: used > 2^k × FREE. -/
def overAlpha (k used free : Nat) : Bool :=
  if k < 4 then decide (2 ^ k * free < used) else decide (free < used * 2 ^ (8 - k))

/-- A port takes copies on the hub (R183, R193). -/
def portTakes (p : Nat) (s : State) : Bool := decide (512 ≤ p) || (portSt p s).hubUp

/-- The tests of R183, in their order; a headroom copy skips only the threshold test (R189). -/
def admissionTest (c : Copy) (s : State) : Verdict :=
  let free := freeShared s
  let m := s.fld F.Q_MIN c.q
  let cells := s.fld F.Q_CELLS c.q
  let used := cells + c.charge - m
  let need := used - (cells - m)
  if portTakes c.port s = false then .down
  else if s.fld F.FREE_DESC 0 = 0 then .noDesc
  else if need = 0 then .plain
  else if c.headroom then .admitted
  else if free < need ∨ overAlpha (s.fld F.Q_CFG_ALPHA_K c.q) used free = true then .threshold
  else .admitted

/-- WRED_TEST (R186): the copy passes, is marked, or is refused. The pseudo-random value is free. -/
inductive Wred where
  | pass | mark | refuse
deriving DecidableEq, Repr

/-- WRED_TEST of a queue for a copy of a colour; `ect` is the frame's ECT. -/
def wredTest (q colour : Nat) (ect : Bool) (s : State) : State × Wred :=
  let i := q * 3 + colour
  let mode := s.fld F.Q_CFG_MODE q
  if mode = 0 ∨ mode = 3 ∨ 2 < colour ∨ s.fld F.WRED_HI_EN i = 0 then (s, .pass)
  else
    let lo := s.fld F.WRED_LO i
    let hi := s.fld F.WRED_HI_MAX_TH i
    let avg := s.fld F.Q_AVG q
    let v := (Config.wredRandom s.dp.fresh).toNat
    let s1 : State := { s with dp := { s.dp with fresh := s.dp.fresh + 1 } }
    let selected : Bool :=
      if avg < lo * 256 then false
      else if hi * 256 ≤ avg then true
      else decide (v * (hi - lo) < s.fld F.WRED_HI_MAX_P i * (avg - lo * 256))
    let ecn := s.fld F.Q_CFG_ECN_EN q == 1 && ect
    if selected = false then (s1, .pass)
    else if mode = 2 then (s1, if ecn then .mark else .pass)
    else if ecn = true ∧ avg < hi * 256 then (s1, .mark)
    else (s1, .refuse)

/-- The slot in which a copy of a deadline queue is filed (08 R213). -/
def slotFor (c : Copy) (s : State) : Option Nat :=
  if c.port < 512 ∧ s.fld F.Q_SCH_CFG_ALG c.q = 2 then
    match c.deadline with
    | some d =>
      let now := presentSlot c.port s
      some (min (max (d / (32 * nsUnit : Nat)).toNat now) (now + 1023))
    | none => none
  else none

/-- Put an admitted copy into its queue: its charge, its descriptor and its counters (R183, R189, R187). -/
def enqueue (c : Copy) (mark : Bool) (s : State) : State :=
  let s1 := if c.headroom then queueHwm c.q ((s.addSat F.Q_HDRM_CELLS c.q c.charge).bump F.HDRM_ADMIT c.q)
    else setQCells c.q (s.fld F.Q_CELLS c.q + c.charge) s
  let s2 := (s1.addWrap F.ENQ_COPIES c.q 1).lower F.FREE_DESC 0 1
  let s3 := if mark then s2.bump F.ECN_MARKED c.q else s2
  let c' : Copy := { c with ecn := mark, slot := slotFor c s3, gen := if c.port < 512 then s3.fld F.EM_INFO (dieOf c.port) else 0 }
  leaveTransit c.frame { s3 with dp := { s3.dp with copies := s3.dp.copies ++ [c'] } }

/-- A copy is refused for good (06 R147, R161). -/
def refuseCopy (c : Copy) (s : State) : State :=
  let s1 := s.bump F.COPY_REFUSED c.port
  match c.mirror with
  | some (m, _, _) => s1.bump F.MIRROR_REFUSED m
  | none => s1

/-- Count the first refusal of a copy by the descriptor or the threshold test (R183). -/
def countRefusal (v : Verdict) (c : Copy) (s : State) : State :=
  if c.counted then s
  else match v with
    | .noDesc => raiseSrc 130 (s.bump F.NO_DESC 0)
    | .threshold => s.bump F.REFUSED_DT c.q
    | _ => s

/-- The outcome of one copy's admission: the state, whether it is refused, and whether it wants a hold. -/
structure AdmitRes where
  st : State
  refused : Bool := false
  wantsHold : Bool := false
deriving DecidableEq, Repr

/-- A queue has held copies (06 R149). -/
def queueHeld (q : Nat) (s : State) : Bool := s.dp.held.any (fun c => c.q == q)

/-- ADMISSION and WRED_TEST of one copy, apart from the holds (R183, R184, R186). -/
def admitCopy (c : Copy) (ect : Bool) (s : State) : AdmitRes :=
  match admissionTest c s with
  | .admitted =>
    match wredTest c.q c.colour ect s with
    | (s1, .refuse) => { st := refuseCopy c (s1.bump F.WRED_DROP c.q), refused := true }
    | (s1, .mark) => { st := enqueue c true s1 }
    | (s1, .pass) => { st := enqueue c false s1 }
  | .plain => { st := enqueue c false s }
  | .down => { st := refuseCopy c s, refused := true }
  | v =>
    let s1 := countRefusal v c s
    if s.fld F.Q_CFG_MODE c.q = 2 ∧ c.mirror = none then { st := s1, wantsHold := true }
    else { st := refuseCopy c s1, refused := true }

/-- MULTICAST_HOLD (06 R148, R149): hold a copy, or refuse it when 256 frames are held. -/
def holdCopy (c : Copy) (s : State) : AdmitRes :=
  let fs := heldFrames s
  if fs.contains c.frame = false ∧ 256 ≤ fs.length then { st := refuseCopy c s, refused := true, wantsHold := true }
  else { st := heldCount { s with dp := { s.dp with held := s.dp.held ++ [c] } } }

/-- One copy at the input stage: behind the held copies of its queue, or admitted on its own. -/
def offerCopy (c : Copy) (ect : Bool) (s : State) : AdmitRes :=
  if c.mirror = none ∧ queueHeld c.q s = true ∧ portTakes c.port s = true then holdCopy c s
  else
    let r := admitCopy c ect s
    if r.wantsHold then holdCopy { c with counted := true } r.st else r

/-- The trap bucket of port 513 (10 R290): true when the copy passes. -/
def trapToken (s : State) : State × Bool :=
  if 64 ≤ s.pln.trapSpent then (s.bump F.TRAP_SHAPED_DROP 0, false)
  else ({ s with pln := { s.pln with trapSpent := s.pln.trapSpent + 1 } }, true)

/-- Offer the copies of a frame in order; the answer says whether one was refused. MC_HOLD_FULL counts once per frame. -/
def offerAll (ect shaped : Bool) : List Copy → State → State × Bool × Bool
  | [], s => (s, false, false)
  | c :: cs, s =>
    let t : State × Bool := if c.port = 513 ∧ shaped = true then trapToken s else (s, true)
    if t.2 then
      let r := offerCopy c ect t.1
      let rest := offerAll ect shaped cs r.st
      (rest.1, rest.2.1 || r.refused, rest.2.2 || (r.refused && r.wantsHold))
    else offerAll ect shaped cs t.1

/-- Admit the copies of a frame (R147, R183). -/
def admitAll (ect shaped : Bool) (cs : List Copy) (s : State) : State × Bool :=
  let r := offerAll ect shaped cs s
  (if r.2.2 then r.1.bump F.MC_HOLD_FULL 0 else r.1, r.2.1)

/-! ### Copies -/

/-- Draw the numbers of new copies. -/
def numberCopies (cs : List Copy) (s : State) : State × List Copy :=
  ({ s with dp := { s.dp with nextCopy := s.dp.nextCopy + cs.length } },
   cs.zipIdx.map (fun x => { x.1 with id := s.dp.nextCopy + x.2 }))

/-- What every copy of a frame takes from it. -/
def baseCopy (f : Nat) (fr : Frame) : Copy :=
  { id := 0, frame := f, port := 0, q := 0, vid := fr.cls.vid, cls := fr.cls.cls, colour := fr.cls.colour,
    learn := fr.cls.learn, seq := fr.cls.seq, charge := fr.charge }

/-- The copy of one copy entry of a group (06 Table 6.2, Table 6.5). -/
def entryCopy (f : Nat) (fr : Frame) (e : Nat) (nh : Option Nat) (s : State) : Copy :=
  let w := rwWord 3 e 0 s
  let v := bitsOf (rwWord 3 e 1 s) 0 12
  let p := bitsOf w 0 10
  { baseCopy f fr with
    port := p
    q := queueOf p (if p = 512 then bitsOf w 28 4 else fr.cls.queue)
    edit := bitsOf w 16 8
    nh := nh
    vid := if v = 0 then fr.cls.vid else v }

/-- The copies of a group, none to the ingress port (06 R144, R145); an uncorrectable read makes none (R164). -/
def groupCopies (f : Nat) (fr : Frame) (g : Nat) (nh : Option Nat) (ue : Option Nat) (s : State) : State × List Copy :=
  let w := rwWord 2 g 0 s
  let first := bitsOf w 0 16
  let count := bitsOf w 16 11
  match ue with
  | some k =>
    let s1 := if k = 0 then rwFromShadow 2 g s else (List.range count).foldl (fun s i => rwFromShadow 3 (first + i) s) s
    (raiseFault 10 4 k (s1.bump F.REPL_UE 0), [])
  | none =>
    if bitsOf w 31 1 = 0 then (s, [])
    else (s, ((List.range count).map (fun i => entryCopy f fr (first + i) nh s)).filter (fun c => c.port != fr.port))

/-- A copy to one port, with the queue that Table 6.2's rules give it: port 512 takes a host queue (18 R453). -/
def portCopy (f : Nat) (fr : Frame) (p edit trap : Nat) (nh : Option Nat) (s : State) : Copy :=
  let n := if p = 512 then (if 0x10 ≤ trap ∧ trap ≤ 0x4F then s.fld F.HIF_CFG 0 else fr.cls.queue) else fr.cls.queue
  { baseCopy f fr with port := p, q := queueOf p n, edit := edit, nh := nh, trap := trap }

/-- Row 1 of Table 6.1: the copies of the forwarding destination, with the programs of Table 6.5. -/
def forwardCopies (f : Nat) (fr : Frame) (ue : Option Nat) (s : State) : State × List Copy :=
  match fr.cls.dest with
  | .none => (s, [])
  | .far => (s, [])
  | .port p =>
    let edit := if 512 ≤ p then 0
      else if fr.inject.isSome = true then fr.inject.getD 0
      else if fr.cls.handle ≠ 0xFFFF then s.fld F.STREAM_EGRESS_EDIT (dieOf fr.port * 65536 + fr.cls.handle)
      else s.fld F.PORT_EDIT_CFG p
    (s, [portCopy f fr p edit 0 none s])
  | .group g => groupCopies f fr g none ue s
  | .nhPort h p => (s, [portCopy f fr p (bitsOf (rwWord 1 h 2 s) 16 8) 0 (some h) s])
  | .nhGroup h g => groupCopies f fr g (some h) ue s
  | .trap code host => (s, [portCopy f fr (if host then 512 else 513) 0 code none s])

/-- Row 2 of Table 6.1: the trap copy of the class rule or the default action, then that of the exact-match entry (code 0x40). -/
def trapCopies (f : Nat) (fr : Frame) (s : State) : List Copy :=
  let all := [(512, fr.cls.trap512), (513, fr.cls.trap513)].filter (fun x => x.2 != 0)
  (all.filter (fun x => x.2 != 0x40) ++ all.filter (fun x => x.2 == 0x40)).map (fun x => portCopy f fr x.1 0 x.2 none s)

/-- A session's port map holds a port (06 R160). -/
def mirrorHas (m p : Nat) (s : State) : Bool := (s.fld F.MIRROR_PORTS (m * 17 + p / 32)).testBit (p % 32)

/-- The least element of a list. -/
def leastOf : List Nat → Option Nat
  | [] => none
  | x :: xs => match leastOf xs with | some y => some (min x y) | none => some x

/-- Whether session `m` selects a frame: the trailer's PORT and DIR (06 R160). -/
def mirrorSelects (m : Nat) (fr : Frame) (made : List Copy) (s : State) : Option (Nat × Bool) :=
  match s.fld F.MIRROR_CFG_SRC_KIND m with
  | 1 => if mirrorHas m fr.port s then some (fr.port, false) else none
  | 2 => (leastOf ((made.map (fun c => c.port)).filter (fun p => mirrorHas m p s))).map (fun p => (p, true))
  | 3 =>
    if s.fld F.MIRROR_STREAM_LO m ≤ fr.cls.handle ∧ fr.cls.handle ≤ s.fld F.MIRROR_STREAM_HI m ∧ s.fld F.MIRROR_STREAM_HI m ≤ 65534
    then some (fr.port, false) else none
  | _ => none

/-- The mirror copy of a session (06 R160, R161), counted, when its sampling takes the frame. -/
def mirrorCopy (f : Nat) (fr : Frame) (made : List Copy) (m : Nat) (s : State) : State × List Copy :=
  match mirrorSelects m fr made s with
  | none => (s, [])
  | some (port, dir) =>
    let n := tget 0 s.dp.mirrorCount m
    let every := s.fld F.MIRROR_CFG_SAMPLE_N m
    let s1 : State := { s with dp := { s.dp with mirrorCount := tset 0 s.dp.mirrorCount m (if every ≤ n + 1 then 0 else n + 1) } }
    if n ≠ 0 then (s1, [])
    else
      let p := s.fld F.MIRROR_DEST_PORT m
      let n := if p = 512 then s.fld F.MIRROR_DEST_HQ m else s.fld F.MIRROR_DEST_QUEUE m
      let c : Copy := { baseCopy f fr with
        port := p, q := queueOf p n, edit := if p < 512 then s.fld F.MIRROR_CFG_EDIT m else 0,
        trap := if p < 512 then 0 else 0x50 + m, mirror := some (m, port, dir), learn := false, headroom := false }
      (s1.addWrap F.MIRROR_COPIES m 1, [c])

/-- The frame was trapped on its port die as malformed (03 R70): no session selects it (06 R160). -/
def dieTrapped (fr : Frame) : Bool :=
  match fr.cls.dest with
  | .trap code _ => decide (0x10 ≤ code) && decide (code ≤ 0x1F)
  | _ => false

/-- Rows 1 to 3 of Table 6.1 in order, before admission. -/
def makeCopies (f : Nat) (fr : Frame) (ue : Option Nat) (s : State) : State × List Copy :=
  let r1 := forwardCopies f fr ue s
  let made := r1.2 ++ trapCopies f fr r1.1
  if dieTrapped fr then (r1.1, made) else (List.range 8).foldl (fun (a : State × List Copy) m =>
    let x := mirrorCopy f fr made m a.1
    (x.1, a.2 ++ x.2)) (r1.1, made)

/-- Cut-through eligibility of a copy (R179). -/
def ctEligible (fr : Frame) (c : Copy) (s : State) : Bool :=
  fr.cls.ct && decide (c.port < 512) && s.fld F.PORT_BUF_CFG c.port == 1 && decide (rateOf c.port s ≤ rateOf fr.port s)

/-- DEADLINE_STAMP (08 R212): D of a copy, none where no budget applies; `tIn` is the milestone it counts from. -/
def deadlineOf (tIn handle : Nat) (c : Copy) (s : State) : Option Int :=
  let sb := if handle = 0xFFFF then 0 else scWord 0 handle 2 s
  let wire : Int := byteTime (copyLen c s) (rateOf c.port s)
  if 512 ≤ c.port ∨ c.mirror ≠ none then none
  else if sb ≠ 0 then some ((tIn : Int) + sb * nsUnit - wire)
  else if s.fld F.Q_SCH_CFG_ALG c.q = 2 then
    some ((tIn : Int) + s.fld F.Q_DL_BUDGET c.q * nsUnit - wire)
  else none

/-- Finish a copy: headroom for LOSSLESS queues of a headroom frame, cut-through, deadline. -/
def finishCopy (fr : Frame) (tIn : Nat) (c : Copy) (s : State) : Copy :=
  { c with
    headroom := fr.headroom && s.fld F.Q_CFG_MODE c.q == 2
    ctEl := ctEligible fr c s
    deadline := deadlineOf tIn fr.cls.handle c s }

/-- A mirror copy loses bytes of a frame of `l` bytes (06 R161). -/
def losesBytes (c : Copy) (l : Nat) (s : State) : Bool :=
  match c.mirror with
  | none => false
  | some (m, _, _) => s.fld F.MIRROR_CFG_TRUNC m != 0 && decide (64 * s.fld F.MIRROR_CFG_TRUNC m < l - 4)

/-- Count the truncated mirror copies among a frame's copies in the queues and on the dies. -/
def countTruncated (f l : Nat) (s : State) : State :=
  (s.dp.copies ++ s.dp.tx.map (fun t => t.copy)).foldl (fun s c =>
    if c.frame = f ∧ losesBytes c l s = true then s.bump F.MIRROR_TRUNCATED (c.mirror.elim 0 Prod.fst) else s) s

/-! ### The stage -/

/-- Make, admit and enqueue the copies of a policed frame. -/
def replicate (f : Nat) (fr : Frame) (replUe : Option Nat) (s : State) : State :=
  let r := makeCopies f fr replUe s
  let n := numberCopies r.2 r.1
  let s1 := (admitAll fr.cls.ect true (n.2.map (fun c => finishCopy fr fr.tIn c n.1)) n.1).1
  match fr.len with
  | some l => countTruncated f l s1
  | none => s1

/-- A frame of the same port whose header arrived before that of `f` has not yet passed the stage (07 R170); one that waits for the far table
keeps no other back. -/
def inputBlocked (f : Nat) (fr : Frame) (s : State) : Bool :=
  (s.dp.arrived.takeWhile (fun g => g != f)).any (fun g =>
    match frameAt g s with
    | some h => h.port == fr.port && h.stage == .classified && h.cells == 0
    | none => false)

/-- The stage acts on a frame whose header is at the hub: it is policed, and its copies are made; those of a frame already found bad end as R180
says. -/
def inputStage (f : Nat) (scUe : Bool) (replUe : Option Nat) (s : State) : State :=
  match frameAt f s with
  | none => s
  | some fr =>
    match police fr scUe s with
    | (s2, none) => settle f (setFrame f { fr with stage := .buffered, refused := true } s2)
    | (s2, some fr') =>
      let fr2 : Frame := { fr' with stage := .buffered }
      let s3 := replicate f fr2 replUe (phaseObserve fr2 (setFrame f fr2 s2))
      if fr.bad then badCopies f s3 else settle f s3

/-- HUB_INPUT_STAGE (01 R33): the decoded header of frame `f` reaches the hub, once its start flit has crossed. `scUe`: its stream context read
uncorrectable; `replUe`: a group (0) or copy entry (1) read did; `ctxUe`: the receiving header context did. -/
def hubInput (f : Nat) (scUe : Bool) (replUe : Option Nat) (ctxUe : Bool) (s : State) : State :=
  match frameAt f s with
  | none => s
  | some fr =>
    if fr.stage ≠ .classified then s
    else
      let s1 := headerUp f ctxUe s
      if waitsUp f true s1 = true ∨ inputBlocked f fr s1 = true then s1
      else inputStage f scUe replUe (firstCell f { s1 with dp := { s1.dp with arrived := s1.dp.arrived.filter (fun g => g != f) } })

/-- MC_HOLD_RETRY (06 R148): the tests of R183 again for the oldest held copy of a queue. -/
def holdRetry (q : Nat) (s : State) : State :=
  match s.dp.held.find? (fun c => c.q == q) with
  | none => s
  | some c =>
    let ect := match frameAt c.frame s with | some fr => fr.cls.ect | none => false
    let r := admitCopy c ect s
    if r.wantsHold then
      { r.st with dp := { r.st.dp with held := r.st.dp.held.map (fun x => if x.id = c.id then { x with counted := true } else x) } }
    else
      settle c.frame (heldCount { r.st with dp := { r.st.dp with held := r.st.dp.held.filter (fun x => x.id != c.id) } })

/-- Refuse every held copy that a test picks. -/
def refuseHeld (sel : Copy → Bool) (expired : Bool) (s : State) : State :=
  let out := s.dp.held.filter sel
  let s1 := out.foldl (fun s c => refuseCopy c (if expired then s.bump F.MC_HOLD_EXPIRED 0 else s)) s
  let s2 := heldCount { s1 with
    dp := { s1.dp with held := s1.dp.held.filter (fun c => !sel c) }
    hif := { s1.hif with txDone := s1.hif.txDone.map (fun t => if out.any (fun c => c.frame == t.frame) then { t with refused := true } else t) } }
  out.foldl (fun s c => settle c.frame s) s2

/-- MC_HOLD_EXPIRY (06 R148): the hold of a frame ends. -/
def holdExpiry (f : Nat) (s : State) : State := refuseHeld (fun c => c.frame == f) true s

/-- FRAME_ELIGIBLE (01 R33): the copies of a frame that are cut-through eligible, or whose last cell is written, may be dequeued. -/
def frameEligible (f : Nat) (s : State) : State :=
  match frameAt f s with
  | none => s
  | some fr =>
    { s with dp := { s.dp with copies := s.dp.copies.map (fun c =>
        if c.frame = f ∧ (c.ctEl = true ∨ fr.lastCell = true) then { c with eligible := true } else c) } }

/-- Q_AVG_UPDATE (R185): the average of a queue advances; how a step that is no multiple of 1/256 cell is rounded is free. -/
def qAvgStep (q : Nat) (s : State) : State :=
  let a := s.fld F.Q_AVG q
  let c := s.fld F.Q_CELLS q * 256
  let w := s.fld F.Q_CFG_W q
  let gap := if a ≤ c then c - a else a - c
  let move := gap / 2 ^ w + (if gap % 2 ^ w ≠ 0 ∧ Config.avgRound a c w = true then 1 else 0)
  s.setFld F.Q_AVG q (if a ≤ c then a + move else a - move)

/-- Q_AVG_UPDATE over the 4,120 queues. -/
def qAvgUpdate (s : State) : State := (List.range 4120).foldl (fun s q => qAvgStep q s) s

end Sys2Proof.Machine
end

