-- ==== Sys2Proof/Machine/Shapers.lean ====
section
/-! DEFINITION. Shapers and their timing wheel (08_egress_scheduling.md R217 to R219). -/

namespace Sys2Proof.Machine

/-- One byte in the units of shapers and meters: RATE kb/s fills RATE units per cc. -/
def byteUnit : Nat := 24000000

/-- A shaper at the present cycle: it fills at RATE up to BURST (R217). -/
def shaperNow (k : Nat) (s : State) : ShaperSt :=
  let st := tget ({} : ShaperSt) s.dp.shapers k
  { st with spent := st.spent - s.fld F.SHP_RATE k * (s.cycle - st.since), since := s.cycle }

def setShaper (k : Nat) (v : ShaperSt) (s : State) : State := { s with dp := { s.dp with shapers := tset {} s.dp.shapers k v } }

/-- The tokens of a shaper are below 0. -/
def shaperShort (k : Nat) (st : ShaperSt) (s : State) : Bool := decide (s.fld F.SHP_BURST k * byteUnit < st.spent)

/-- Put an ineligible shaper on the wheel, in the slot of its ready time rounded up, or on the overflow list beyond the
horizon of 65,536 slots of 48 cc (R218). -/
def shaperPlace (k : Nat) (st : ShaperSt) (s : State) : State :=
  let missing := st.spent - s.fld F.SHP_BURST k * byteUnit
  let rate := s.fld F.SHP_RATE k
  let ready := s.cycle + (missing + rate - 1) / rate
  let slot := (ready + 47) / 48
  setShaper k { st with wait := some slot, overflow := decide (s.cycle / 48 + 65536 ≤ slot) } s

/-- A number names no shaper: 0x7FFF, or a shaper whose RATE was never loaded and is 0. -/
def noShaper (k : Nat) (s : State) : Bool := k == 0x7FFF || s.fld F.SHP_RATE k == 0

/-- A shaper lets a copy start (condition 7 of Table 8.1). -/
def shaperOpen (k : Nat) (s : State) : Bool :=
  noShaper k s || (let st := shaperNow k s; st.wait.isNone && !shaperShort k st s)

/-- Charge `n` bytes to a shaper (R217). -/
def shaperCharge (k n : Nat) (s : State) : State :=
  if noShaper k s then s
  else
    let st := shaperNow k s
    let st' : ShaperSt := { st with spent := st.spent + n * byteUnit }
    if shaperShort k st' s then shaperPlace k st' s else setShaper k st' s

/-- Credit `n` bytes back (R217). -/
def shaperCredit (k n : Nat) (s : State) : State :=
  if noShaper k s then s
  else
    let st := shaperNow k s
    let st' : ShaperSt := { st with spent := st.spent - n * byteUnit }
    if st.wait.isSome then shaperPlace k st' s else setShaper k st' s

/-- SHAPER_WHEEL_SLOT (R218): every shaper whose slot has come is eligible again; at a pass through slot 0 the overflow list
moves into its slots the shapers that the next horizon holds. -/
def shaperWheel (s : State) : State :=
  let now := s.cycle / 48
  let crossed : Bool := decide (s.dp.shaperPos / 65536 ≠ now / 65536)
  let s0 : State := { s with dp := { s.dp with shaperPos := now } }
  s.dp.shapers.foldl (fun s e =>
    match e.2.wait with
    | none => s
    | some slot =>
      if e.2.overflow then
        (if crossed = true ∧ s.fld F.SHP_RATE e.1 ≠ 0 ∧ slot < now / 65536 * 65536 + 65536 then setShaper e.1 { e.2 with overflow := false } s else s)
      else if slot ≤ now then
        let st := shaperNow e.1 s
        (if shaperShort e.1 st s then shaperPlace e.1 st s else setShaper e.1 { st with wait := none } s)
      else s) s0

/-- SHP_TOKENS: whole bytes, two's complement. -/
def shaperTokens (k : Nat) (s : State) : Nat :=
  let st := shaperNow k s
  let v : Int := (s.fld F.SHP_BURST k : Int) - ((st.spent + byteUnit - 1) / byteUnit : Nat)
  (v % (2 ^ 32 : Nat)).toNat

/-- LEN_OVH of a port, two's complement of 7 bits, added to a length (R219). -/
def withOverhead (p l : Nat) (s : State) : Nat :=
  let o := s.fld F.PORT_SCH_CFG_LEN_OVH p
  if o < 64 then l + o else l - (128 - o)

/-- Once the length of a frame is known: FREE_p takes the true end where it is that of the copy, the shapers get the difference back, and descriptors of
copies already read go back (R201, R217, 07 R167). -/
def creditTx (f : Nat) (s : State) : State :=
  let mine := s.dp.tx.filter (fun t => t.copy.frame == f)
  let s1 := mine.foldl (fun s t =>
    let n := copyLen t.copy s
    let diff := t.projLen - n
    let p := t.copy.port
    let st := portSt p s
    let a := if st.freeBy = some t.copy.id then setPortSt p { st with free := st.free - byteTime diff (rateOf p s) } s else s
    let b := shaperCredit (s.fld F.PORT_SCH_CFG_PORT_SHAPER p) diff (shaperCredit (s.fld F.Q_SHAPER t.copy.q) diff a)
    if t.desc then freeDesc b else b) s
  { s1 with dp := { s1.dp with tx := s1.dp.tx.map (fun t =>
      if t.copy.frame = f then { t with desc := false, projLen := min t.projLen (copyLen t.copy s) } else t) } }

end Sys2Proof.Machine
end

