-- ==== Sys2Proof/Machine/Ports.lean ====
section
/-! DEFINITION. Ethernet ports: received frames and their checks, MAC control and gPTP frames, preemption, link state, the
port-down event and the port flush (02_ports.md, 07_shared_buffer.md R188, R193, 09_time_base.md R250). -/

namespace Sys2Proof.Machine

/-! ### Events of a port -/

/-- A PORT_EVENT bit sets, and raises its interrupt source where PORT_EVENT_EN lets it (R55): sources 256 + 32 d + 0 and + 1
by pipeline, + 2 for VERIFY_FAIL; the PORT record goes to the event rings (18 R460). -/
def portEvent (p : Nat) (ev en : Fld) (verify : Bool) (s : State) : State :=
  let s0 := s.setFld ev p 1
  let s1 := eventRecord 2 (toLe 2 p ++ toLe 2 (2 ^ ev.lo) ++ toLe 4 (regWord .PORT_STATUS p s)) s0
  if s.fld en p = 1 then raiseSrc (256 + 32 * dieOf p + (if verify then 2 else pipeOf p)) s1 else s1

/-- Preemption is active (R48). -/
def preemptActive (p : Nat) (s : State) : Bool :=
  s.fld F.MM_CFG_PREEMPT_EN p == 1 && (s.fld F.MM_CFG_VERIFY_EN p == 0 || s.fld F.MM_STATUS_VERIFY_STATUS p == 3)

/-- MM_STATUS.ACTIVE follows. -/
def setActive (p : Nat) (s : State) : State := s.setFld F.MM_STATUS_ACTIVE p (if preemptActive p s then 1 else 0)

/-- A MODE 0 port and lanes p + 1 to p + 3 of a joined group carry no port of their own (R506, R41). -/
def portExists (p : Nat) (s : State) : Bool :=
  decide (p < 512) && s.dieUp (dieOf p) && s.fld F.PORT_CFG_MODE p != 0 && !joinedLane p s

/-- The lanes of a port: four for a port of MODE 6 (R41), whose lanes each keep an SD_RX_STATUS. -/
def lanesOf (p : Nat) (s : State) : List Nat := if s.fld F.PORT_CFG_MODE p = 6 then [p, p + 1, p + 2, p + 3] else [p]

/-- The first four conditions of R52: lock, adaptation, negotiation where enabled, no fault. -/
def linkConditions (p : Nat) (s : State) : Bool :=
  s.fld F.PORT_STATUS_PCS_LOCK p == 1 && (lanesOf p s).all (fun q => s.fld F.SD_RX_STATUS_ADAPT_DONE q == 1) &&
  (match s.fld F.PORT_CFG_MODE p with
    | 1 => s.fld F.PORT_CFG_AN_EN p == 0 || s.fld F.PORT_STATUS_AN_DONE p == 1
    | 2 => (portSt p s).sgmiiUp
    | _ => true) &&
  s.fld F.PORT_STATUS_LOCAL_FAULT p == 0 && s.fld F.PORT_STATUS_REMOTE_FAULT p == 0

/-- Every condition of R52; link bring-up is enabled on entry to RUN (17 R425). -/
def upConditions (p : Nat) (s : State) : Bool :=
  s.runs && portExists p s && linkConditions p s && s.fld F.PORT_CFG_ADMIN_UP p == 1 && s.fld F.PORT_STATUS_QUARANTINED p == 0

/-- HOLD_OFF reads 1 while the up conditions hold and the link is not declared up. -/
def holdOff (p : Nat) (s : State) : State :=
  s.setFld F.PORT_STATUS_HOLD_OFF p (if upConditions p s = true ∧ s.fld F.PORT_STATUS_LINK_UP p = 0 then 1 else 0)

/-- LOCAL_FAULT and REMOTE_FAULT take new values (R506): PORT_EVENT.FAULT sets at each change from 0 to 1. -/
def setFaults (p : Nat) (lf rf : Bool) (s : State) : State :=
  let lf := lf && portExists p s
  let rf := rf && portExists p s
  let rises := (lf && s.fld F.PORT_STATUS_LOCAL_FAULT p == 0) || (rf && s.fld F.PORT_STATUS_REMOTE_FAULT p == 0)
  let s1 := s.setFlds [(F.PORT_STATUS_LOCAL_FAULT, p, if lf then 1 else 0), (F.PORT_STATUS_REMOTE_FAULT, p, if rf then 1 else 0)]
  holdOff p (if rises then portEvent p F.PORT_EVENT_FAULT F.PORT_EVENT_EN_FAULT false s1 else s1)

/-- The local fault of R506 by the state of the receive path. -/
def localFault (p : Nat) (s : State) : Bool :=
  (lanesOf p s).any (fun q => s.fld F.SD_RX_STATUS_SIGNAL_DETECT q == 0) || s.fld F.PORT_STATUS_PCS_LOCK p == 0 ||
  (decide (4 ≤ s.fld F.PORT_CFG_MODE p) && (portSt p s).lfSets) || (portSt p s).pllLost

/-- Lane `q` has a signal or has lost it; a lane without a signal is not adapted. -/
def laneSignal (signal : Bool) (q : Nat) (s : State) : State :=
  let s1 := s.setFld F.SD_RX_STATUS_SIGNAL_DETECT q (if signal then 1 else 0)
  if signal then s1 else s1.setFld F.SD_RX_STATUS_ADAPT_DONE q 0

/-- A lane p + 1 to p + 3 of a joined group whose die is up (R41). -/
def laneOfGroup (q : Nat) (s : State) : Bool := decide (q < 512) && s.dieUp (dieOf q) && joinedLane q s

/-- One lane of a joined group gains or loses its signal; a loss takes the lock of the group's port (R41, R506). -/
def lanePath (q : Nat) (signal : Bool) (s : State) : State :=
  let p := q / 4 * 4
  let s1 := laneSignal signal q s
  let s2 := if signal then s1 else
    s1.setFlds [(F.PORT_STATUS_PCS_LOCK, p, 0), (F.PORT_STATUS_LANE_LOCK, p, s.fld F.PORT_STATUS_LANE_LOCK p - (s.fld F.PORT_STATUS_LANE_LOCK p &&& 2 ^ (q % 4)))]
  setFaults p (localFault p s2) (s.fld F.PORT_STATUS_REMOTE_FAULT p == 1) s2

/-- The PCS lanes on the four physical lanes can be put in order: each of 0 to 3 stands on one, and they are skewed by at most 180 ns (R41). -/
def lanesAlign (order : List Nat) (skew : Nat) : Bool :=
  order.length == 4 && (List.range 4).all (fun k => order.contains k) && decide (skew ≤ 180)

/-- RX_PATH_STATUS_CHANGE (R506): signal detect, PCS lock with the raw lane locks, local fault ordered sets and the
partner's remote fault take new values; on all four lanes of a joined group, where `p` is its port, whose PCS lanes are found on the physical
lanes in some `order` and with some `skew` in ns (R41). A loss of signal clears PCS_LOCK, the adaptation and the negotiation. The receive
stream carries a remote fault in modes 4 to 6 only. -/
def rxPathStatus (p : Nat) (signal lock : Bool) (lanes : Nat) (order : List Nat) (skew : Nat) (lfSets rf : Bool) (s : State) : State :=
  if laneOfGroup p s then lanePath p signal s
  else if portExists p s = false then s
  else
    let mode := s.fld F.PORT_CFG_MODE p
    let lock := signal && lock && (mode != 6 || lanesAlign order skew)
    let s0 := setPortSt p { portSt p s with laneOrder := if lock = true ∧ mode = 6 then order else [] } s
    let s1 := s0.setFlds [(F.PORT_STATUS_PCS_LOCK, p, if lock then 1 else 0),
      (F.PORT_STATUS_LANE_LOCK, p, if signal = false then 0 else if mode = 6 then lanes else lanes % 2)]
    let s2 := (lanesOf p s).foldl (fun s q => laneSignal signal q s) s1
    let s3 := if lock then s2 else setPortSt p { portSt p s2 with sgmiiUp := false } (s2.setFld F.PORT_STATUS_AN_DONE p 0)
    let s4 := setPortSt p { portSt p s3 with lfSets := lfSets } s3
    let old := s.fld F.PORT_STATUS_REMOTE_FAULT p == 1
    setFaults p (localFault p s4) (if mode < 4 then mode == 1 && s.fld F.PORT_CFG_AN_EN p == 1 && old else if signal then rf else old) s4

/-- A port begins to bring its link up: the faults of its receive path show (R506), and a 1000BASE-X port that negotiates advertises full duplex,
and symmetric PAUSE where its FLOW_MODE uses it (R39). -/
def portBringUp (p : Nat) (s : State) : State :=
  if portExists p s = false then s
  else
    let adv := if s.fld F.PORT_CFG_MODE p = 1 ∧ s.fld F.PORT_CFG_AN_EN p = 1 then some (true, s.fld F.PORT_CFG_FLOW_MODE p == 1) else none
    let s1 := setPortSt p { portSt p s with advert := adv } s
    setFaults p (localFault p s1) (s.fld F.PORT_STATUS_REMOTE_FAULT p == 1) s1

/-- Lane `q` is adapted, where it has a signal (R57). -/
def laneAdapted (q : Nat) (s : State) : State :=
  if s.fld F.SD_RX_STATUS_SIGNAL_DETECT q = 1 then s.setFld F.SD_RX_STATUS_ADAPT_DONE q 1 else s

/-- ADAPTATION_DONE (R57): of a lane of a joined group, or of every lane of port `p`. -/
def adaptationDone (p : Nat) (s : State) : State :=
  if laneOfGroup p s then holdOff (p / 4 * 4) (laneAdapted p s)
  else if portExists p s then holdOff p ((lanesOf p s).foldl (fun s q => laneAdapted q s) s)
  else s

/-- AN_COMPLETE (R39): Clause 37 negotiation completes; `rf` is the remote fault of the partner's base page. -/
def anComplete (p : Nat) (rf : Bool) (s : State) : State :=
  if portExists p s = true ∧ s.fld F.PORT_CFG_MODE p = 1 ∧ s.fld F.PORT_CFG_AN_EN p = 1 ∧ s.fld F.PORT_STATUS_PCS_LOCK p = 1 then
    let s1 := s.setFld F.PORT_STATUS_AN_DONE p 1
    setFaults p (localFault p s1) rf s1
  else s

/-- SGMII_CONTROL_WORD (R39): only link up, full duplex and 1000 Mb/s permit link up; any other report keeps the link down
and counts in RX_CODE_ERR. -/
def sgmiiWord (p : Nat) (up full gig : Bool) (s : State) : State :=
  if portExists p s = true ∧ s.fld F.PORT_CFG_MODE p = 2 then
    let ok := up && full && gig
    let s1 := setPortSt p { portSt p s with sgmiiUp := ok } (s.setFld F.PORT_STATUS_AN_DONE p (if ok then 1 else 0))
    holdOff p (if ok then s1 else s1.bump F.RX_CODE_ERR p)
  else s

/-- LINK_UP_HOLDOFF_EXPIRY (R52): the up conditions have held for UP_HOLDOFF; the link is declared up. -/
def linkUp (p : Nat) (s : State) : State :=
  if upConditions p s = false ∨ s.fld F.PORT_STATUS_LINK_UP p = 1 then s
  else
    let verify := s.fld F.MM_CFG_PREEMPT_EN p = 1 ∧ s.fld F.MM_CFG_VERIFY_EN p = 1
    let s1 := s.setFlds [(F.PORT_STATUS_LINK_UP, p, 1), (F.PORT_STATUS_HOLD_OFF, p, 0),
      (F.MM_STATUS_VERIFY_STATUS, p, if verify then 2 else 0)]
    let s2 := setPortSt p { portSt p s1 with tx := .on, hubUp := true, verifySent := 0, free := s1.work, freeBy := none } s1
    setActive p (portEvent p F.PORT_EVENT_UP F.PORT_EVENT_EN_UP false s2)

/-! ### The wire and its preemption points -/

/-- ε_p of 08 R201, in units of the working clock. -/
def epsilonOf (p : Nat) (s : State) : Nat :=
  (20 + s.fld F.PORT_SCH_CFG_GUARD_EXTRA p) * nsUnit + (if s.fld F.PORT_CFG_FLOW_MODE p = 0 then 0 else byteTime 84 (rateOf p s))

/-- B_p of 08 R201. -/
def blockingOf (p : Nat) (s : State) : Nat := byteTime (143 + 64 * s.fld F.MM_CFG_ADD_FRAG_SIZE p) (rateOf p s)

/-- A copy goes as a preemptable frame (R47, R48). -/
def isPreemptable (p q : Nat) (s : State) : Bool := preemptActive p s && !(s.fld F.MM_CFG_EXPRESS_MASK p).testBit (q % 8)

/-- Whole byte times in a time at the port's rate. -/
def bytesIn (p time : Nat) (s : State) : Nat := time * rateOf p s / (8000 * nsUnit)

/-- Round a time up to whole ns. -/
def nsUp (t : Nat) : Nat := (t + nsUnit - 1) / nsUnit

/-- Most gate entries that one check walks: the longest interval checked is below 80 µs, an entry at least 8 ns long. -/
def gateFuel : Nat := 20000

/-- The gate of queue `n` stays open from `ts` for B_p + ε_p: what a preemptable copy needs (08 R210). -/
def preemptGate (p n ts : Nat) (s : State) : Bool :=
  gateOpenFrom p n (nsUp (ts + blockingOf p s + epsilonOf p s)) s gateFuel (ts / nsUnit)

/-- Frame bytes of a copy that no earlier fragment carried. -/
def TxCopy.left (t : TxCopy) : Nat := t.projLen - t.sent

/-- The frame bytes of the fragment in flight when it ends at the first point that R49 permits once `done` of them are out: at least
64 (1 + ADD_FRAG_SIZE) - 4, and 64 left for the last fragment; none where the frame has no such point left. -/
def cutBytes (p : Nat) (t : TxCopy) (done : Nat) (s : State) : Option Nat :=
  let c := max (64 * (1 + s.fld F.MM_CFG_ADD_FRAG_SIZE p) - 4) done
  if c + 64 ≤ t.left then some c else none

/-- When the fragment in flight ends after `c` frame bytes, with its 4 CRC bytes and the 20 bytes of overhead; and when the whole rest does. -/
def fragEnd (p : Nat) (t : TxCopy) (c : Nat) (s : State) : Nat := t.fragAt + byteTime (c + 24) (rateOf p s)
def restEnd (p : Nat) (t : TxCopy) (s : State) : Nat := t.fragAt + byteTime (t.left + 20) (rateOf p s)

/-- The preemptable frame whose projected end FREE_p is: the one on the wire (08 R199). -/
def preemptableOnWire (p : Nat) (s : State) : Option TxCopy :=
  s.dp.tx.find? (fun t => (portSt p s).freeBy == some t.copy.id && t.stage != .held && isPreemptable p t.copy.q s)

/-- Change the transmit copy with a number. -/
def mapTx (id : Nat) (g : TxCopy → TxCopy) (s : State) : State :=
  { s with dp := { s.dp with tx := s.dp.tx.map (fun t => if t.copy.id = id then g t else t) } }

/-- The frame in flight ends its fragment after `c` bytes and is held (R49, R50): the fragment counts, and the wire is free after it. -/
def holdFrame (p : Nat) (t : TxCopy) (c : Nat) (s : State) : State :=
  let s1 := mapTx t.copy.id (fun t => { t with stage := .held, frags := t.frags + 1, sent := t.sent + c }) (s.bump F.MM_TX_FRAG p)
  setPortSt p { portSt p s1 with free := fragEnd p t c s, freeBy := none } s1

/-- When the gate of queue `n` next closes from `ns` on, looking at most `fuel` entries ahead (08 R210). -/
def gateCloses (p n : Nat) (s : State) : Nat → Nat → Option Nat
  | 0, _ => none
  | fuel + 1, ns =>
    let g := portGatesAt p ns s
    if g.1.testBit n = false then some ns
    else match g.2 with
      | none => none
      | some stop => if stop ≤ ns then none else gateCloses p n s fuel stop

/-- HOLD_ISSUE (08 R210): a preemptable copy of queue `q` that would still run, `len` bytes from `ts` on, at the gate's next closing gets a hold
B_p + ε_p before it. -/
def holdIssue (p q len ts : Nat) (s : State) : State :=
  if isPreemptable p q s = false then s
  else match gateCloses p (q % 8) s 2048 (ts / nsUnit) with
    | none => s
    | some close =>
      if ts + byteTime (len + 20) (rateOf p s) ≤ close * nsUnit then s
      else { s with dp := { s.dp with holdAt := tset none s.dp.holdAt p (some (close * nsUnit - blockingOf p s - epsilonOf p s)) } }

/-- The remainder of a held frame goes on (08 R210): with no hold in force, the wire free for it and its gate open, as a preemptable copy of its
remaining length. While the port drains (R54) it goes as soon as nothing else is on the wire. -/
def resumeHeld (p : Nat) (s : State) : State :=
  match s.dp.tx.find? (fun t => t.copy.port == p && t.stage == .held) with
  | none => s
  | some t =>
    let x := s.work + offsetOf p s
    let ts := max x (portSt p s).free
    let ready := if (portSt p s).tx = .draining then !s.dp.tx.any (fun u => u.copy.port == p && u.stage == .sending)
      else s.fld F.MM_STATUS_HOLD p == 0 && decide ((portSt p s).free ≤ x + ccUnit) && preemptGate p (t.copy.q % 8) ts s
    if ready = false then s
    else
      let s1 := mapTx t.copy.id (fun t => { t with stage := if t.edited then .sending else .waiting, fragAt := ts }) s
      holdIssue p t.copy.q t.left ts (setPortSt p { portSt p s1 with free := restEnd p { t with fragAt := ts } s, freeBy := some t.copy.id } s1)

/-! ### The port-down event -/

/-- Why a port goes down (R53, R54). -/
inductive DownCause where
  | declared | admin | quarantine | dieReset
deriving DecidableEq, Repr

/-- The MAC has begun to send a copy: its start at the reference plane less the transmit latency has come (08 R199). -/
def hasBegun (t : TxCopy) (s : State) : Bool := decide (t.copy.tStart ≤ s.work + txLatency t.copy.port s * nsUnit)

/-- A copy on the egress die is lost at a port-down event (R54): not yet started; in flight when the link is declared down;
or held, unless its remaining fragments still go out. -/
def lostAtDown (cause : DownCause) (held begun : Bool) (t : TxCopy) : Bool :=
  match cause, t.stage with
  | .dieReset, _ => true
  | .declared, _ => true
  | _, .waiting => true
  | _, .held => held
  | _, .sending => !begun

/-- PORT_DOWN_EVENT (R53): the scheduler stops, LINK_FLAPS and PORT_EVENT.DOWN, the transmitter of R54, the learned
entries of R134, and the hub and the Planner are told. -/
def portDown (p : Nat) (cause : DownCause) (s : State) : State :=
  let up := s.fld F.PORT_STATUS_LINK_UP p = 1
  let s1 := if up then s.bump F.LINK_FLAPS p else s
  let s2 := portEvent p F.PORT_EVENT_DOWN F.PORT_EVENT_EN_DOWN false (s1.setFlds [(F.PORT_STATUS_LINK_UP, p, 0), (F.PORT_STATUS_HOLD_OFF, p, 0)])
  let held := s.fld F.MM_STATUS_HOLD p == 1
  let mine (t : TxCopy) : Bool := t.copy.port == p && lostAtDown cause held (hasBegun t s) t
  let lost := s2.dp.tx.filter mine
  let s3 := if cause = .dieReset then s2 else s2.addSat F.TX_DOWN_DISCARD p lost.length
  let pin : TxPin := if cause = .declared ∨ cause = .dieReset then .idle else if (portSt p s).tx = .on then .draining else .idle
  let st : PortSt := { portSt p s3 with tx := pin, downPending := true, verifySent := 0 }
  let s4 : State := setPortSt p st { s3 with dp := { s3.dp with tx := s3.dp.tx.filter (fun t => !mine t) } }
  let s5 := if s.fld F.MM_CFG_PREEMPT_EN p = 1 ∧ s.fld F.MM_CFG_VERIFY_EN p = 1 then s4.setFld F.MM_STATUS_VERIFY_STATUS p 1 else s4
  let s6 := setActive p s5
  let s7 := if s.fld F.PORT_LEARN_CFG_FLUSH_ON_DOWN p = 1 then flushPort p s6 else s6
  let s8 := resumeHeld p (lost.foldl (fun s t => settle t.copy.frame (if t.desc then freeDesc s else s)) s7)
  { s8 with pln := { s8.pln with downs := s8.pln.downs ++ [(p, decide (cause = .declared), s.cycle)] } }

/-- LINK_DOWN_DEBOUNCE_EXPIRY (R52): one of the first four conditions has been absent for DOWN_DEBOUNCE. -/
def linkDown (p : Nat) (s : State) : State :=
  if s.fld F.PORT_STATUS_LINK_UP p = 1 ∧ linkConditions p s = false then portDown p .declared s else s

/-- ADMIN_UP_WRITE (R53): a write of PORT_CFG by requester `q` with ADMIN_UP = `v`. -/
def adminUpWrite (q : Requester) (p : Nat) (v : Bool) (s : State) : State :=
  gated q (regOffset .PORT_CFG p) (fun s =>
    if p < 512 ∧ joinedLane p s = true then s
    else if v then holdOff p (s.setFld F.PORT_CFG_ADMIN_UP p 1)
    else if s.fld F.PORT_CFG_ADMIN_UP p = 1 then portDown p .admin (s.setFld F.PORT_CFG_ADMIN_UP p 0)
    else s) s

/-- TX_DRAIN_IDLE (R54): the frame in flight and the fragments are out; the transmitter goes to electrical idle. -/
def txDrainIdle (p : Nat) (s : State) : State :=
  if (portSt p s).tx = .draining ∧ s.dp.tx.any (fun t => t.copy.port == p) = false then setPortSt p { portSt p s with tx := .idle } s else s

/-- FLUSH_ON_DOWN and the flush of R193: PORT_FLUSH_START. The hub receives the port-down event: the port's copies are released
and counted, its held copies refused, its pause and XOFF states cleared, its averages reset. -/
def flushStart (p : Nat) (s : State) : State :=
  if (portSt p s).downPending = false then s
  else
    let s1 := setPortSt p { portSt p s with downPending := false, hubUp := false } (s.setFld F.PORT_STATUS_FLUSHING p 1)
    let s2 := (s1.dp.copies.filter (fun c => c.port == p)).foldl (fun s c => discardCopy c (s.bump F.FLUSHED c.q)) s1
    let s3 := refuseHeld (fun c => c.port == p) false s2
    (List.range 8).foldl (fun s n =>
      let s' := s.setFlds [(F.PFC_STATUS_XOFF, 8 * p + n, 0), (F.Q_AVG, 8 * p + n, 0)]
      { s' with dp := { s'.dp with pause := tset 0 s'.dp.pause (8 * p + n) 0 } }) s3

/-- PORT_FLUSH_COMPLETE (R193). -/
def flushComplete (p : Nat) (s : State) : State := s.setFld F.PORT_STATUS_FLUSHING p 0

/-! ### MAC control -/

/-- Count an accepted frame of `l` octets (Table 2.11). -/
def countRx (p l : Nat) (s : State) : State := (s.addWrap F.RX_OCTETS p l).addWrap F.RX_FRAMES p 1

/-- Pause queue `n` of a port for some quanta; 0 ends the pause (R45). -/
def setPause (p n quanta : Nat) (s : State) : State := { s with dp := { s.dp with pause := tset 0 s.dp.pause (8 * p + n) quanta } }

/-- PAUSE_FRAME_RECEIVED (R44, R45): a PAUSE frame of `l` octets. -/
def pauseReceived (p l quanta : Nat) (s : State) : State :=
  if s.fld F.PORT_STATUS_LINK_UP p = 0 then s
  else
    let s1 := (countRx p l s).bump F.RX_PAUSE p
    if s.fld F.PORT_CFG_FLOW_MODE p = 1 then (List.range 8).foldl (fun s n => setPause p n (quanta % 65536) s) s1 else s1

/-- PFC_FRAME_RECEIVED (R44, R45): a PFC frame with its priority enables and the quanta of each priority. -/
def pfcReceived (p l enables : Nat) (quanta : List Nat) (s : State) : State :=
  if s.fld F.PORT_STATUS_LINK_UP p = 0 then s
  else
    let s1 := (countRx p l s).bump F.RX_PAUSE p
    (List.range 8).foldl (fun s1 n =>
      if enables.testBit n then
        let s2 := s1.bump F.RX_PFC (8 * p + n)
        if s.fld F.PORT_CFG_FLOW_MODE p = 2 then setPause p n (quanta.getD n 0 % 65536) s2 else s2
      else s1) s1

/-- MAC_CONTROL_OTHER (R44). -/
def controlOther (p l : Nat) (s : State) : State :=
  if s.fld F.PORT_STATUS_LINK_UP p = 0 then s else (countRx p l s).bump F.RX_CTRL_OTHER p

/-- A MAC control frame that arrives whole: its opcode decides (R44). -/
def macControl (p : Nat) (bs : List Byte) (s : State) : State :=
  match be16 bs 14 with
  | 0x0001 => pauseReceived p bs.length (be16 bs 16) s
  | 0x0101 => pfcReceived p bs.length (be16 bs 16 % 256) ((List.range 8).map (fun n => be16 bs (18 + 2 * n))) s
  | _ => controlOther p bs.length s

/-- PAUSE_EXPIRY (R45): the pause of queue `n` runs out. -/
def pauseExpiry (p n : Nat) (s : State) : State := setPause p n 0 s

/-- A MAC control frame takes the wire at time `x` for the time `whole` (R46): at the next frame boundary, or at the next preemption point of a
preemptable frame in flight, which goes on after it. -/
def controlAt (p x whole : Nat) (s : State) : State :=
  let st := portSt p s
  match preemptableOnWire p s with
  | none => setPortSt p { st with free := max st.free x + whole } s
  | some t =>
    match (if x ≤ t.fragAt then none else cutBytes p t (bytesIn p (x - t.fragAt) s) s) with
    | none => setPortSt p { st with free := max st.free x + whole } s
    | some c =>
      let t1 := { t with frags := t.frags + 1, sent := t.sent + c, fragAt := fragEnd p t c s + whole }
      setPortSt p { st with free := restEnd p t1 s } (mapTx t.copy.id (fun _ => t1) (s.bump F.MM_TX_FRAG p))

/-- A MAC control frame of 64 bytes, with its overhead, takes the wire (R46). -/
def controlOnWire (p : Nat) (s : State) : State := controlAt p (s.work + txLatency p s * nsUnit) (byteTime 84 (rateOf p s)) s

/-- PFC_FRAME_TRANSMIT (R46): the MAC sends the oldest control frame that admission asked for. -/
def pfcTransmit (p : Nat) (s : State) : State :=
  match (portSt p s).ctrl with
  | [] => s
  | (mask, _) :: rest =>
    if (portSt p s).tx = .idle then s
    else
      let s1 := controlOnWire p (setPortSt p { portSt p s with ctrl := rest } s)
      let s2 := ((s1.bump F.TX_PAUSE p).addWrap F.TX_OCTETS p 64).addWrap F.TX_FRAMES p 1
      if s.fld F.PORT_CFG_FLOW_MODE p = 2 then
        (List.range 8).foldl (fun s n => if mask.testBit n then s.bump F.TX_PFC (8 * p + n) else s) s2
      else s2

/-- PFC_REFRESH_EXPIRY (07 R188): while XOFF of pair 8p + n stays set, the frame is asked for again. -/
def pfcRefresh (p n : Nat) (s : State) : State :=
  if s.fld F.PFC_STATUS_XOFF (8 * p + n) = 0 then s
  else match s.fld F.PORT_CFG_FLOW_MODE p with
    | 1 => if n = 0 then ctrlRequest p 0xFF (s.fld F.PORT_PFC_TIMING_QUANTA p) s else s
    | 2 => ctrlRequest p (2 ^ n) (s.fld F.PORT_PFC_TIMING_QUANTA p) s
    | _ => s

/-! ### Received frames -/

/-- RX_FRAME_START (01 R30): a frame's first bit crosses the receive plane; the ingress MAC milestone has 0.25 ns steps. A port
whose link is down accepts none (R58). `frags`: received as preemptable fragments (R47). -/
def rxStart (f p : Nat) (frags : Bool) (s : State) : State :=
  if s.runs = false ∨ 512 ≤ p ∨ s.fld F.PORT_STATUS_LINK_UP p = 0 ∨ (frameAt f s).isSome = true ∨ (frags = true ∧ s.fld F.MM_CFG_PREEMPT_EN p = 0) then s
  else setFrame f { port := p, fragments := frags, tIn := followerTime (dieOf p) s / 2 ^ 30 * 2 ^ 30 } s

/-- What the checks of Table 2.2 find, in the order of R43. -/
inductive RxCheck where
  | good | runt | oversize | code | fcs
deriving DecidableEq, Repr

/-- The check of a frame with these bytes; `codeErr`: a code violation, or the link was lost, inside it. -/
def rxCheck (p : Nat) (bs : List Byte) (codeErr : Bool) (s : State) : RxCheck :=
  let l := bs.length
  if l < 64 then .runt
  else if s.fld F.PORT_CFG_MAX_FRAME p < l then .oversize
  else if codeErr then .code
  else if slice bs (l - 4) 4 = fcsOf (bs.take (l - 4)) then .good
  else .fcs

/-- The counter of a failed check. -/
def countCheck (p : Nat) (c : RxCheck) (s : State) : State :=
  match c with
  | .good => s
  | .runt => s.bump F.RX_RUNT p
  | .oversize => s.bump F.RX_OVERSIZE p
  | .code => s.bump F.RX_CODE_ERR p
  | .fcs => s.bump F.RX_FCS_ERR p

/-- PTP_FRAME_RECEIVED (09 R250): the frame is consumed; its copy is enqueued in queue 7 of port 513, at most 8 per port and epoch. -/
def ptpReceive (f : Nat) (bs : List Byte) (s : State) : State :=
  match frameAt f s with
  | none => s
  | some fr =>
    let p := fr.port
    let s1 := countRx p bs.length s
    let n := tget 0 s1.dp.ptpCount p
    if 8 ≤ n then dropFrame f (s1.bump F.PTP_RX_DROP p)
    else
      let s2 : State := { s1 with dp := { s1.dp with ptpCount := tset 0 s1.dp.ptpCount p (n + 1) } }
      let cls : Cls := { vid := s.fld F.PORT_PVID p, cls := 7, queue := 7 }
      let fr1 : Frame := { fr with bytes := bs, len := some bs.length, stage := .buffered, cls := cls, lastCell := true }
      let s3 := firstCell f (setFrame f fr1 s2)
      let fr2 := (frameAt f s3).getD fr1
      let c : Copy := { baseCopy f fr2 with port := 513, q := queueOf 513 7, trap := 0x60, learn := false }
      let nc := numberCopies [c] s3
      let s4 := (admitAll false false (nc.2.map (fun c => finishCopy fr2 fr2.tIn c nc.1)) nc.1).1
      frameEligible f (settle f s4)

/-- The bytes of a frame whose tail is in: a frame that a retrain cut keeps those that had crossed (07 R171). -/
def Frame.whole (fr : Frame) (bs : List Byte) : List Byte := if fr.ended then fr.bytes else bs

/-- A good frame's tail: the counters, the rest of its flits, the learn of R128 and the sketch of 11 R294. -/
def rxGood (f : Nat) (fr : Frame) (bs : List Byte) (s : State) : State :=
  let s1 := countRx fr.port bs.length s
  let s2 := match fr.sketch with | some (x, k) => sketchAdd x k bs.length s1 | none => s1
  let x := handRest f { fr with bytes := fr.whole bs, len := some (fr.whole bs).length, sketch := none, learn := none } s2
  let s3 := setFrame f x.2 x.1
  let s4 := match fr.learn with | some r => learnCommit (dieOf fr.port) r s3 | none => s3
  if fr.stage = .dropped then dropFrame f s4 else s4

/-- A frame whose start flit has been handed over ends bad (07 R180): its last flit has AUX 31. -/
def endBad (f : Nat) (fr : Frame) (s : State) : State :=
  let x := handRest f { fr with bad := true } s
  badTail f true (setFrame f { x.2 with bad := false } x.1)

/-- A failed frame's tail: discarded by the MAC before its pipeline pass, else a bad tail (Table 2.2, 07 R180). -/
def rxBad (f : Nat) (fr : Frame) (bs : List Byte) (c : RxCheck) (s : State) : State :=
  let s1 := countCheck fr.port c s
  if fr.stage = .receiving ∨ fr.stage = .dropped then dropFrame f s1
  else
    let bs' := bs.take (s.fld F.PORT_CFG_MAX_FRAME fr.port + 1)
    let s2 := match fr.sketch with | some (x, k) => sketchAdd x k bs'.length s1 | none => s1
    endBad f { fr with bytes := fr.whole bs', len := some (fr.whole bs').length, sketch := none, learn := none } s2

/-- RX_FRAME_END (R43): the tail of a frame is in; `bs` are its bytes, FCS included, more than 192 where the pipeline has taken it in before; `corr` and `uncorr` count the FEC codewords
corrected and not correctable meanwhile. -/
def rxEnd (f : Nat) (bs : List Byte) (codeErr : Bool) (corr uncorr : Nat) (s : State) : State :=
  match frameAt f s with
  | none => s
  | some fr =>
    if 512 ≤ fr.port ∨ fr.len.isSome = true ∨ (fr.stage ≠ .receiving ∧ bs.length ≤ 192) then s
    else
      let s0 := (s.addSat F.FEC_CORRECTED fr.port corr).addSat F.FEC_UNCORRECTABLE fr.port uncorr
      match rxCheck fr.port bs codeErr s with
      | .good =>
        if isMacControl bs then macControl fr.port bs (dropFrame f s0)
        else if isPtp fr.port bs s then ptpReceive f bs s0
        else rxGood f fr bs s0
      | c => rxBad f fr bs c s0

/-- PTP_FRAME_RECEIVED: an untagged gPTP frame that is good ends (R250). -/
def ptpReceived (f : Nat) (bs : List Byte) (s : State) : State :=
  match frameAt f s with
  | none => s
  | some fr =>
    if fr.len.isSome = true ∨ rxCheck fr.port bs false s ≠ .good ∨ isPtp fr.port bs s = false then s else ptpReceive f bs s

/-- MM_FRAGMENT_RECEIVED (R47): a fragment of frame `f` is received and reassembled, or the frame is discarded. -/
def fragmentReceived (f : Nat) (bs : List Byte) (res : FragRes) (s : State) : State :=
  match frameAt f s with
  | none => s
  | some fr =>
    if fr.fragments = false ∨ fr.len.isSome = true then s
    else
      let s1 := s.bump F.MM_RX_FRAG fr.port
      let lose (s : State) : State := if fr.stage = .receiving ∨ fr.stage = .dropped then dropFrame f s
        else endBad f { fr with len := some fr.bytes.length } s
      match res with
      | .ok => if fr.stage = .receiving then setFrame f { fr with bytes := fr.bytes ++ bs } s1 else s1
      | .assemblyErr => lose (s1.bump F.MM_ASSEMBLY_ERR fr.port)
      | .smdErr => lose (s1.bump F.MM_SMD_ERR fr.port)

/-- Every charge of a frame of `l` bytes falls to its true value (07 R181). -/
def trueCharges (f l : Nat) (fr : Frame) (s : State) : State :=
  let c := cellsOf l
  let i := 8 * fr.port + fr.cls.cls
  let gap := fr.charge - c
  let s1 := (s.lower F.FREE_CELLS 0 (c - fr.cells))
  let s2 := if fr.headroom then s1.lower F.PFC_HDRM_USED i gap else if fr.transit then s1.lower F.TRANSIT_USED 0 gap else s1
  let s3 := if fr.port < 512 then pfcUpdate fr.port fr.cls.cls (s2.lower F.PFC_STATUS_ING_CELLS i gap) else s2
  let s4 := (s3.dp.copies.filter (fun x => x.frame == f)).foldl (fun s x =>
    let g := x.charge - c
    if x.headroom then s.lower F.Q_HDRM_CELLS x.q g else setQCells x.q (s.fld F.Q_CELLS x.q - g) s) s3
  let fix (x : Copy) : Copy := if x.frame = f then { x with charge := min x.charge c } else x
  { s4 with dp := { s4.dp with copies := s4.dp.copies.map fix, held := s4.dp.held.map fix } }

/-- The checks that wait for the length of a frame (08 R224, R227, R217). -/
def lengthChecks (f l : Nat) (fr : Frame) (s : State) : State :=
  let x := policyCtx fr.cls.handle
  let sdu := scFld 0 x 0 29 16 s
  let late := fr.provisional && fr.stage = .buffered && !fr.refused && sdu != 0 && decide (sdu < l)
  let s1 := if fr.provisional = true ∧ fr.stage = .buffered then countTruncated f l s else s
  let s2 := creditTx f s1
  if late then badTail f false (sduDrop x s2) else s2

/-- LAST_CELL_WRITTEN (07 R181), once every flit of the frame has crossed: every charge of the frame falls to its true value; the late checks of
08 R227, R217 follow; copies that are being cut through get their last flits. -/
def lastCell (f : Nat) (s : State) : State :=
  match frameAt f s with
  | none => s
  | some fr0 =>
    if fr0.len = none ∨ fr0.lastCell = true ∨ fr0.cells = 0 then s
    else
      let s0 := bodyUp f s
      match frameAt f s0 with
      | none => s0
      | some fr =>
        if waitsUp f false s0 then s0
        else
          let l := fr.len.getD 0
          let c := cellsOf l
          let fr1 : Frame := { fr with charge := min fr.charge c, provisional := false, cells := max c fr.cells, lastCell := true, metered := none }
          settle f (handDownRest f fr1 (lengthChecks f l fr (setFrame f fr1 (meterCredit fr l (trueCharges f l fr s0)))))

/-! ### Preemption -/

/-- VERIFY_TIMER_EXPIRY (R48): a verify frame goes out, or VERIFY_LIMIT of them have gone unanswered. -/
def verifyTimer (p : Nat) (s : State) : State :=
  if s.fld F.PORT_STATUS_LINK_UP p = 0 ∨ s.fld F.MM_STATUS_VERIFY_STATUS p ≠ 2 then s
  else if s.fld F.MM_CFG_VERIFY_LIMIT p ≤ (portSt p s).verifySent then
    portEvent p F.PORT_EVENT_VERIFY_FAIL F.PORT_EVENT_EN_VERIFY_FAIL true (s.setFld F.MM_STATUS_VERIFY_STATUS p 4)
  else setPortSt p { portSt p s with verifySent := (portSt p s).verifySent + 1 } s

/-- RESPOND_FRAME_RECEIVED (R48). -/
def respondReceived (p : Nat) (s : State) : State :=
  if s.fld F.MM_STATUS_VERIFY_STATUS p = 2 then setActive p (s.setFld F.MM_STATUS_VERIFY_STATUS p 3) else s

/-- A hold comes into force at the present instant: the preemptable frame on the wire is preempted at the next point that R49 permits, one whose
transmission has not begun is held whole, and one past its last point goes out. -/
def holdNow (p : Nat) (s : State) : State :=
  let s1 := (s.setFlds [(F.MM_STATUS_HOLD, p, 1), (F.GCL_STATUS_HOLD, p, 1)]).bump F.MM_HOLD p
  let s2 : State := { s1 with dp := { s1.dp with holdAt := tset none s1.dp.holdAt p none } }
  let x := s.work + txLatency p s * nsUnit
  match preemptableOnWire p s2 with
  | none => s2
  | some t =>
    if x ≤ t.fragAt then
      mapTx t.copy.id (fun t => { t with stage := .held }) (setPortSt p { portSt p s2 with free := x, freeBy := none } s2)
    else match cutBytes p t (bytesIn p (x - t.fragAt) s) s with
      | some c => holdFrame p t c s2
      | none => s2

/-- HOLD_TAKE_EFFECT (08 R210, R211, R50): the hold that was sent to the port, or the hold of a Set-And-Hold entry that begins within
B_p + ε_p. -/
def holdTake (p : Nat) (s : State) : State :=
  let now := s.work / nsUnit
  let due := (tget none s.dp.holdAt p).isSome ||
    (preemptActive p s && holdAhead p (nsUp (s.work + blockingOf p s + epsilonOf p s)) s 1024 now)
  if due = false then s
  else if s.fld F.MM_STATUS_HOLD p = 1 then { s with dp := { s.dp with holdAt := tset none s.dp.holdAt p none } }
  else holdNow p s

/-- HOLD_RELEASE (08 R211): the hold ends, and the remainder of a held frame may be sent. -/
def holdRelease (p : Nat) (s : State) : State := resumeHeld p (s.setFlds [(F.MM_STATUS_HOLD, p, 0), (F.GCL_STATUS_HOLD, p, 0)])

/-! ### SerDes -/

/-- SD_TX_EQ_WRITE (R56): discarded whole when the taps break R56. -/
def sdTxEqWrite (q : Requester) (p : Nat) (w : Word) (s : State) : State :=
  gated q (regOffset .SD_TX_EQ p) (fun s =>
    let v := w.toNat
    let pre := bitsOf v 0 4
    let main := bitsOf v 4 6
    let post := bitsOf v 10 5
    if 63 < pre + main + post ∨ main < pre + post then s
    else s.setFlds [(F.SD_TX_EQ_PRE, p, pre), (F.SD_TX_EQ_MAIN, p, main), (F.SD_TX_EQ_POST, p, post),
      (F.SD_TX_EQ_TX_POL_INV, p, bitsOf v 16 1), (F.SD_TX_EQ_RX_POL_INV, p, bitsOf v 17 1)]) s

/-- The SerDes reference of quads of die `d`, lanes 16 r to 16 r + 15, is lost or back (20 R497): LOCAL_FAULT of the ports follows. -/
def quadPll (d r : Nat) (lost : Bool) (s : State) : State :=
  (List.range 16).foldl (fun s i =>
    let p := d * 128 + 16 * r + i
    let s1 := setPortSt p { portSt p s with pllLost := lost } s
    if p < 512 then setFaults p (localFault p s1) (s.fld F.PORT_STATUS_REMOTE_FAULT p == 1) s1 else s) s

end Sys2Proof.Machine
end

