-- ==== Sys2Proof/Machine/Sched.lean ====
section
/-! DEFINITION. The egress scheduler: heads, candidates, selection, late copies, recovery and sequence numbers, dequeue
(08_egress_scheduling.md R196 to R232), and the receive slots of ports 512 and 513 (18 R454, 12 R328). -/

namespace Sys2Proof.Machine

/-! ### Heads -/

/-- The queues of a port (R196). -/
def queuesOf (p : Nat) : List Nat :=
  if p < 512 then (List.range 8).map (fun n => 8 * p + n)
  else if p = 512 then (List.range 16).map (fun n => 4096 + n) else (List.range 8).map (fun n => 4112 + n)

/-- The copy with the least slot, the first in filing order among equals (R213). -/
def earliest : List Copy → Option Copy
  | [] => none
  | c :: cs => match earliest cs with
    | none => some c
    | some d => if d.slot.getD 0 < c.slot.getD 0 then some d else some c

/-- The head of a queue (R197, R213). -/
def headOf (q : Nat) (s : State) : Option Copy :=
  let mine := s.dp.copies.filter (fun c => c.q == q)
  if s.fld F.Q_SCH_CFG_ALG q = 2 then
    match s.dp.overdue.findSome? (fun i => mine.find? (fun c => c.id == i)) with
    | some c => some c
    | none => earliest mine
  else mine.head?

/-! ### Conditions of Table 8.1 -/

/-- FREE_p for a copy (R199): for an express copy while a preemptable frame is on the wire, the end of that frame's fragment at the next point
that R49 permits (R210), or of the whole frame where it has none left. -/
def freeFor (p : Nat) (c : Copy) (s : State) : Nat :=
  match (if isPreemptable p c.q s then none else preemptableOnWire p s) with
  | none => (portSt p s).free
  | some t =>
    match cutBytes p t (bytesIn p (s.work + offsetOf p s - t.fragAt) s - 24) s with
    | some n => fragEnd p t n s
    | none => restEnd p t s

/-- The projected start t_s of a copy. -/
def projectedStart (p : Nat) (c : Copy) (s : State) : Nat := max (s.work + offsetOf p s) (freeFor p c s)

/-- Condition 6: the gate stays open as long as the copy needs (R200, R210). -/
def gateHolds (p : Nat) (c : Copy) (s : State) : Bool :=
  let ts := projectedStart p c s
  if isPreemptable p c.q s then preemptGate p (c.q % 8) ts s
  else gateOpenFrom p (c.q % 8) (nsUp (ts + byteTime (copyLen c s + 20) (rateOf p s) + epsilonOf p s)) s gateFuel (ts / nsUnit)

/-- The shapers of a copy (condition 7). -/
def shapersOpen (p : Nat) (c : Copy) (s : State) : Bool :=
  shaperOpen (s.fld F.Q_SHAPER c.q) s && shaperOpen (s.fld F.PORT_SCH_CFG_PORT_SHAPER p) s

/-- The frame of a copy has a stream budget (R212, R215). -/
def streamBudget (c : Copy) (s : State) : Option Nat :=
  (frameAt c.frame s).bind (fun fr => if fr.cls.handle ≠ 0xFFFF ∧ scWord 0 fr.cls.handle 2 s ≠ 0 then some fr.cls.handle else none)

/-- The late action of a copy: the stream's where the frame has a stream budget, else the queue's (R215). -/
def lateAction (c : Copy) (s : State) : Nat :=
  match streamBudget c s with
  | some h => scFld 0 h 3 31 30 s
  | none => if (frameAt c.frame s).isNone then 0 else s.fld F.Q_DL_CFG_LATE_ACTION c.q

/-- TOL of a copy in ns: the stream's, or the queue's where the frame has no stream budget (R215). -/
def toleranceOf (c : Copy) (s : State) : Nat :=
  match streamBudget c s with
  | some h => scFld 0 h 3 19 0 s
  | none => s.fld F.Q_DL_CFG_TOL c.q

/-- A head is late: t + OFFSET_p > D + TOL (R215). -/
def isLate (c : Copy) (s : State) : Bool :=
  match c.deadline with
  | none => false
  | some d => decide (d + (toleranceOf c s * nsUnit : Nat) < ((s.work + offsetOf c.port s : Nat) : Int))

/-- The context whose counters a copy's frame updates (11 R293). -/
def counterCtx (c : Copy) (s : State) : Nat :=
  match frameAt c.frame s with
  | none => 65535
  | some fr => policyCtx fr.cls.handle

/-- The receive ring of port 513 holds a free record (12 R328). -/
def ring513Free (s : State) : Bool := (s.fld F.RX513_HEAD 0 + 1) % 4096 != s.fld F.RX513_TAIL 0

/-- The head copy of a queue is a candidate: Table 8.1 for an Ethernet port, R203 for ports 512 and 513. -/
def isCandidate (p : Nat) (c : Copy) (s : State) : Bool :=
  if p < 512 then
    c.eligible && s.fld F.PORT_STATUS_LINK_UP p == 1 && s.fld F.PORT_STATUS_FLUSHING p == 0 && s.dieUp (dieOf p) &&
    tget 0 s.dp.pause c.q == 0 &&
    decide (freeFor p c s ≤ s.work + offsetOf p s + ccUnit) &&
    (!isPreemptable p c.q s ||
      (s.fld F.MM_STATUS_HOLD p == 0 && !s.dp.tx.any (fun t => t.copy.port == p && (t.stage == .held || decide (0 < t.frags))))) &&
    gateHolds p c s && shapersOpen p c s && !(isLate c s && lateAction c s == 1)
  else c.eligible && shapersOpen p c s && (if p = 512 then decide (s.dp.hostRx.length < 64) else ring513Free s)

/-- The charge of a copy (R198). -/
def copyCharge (p : Nat) (c : Copy) (s : State) : Nat := withOverhead p (copyLen c s) s

/-- The candidate copy of a queue, if its head is one. -/
def candidateOf (p q : Nat) (s : State) : Option Copy :=
  match headOf q s with
  | some c => if isCandidate p c s then some c else none
  | none => none

/-! ### Selection -/

/-- The members of a port's DWRR group, as queue numbers n. -/
def dwrrMembers (p : Nat) (s : State) : List Nat := (queuesOf p).filter (fun q => s.fld F.Q_SCH_CFG_ALG q == 1)

def deficitOf (q : Nat) (s : State) : Nat := tget 0 s.dp.deficit q

def setDeficit (q v : Nat) (s : State) : State := { s with dp := { s.dp with deficit := tset 0 s.dp.deficit q v } }

/-- DWRR_TURN (R198). -/
def dwrrSelect (p : Nat) (s : State) : State × Option Copy :=
  let base := (queuesOf p).headD 0
  let ptr := base + tget 0 s.dp.dwrrPtr p
  let ms := dwrrMembers p s
  let stay : Option Copy := if ms.contains ptr then (candidateOf p ptr s).filter (fun c => decide (copyCharge p c s ≤ deficitOf ptr s)) else none
  match stay with
  | some c => (setDeficit ptr (deficitOf ptr s - copyCharge p c s) s, some c)
  | none =>
    let s1 := if (headOf ptr s).isNone then setDeficit ptr 0 s else s
    let order := ms.filter (fun q => decide (ptr < q)) ++ ms.filter (fun q => decide (q ≤ ptr))
    match order.findSome? (fun q => (candidateOf p q s1).map (fun c => (q, c))) with
    | none => (s1, none)
    | some (q, c) =>
      let s2 : State := { s1 with dp := { s1.dp with dwrrPtr := tset 0 s1.dp.dwrrPtr p (q - base) } }
      (setDeficit q (deficitOf q s1 + s.fld F.Q_SCH_CFG_QUANTUM q - copyCharge p c s1) s2, some c)

/-- The highest-ranked candidate: a higher queue above a lower one, the DWRR group at its highest member (R197). -/
def selectFrom (p : Nat) : List Nat → Bool → State → State × Option Copy
  | [], _, s => (s, none)
  | q :: qs, done, s =>
    if s.fld F.Q_SCH_CFG_ALG q = 1 then
      if done then selectFrom p qs done s
      else match dwrrSelect p s with
        | (s', some c) => (s', some c)
        | (s', none) => selectFrom p qs true s'
    else match candidateOf p q s with
      | some c => (s, some c)
      | none => selectFrom p qs done s

/-! ### Late copies -/

/-- LATE_CHECK (R215) of one queue: at most one late copy is acted on. -/
def lateCheck (q : Nat) (s : State) : State :=
  match headOf q s with
  | none => s
  | some c =>
    if isLate c s = false then s
    else
      let s1 := if s.dp.lateRaised then s else raiseSrc 135 { s with dp := { s.dp with lateRaised := true } }
      match lateAction c s with
      | 1 => discardCopy c (scBump 4 (counterCtx c s) 7 1 (s1.bump F.Q_LATE_DISCARD q))
      | 2 => { s1 with dp := { s1.dp with copies := s1.dp.copies.map (fun x => if x.id = c.id then { x with late := true } else x) } }
      | _ => s1

/-! ### Recovery and sequence numbers -/

/-- The zero bits among the top `n` bits of a history of `len` bits. -/
def zerosTop (h len n : Nat) : Nat := ((List.range n).filter (fun k => !h.testBit (len - 1 - k))).length

/-- SEQUENCE_RECOVERY (R221) of stream `x` for a received number: the state, and whether the frame passes. -/
def recover (x : Nat) (seq : Option Nat) (s : State) : State × Bool :=
  let r0 := tget ({} : RecSt) s.dp.recov x
  let now := s.cycle
  let r := if 3000 * scFld 0 x 4 15 0 s < now - r0.lastPass then { r0 with resetPending := true } else r0
  let len := scFld 0 x 4 28 22 s
  let put (v : RecSt) (s : State) : State := { s with dp := { s.dp with recov := tset {} s.dp.recov x v } }
  let pass (v : RecSt) (s : State) : State × Bool := (put { v with lastPass := now, ledPassed := v.ledPassed + 1 } (scBump 5 x 1 1 s), true)
  let fail (v : RecSt) (w : Nat) (s : State) : State × Bool := (put { v with ledDiscarded := v.ledDiscarded + 1 } (scBump 5 x w 1 s), false)
  match seq with
  | none => if scFld 0 x 4 29 29 s = 1 then pass r s else fail r 2 s
  | some n =>
    if r.resetPending then
      pass { r with history := 1, resetPending := false } (scBump 5 x 6 1 (scSetFld 0 x 6 31 16 n s))
    else
      let last := scFld 0 x 6 31 16 s
      let up := (n + 65536 - last) % 65536
      if up < 32768 ∧ 0 < up then
        if len ≤ up then fail r 3 s
        else
          let lost := zerosTop r.history len (min up len)
          let s1 := scSetFld 0 x 6 31 16 n (scBump 5 x 5 lost s)
          pass { r with history := (r.history * 2 ^ up + 1) % 2 ^ len } (if 1 < up then scBump 5 x 4 1 s1 else s1)
      else
        let back := (65536 - up) % 65536
        if len ≤ back then fail r 3 s
        else if r.history.testBit back then fail r 2 s
        else pass { r with history := r.history + 2 ^ back } (scBump 5 x 4 1 s)

/-- A frame's first dequeue: recovery, then sequence generation (R220, R222); the answer says whether the copy goes on.
A mirror copy takes no part (06 R162): it, and the copy of a frame without a stream, carries the number that was received. -/
def firstDequeue (c : Copy) (s : State) : State × Bool :=
  match frameAt c.frame s with
  | none => (s, true)
  | some fr =>
    if c.mirror.isSome ∨ fr.cls.handle = 0xFFFF then (s, true)   -- the copy's own number stands
    else
      let x := fr.cls.handle
      match fr.recovery with
      | some v => (s, v)
      | none =>
        let r := if scFld 0 x 4 30 30 s = 1 then recover x fr.cls.seq s else (s, true)
        if r.2 = false then (setFrame c.frame { fr with recovery := some false } r.1, false)
        else if scFld 0 x 4 31 31 s = 1 then
          let g := scFld 0 x 6 15 0 r.1
          (setFrame c.frame { fr with recovery := some true, seqOut := some g } (scSetFld 0 x 6 15 0 (g + 1) r.1), true)
        else (setFrame c.frame { fr with recovery := some true, seqOut := fr.cls.seq } r.1, true)

/-- Every copy of a frame but its mirror copies goes: the frame was eliminated (R222). -/
def eliminate (f : Nat) (s : State) : State :=
  let gone (c : Copy) : Bool := c.frame == f && c.mirror.isNone
  let s1 := (s.dp.copies.filter gone).foldl (fun s c => freeDesc (unqueue c s)) s
  settle f (heldCount { s1 with dp := { s1.dp with held := s1.dp.held.filter (fun c => !gone c) } })

/-! ### Observation -/

/-- The bucket of a delay (R231), `x` in units of 2^HIST_UNIT ns. -/
def histBucket (x : Nat) : Nat :=
  if x < 16 then 0 else if 240 ≤ x then 63
  else
    let e := Nat.log2 x
    1 + 16 * (e - 4) + (x / 2 ^ (e - 4) - 16)

/-- Record the delay d of a copy at its dequeue (R231, R232); a negative d falls in bucket 0 (09 R246). Which whole number
Q_DELAY_HWM and MAX_LATENCY hold of a d that is none is free. -/
def recordDelay (c : Copy) (tIn ts ctx : Nat) (s : State) : State :=
  let d := (ts - tIn) / nsUnit
  let whole := if (ts - tIn) % nsUnit ≠ 0 ∧ Config.nsRound (ts - tIn) = true then d + 1 else d
  let s1 := s.bump F.HIST (c.q * 64 + histBucket (d / 2 ^ s.fld F.Q_SCH_CFG_HIST_UNIT c.q))
  let s2 := s1.setFld F.Q_DELAY_HWM c.q (max (s.fld F.Q_DELAY_HWM c.q) (min whole 0xFFFFFFFF))
  scSet 6 ctx 0 (max (scWord 6 ctx 0 s) (min whole 0xFFFFFFFF)) s2

/-! ### Bytes of copies -/

/-- The trailer of a mirror copy (06 Table 6.6). -/
def trailerOf (m port : Nat) (dir bad : Bool) (fr : Frame) : List Byte :=
  toBe 2 0x4D54 ++ toBe 2 (fr.len.getD 0) ++ toBe 2 (m * 8192 + port % 1024) ++
  toBe 1 ((if dir then 128 else 0) + (if bad then 64 else 0) + fr.cls.cls * 8) ++ toBe 1 0 ++ toBe 4 (fr.tIn / nsUnit % 2 ^ 32)

/-- The bytes of a frame that a copy takes, without FCS and trailer: all of them, or as truncated (06 R161). -/
def cutBody (c : Copy) (body : List Byte) (s : State) : List Byte :=
  match c.mirror with
  | none => body
  | some (m, _, _) => if s.fld F.MIRROR_CFG_TRUNC m = 0 then body else body.take (64 * s.fld F.MIRROR_CFG_TRUNC m)

/-- The body of a copy before its FCS and before any edit, with the trailer of a mirror copy (06 R161); `bad`: it will leave stomped. -/
def copyBody (c : Copy) (fr : Frame) (bad : Bool) (s : State) : List Byte :=
  let body := cutBody c (fr.bytes.take (fr.bytes.length - 4)) s
  match c.mirror with
  | none => body
  | some (m, port, dir) => body ++ (if s.fld F.MIRROR_CFG_TRAILER_EN m = 1 then trailerOf m port dir bad fr else [])

/-- The bytes of a copy to port 512 or 513, with its FCS (06 R157, R161). -/
def hostBytes (c : Copy) (fr : Frame) (s : State) : List Byte :=
  match c.mirror with
  | none => fr.bytes
  | some _ => (fun b : List Byte => b ++ (if fr.bad then stompOf b else fcsOf b)) (copyBody c fr fr.bad s)

/-! ### Ports 512 and 513 -/

/-- The register form of a time (09 Table 9.1), as 12 bytes. -/
def timeBytes (t : Nat) : List Byte := toLe 4 (timeNsWord t) ++ toLe 4 (timeSec t % 2 ^ 32) ++ toLe 4 (timeSec t / 2 ^ 32)

/-- PORT513_RECEIVE (12 R328): the frame, the record of Table 12.10, then RX513_HEAD; the owner sees RX513. A Sync of the working domain
reaches the servo (09 R249). -/
def receive513 (c : Copy) (fr : Frame) (bs : List Byte) (s : State) : State :=
  let h := s.fld F.RX513_HEAD 0
  let rec0 := toLe 2 bs.length ++ toLe 1 c.trap ++ toLe 1 (0x80 + (c.q - 4112) % 8) ++ toLe 2 (fr.port % 1024) ++ toLe 2 fr.cls.handle ++
    timeBytes fr.tIn ++ toLe 1 (c.colour * 8 + c.cls) ++ List.replicate 3 0 ++ toLe 2 fr.cls.vid ++ List.replicate 6 0
  let s1 := hbmWrite (32 * h) rec0 (hbmWrite (0x100000 + 12288 * h) bs s)
  let s2 := raiseEvent (s.fld F.PORT513_CFG_RX_OWNER 0) 4 (s1.setFld F.RX513_HEAD 0 ((h + 1) % 4096))
  if c.trap = 0x60 ∧ isWorkSync bs s = true then servoUpdate s2 else s2

/-- The ring of a host queue, in the numbering of the ring registers: PF0 receive ring r is r, PF1 receive ring r is 137 + r (18 R453). -/
def ringOfHq (h : Nat) (s : State) : Nat :=
  if s.fld F.HQ_MAP_FUNC h = 0 then s.fld F.HQ_MAP_RING h else 137 + s.fld F.HQ_MAP_RING h % 8

/-- The function of a ring is in D0 with Bus Master Enable (18 R454). -/
def ringFuncUp (r : Nat) (s : State) : Bool :=
  if r < 137 then s.fld F.FUNC_STATUS_PF0_D 0 == 0 && (s.fld F.FUNC_STATUS_BME 0).testBit 0
  else s.fld F.FUNC_STATUS_PF1_D 0 == 0 && (s.fld F.FUNC_STATUS_BME 0).testBit 1

/-- A ring is enabled and running. -/
def ringRuns (r : Nat) (s : State) : Bool := s.fld F.RING_CFG_EN r == 1 && s.fld F.RING_CFG_STOPPED r == 0

/-- Descriptors posted on a ring and not yet used (18 R458): from HEAD up to TAIL, modulo the size. -/
def ringPosted (r : Nat) (s : State) : Nat :=
  let n := 2 ^ s.fld F.RING_CFG_SIZE_LOG2 r
  (s.fld F.RING_TAIL r + n - s.fld F.RING_HEAD r % n) % n

/-- A copy to port 512 is selected (18 R453, R454): staged, or discarded at dequeue. `bufLen`: BUF_LEN of the descriptors posted on its ring. -/
def receive512 (c : Copy) (fr : Frame) (bs : List Byte) (bufLen : Nat) (s : State) : State :=
  let hq := c.q - 4096
  if c.trap = 0 ∧ s.fld F.HQ_MAP_FUNC hq = 1 then s.bump F.RX_NOT_ALLOWED 0
  else
    let r := ringOfHq hq s
    let need := if bufLen = 0 then 1 else (bs.length + bufLen - 1) / bufLen
    let taken := (s.dp.hostRx.filter (fun h => h.ring == r)).foldl (fun a h => a + h.need) 0
    if ringRuns r s = false ∨ ringFuncUp r s = false ∨ ringPosted r s < taken + need then raiseSrc 67 (s.bump F.RING_DROP r)
    else
      let h : HostRx := { copy := c, ring := r, need := need, bytes := bs, err := fr.bad, inPort := fr.port, handle := fr.cls.handle, tIn := fr.tIn }
      { s with dp := { s.dp with hostRx := s.dp.hostRx ++ [h] } }

/-! ### Dequeue -/

/-- BUFFER_UE and corrections on the cells read for a copy (07 R168). -/
def cellRead (ecc : Ecc) (bank : Nat) (s : State) : State :=
  match ecc with
  | .ok => s
  | .ce => s.bump F.BUF_CE 0
  | .ue => raiseFault 9 4 bank (raiseSrc 131 (s.bump F.BUF_UE 0))

/-- An express copy that starts at `ts` preempts the preemptable frame on the wire (02 R49); one past its last point goes out first. -/
def preemptFor (p : Nat) (c : Copy) (ts : Nat) (s : State) : State :=
  match (if isPreemptable p c.q s then none else preemptableOnWire p s) with
  | none => s
  | some t =>
    match cutBytes p t (bytesIn p (ts - t.fragAt) s - 24) s with
    | some n => holdFrame p t n s
    | none => s

/-- DEQUEUE of a copy to an Ethernet port (R199, R200, R215, R217, R231): it is handed to the link of its die. -/
def dequeueEth (c : Copy) (fr : Frame) (ecc : Ecc) (s : State) : State :=
  let p := c.port
  let ts := projectedStart p c s
  let l := copyLen c s
  let n := withOverhead p l s
  let ctx := counterCtx c s
  let s1 := holdIssue p c.q l ts (preemptFor p c ts s)
  let s2 := setPortSt p { portSt p s1 with free := ts + byteTime (l + 20) (rateOf p s), freeBy := some c.id } s1
  let s3 := shaperCharge (s.fld F.PORT_SCH_CFG_PORT_SHAPER p) n (shaperCharge (s.fld F.Q_SHAPER c.q) n s2)
  let s4 := recordDelay c fr.tIn ts ctx s3
  let s5 := if c.late then (scBump 5 ctx 0 1 s4).bump F.LATE_MARKED p else s4
  let ct := !fr.lastCell
  let seq := if c.mirror.isSome = true ∨ fr.cls.handle = 0xFFFF then fr.cls.seq else fr.seqOut
  let t : TxCopy := {
    copy := { c with ct := ct, tStart := ts, tDeq := timeNs32 s.work, seq := seq }
    stomped := fr.bad || ecc == .ue, projLen := l, desc := ct, fragAt := ts }
  let x := handDown t fr (unqueue c s5)
  let s6 : State := { x.1 with dp := { x.1.dp with tx := x.1.dp.tx ++ [x.2] } }
  if ct then s6 else settle c.frame (freeDesc s6)

/-- DEQUEUE of a copy to port 512 or 513. An uncorrectable cell is a bad tail of the copy (07 R168, R180). -/
def dequeueHost (c0 : Copy) (fr : Frame) (ecc : Ecc) (bufLen : Nat) (s : State) : State :=
  let c : Copy := { c0 with tDeq := timeNs32 s.work }
  let n := withOverhead c.port (copyLen c s) s
  let s1 := shaperCharge (s.fld F.PORT_SCH_CFG_PORT_SHAPER c.port) n (shaperCharge (s.fld F.Q_SHAPER c.q) n s)
  let s2 := unqueue c s1
  let fr' := if ecc = .ue then { fr with bad := true } else fr
  let s3 :=
    if ecc = .ue ∧ (c.mirror.isNone = true ∨ c.port = 513) then s2.bump F.CT_BAD_DISCARD c.q
    else if c.port = 513 then receive513 c fr (hostBytes c fr' s) s2
    else receive512 c fr' (hostBytes c fr' s) bufLen s2
  settle c.frame (freeDesc s3)

/-- What happens to the copy that the scheduler selects (R196 to R222, 15 R396). -/
def takeCopy (c : Copy) (ecc : Ecc) (cell bufLen : Nat) (s : State) : State :=
  if c.port < 512 ∧ c.gen ≠ s.fld F.EM_INFO (dieOf c.port) then discardCopy c (s.bump F.FLUSHED c.q)
  else
    let r := firstDequeue c s
    if r.2 = false then eliminate c.frame r.1
    else match frameAt c.frame r.1 with
      | none => unqueue c r.1
      | some fr =>
        let s1 := cellRead ecc (cellBank fr (cell % max 1 fr.cells)) r.1
        if c.port < 512 then dequeueEth c fr ecc s1 else dequeueHost c fr ecc bufLen s1

/-- SCHEDULER_SELECT (R197): one hub core cycle at port `p`. `ecc`: what the cells of the selected copy read, at its cell `cell`;
`bufLen`: the buffer length of the descriptors posted on the ring of a copy to port 512. Where no copy is selected, the remainder of a held
frame is considered (R210). -/
def schedulerSelect (p : Nat) (ecc : Ecc) (cell bufLen : Nat) (s : State) : State :=
  if 514 ≤ p then s
  else
    let s1 := if p < 512 then (queuesOf p).foldl (fun s q => lateCheck q s) s else s
    let r := selectFrom p (queuesOf p).reverse false s1
    match r.2 with
    | none => if p < 512 ∧ r.1.fld F.PORT_STATUS_LINK_UP p = 1 ∧ tget false r.1.dp.retraining (dieOf p) = false then resumeHeld p r.1 else r.1
    | some c => takeCopy c ecc cell bufLen r.1

/-- The filed copies of a port whose slot the present one has left (R213). -/
def slotDue (p : Nat) (s : State) : List Copy :=
  s.dp.copies.filter (fun c => c.port == p && !s.dp.overdue.contains c.id &&
    (match c.slot with | some k => decide (k < presentSlot p s) | none => false))

/-- The first `n` copies of a list in slot order, and within a slot in filing order. -/
def slotOrder : Nat → List Copy → List Copy
  | 0, _ => []
  | n + 1, l => match earliest l with
    | none => []
    | some c => c :: slotOrder n (l.filter (fun x => x.id != c.id))

/-- DEADLINE_SLOT_ADVANCE (R213): the copies of the slots that the present slot has left move to the overdue lists, in slot
order and within a slot in filing order. -/
def slotAdvance (p : Nat) (s : State) : State :=
  { s with dp := { s.dp with overdue := s.dp.overdue ++ (slotOrder (slotDue p s).length (slotDue p s)).map (fun c => c.id) } }

/-! ### Gate entries and depth samples -/

/-- GATE_ENTRY_BEGIN (R205, R211, R229): entry `i` of the running list of port `p` begins; `ue`: the entry was found uncorrectable
and is rewritten from the shadow first. -/
def gateEntryBegin (p i : Nat) (ue : Bool) (s : State) : State :=
  match tget none s.dp.gclOper p with
  | none => s
  | some r =>
    if r.len ≤ i ∨ s.fld F.PORT_SCH_CFG_GATE_EN p = 0 then s
    else
      let k := (p * 2 + tget 0 s.dp.operList p) * 1024 + i
      let s1 := if ue then
          raiseFault 11 4 p (raiseSrc 139 ({ s with tb := { s.tb with gcl := tset 0 s.tb.gcl k (tget 0 s.tb.gclShadow k) } }.bump F.SCH_UE 0))
        else s
      let w := tget 0 s1.tb.gcl k
      let s2 := s1.setFld F.GCL_STATUS_OPER_INDEX p i
      if preemptActive p s = false then s2
      else match bitsOf w 30 2 with
        | 1 => if s.fld F.MM_STATUS_HOLD p = 1 then s2 else holdNow p s2
        | 2 => holdRelease p s2
        | _ => s2

/-- Q_DEPTH_SAMPLE (R230). -/
def depthSample (s : State) : State :=
  (List.range 4120).foldl (fun s q =>
    let v := s.fld F.Q_CELLS q
    if v = 0 then s
    else { s with dp := { s.dp with
      depthSum := tset 0 s.dp.depthSum q (tget 0 s.dp.depthSum q + v)
      depthMax := tset 0 s.dp.depthMax q (max (tget 0 s.dp.depthMax q) v) } }) s

/-- The depth registers latch the samples of the epoch just ended (R230). -/
def depthLatch (s : State) : State :=
  let s1 := (List.range 4120).foldl (fun s q =>
    (s.setFld F.Q_DEPTH_SUM q (tget 0 s.dp.depthSum q)).setFld F.Q_DEPTH_MAX q (tget 0 s.dp.depthMax q)) s
  { s1 with dp := { s1.dp with depthSum := [], depthMax := [] } }

/-- LED_EVALUATION (R223) of stream `x`. -/
def ledEvaluate (x : Nat) (s : State) : State :=
  if scFld 0 x 5 31 31 s = 0 then s
  else
    let r := tget ({} : RecSt) s.dp.recov x
    let want : Int := r.ledPassed * ((scFld 0 x 5 30 28 s : Int) - 1) - r.ledDiscarded
    let s1 := if (scFld 0 x 5 27 16 s : Int) < want then raiseSrc 136 (scBump 5 x 7 1 s) else s
    { s1 with dp := { s1.dp with recov := tset {} s1.dp.recov x { r with ledPassed := 0, ledDiscarded := 0 } } }

end Sys2Proof.Machine
end

