-- ==== Sys2Proof/Machine/Egress.lean ====
section
/-! DEFINITION. The egress port die: the rewrite engine, one-step and two-step timestamps, transmission and the egress learn
(06_rewrite_replication_mirroring.md R151 to R159, 09_time_base.md R251, R252, 05_exact_match_learning.md R128), and the
Ralhafold links (07_shared_buffer.md R171, R177). -/

namespace Sys2Proof.Machine

/-- Replace the transmit copy with this number. -/
def setTx (t : TxCopy) (s : State) : State :=
  { s with dp := { s.dp with tx := s.dp.tx.map (fun x => if x.copy.id = t.copy.id then t else x) } }

/-- Take a copy off its egress die, and its frame with it when nothing else holds the frame. -/
def dropTx (id : Nat) (s : State) : State :=
  match s.dp.tx.find? (fun t => t.copy.id == id) with
  | none => s
  | some t =>
    let s1 : State := { s with dp := { s.dp with tx := s.dp.tx.filter (fun x => x.copy.id != id) } }
    settle t.copy.frame (if t.desc then freeDesc s1 else s1)

/-- What an edit program may use of a copy (06 Table 6.4). -/
def editCtxOf (c : Copy) (s : State) : EditCtx :=
  { cls := c.cls, colour := c.colour, vid := c.vid, tpid := s.fld F.EDIT_CFG 0, seq := c.seq,
    portMac := s.fld F.PORT_MAC_LO c.port + s.fld F.PORT_MAC_HI c.port * 2 ^ 32,
    nh := c.nh.map (fun h => (rwWord 1 h 0 s + bitsOf (rwWord 1 h 1 s) 0 16 * 2 ^ 32, bitsOf (rwWord 1 h 1 s) 16 12)),
    data := (List.range 4).map (fun w => rwWord 0 c.edit (8 + w) s) }

/-- What the rewrite engine does to a body (06 R151 to R154): program, ECN mark, late mark. -/
def rewriteBody (c : Copy) (body : List Byte) (s : State) : List Byte × Nat × Option EditRes :=
  let r := editRun (editCtxOf c s) ((List.range 8).map (fun w => rwWord 0 c.edit w s)) body 0
  let tpid := s.fld F.EDIT_CFG 0
  let b1 := if c.ecn then applyEcn tpid r.1 else r.1
  (if c.late then applyLate tpid b1 else b1, r.2)

/-- EDIT_UE of a copy (06 R164): `ue` 0 a program word, 1 a next hop; the copy goes, the entry comes back from its shadow. -/
def editUe (c : Copy) (ue : Nat) (s : State) : State :=
  match ue, c.nh with
  | 0, _ => editTableUe (dieOf c.port) 0 c.edit 0 s
  | _, some h => editTableUe (dieOf c.port) 1 h 1 s
  | _, none => s

/-- A one-step frame: untagged with EtherType 0x88F7 at byte 12 (09 R251). -/
def oneStepFrame (bs : List Byte) : Bool := decide (58 ≤ bs.length) && be16 bs 12 == 0x88F7

/-- The domain time of domain `d` at a working-clock time: seconds and nanoseconds (09 R248). -/
def domainTime (d t : Nat) (s : State) : Nat × Nat :=
  let raw : Nat := s.fld F.DOM_OFFSET_LO d + s.fld F.DOM_OFFSET_HI d * 2 ^ 32
  let off : Int := if raw < 2 ^ 63 then Int.ofNat raw else Int.ofNat raw - Int.ofNat (2 ^ 64)
  let q : Int := Int.ofNat (t / 2 ^ 30) + off
  let ns := (q / 4).toNat
  (ns / 1000000000 % 2 ^ 48, ns % 1000000000)

/-- DOM_RATE_d as a signed number. -/
def domRate (d : Nat) (s : State) : Int :=
  let v : Nat := s.fld F.DOM_RATE d
  if v < 2 ^ 31 then Int.ofNat v else Int.ofNat v - Int.ofNat (2 ^ 32)

/-- PTP_TX_TIMESTAMP (09 R251, R252): the mode of the transmit record acts with the egress milestone `t`. -/
def ptpStamp (c : Copy) (t : Nat) (bs : List Byte) (s : State) : State × List Byte :=
  match c.ts with
  | none => (s, bs)
  | some (mode, dom, seqId, tRef) =>
    let d := dieOf c.port
    match mode with
    | 1 =>
      let l := tget [] s.time.txFifo d
      if 64 ≤ l.length then (s.bump F.PTP_TX_LOST d, bs)
      else
        let s1 := if l.isEmpty then raiseSrc (256 + 32 * d + 16) s else s
        ({ s1 with time := { s1.time with txFifo := tset [] s1.time.txFifo d (l ++ [⟨c.port % 128, dom, seqId, t⟩]) } }, bs)
    | 2 =>
      if oneStepFrame bs then
        let dt := domainTime dom t s
        (s, patch bs 48 (toBe 6 dt.1 ++ toBe 4 dt.2))
      else (s.bump F.PTP_ONESTEP_NA c.port, bs)
    | 3 =>
      if oneStepFrame bs then
        let old := beNat (slice bs 22 8)
        let diff : Int := (t : Int) - tRef
        let add : Int := diff * ((2 ^ 41 : Nat) + domRate dom s) / (2 ^ 41 : Nat) / (2 ^ 16 : Nat)
        (s, patch bs 22 (toBe 8 (((old : Int) + add) % (2 ^ 64 : Nat)).toNat))
      else (s.bump F.PTP_ONESTEP_NA c.port, bs)
    | _ => (s, bs)

/-- The bytes of a frame that a copy may send: those that had crossed, where a retrain cut it (07 R171). -/
def sentBytes (t : TxCopy) (fr : Frame) : Frame :=
  match t.cut with
  | some n => { fr with bytes := fr.bytes.take n }
  | none => fr

/-- The body of a copy as far as it has arrived, without a trailer: all of it, or the parse window of a frame that is being cut through. -/
def arrivedBody (c : Copy) (fr : Frame) (s : State) : List Byte :=
  match fr.len with
  | some _ => cutBody c (fr.bytes.take (fr.bytes.length - 4)) s
  | none => cutBody c fr.bytes s

/-- The body of a copy as it leaves: what was edited, less the FCS bytes the edit took in, and what came after, with the trailer. -/
def finalBody (t : TxCopy) (fr : Frame) (s : State) : List Byte :=
  let f := sentBytes t fr
  let n := (cutBody t.copy (f.bytes.take (f.bytes.length - 4)) s).length
  t.bytes.take (t.bytes.length - (t.taken - n)) ++ (copyBody t.copy f (t.stomped || fr.bad) s).drop (min t.taken n)

/-- The egress MAC milestone of a copy in steps of 0.25 ns (01 R30, 09 R241 to R243): its projected start, or the present plus the latency of the
port where it is later, by the follower of its die. -/
def egressMilestone (c : Copy) (s : State) : Nat :=
  let t : Int := (max c.tStart (s.work + txLatency c.port s * nsUnit) : Nat) + tget 0 s.time.follow (dieOf c.port)
  t.toNat / 2 ^ 30

/-- A copy that has crossed is edited and handed to the MAC (06 R151 to R155). `ue`: a program (0) or next hop (1) word reads uncorrectable. -/
def editArrived (t : TxCopy) (fr : Frame) (ue : Option Nat) (s : State) : State :=
  let c := t.copy
  let p := c.port
  match ue with
  | some k => dropTx c.id (editUe c k s)
  | none =>
    let body := arrivedBody c fr s
    let r := rewriteBody c body s
    let s1 := s.addSat F.EDIT_NA p r.2.1
    match r.2.2 with
    | some .ttlDrop => dropTx c.id (s1.bump F.EDIT_TTL_DROP p)
    | some _ => dropTx c.id (s1.bump F.EDIT_DROP p)
    | none =>
      let whole := finalBody { t with bytes := r.1, taken := body.length } fr s
      if c.ct = false ∧ s.fld F.PORT_CFG_MAX_FRAME p < (padBody whole).length + 4 then dropTx c.id (s1.bump F.EDIT_OVERSIZE p)
      else
        let te := egressMilestone c s
        let x := ptpStamp c (te * 2 ^ 30) r.1 s1
        setTx { t with stage := if t.stage = .held then .held else .sending, edited := true, bytes := x.2, taken := body.length, tEgress := some te } x.1

/-- EGRESS_COPY_ARRIVAL (01 R32): copy `id` reaches its port die once its start flit has crossed, is edited and handed to the MAC. `ue`: a program
(0) or next hop (1) word reads uncorrectable; `ctxUe`: the receiving header context does (07 R177). -/
def egressArrival (id : Nat) (ue : Option Nat) (ctxUe : Bool) (s : State) : State :=
  match s.dp.tx.find? (fun t => t.copy.id == id) with
  | none => s
  | some t0 =>
    if t0.edited then s
    else
      let d := dieOf t0.copy.port
      let s0 := linkCarry d 1 id true ctxUe s
      if flitWaits d 1 id true s0 then s0
      else match s0.dp.tx.find? (fun t => t.copy.id == id) with
        | none => s0
        | some t => match frameAt t.copy.frame s0 with
          | none => dropTx id s0
          | some fr => editArrived t fr ue s0

/-- The bytes that a copy leaves with (06 R155): padded, or cut at MAX_FRAME when it was cut through, with a new or a stomped FCS;
and whether it was too long. -/
def wireBytes (t : TxCopy) (fr : Frame) (s : State) : List Byte × Bool × Bool :=
  let maxFrame := s.fld F.PORT_CFG_MAX_FRAME t.copy.port
  let body := padBody (finalBody t fr s)
  if maxFrame < body.length + 4 then
    let b := body.take (maxFrame - 4)
    (b ++ stompOf b, true, true)
  else if t.stomped then (body ++ stompOf body, true, false)
  else (body ++ fcsOf body, false, false)

/-- EGRESS_LEARN (05 R128): the die's first copy of a learnable frame is learned there when it leaves unstomped. -/
def egressLearn (t : TxCopy) (fr : Frame) (s : State) : State :=
  let d := dieOf t.copy.port
  if t.copy.learn = true ∧ fr.port < 512 ∧ s.fld F.EM_CFG_EGRESS_LEARN d = 1 ∧ fr.learnDies.contains d = false then
    let s1 := setFrame t.copy.frame { fr with learnDies := d :: fr.learnDies } s
    if t.stomped then s1
    else
      let hit := sourceHit d fr.cls.vid fr.cls.sa fr.port [] s1
      if hit.1 then hit.2 else learnCommit d ⟨fr.cls.vid, fr.cls.sa, fr.port, false⟩ hit.2
  else s

/-- A copy has left whole (02 R60): the transmit counters, the last fragment, the egress learn; a preempted remainder may go on (08 R210). -/
def sendDone (t : TxCopy) (fr : Frame) (s : State) : State :=
  let p := t.copy.port
  let w := wireBytes t fr s
  let s1 := (s.addWrap F.TX_OCTETS p w.1.length).addWrap F.TX_FRAMES p 1
  let s2 := if w.2.1 then s1.bump F.CT_STOMPED p else s1
  let s3 := if w.2.2 then s2.bump F.EDIT_OVERSIZE p else s2
  let s4 := if 0 < t.frags then s3.bump F.MM_TX_FRAG p else s3
  resumeHeld p (dropTx t.copy.id (egressLearn { t with stomped := w.2.1 } fr s4))

/-- TX_FRAME_END (02 R60): copy `id` has left, once its last flit has crossed. -/
def txEnd (id : Nat) (s : State) : State :=
  match s.dp.tx.find? (fun t => t.copy.id == id) with
  | none => s
  | some t0 =>
    let d := dieOf t0.copy.port
    if t0.stage ≠ .sending ∨ t0.ended = false then s
    else
      let s0 := linkCarry d 1 id false false s
      if flitWaits d 1 id false s0 then s0
      else match s0.dp.tx.find? (fun t => t.copy.id == id) with
        | none => s0
        | some t => match frameAt t.copy.frame s0 with
          | none => dropTx id s0
          | some fr => if fr.len = none then s0 else sendDone t fr s0

/-! ### Ralhafold links -/

/-- Frame bytes of an owner that wait in DATA flits on a link. -/
def waitingBytes (d j owner : Nat) (s : State) : Nat :=
  let l := linkOf d j s
  ((l.replay.toList ++ l.queue).filter (fun f => f.kind == 3 && f.owner == owner)).foldl (fun n f => n + f.payload.length) 0

/-- Frame bytes of a copy that its die has received. -/
def crossedDown (t : TxCopy) (s : State) : Nat :=
  let d := dieOf t.copy.port
  if flitWaits d 1 t.copy.id true s then 0 else t.handed - waitingBytes d 1 t.copy.id s

/-- The receiver of direction `j` stores the context of a frame of port `port` and sends ACK (R177). -/
def storeContext (d j port len : Nat) (bs : List Byte) (s : State) : State :=
  sendAck d j (ctxIndex (deltaMask port len s) bs) (ctxInstall d j port len bs s)

/-- CONTEXT_INSTALL (07 R177): once byte 63 of an installing frame has arrived, the receiver of direction `j` stores bytes 0 to 63 and sends ACK:
of frame `x` up the link (0), of copy `x` down it (1). -/
def contextInstall (j x : Nat) (s : State) : State :=
  if j = 0 then
    let s1 := bodyUp x s
    match frameAt x s1 with
    | none => s1
    | some fr => match fr.coding with
      | some (false, _) => if 512 ≤ fr.port ∨ fr.crossed < 64 then s1
        else storeContext (dieOf fr.port) 0 fr.port (fr.len.getD 0) fr.bytes (setFrame x { fr with coding := none } s1)
      | _ => s1
  else
    match s.dp.tx.find? (fun t => t.copy.id == x) with
    | none => s
    | some t0 =>
      let d := dieOf t0.copy.port
      let s1 := linkCarry d 1 x false false s
      match frameAt t0.copy.frame s1, t0.coding with
      | some fr, some (false, _) => if crossedDown t0 s1 < 64 then s1
        else storeContext d 1 fr.port (fr.len.getD 0) fr.bytes (mapTx x (fun t => { t with coding := none }) s1)
      | _, _ => s1

/-- Every header context of a die's link is INVALID (07 R177). -/
def clearContexts (d : Nat) (s : State) : State :=
  let keep (t : Tab Ctx) : Tab Ctx := t.filter (fun e => e.1 / 8192 != d)
  { s with dp := { s.dp with sendCtx := keep s.dp.sendCtx, recvCtx := keep s.dp.recvCtx } }

/-- The link of a die stops carrying flits: GLB.DIE_STATUS.LINK_UP and RLF_STATUS.TRAINED clear, and its follower unlocks (09 R241). -/
def linkLost (d : Nat) (s : State) : State :=
  let up := s.fld F.DIE_STATUS_LINK_UP 0
  let s1 := s.setFlds [(F.RLF_STATUS_TRAINED, d, 0), (F.DIE_STATUS_LINK_UP, 0, setBit up d false),
    (F.TIME_STATUS_FOLLOW_LOCK, 0, setBit (s.fld F.TIME_STATUS_FOLLOW_LOCK 0) d false)]
  let s2 := if up.testBit d then raiseSrc 10 s1 else s1
  { s2 with time := { s2.time with goodBeacons := tset 0 s2.time.goodBeacons d 0 } }

/-- The owners whose start flit waits in one direction of a link, in the order of their flits. -/
def startsWaiting (l : LinkDir) : List Nat := ((l.replay.toList ++ l.queue).filter (fun f => f.kind == 1 || f.kind == 2)).map (fun f => f.owner)

/-- The link carries nothing and numbers its flits anew. -/
def LinkDir.cleared (l : LinkDir) : LinkDir := { l with queue := [], replay := none, sendSeq := 0, recvSeq := 0 }

/-- Every flit of die `d` on its way to the hub is lost (R171): a frame cut within ends with a bad tail, and one whose start flit had not gone is
formed again, uncoded. -/
def retrainUp (d : Nat) (s : State) : State :=
  let l := linkOf d 0 s
  let starts := startsWaiting l
  let mine := s.dp.frames.filter (fun e => decide (e.2.port < 512) && dieOf e.2.port == d)
  let lost := mine.filter (fun e => e.2.handed != 0 && !starts.contains e.1 && (!e.2.ended || flitWaits d 0 e.1 false s))
  let s1 := mine.foldl (fun s e => setFrame e.1 { e.2 with coding := none } s) (setLink d 0 l.cleared s)
  let s2 := lost.foldl (fun s e => badTail e.1 true
    (setFrame e.1 { e.2 with coding := none, ended := true, bytes := e.2.bytes.take e.2.crossed } (s.bump F.RLF_DISCARD (d * 2)))) s1
  starts.foldl (fun s f => match frameAt f s with
    | none => s
    | some fr =>
      let h := handFlits f (fr.port % 128) (metaUp fr) 0 none fr.bytes fr.ended fr.bad
      offerFlits d 0 h.1 (setFrame f { fr with handed := h.2 } s)) s2

/-- Every flit of die `d` on its way from the hub is lost: a copy cut within leaves stomped (R180), and one whose start flit had not gone is formed
again, uncoded. -/
def retrainDown (d : Nat) (s : State) : State :=
  let l := linkOf d 1 s
  let starts := startsWaiting l
  let isLost (t : TxCopy) : Bool := dieOf t.copy.port == d && t.handed != 0 && !starts.contains t.copy.id && (!t.ended || flitWaits d 1 t.copy.id false s)
  let n := (s.dp.tx.filter isLost).length
  let fix (t : TxCopy) : TxCopy :=
    if isLost t then { t with coding := none, ended := true, stomped := true, cut := some (crossedDown t s) }
    else if dieOf t.copy.port = d then { t with coding := none } else t
  let s1 := (setLink d 1 l.cleared s).addSat F.RLF_DISCARD (d * 2 + 1) n
  let s2 : State := { s1 with dp := { s1.dp with tx := s1.dp.tx.map fix } }
  starts.foldl (fun s id => match s.dp.tx.find? (fun t => t.copy.id == id) with
    | none => s
    | some t => match frameAt t.copy.frame s with
      | none => s
      | some fr =>
        let h := handFlits id (downChannel t.copy s) (metaDown t fr) 0 none fr.bytes t.ended t.stomped
        offerFlits d 1 h.1 (mapTx id (fun t => { t with handed := h.2 }) s)) s2

/-- Retraining begins (07 R171, R177): contexts INVALID, GEN, the source, the event; the link carries nothing, and the frames it cuts end. -/
def retrainStart (d : Nat) (s : State) : State :=
  let s1 := clearContexts d (linkLost d s)
  let s2 := (s1.bump F.RLF_RETRAINS d).setFld F.RLF_STATUS_GEN d (s.fld F.RLF_STATUS_GEN d + 1)
  let s3 := raiseFault 71 d 0 (raiseSrc (256 + 32 * d + 12) s2)
  let s4 : State := { s3 with dp := { s3.dp with
    retraining := tset false s3.dp.retraining d true, flitFails := tset 0 (tset 0 s3.dp.flitFails (d * 2) 0) (d * 2 + 1) 0 } }
  retrainDown d (retrainUp d s4)

/-- FLIT_CRC_ERROR (07 R169, R171): the 32 bytes that arrive in direction `j` fail the CRC under the receiver's number; the flit stays in the
replay buffer, and its eighth failure in a row retrains the link. -/
def flitCrcError (d j : Nat) (bs : List Byte) (s : State) : State :=
  let x := flitOut (linkOf d j s)
  if tget false s.dp.retraining d = true ∨ bs.length ≠ 32 ∨ flitGood x.2.recvSeq bs = true then s
  else
    let k := d * 2 + j
    let n := tget 0 s.dp.flitFails k + 1
    let s1 := setLink d j x.2 (s.bump F.RLF_REPLAY_COUNT k)
    if 8 ≤ n then retrainStart d s1
    else { s1 with dp := { s1.dp with flitFails := tset 0 s1.dp.flitFails k n } }

/-- The retrain of a die's link ends (07 R171): the link is trained, or permanently failed and carries nothing again (01 R21, a class 5
event). -/
def linkRetrained (d : Nat) (ok : Bool) (s : State) : State :=
  if tget false s.dp.retraining d = false ∨ tget false s.dp.linkDead d = true then s
  else if ok then
    let s1 : State := { s with dp := { s.dp with retraining := tset false s.dp.retraining d false } }
    raiseSrc 10 (s1.setFlds [(F.RLF_STATUS_TRAINED, d, 1), (F.DIE_STATUS_LINK_UP, 0, setBit (s1.fld F.DIE_STATUS_LINK_UP 0) d true)])
  else raiseFault 4 d 0 { s with dp := { s.dp with linkDead := tset false s.dp.linkDead d true } }

end Sys2Proof.Machine
end

