-- ==== Sys2Proof/Machine/Dram.lean ====
section
/-! DEFINITION. The DRAM controllers: request issue, ECC, patrol, refresh, row disturbance, retraining (16_dram.md). -/

namespace Sys2Proof.Machine

/-- A bit sets in CH_EVENT of channel `c`; source 192 + c is raised when it is enabled (R418). -/
def chEvent (f en : Fld) (c : Nat) (s : State) : State :=
  let s1 := s.setFld f c 1
  if s.fld f c = 0 ∧ s.fld en c = 1 then raiseSrc (192 + c) s1 else s1

/-- CHANNEL_FAIL (R415, R416): MEM_CH_FAIL is committed. -/
def channelFail (c : Nat) (s : State) : State := raiseFault 26 4 c (chEvent F.CH_EVENT_FAIL F.CH_EVENT_EN_FAIL c s)

/-- A correctable error on channel `c` (R407). -/
def memCe (c : Nat) (s : State) : State := raiseFault 24 4 c (s.bump F.MEM_CE_COUNT 0)

/-- A channel in RUN fails (R415). -/
def runFail (c : Nat) (s : State) : State := if s.fld F.LDR_STATUS_STATE 0 = 8 then channelFail c s else s

/-- An uncorrectable error at an address (R407, R415): ERR_LIMIT of them within 1 ms fail the channel. -/
def memUe (a : Nat) (s : State) : State :=
  let c := dramChan a
  let s1 := (s.bump F.MEM_UE_COUNT 0).setFlds [(F.LAST_UE_ADDR_LO, 0, a % 2 ^ 32), (F.LAST_UE_ADDR_HI, 0, a / 2 ^ 32)]
  let s2 := raiseFault 25 4 c (chEvent F.CH_EVENT_UE F.CH_EVENT_EN_UE c s1)
  let recent := s.cycle :: (tget [] s.dram.ueTimes c).filter (fun t => decide (s.cycle < t + 3000000))
  if s.fld F.CH_CFG_ERR_LIMIT c ≤ recent.length ∧ s.fld F.CH_STATUS_STATE c = 2 then
    runFail c (s2.withDram { s2.dram with ueTimes := tset [] s2.dram.ueTimes c [] })
  else s2.withDram { s2.dram with ueTimes := tset [] s2.dram.ueTimes c recent }

/-- ECC_ERROR (R407): what a read of address `a` meets. -/
def eccError (a : Nat) (e : Ecc) (s : State) : State :=
  match e with
  | .ok => s
  | .ce => memCe (dramChan a) s
  | .ue => memUe a s

/-- Bank key of an address. -/
def bankKey (a : Nat) : Nat := (dramChan a * 2 + dramPc a) * 2 ^ 16 + (Config.dramBank (dramLine a)).toNat

/-- The bank of an address within its channel, pseudo-channel first. -/
def bankInChannel (a : Nat) : Nat := dramPc a * 2 ^ 16 + (Config.dramBank (dramLine a)).toNat

/-- The least count of an activate table and the lowest entry index that has it. -/
def leastEntry : List (Nat × Nat) → Nat → Option (Nat × Nat)
  | [], _ => none
  | (_, n) :: t, i => match leastEntry t (i + 1) with
    | some (j, m) => if m < n then some (j, m) else some (i, n)
    | none => some (i, n)

/-- RD_THRESHOLD in force on a channel. -/
def rdThreshold (c : Nat) (s : State) : Nat := tget 2048 s.dram.thresh c

/-- An activate of row `r` in the bank of key `k` of channel `c` (R412, R413). -/
def activate (c k r : Nat) (s : State) : State :=
  let t := tget [] s.dram.act k
  let fl := tget 0 s.dram.floor k
  let put (t : List (Nat × Nat)) (fl : Nat) (s : State) : State :=
    s.withDram { s.dram with act := tset [] s.dram.act k t, floor := tset 0 s.dram.floor k fl }
  if t.any (fun e => e.1 == r) then put (t.map (fun e => if e.1 = r then (e.1, e.2 + 1) else e)) fl s
  else if t.length < 64 then put (t ++ [(r, fl + 1)]) fl s
  else match leastEntry t 0 with
    | none => s
    | some (i, m) =>
      let s1 := put (t.set i (r, m + 1)) m s
      if fl < rdThreshold c s ∧ rdThreshold c s ≤ m then chEvent F.CH_EVENT_FLOOR F.CH_EVENT_EN_FLOOR c (s1.bump F.FLOOR_HITS c) else s1

/-- The first request with the least value of a measure. -/
def leastBy (m : DramReq → Nat) : List DramReq → Option DramReq
  | [] => none
  | r :: t => match leastBy m t with
    | some x => if m x < m r then some x else some r
    | none => some r

/-- The request a channel issues next (R406): CLASS_AGE takes those older than 2 µs first, then by class, each oldest first;
BANK_ROTATE visits the banks in turn, class 0 first within a bank. -/
def pickRequest (c : Nat) (s : State) : Option DramReq :=
  let q := tget [] s.dram.queue c
  if s.fld F.CH_STATUS_ACTIVE_MODE c = 2 then
    let last := tget 0 s.dram.bankPtr c
    let turn := fun (r : DramReq) => let b := bankInChannel r.addr; if last ≤ b then b else b + 2 ^ 17
    match leastBy turn q with
    | none => none
    | some x => leastBy (fun r => if r.cls = 0 then 0 else 1) (q.filter (fun r => bankInChannel r.addr == bankInChannel x.addr))
  else match q.find? (fun r => decide (r.since + 6000 < s.cycle)) with
    | some r => some r
    | none => leastBy (fun r => r.cls) q

/-- Remove the first element equal to `x`. -/
def removeFirst (x : DramReq) : List DramReq → List DramReq
  | [] => []
  | r :: t => if r = x then t else r :: removeFirst x t

/-- The row of an address is open. -/
def rowOpen (a : Nat) (s : State) : Bool := tget none s.dram.openRow (bankKey a) == some (Config.dramRow (dramLine a)).toNat

/-- The request that may pass the pick `r` of a CLASS_AGE channel, with those of its class and bank that it passes (R406): all of them need an
activate, and none has been passed four times. -/
def passer (c : Nat) (r : DramReq) (s : State) : Option (DramReq × List DramReq) :=
  let same := (tget [] s.dram.queue c).filter (fun x => x.cls == r.cls && bankInChannel x.addr == bankInChannel r.addr)
  if s.fld F.CH_STATUS_ACTIVE_MODE c = 2 ∨ r.since + 6000 < s.cycle then none
  else
    let older := same.takeWhile (fun x => !rowOpen x.addr s)
    match same.drop older.length with
    | [] => none
    | x :: _ => if older.isEmpty || older.any (fun y => decide (4 ≤ y.passed)) then none else some (x, older)

/-- Take the next request of channel `c` from its queue; where one may pass the pick, whether it does is a free value. -/
def takeRequest (c : Nat) (s : State) : Option (DramReq × State) :=
  let q := tget [] s.dram.queue c
  let take (r : DramReq) (q : List DramReq) (s : State) : DramReq × State :=
    (r, s.withDram { s.dram with queue := tset [] s.dram.queue c (removeFirst r q)
                                 bankPtr := tset 0 s.dram.bankPtr c (bankInChannel r.addr + 1) })
  (pickRequest c s).map (fun r =>
    match passer c r s with
    | none => take r q s
    | some (x, older) =>
      let s1 : State := { s with dp := { s.dp with fresh := s.dp.fresh + 1 } }
      if Config.rowPass s.dp.fresh then take x (q.map (fun y => if older.contains y then { y with passed := y.passed + 1 } else y)) s1
      else take r q s1)

/-- A byte goes back to what stood before a write that was discarded: under the first waiting write that covers it, where there is one. -/
def backUnder (a : Nat) (b : Byte) : List DramReq → Option (List DramReq)
  | [] => none
  | y :: ys =>
    if y.write = true ∧ y.addr ≤ a ∧ a < y.addr + y.len then
      some ({ y with old := y.old.map (fun o => if o.1 = a then (a, b) else o) } :: ys)
    else (backUnder a b ys).map (fun l => y :: l)

/-- A read-modify-write found its word uncorrectable: the write is discarded (R407). -/
def takeBack (c : Nat) (r : DramReq) (s : State) : State :=
  r.old.foldl (fun s o =>
    match backUnder o.1 o.2 (tget [] s.dram.queue c) with
    | some q => s.withDram { s.dram with queue := tset [] s.dram.queue c q }
    | none => { s with hbm := tset 0 s.hbm o.1 o.2 }) s

/-- The bank of an address has its row open: an activate where it is not (R412). -/
def openRowAt (c a : Nat) (s : State) : State :=
  let row := (Config.dramRow (dramLine a)).toNat
  if rowOpen a s then s
  else activate c (bankKey a) row (s.withDram { s.dram with openRow := tset none s.dram.openRow (bankKey a) (some row) })

/-- DRAM_REQUEST_ISSUE (R406, R407, R412, R416): channel `c` issues the request its mode picks. `ecc`: what its read met, that of a
read-modify-write too; `parity`: the stack reported a command-address parity error. Nothing issues while the channel trains or is in catch-up;
a FAILED channel only counts the access. -/
def requestIssue (c : Nat) (ecc : Ecc) (parity : Bool) (s : State) : State :=
  let st := s.fld F.CH_STATUS_STATE c
  if 32 ≤ c ∨ s.fld F.CH_STATUS_CATCHUP c = 1 ∨ (st ≠ 2 ∧ st ≠ 4) then s
  else match takeRequest c s with
    | none => s
    | some (r, s1) =>
      if st = 4 then s1.bump F.FAILED_ACCESS c
      else
        let s2 := openRowAt c r.addr s1
        let s3 := if r.write = true ∧ r.old = [] then s2 else eccError r.addr ecc (if r.write = true ∧ ecc = .ue then takeBack c r s2 else s2)
        if parity then runFail c s3 else s3

/-- The address of burst `i` of a channel's share, in ascending order (R401, R408). -/
def patrolAddr (c i : Nat) : Nat :=
  let h := i / 4 % 2 ^ 21
  h * 2 ^ 13 + (c ^^^ (h % 32)) * 2 ^ 8 + i % 4 * 64

/-- PATROL_READ (R408); no request issues in catch-up (R411). -/
def patrolRead (c : Nat) (ecc : Ecc) (s : State) : State :=
  if 32 ≤ c ∨ s.fld F.MEM_CFG_PATROL_EN 0 = 0 ∨ s.fld F.CH_STATUS_CATCHUP c = 1 ∨ s.fld F.CH_STATUS_STATE c ≠ 2 then s
  else
    let i := tget 0 s.dram.patrol c
    let s1 := openRowAt c (patrolAddr c i) (s.withDram { s.dram with patrol := tset 0 s.dram.patrol c ((i + 1) % 2 ^ 23) })
    let s2 := if ecc = .ce then s1.bump F.PATROL_FIX c else s1
    eccError (patrolAddr c i) ecc s2

/-! ### Temperature and refresh -/

/-- A signed byte. -/
def signed8 (v : Nat) : Int := if v < 128 then Int.ofNat v else Int.ofNat v - 256

/-- Debt of pseudo-channel `pc` of channel `c`. -/
def debt (c pc : Nat) (s : State) : Nat := if pc = 0 then s.fld F.CH_STATUS_DEBT_PC0 c else s.fld F.CH_STATUS_DEBT_PC1 c

/-- Set a debt. -/
def setDebt (c pc v : Nat) (s : State) : State :=
  if pc = 0 then s.setFld F.CH_STATUS_DEBT_PC0 c v else s.setFld F.CH_STATUS_DEBT_PC1 c v

/-- Change both debts of a channel. -/
def mapDebt (f : Nat → Nat) (c : Nat) (s : State) : State := setDebt c 1 (f (debt c 1 s)) (setDebt c 0 (f (debt c 0 s)) s)

/-- The channel refreshes: its base training has ended (R417). -/
def refreshes (c : Nat) (s : State) : Bool := decide (2 ≤ s.fld F.CH_STATUS_STATE c)

/-- CATCHUP_START (R411): the debt doubles and the channel enters catch-up. -/
def catchupStart (c : Nat) (s : State) : State :=
  let s1 := (mapDebt (fun v => 2 * v) c s).setFld F.CH_STATUS_CATCHUP c 1
  let s2 := chEvent F.CH_EVENT_CATCHUP F.CH_EVENT_EN_CATCHUP c (s1.bump F.CATCHUP_COUNT c)
  s2.withDram { s2.dram with openRow := s2.dram.openRow.filter (fun e => e.1 / 2 ^ 17 != c) }

/-- STACK_TEMP_READ (R409 to R411): stack `m` reads `raw` °C. -/
def stackTempRead (m : Nat) (raw : Int) (s : State) : State :=
  if 2 ≤ m then s
  else
    let old := signed8 (s.fld F.STACK_TEMP_FILTERED m)
    let new := if old + 2 < raw then old + 2 else if raw < old - 2 then old - 2 else raw
    let hot := decide (85 < new)
    let limit := if new < 80 then 8 else 5
    let enc := fun (x : Int) => (x % 256).toNat
    let s1 := s.setFlds [(F.STACK_TEMP_RAW, m, enc raw), (F.STACK_TEMP_FILTERED, m, enc new), (F.STACK_TEMP_LIMIT, m, limit),
      (F.STACK_TEMP_HOT, m, if hot then 1 else 0)]
    let was := s.fld F.STACK_TEMP_HOT m == 1
    let chans := ((List.range 16).map (fun i => 16 * m + i)).filter (fun c => refreshes c s)
    let s2 := if limit = 5 then chans.foldl (fun s c => if s.fld F.CH_STATUS_CATCHUP c = 1 ∨ was = true then s else mapDebt (fun v => min v 5) c s) s1 else s1
    let s3 := if hot = true ∧ was = false then chans.foldl (fun s c => catchupStart c s) s2
      else if hot = false ∧ was = true then chans.foldl (fun s c => mapDebt (fun v => (v + 1) / 2) c s) s2
      else s2
    setLevel (224 + m) hot s3

/-- REFRESH_DUE (R410, R411): a refresh falls due on pseudo-channel `pc` of channel `c`, and the controller issues `issued` ordinary
refreshes; at the postponement limit the due one is issued at once. In catch-up it adds to the debt, which the issued ones lower (Table 16.3). -/
def refreshDue (c pc issued : Nat) (s : State) : State :=
  if 32 ≤ c ∨ 2 ≤ pc ∨ refreshes c s = false then s
  else if s.fld F.CH_STATUS_CATCHUP c = 1 then setDebt c pc (debt c pc s + 1 - issued) s
  else setDebt c pc (min (debt c pc s + 1 - issued) (s.fld F.STACK_TEMP_LIMIT (c / 16))) s

/-- CATCHUP_END (R411): the refreshes issued bring the debt to 4 or less, and requests issue again. -/
def catchupEnd (c : Nat) (s : State) : State :=
  if 32 ≤ c ∨ s.fld F.CH_STATUS_CATCHUP c = 0 then s else (mapDebt (fun v => min v 4) c s).setFld F.CH_STATUS_CATCHUP c 0

/-! ### Row disturbance -/

/-- NEIGHBOUR_REFRESH (R412): an entry of bank `bank` of pseudo-channel `pc` that has reached RD_THRESHOLD. Rows outside the bank are skipped. -/
def neighbourRefresh (c pc bank row : Nat) (s : State) : State :=
  let k := (c * 2 + pc) * 2 ^ 16 + bank
  let t := tget [] s.dram.act k
  if 32 ≤ c ∨ 2 ≤ pc ∨ 2 ^ 16 ≤ bank ∨ s.fld F.CH_STATUS_CATCHUP c = 1 ∨ t.any (fun e => e.1 == row && decide (rdThreshold c s ≤ e.2)) = false then s
  else
    let inside := fun (x : Nat) => decide (x < Config.dramRows)
    let near := [(decide (1 ≤ row), row - 1), (inside (row + 1), row + 1)]
    let far := if s.fld F.MEM_CFG_RD_NEIGHBOUR2 0 = 1 then [(decide (2 ≤ row), row - 2), (inside (row + 2), row + 2)] else []
    let n := ((near ++ far).filter (fun e => e.1)).length
    let s1 := s.addSat F.RD_REFRESHES c n
    s1.withDram { s1.dram with act := tset [] s1.dram.act k (t.map (fun e => if e.1 = row then (e.1, tget 0 s.dram.floor k) else e)) }

/-- RD_WINDOW_END (R412): the tables and FLOOR of a channel clear, and RD_THRESHOLD as written comes into force. -/
def rdWindowEnd (c : Nat) (s : State) : State :=
  if 32 ≤ c then s
  else
    s.withDram { s.dram with
      act := s.dram.act.filter (fun e => e.1 / 2 ^ 17 != c)
      floor := s.dram.floor.filter (fun e => e.1 / 2 ^ 17 != c)
      thresh := tset 2048 s.dram.thresh c (s.fld F.MEM_CFG_RD_THRESHOLD 0) }

/-! ### Retraining -/

/-- The retrain of a channel begins (R415), as a privileged request or as a reaction. -/
def retrainChannel (c : Nat) (s : State) : State :=
  let st := s.fld F.CH_STATUS_STATE c
  if 32 ≤ c ∨ (st ≠ 2 ∧ st ≠ 4) then s else unitBegin (2 + c) (s.setFld F.CH_STATUS_STATE c 3)

/-- CHANNEL_RETRAIN (R415): a write of CH_CTRL.RETRAIN = 1. -/
def channelRetrain (q : Requester) (c : Nat) (s : State) : State :=
  if 32 ≤ c then s else gated q (regOffset .CH_CTRL c) (retrainChannel c) s

/-- CHANNEL_RETRAIN_END (R415, R416): the verify passes, or the channel is FAILED and MEM_CH_FAIL is committed again, outside any window. -/
def channelRetrainEnd (c : Nat) (ok : Bool) (s : State) : State :=
  if 32 ≤ c ∨ s.fld F.CH_STATUS_STATE c ≠ 3 then s
  else if ok then
    let s1 := (s.setFlds [(F.CH_STATUS_STATE, c, 2), (F.CH_STATUS_GEN, c, s.fld F.CH_STATUS_GEN c + 1)]).bump F.MEM_RETRAINS c
    unitEnd (2 + c) (chEvent F.CH_EVENT_RETRAIN_END F.CH_EVENT_EN_RETRAIN_END c s1)
  else channelFail c (windowClose (2 + c) (unitEnd (2 + c) (s.setFld F.CH_STATUS_STATE c 4)))

/-- CHANNEL_PHY_LOCK_LOSS (R415): in RUN. -/
def channelPhyLoss (c : Nat) (s : State) : State :=
  if 32 ≤ c then s else runFail c s

/-- ACTIVE_MODE of every channel (R404). -/
def setDramModes (s : State) : State :=
  (List.range 32).foldl (fun s c =>
    let m := s.fld F.CH_CFG_MODE c
    s.setFld F.CH_STATUS_ACTIVE_MODE c (if m = 1 then 1 else if m = 2 then 2 else if s.fld F.DIE_STATUS_ENABLED 0 = 15 then 2 else 1)) s

end Sys2Proof.Machine
end

