-- ==== Sys2Proof/Machine/Threads.lean ====
section
/-! DEFINITION. Management engine threads: events, shares, channels, the supervisor queue, control and debugging
(12_management_engine.md). -/

namespace Sys2Proof.Machine

/-- Replace the management-engine part. -/
def State.withMe (s : State) (m : MeSt) : State := { s with me := m }

/-- One mc is two hub core cycles (01 Table 1.2). -/
def State.mc (s : State) : Nat := s.cycle / 2

/-- A general register of thread `t`; g0 reads 0 (13 R334). -/
def gpr (t r : Nat) (s : State) : Nat := if r = 0 then 0 else tget 0 s.me.gpr (t * 32 + r)

/-- Write a general register; a write of g0 is discarded. -/
def setGpr (t r v : Nat) (s : State) : State :=
  if r = 0 then s else s.withMe { s.me with gpr := tset 0 s.me.gpr (t * 32 + r) (v % 2 ^ 64) }

/-- The program counter of thread `t`. -/
def pcOf (t : Nat) (s : State) : Nat := tget 0 s.me.pc t

/-- Set the program counter of thread `t`. -/
def setPc (t v : Nat) (s : State) : State := s.withMe { s.me with pc := tset 0 s.me.pc t (v % 2 ^ 64) }

/-- The state of thread `t` (Table 12.1). -/
def threadState (t : Nat) (s : State) : Nat := s.fld F.THREAD_STATUS_STATE t

/-- The issue of a thread that leaves RUN ends: no instruction begun, no word ahead, no HALT to come. -/
def MeSt.atRest (m : MeSt) (t : Nat) : MeSt :=
  { m with ahead := tset 0 m.ahead t 0, held := tset 0 m.held t 0, haltReq := tset false m.haltReq t false }

/-- A thread enters a state; DBG_STATUS follows (R325). -/
def setThreadState (t v : Nat) (s : State) : State :=
  let s1 := s.setFld F.THREAD_STATUS_STATE t v
  let s2 := s1.setFld F.DBG_STATUS 0 (setBit (s1.fld F.DBG_STATUS 0) t (v == 3))
  if v = 1 then s2 else s2.withMe (s2.me.atRest t)

/-- The mc at which core `c` next issues (R304): it may stand ahead of the device's, since a command takes no time of its own. -/
def coreMc (c : Nat) (s : State) : Nat := max s.mc (tget 0 s.me.issueMc c)

/-- The wait mask of a thread. -/
def waitMask (t : Nat) (s : State) : Nat := s.fld F.WAIT_MASK_LO t + s.fld F.WAIT_MASK_HI t * 2 ^ 32

/-! ### Supervisor queue -/

/-- A push to the supervisor queue (R320): TYPE, THREAD, CHANNEL, DETAIL. -/
def pushNote (ty t ch detail : Nat) (s : State) : State :=
  let s1 := raiseEvent 0 0 s
  if 64 ≤ s.me.notes.length then raiseSrc 35 (s1.bump F.SUP_NOTE_LOST 0)
  else s1.withMe { s1.me with notes := s1.me.notes ++ [ty * 2 ^ 28 + t % 32 * 2 ^ 23 + ch % 256 * 2 ^ 8 + detail % 256] }

/-- SUP_NOTE_READ (R320): a privileged read pops the queue, an observer read does not. -/
def supNoteRead (q : Requester) (s : State) : State :=
  let s1 := setOut q (s.me.notes.headD 0) s
  if privileged q 6 s then s1.withMe { s1.me with notes := s1.me.notes.drop 1 } else s1

/-- THREAD_FAULT (R319, R321): the thread enters FAULT with its cause; the supervisor is told, or the fault unit of the supervisor's own. -/
def threadFault (t cause : Nat) (s : State) : State :=
  let s1 := setThreadState t 4 (s.setFld F.THREAD_STATUS_CAUSE t cause)
  let s2 := pmcThread t 30 1 (pmcThread t 28 1 s1)
  if t = 0 then raiseFault 17 4 cause s2
  else raiseFault 16 4 t (raiseSrc 32 (pushNote 1 t 0 cause s2))

/-! ### Shares (R313) -/

/-- The thread may hold one message slot more. -/
def msgShare (t : Nat) (s : State) : Bool :=
  let h := s.fld F.HELD_MSG t
  decide (h < s.fld F.SHARE_MSG_MIN t) ||
  (s.fld F.SHARE_MSG_DYNAMIC t == 1 && decide (h < s.fld F.SHARE_MSG_CAP t) && decide (0 < s.fld F.POOL_FREE_MSG 0))

/-- The thread may hold one scratch buffer more. -/
def bufShare (t : Nat) (s : State) : Bool :=
  let h := s.fld F.HELD_BUF t
  decide (h < s.fld F.SHARE_BUF_MIN t) ||
  (s.fld F.SHARE_BUF_DYNAMIC t == 1 && decide (h < s.fld F.SHARE_BUF_CAP t) && decide (0 < s.fld F.POOL_FREE_BUF 0))

/-- A thread takes a message slot: from its reserve, or from the pool beyond MIN. -/
def takeMsg (t : Nat) (s : State) : State :=
  let h := s.fld F.HELD_MSG t
  let s1 := s.setFld F.HELD_MSG t (h + 1)
  if h < s.fld F.SHARE_MSG_MIN t then s1 else s1.lower F.POOL_FREE_MSG 0 1

/-- A message slot returns to its share. -/
def returnMsg (t : Nat) (s : State) : State :=
  let h := s.fld F.HELD_MSG t
  let s1 := s.setFld F.HELD_MSG t (h - 1)
  if h ≤ s.fld F.SHARE_MSG_MIN t then s1 else s1.addSat F.POOL_FREE_MSG 0 1

/-- A thread takes scratch buffer `b`. -/
def takeBuf (t b : Nat) (s : State) : State :=
  let h := s.fld F.HELD_BUF t
  let s1 := s.setFld F.HELD_BUF t (h + 1)
  let s2 := if h < s.fld F.SHARE_BUF_MIN t then s1 else s1.lower F.POOL_FREE_BUF 0 1
  s2.withMe { s2.me with bufHolder := tset none s2.me.bufHolder b (some t) }

/-- Scratch buffer `b` returns from thread `t`. -/
def returnBuf (t b : Nat) (s : State) : State :=
  let h := s.fld F.HELD_BUF t
  let s1 := s.setFld F.HELD_BUF t (h - 1)
  let s2 := if h ≤ s.fld F.SHARE_BUF_MIN t then s1 else s1.addSat F.POOL_FREE_BUF 0 1
  s2.withMe { s2.me with bufHolder := tset none s2.me.bufHolder b none }

/-! ### Channels -/

/-- A channel. -/
def chanAt (ch : Nat) (s : State) : Chan := tget {} s.me.chans ch

/-- The number of staged words: the highest staged word plus 1. -/
def stagedOf (c : Chan) : Nat := c.staging.foldl (fun n e => max n (e.1 + 1)) 0

/-- Put a channel; CHAN_STATUS shows it. `staged`: the highest staged word plus 1. -/
def putChan (ch : Nat) (c : Chan) (staged : Nat) (s : State) : State :=
  let s1 := s.setFlds [(F.CHAN_STATUS_STAGING_HELD, ch, if c.holder.isSome then 1 else 0), (F.CHAN_STATUS_STAGED, ch, staged),
    (F.CHAN_STATUS_QUEUED, ch, c.queue.length)]
  s1.withMe { s1.me with chans := tset {} s1.me.chans ch c }

/-- The staged words of a channel are discarded, with CHANNEL_ABANDONED and the count of the words (R323, R326). -/
def abandonStaging (t ch : Nat) (s : State) : State :=
  let c := chanAt ch s
  let n := (List.range 16).countP (fun w => c.written.testBit w)
  raiseSrc 34 (pushNote 2 t ch n (putChan ch { c with staging := [], written := 0, holder := none } 0 s))

/-- What STOP releases (R323): staged words and scratch buffers; committed messages stay queued. -/
def releaseThread (t : Nat) (s : State) : State :=
  let chs := (s.me.chans.filter (fun e => e.2.holder == some t)).map (fun e => e.1)
  let s1 := chs.foldl (fun s ch => abandonStaging t ch s) s
  let bufs := (s1.me.bufHolder.filter (fun e => e.2 == some t)).map (fun e => e.1)
  let s2 := bufs.foldl (fun s b => returnBuf t b s) s1
  s2.withMe { s2.me with devr := tset none s2.me.devr t none }

/-- Condition events that hold for a thread (R308, Table 12.2): INTERRUPT, RX513 and the channels it reads. -/
def conditionEvents (t : Nat) (s : State) : Nat :=
  let core := t / 8
  let irq := requestLine core s && (s.fld F.CORE_CFG_IRQ_MASK core == 0 || coreAsleep core s)
  let rx := s.fld F.RX513_HEAD 0 != s.fld F.RX513_TAIL 0
  let v := setBit (setBit 0 2 irq) 4 rx
  s.me.chans.foldl (fun v e =>
    if e.2.queue.isEmpty = false ∧ s.fld F.CHAN_CFG0_ENABLE e.1 = 1 ∧ s.fld F.CHAN_CFG0_READER e.1 = t then
      setBit v (s.fld F.CHAN_CFG1_RD_EVENT e.1) true else v) v

/-- The mask a WFE acts with: the supervisor's always includes bit 0 (R308). -/
def effectiveMask (t mask : Nat) : Nat := if t = 0 then mask ||| 1 else mask

/-- The events a WFE of thread `t` with this mask finds (R307). -/
def matchedEvents (t mask : Nat) (s : State) : Nat := (tget 0 s.events t ||| conditionEvents t s) &&& effectiveMask t mask

/-- Clear pending events of a thread. -/
def clearEvents (t m : Nat) (s : State) : State :=
  let v := tget 0 s.events t
  { s with events := tset 0 s.events t (v - (v &&& m)) }

/-! ### Thread control (R323) -/

/-- A thread starts: registers, pending events and timer clear, the PC takes ENTRY, and it enters RUN. -/
def startThread (t : Nat) (s : State) : State :=
  let m := { s.me with
    gpr := s.me.gpr.filter (fun e => e.1 / 32 != t)
    timer := tset none s.me.timer t none
    bpPass := tset false s.me.bpPass t false
    lastIssue := tset 0 s.me.lastIssue t (coreMc (t / 8) s)
    pc := tset 0 s.me.pc t (s.fld F.ENTRY t) }
  setThreadState t 1 { s with me := m, events := tset 0 s.events t 0 }

/-- THREAD_START (R323): from OFF or FAULT; a thread in FAULT first releases what STOP releases. Thread 0 is not started so. -/
def threadStart (q : Requester) (t : Nat) (s : State) : State :=
  if 32 ≤ t then s
  else gated q (regOffset .THREAD_CTRL t) (fun s =>
    if t = 0 then s
    else match threadState t s with
    | 0 => startThread t s
    | 4 => startThread t (releaseThread t s)
    | _ => s) s

/-- THREAD_STOP (R323). -/
def threadStop (q : Requester) (t : Nat) (s : State) : State :=
  if 32 ≤ t then s
  else gated q (regOffset .THREAD_CTRL t) (fun s => if t = 0 ∨ threadState t s = 0 then s else setThreadState t 0 (releaseThread t s)) s

/-- CHAN_CFG_WRITE (R317): WRITER and READER of an enabled channel change. -/
def chanCfgWrite (q : Requester) (ch writer reader : Nat) (s : State) : State :=
  if 256 ≤ ch then s
  else gated q (regOffset .CHAN_CFG0 ch) (fun s =>
    if s.fld F.CHAN_CFG0_ENABLE ch = 1 then s.setFlds [(F.CHAN_CFG0_WRITER, ch, writer), (F.CHAN_CFG0_READER, ch, reader)] else s) s

/-! ### The all-quiet detector (R324) -/

/-- An external event of Table 12.2 is armed for thread `t`. -/
def armed (t bit : Nat) (s : State) : Bool :=
  match bit with
  | 1 => (tget none s.me.timer t).isSome
  | 2 => allSources.any (fun n => (s.fld F.SRC_CFG_ENABLE n).testBit (t / 8))
  | 3 => true
  | 4 => s.fld F.LDR_STATUS_STATE 0 == 8
  | 5 => s.fld F.TX513_HEAD 0 != s.fld F.TX513_TAIL 0
  | _ => false

/-- The condition of the detector. -/
def allQuiet (s : State) : Bool :=
  (List.range 32).all (fun t => threadState t s != 1 && threadState t s != 3) &&
  (List.range 32).any (fun t => threadState t s == 2) &&
  (List.range 32).all (fun t => threadState t s != 2 ||
    (List.range 6).all (fun b => !((waitMask t s).testBit b && armed t b s)))

/-- DEADLOCK_DETECT (R324): the condition has held for 32 mc; it acts again only after some thread has issued. -/
def deadlockDetect (s : State) : State :=
  if s.me.quietActed = true ∨ allQuiet s = false then s
  else
    let s1 := raiseFault 18 4 0 ((raiseSrc 33 (pushNote 3 0 0 0 s)).bump F.DEADLOCKS 0)
    s1.withMe { s1.me with quietActed := true }

/-! ### Debugging (R325, R326) -/

/-- The unlocked JTAG debugger makes the write. -/
def debugger (q : Requester) (s : State) : Bool := q == .jtag && s.fld F.JTAG_STATUS_UNLOCKED 0 == 1 && !s.terminal

/-- A write of DBG_CMD: from any other requester it is discarded, an observer's as a violation. -/
def debugWrite (q : Requester) (act : State → State) (s : State) : State :=
  if debugger q s then act s
  else if s.terminal then s
  else if privileged q 6 s then s
  else privViolation q true (regOffset .DBG_CMD 0) s

/-- A thread enters HALT from RUN or WAIT. -/
def haltThread (t : Nat) (s : State) : State :=
  let s1 := s.withMe { s.me with haltFrom := tset 0 s.me.haltFrom t (threadState t s) }
  setThreadState t 3 s1

/-- A HALT to come of a thread at an instruction boundary, or in WAIT, is carried out. -/
def haltDue (t : Nat) (s : State) : State := if tget false s.me.haltReq t then haltThread t s else s

/-- The thread halts at its next instruction boundary (R325): at once, unless it has an instruction begun. -/
def haltAtBoundary (t : Nat) (s : State) : State :=
  if threadState t s = 2 then haltThread t s
  else if threadState t s ≠ 1 then s
  else if tget 0 s.me.held t = 0 then haltThread t s
  else s.withMe { s.me with haltReq := tset false s.me.haltReq t true }

/-- DBG_HALT. -/
def dbgHalt (q : Requester) (t : Nat) (s : State) : State :=
  if 32 ≤ t then s else debugWrite q (haltAtBoundary t) s

/-- DBG_RESUME: the thread returns to the state it would otherwise hold, and passes a breakpoint at its PC. -/
def dbgResume (q : Requester) (t : Nat) (s : State) : State :=
  if 32 ≤ t then s
  else debugWrite q (fun s =>
    if threadState t s = 3 then
      setThreadState t (tget 0 s.me.haltFrom t) (s.withMe { s.me with bpPass := tset false s.me.bpPass t true })
    else s) s

/-- DBG_ABORT (R326). -/
def dbgAbort (q : Requester) (t : Nat) (s : State) : State :=
  if 32 ≤ t then s
  else debugWrite q (fun s =>
    if t = 0 ∨ (threadState t s ≠ 3 ∧ threadState t s ≠ 4) then s.setFld F.DBG_RESULT 0 1
    else (setThreadState t 0 (releaseThread t s)).setFld F.DBG_RESULT 0 0) s

/-- A breakpoint of the thread's core stands at its PC (R325). -/
def atBreakpoint (t : Nat) (s : State) : Bool :=
  (List.range 8).any (fun b =>
    let i := t / 8 * 8 + b
    s.fld F.BP_CTRL_EN i == 1 && (s.fld F.BP_CTRL_THREADS i).testBit (t % 8) && s.fld F.BP_ADDR i == pcOf t s)

/-! ### Timers and port 513 -/

/-- THREAD_TIMER_EXPIRY (R310): TIMER becomes pending whatever the thread's state. -/
def timerExpiry (t : Nat) (s : State) : State :=
  match tget none s.me.timer t with
  | none => s
  | some _ => raiseEvent t 1 (s.withMe { s.me with timer := tset none s.me.timer t none })

/-- The thread owns a port 513 ring and writes its index (R328, R329): any other requester's write is discarded. -/
def ownsRing (q : Requester) (owner : Nat) : Bool :=
  match q with
  | .thread t => t == owner
  | _ => false

/-- RX513_TAIL_WRITE (R328). -/
def rx513TailWrite (q : Requester) (v : Nat) (s : State) : State :=
  gated q (regOffset .RX513_TAIL 0) (fun s => if ownsRing q (s.fld F.PORT513_CFG_RX_OWNER 0) then s.setFld F.RX513_TAIL 0 v else s) s

/-- TX513_HEAD_WRITE (R329). -/
def tx513HeadWrite (q : Requester) (v : Nat) (s : State) : State :=
  gated q (regOffset .TX513_HEAD 0) (fun s => if ownsRing q (s.fld F.PORT513_CFG_TX_OWNER 0) then s.setFld F.TX513_HEAD 0 v else s) s

end Sys2Proof.Machine
end

