-- ==== Sys2Proof/Machine/MeIsa.lean ====
section
/-! DEFINITION. The Lomet Control ISA: what each ME instruction does (13_me_instruction_set.md R333 to R346), the routine words behind
it (R347 to R352), machine checks and precise sampling. -/

namespace Sys2Proof.Machine

/-! ### Encoding (R335, R336) -/

/-- An instruction word of formats R, I and C: opcode, the two register fields and the low half. -/
def word3 (op a b low : Nat) : Nat := op % 64 * 2 ^ 26 + a % 32 * 2 ^ 21 + b % 32 * 2 ^ 16 + low % 65536

/-- A bit as a number. -/
def bit (b : Bool) : Nat := if b then 1 else 0

/-- The instruction word of an operation. -/
def encodeMe : MeOp → Nat
  | .alu rd ra rb func => word3 0x00 rd ra (rb % 32 * 2048 + func % 2048)
  | .aluImm k rd ra imm => word3 (0x01 + k % 4) rd ra imm
  | .shiftImm k rd ra imm => word3 (0x05 + k % 3) rd ra imm
  | .lui rd ra imm => word3 0x08 rd ra imm
  | .orsh rd ra imm => word3 0x09 rd ra imm
  | .slti k rd ra imm => word3 (0x0A + k % 2) rd ra imm
  | .load k rd ra imm => word3 (0x10 + k % 5) rd ra imm
  | .store k rs ra imm => word3 (0x18 + k % 4) rs ra imm
  | .branch k ra rb off => word3 (0x20 + k % 6) ra rb off
  | .jmp off => 0x28 * 2 ^ 26 + off % 2 ^ 26
  | .call off => 0x29 * 2 ^ 26 + off % 2 ^ 26
  | .jr rd ra imm => word3 0x2A rd ra imm
  | .amo func rd ra rb => word3 0x30 rd ra (rb % 32 * 2048 + func % 2048)
  | .send rd rs pool close word ch => word3 0x34 rd rs (bit pool * 32768 + bit close * 16384 + word % 16 * 1024 + ch % 256)
  | .recv rd rs pool close word ch => word3 0x35 rd rs (bit pool * 32768 + bit close * 16384 + word % 16 * 1024 + ch % 256)
  | .wfe rd ra imm => word3 0x38 rd ra imm
  | .timer rd ra imm => word3 0x39 rd ra imm
  | .sample rd ra imm => word3 0x3A rd ra imm
  | .devr rd ra imm => word3 0x3C rd ra imm
  | .devw rd ra imm => word3 0x3D rd ra imm
  | .devsync => 0x3E * 2 ^ 26

/-- Every field of an operation fits its place in the word. -/
def meOpInRange : MeOp → Bool
  | .alu rd ra rb func => decide (rd < 32) && decide (ra < 32) && decide (rb < 32) && decide (func < 2048)
  | .aluImm k rd ra imm => decide (k < 4) && decide (rd < 32) && decide (ra < 32) && decide (imm < 65536)
  | .shiftImm k rd ra imm => decide (k < 3) && decide (rd < 32) && decide (ra < 32) && decide (imm < 65536)
  | .slti k rd ra imm => decide (k < 2) && decide (rd < 32) && decide (ra < 32) && decide (imm < 65536)
  | .load k rd ra imm => decide (k < 5) && decide (rd < 32) && decide (ra < 32) && decide (imm < 65536)
  | .store k rd ra imm => decide (k < 4) && decide (rd < 32) && decide (ra < 32) && decide (imm < 65536)
  | .branch k ra rb off => decide (k < 6) && decide (ra < 32) && decide (rb < 32) && decide (off < 65536)
  | .jmp off | .call off => decide (off < 2 ^ 26)
  | .amo func rd ra rb => decide (func < 2048) && decide (rd < 32) && decide (ra < 32) && decide (rb < 32)
  | .send rd rs _ _ word ch | .recv rd rs _ _ word ch => decide (rd < 32) && decide (rs < 32) && decide (word < 16) && decide (ch < 256)
  | .lui rd ra imm | .orsh rd ra imm | .jr rd ra imm | .wfe rd ra imm | .timer rd ra imm | .sample rd ra imm | .devr rd ra imm
  | .devw rd ra imm => decide (rd < 32) && decide (ra < 32) && decide (imm < 65536)
  | .devsync => true

/-- The FUNC codes of Table 13.3 that an instruction may name. -/
def aluFuncOk (func rb : Nat) : Bool :=
  decide (func ≤ 0x0D) || ((func == 0x10 || func == 0x11) && rb == 0)

/-- A word is a defined instruction: opcode, FUNC and the field rules of Table 13.2 (R336). -/
def legalWord (w : Nat) : Bool :=
  let op := w / 2 ^ 26
  let f1 := bitsOf w 21 5
  let f2 := bitsOf w 16 5
  let low := w % 65536
  let rb := bitsOf w 11 5
  let func := w % 2048
  if op = 0x00 then aluFuncOk func rb
  else if 0x05 ≤ op ∧ op ≤ 0x07 then low / 64 == 0
  else if op = 0x08 then f2 == 0
  else if op ≤ 0x0B then true
  else if 0x10 ≤ op ∧ op ≤ 0x14 then true
  else if 0x18 ≤ op ∧ op ≤ 0x1B then true
  else if 0x20 ≤ op ∧ op ≤ 0x25 then true
  else if 0x28 ≤ op ∧ op ≤ 0x2A then true
  else if op = 0x30 then decide (func ≤ 4)
  else if op = 0x34 ∨ op = 0x35 then
    bitsOf low 8 2 == 0 && (bitsOf low 15 1 == 0 || (bitsOf low 14 1 == 1 && bitsOf low 10 4 == 0 && low % 256 == 0))
  else if op = 0x38 then low == 0
  else if op = 0x39 then f1 == 0 && low == 0
  else if op = 0x3A then f2 == 0 && decide (low ≤ 13)
  else if op = 0x3C ∨ op = 0x3D then true
  else if op = 0x3E then w % 2 ^ 26 == 0
  else false

/-- The class of an opcode (Table 13.2). -/
def classOf (op : Nat) : Nat :=
  if op ≤ 0x0B then 1 else if op < 0x20 then 2 else if op < 0x30 then 3 else if op < 0x34 then 4
  else if op < 0x38 then 6 else if op < 0x3C then 7 else 5

/-! ### Arithmetic (R337) -/

/-- Two's complement value of 64 bits. -/
def signedD (v : Nat) : Int := if v < 2 ^ 63 then Int.ofNat v else Int.ofNat v - Int.ofNat (2 ^ 64)

/-- Sign-extend a field of `w` bits to 64 bits. -/
def sext (w v : Nat) : Nat := let x := v % 2 ^ w; if x < 2 ^ (w - 1) then x else 2 ^ 64 - 2 ^ w + x

/-- Leading zeros of 64 bits, counted from bit `n - 1` down. -/
def clzFrom (v : Nat) : Nat → Nat
  | 0 => 64
  | n + 1 => if v.testBit n then 63 - n else clzFrom v n

/-- Ones among the lowest `n` bits. -/
def onesIn (v : Nat) : Nat → Nat
  | 0 => 0
  | n + 1 => (if v.testBit n then 1 else 0) + onesIn v n

/-- An arithmetic right shift of 64 bits. -/
def sra (a n : Nat) : Nat := (signedD a / Int.ofNat (2 ^ n) % Int.ofNat (2 ^ 64)).toNat

/-- The functions of Table 13.3. -/
def aluFn (func a b : Nat) : Nat :=
  let m := 2 ^ 64
  match func with
  | 0x000 => (a + b) % m
  | 0x001 => (a + (m - b % m)) % m
  | 0x002 => a &&& b
  | 0x003 => a ||| b
  | 0x004 => a ^^^ b
  | 0x005 => a * 2 ^ (b % 64) % m
  | 0x006 => a / 2 ^ (b % 64)
  | 0x007 => sra a (b % 64)
  | 0x008 => a * b % m
  | 0x009 => a * b / m
  | 0x00A => if b = 0 then m - 1 else a / b
  | 0x00B => if b = 0 then a else a % b
  | 0x00C => if signedD a < signedD b then 1 else 0
  | 0x00D => if a < b then 1 else 0
  | 0x010 => clzFrom a 64
  | 0x011 => onesIn a 64
  | 0x012 => a
  | _ => 0

/-! ### Memory (R311, R312, R338) -/

/-- An SRAM page run holds the address. -/
def inPages (base pages a : Nat) : Bool :=
  decide (a < 0x180000) && decide (base ≤ a / 4096) && decide (a / 4096 < base + pages)

/-- DRAM_WIN of a thread holds the address. -/
def inDramWin (t a : Nat) (s : State) : Bool :=
  decide (0x40000000 ≤ a) && decide (a < 0x80000000) &&
  (let m := (a - 0x40000000) / 2 ^ 20; decide (s.fld F.DRAM_WIN_BASE t ≤ m) && decide (m < s.fld F.DRAM_WIN_BASE t + s.fld F.DRAM_WIN_MIB t))

/-- The address is a scratch buffer that the thread holds. -/
def inHeldBuf (t a : Nat) (s : State) : Bool :=
  decide (0x200000 ≤ a) && decide (a < 0x400000) && tget none s.me.bufHolder ((a - 0x200000) / 2048) == some t

/-- The address is mapped and no message store (Table 12.3, R338). -/
def mapped (a : Nat) : Bool :=
  decide (a < 0x180000) || (decide (0x200000 ≤ a) && decide (a < 0x400000)) ||
  (decide (0x40000000 ≤ a) && decide (a < 0x80000000)) || (decide (0x100000000 ≤ a) && decide (a < 0x100000000 + 2 ^ 34))

/-- The thread reaches all of HBM3 (R311). -/
def reachesHbm (t a : Nat) (s : State) : Bool :=
  decide (0x100000000 ≤ a) && decide (a < 0x100000000 + 2 ^ 34) && (t == 0 || s.fld F.ACCESS_MASK_DRAM_ALL t == 1)

/-- A load by thread `t` may reach the address. -/
def mayLoad (t a : Nat) (s : State) : Bool :=
  if t = 0 then mapped a
  else inPages (s.fld F.WIN0_BASE t) (s.fld F.WIN0_PAGES t) a || inPages (s.fld F.WIN1_BASE t) (s.fld F.WIN1_PAGES t) a ||
    inDramWin t a s || inHeldBuf t a s || reachesHbm t a s

/-- A store by thread `t` may reach the address. -/
def mayStore (t a : Nat) (s : State) : Bool :=
  if t = 0 then mapped a
  else inPages (s.fld F.WIN1_BASE t) (s.fld F.WIN1_PAGES t) a || inDramWin t a s || inHeldBuf t a s || reachesHbm t a s

/-- An AMO of thread `t` may reach the address (R340): not the HBM3 view. -/
def mayAmo (t a : Nat) (s : State) : Bool := mayStore t a s && decide (a < 0x100000000)

/-- A fetch by thread `t` may reach the address (R312). -/
def mayFetch (t a : Nat) (s : State) : Bool :=
  if t = 0 then mapped a else inPages (s.fld F.WIN0_BASE t) (s.fld F.WIN0_PAGES t) a

/-- The HBM3 address of an ME address at or above the DRAM region. -/
def hbmOf (a : Nat) : Nat := if a < 0x80000000 then a - 0x40000000 else a - 0x100000000

/-- Read bytes in the ME address space. -/
def meRead (a n : Nat) (s : State) : List Byte :=
  if a < 0x40000000 then readBytes s.sram a n else hbmRead s (hbmOf a) n

/-- Write bytes in the ME address space; a DRAM access joins its channel's queue at class 2. -/
def meWrite (a : Nat) (bs : List Byte) (s : State) : State :=
  if a < 0x40000000 then { s with sram := writeBytes s.sram a bs } else dramWrite 2 (hbmOf a) bs s

/-- A DRAM read joins its channel's queue, and counts as a DRAM access of the thread. -/
def noteRead (t a n : Nat) (s : State) : State :=
  if a < 0x40000000 then s else pmcThread t 16 1 (dramRequest 2 false (hbmOf a) n s)

/-! ### Routines (R347 to R352) -/

/-- A word of a microcode store of core `c`: 0 dispatch, 1 short, 2 nano, 3 horizontal. -/
def ucWord (c store a : Nat) (s : State) : Nat := tget 0 s.me.uc ((c * 4 + store) * 16384 + a)

/-- The dispatch entry of an instruction word (R347). -/
def dispatchIndex (w : Nat) : Nat :=
  let op := w / 2 ^ 26
  if op = 0 then 64 + w % 64 else if op = 0x30 then 128 + w % 8 else op

/-- What a routine carries from word to word: T0 to T3, the result and code of the last UNIT. -/
structure RoutineSt where
  temps : List Nat
  unit : Nat := 0
deriving DecidableEq, Repr

/-- A source of Table 13.6. -/
def routineSrc (t w const code : Nat) (r : RoutineSt) (s : State) : Nat :=
  match code with
  | 1 => gpr t (bitsOf w 16 5) s
  | 2 => gpr t (bitsOf w 11 5) s
  | 3 => gpr t (bitsOf w 21 5) s
  | 4 => sext 16 w
  | 5 => w % 65536
  | 6 => 4 * sext 16 w % 2 ^ 64
  | 7 => 4 * sext 26 w % 2 ^ 64
  | 8 => pcOf t s
  | 9 => (pcOf t s + 4) % 2 ^ 64
  | 14 => sext 16 const
  | 15 => const * 2 ^ 16
  | 16 => r.unit
  | n => if 10 ≤ n ∧ n ≤ 13 then r.temps.getD (n - 10) 0 else 0

/-- The result of a lane and the temporaries it leaves. -/
def routineLane (t w lane : Nat) (r : RoutineSt) (s : State) : Nat × List Nat → Nat × List Nat := fun acc =>
  let op := bitsOf lane 46 6
  let const := bitsOf lane 24 16
  let v := aluFn op (routineSrc t w const (bitsOf lane 58 6) r s) (routineSrc t w const (bitsOf lane 52 6) r s)
  let dest := bitsOf lane 40 6
  if op = 0x3F then (0, acc.2) else (v, if 5 ≤ dest ∧ dest ≤ 8 then acc.2.set (dest - 5) v else acc.2)

/-- The UNIT of a word: a LOAD reads memory; what the other units do is the instruction's effect. -/
def routineUnit (t w ctl const : Nat) (r : RoutineSt) (s : State) : Nat :=
  if bitsOf ctl 56 4 = 1 then
    let n := 2 ^ bitsOf ctl 54 2
    let v := leNat (meRead (routineSrc t w const (bitsOf ctl 47 6) r s) n s)
    if bitsOf ctl 53 1 = 1 then sext (8 * n) v else v
  else 0

/-- COND of Table 13.6, on this word's results. -/
def routineCond (cond lane0 unit : Nat) : Bool :=
  match cond with
  | 0 => lane0 == 0
  | 1 => lane0 != 0
  | 2 => lane0.testBit 63
  | 3 => !lane0.testBit 63
  | 4 => unit == 0
  | 5 => unit != 0
  | _ => false

/-- One word of lanes and CTL acts. -/
def routineWord (t w : Nat) (lanes : List Nat) (ctl cond : Nat) (r : RoutineSt) (s : State) : RoutineSt × Bool :=
  let l0 := routineLane t w (lanes.getD 0 0) r s (0, r.temps)
  let l1 := match lanes with | _ :: b :: _ => (routineLane t w b r s (0, l0.2)).2 | _ => l0.2
  let u := routineUnit t w ctl (bitsOf (lanes.getD 0 0) 24 16) r s
  let dest := bitsOf ctl 35 6
  let temps := if 5 ≤ dest ∧ dest ≤ 8 ∧ bitsOf ctl 56 4 = 1 then l1.set (dest - 5) u else l1
  ({ temps := temps, unit := u }, routineCond cond l0.1 u)

/-- Run a routine on the two-level path from a short-store address, to its END word. -/
def runTwoLevel (t w : Nat) (s : State) : Nat → Nat → RoutineSt → RoutineSt
  | 0, _, r => r
  | n + 1, a, r =>
    let m := ucWord (t / 8) 1 a s
    let nano := ucWord (t / 8) 2 (bitsOf m 11 11) s
    let x := routineWord t w [bitsOf nano 124 64, bitsOf nano 60 64] (nano % 2 ^ 60) (bitsOf nano 188 4) r s
    let target := a / 2048 * 2048 + m % 2048
    match bitsOf m 22 2 with
    | 0 => runTwoLevel t w s n (a + 1) x.1
    | 1 => runTwoLevel t w s n target x.1
    | 2 => runTwoLevel t w s n (if x.2 then target else a + 1) x.1
    | _ => x.1

/-- Run a routine on the fall-back path from a horizontal address, to its END word. -/
def runHorizontal (t w : Nat) (s : State) : Nat → Nat → RoutineSt → RoutineSt
  | 0, _, r => r
  | n + 1, a, r =>
    let h := ucWord (t / 8) 3 a s
    let x := routineWord t w [bitsOf h 80 64] (bitsOf h 20 60) (bitsOf h 144 4) r s
    let target := bitsOf h 148 10
    match bitsOf h 158 2 with
    | 0 => runHorizontal t w s n (a + 1) x.1
    | 1 => runHorizontal t w s n target x.1
    | 2 => runHorizontal t w s n (if x.2 then target else a + 1) x.1
    | _ => x.1

/-- The temporaries that the first `n` words of the routine of an instruction word leave, each written as its word acts (R348), where the stores
hold a routine; the words of an instruction that waits to retire have acted. -/
def routineTemps (t w n : Nat) (s : State) : State :=
  let c := t / 8
  let e := ucWord c 0 (dispatchIndex w) s
  if tget 0 s.me.held t ≠ 0 ∨ e.testBit 26 = false then s
  else
    let r0 : RoutineSt := { temps := (List.range 4).map (fun i => tget 0 s.me.temps (t * 4 + i)) }
    let r := if s.fld F.UC_STATUS_MODE c = 0 then runTwoLevel t w s n (bitsOf e 10 14) r0 else runHorizontal t w s n (e % 1024) r0
    s.withMe { s.me with temps := (r.temps.zipIdx).foldl (fun m x => tset 0 m (t * 4 + x.2) x.1) s.me.temps }

/-! ### Machine checks (R354, R356) -/

/-- UC_MCHK and MCHK_COUNT of core `c` record an error that thread `t` met. -/
def recordMchk (c t store addr : Nat) (s : State) : State :=
  (s.setFlds [(F.UC_MCHK_STORE, c, store), (F.UC_MCHK_THREAD, c, t), (F.UC_MCHK_ADDR, c, addr)]).bump F.MCHK_COUNT c

/-- A running command of a core ends with a result, and source 37 is raised. -/
def ucEnd (c result : Nat) (s : State) : State :=
  let s1 := s.setFlds [(F.UC_STATUS_BUSY, c, 0), (F.UC_RESULT, c, result)]
  raiseSrc 37 (s1.withMe { s1.me with ucCmd := tset 0 s1.me.ucCmd c 0 })

/-- The core enters fall-back with the MACHINE_CHECK note (R354). -/
def enterFallback (c t store addr : Nat) (s : State) : State :=
  let s1 := if s.fld F.UC_STATUS_MODE c = 0 then s.setFld F.UC_STATUS_MODE c 1 else s
  let s2 := raiseFault 19 4 c (raiseSrc 36 (recordMchk c t store addr (pushNote 4 t 0 store s1)))
  if tget 0 s2.me.ucCmd c = 2 then ucEnd c 3 s2 else s2

/-- MACHINE_CHECK (R354): the routine is abandoned, and the thread will execute the instruction again on the fall-back path. -/
def machineCheck (t store addr : Nat) (s : State) : State := pmcThread t 30 1 (pmcThread t 29 1 (enterFallback (t / 8) t store addr s))

/-- The routine of a thread is abandoned (R348): the thread stands at the boundary at which its instruction began, and a HALT to come is carried
out there (R357). -/
def abandoned (t : Nat) (s : State) : State := haltDue t (s.withMe { s.me with held := tset 0 s.me.held t 0 })

/-- The routines in progress on core `c` beside that of thread `t` are abandoned: of the threads that wait for an instruction to retire. -/
def abandonCore (c t : Nat) (s : State) : State :=
  (List.range 8).foldl (fun s k =>
    let u := c * 8 + k
    if u = t ∨ tget 0 s.me.held u = 0 then s
    else abandoned u (pmcThread u 30 1 (s.withMe { s.me with devr := tset none s.me.devr u none }))) s

/-- MICROCODE_HALT (R356): the core halts, its routines and a running RELOAD or SCRUB are abandoned. -/
def microHalt (t store addr : Nat) (s : State) : State :=
  let c := t / 8
  let s1 := (s.setFlds [(F.UC_STATUS_MODE, c, 2), (F.UC_STATUS_BUSY, c, 0)])
  let s2 := raiseFault 21 4 c (raiseSrc 38 (recordMchk c t store addr s1))
  abandonCore c t (pmcThread t 30 1 (s2.withMe { s2.me with ucCmd := tset 0 s2.me.ucCmd c 0 }))

/-! ### Effects -/

/-- What an instruction comes to: it retires, it meets a thread fault, or it does not retire yet. -/
inductive Eff where
  | retire (s : State)
  | fault (cause : Nat)
  | hold (s : State)
deriving DecidableEq, Repr

/-- The instruction has begun and waits: it issues no further word until it retires. -/
def holds (t op : Nat) (s : State) : Eff := .hold (s.withMe { s.me with held := tset 0 s.me.held t op })

/-- Retire with the next instruction's address. -/
def retireNext (t : Nat) (s : State) : Eff := .retire (setPc t (pcOf t s + 4) s)

/-- Write rd and go on. -/
def retireReg (t rd v : Nat) (s : State) : Eff := retireNext t (setGpr t rd v s)

/-- Jump to a target; BRANCH_TAKEN counts. -/
def retireJump (t target : Nat) (s : State) : Eff :=
  if target % 4 ≠ 0 then .fault 5 else .retire (setPc t target (pmcThread t 15 1 s))

/-- Register plus sign-extended immediate. -/
def effAddr (t ra imm : Nat) (s : State) : Nat := (gpr t ra s + sext 16 imm) % 2 ^ 64

/-- ADDI, ANDI, ORI, XORI. -/
def aluImmFn (k a imm : Nat) : Nat :=
  match k % 4 with
  | 0 => aluFn 0 a (sext 16 imm)
  | 1 => aluFn 2 a (imm % 65536)
  | 2 => aluFn 3 a (imm % 65536)
  | _ => aluFn 4 a (imm % 65536)

/-- Bytes of a load, and whether it is sign-extended: LD, LW, LWS, LH, LB. -/
def loadSize (k : Nat) : Nat × Bool :=
  match k % 5 with | 0 => (8, false) | 1 => (4, false) | 2 => (4, true) | 3 => (2, false) | _ => (1, false)

/-- LOAD (R338). -/
def effLoad (t k rd ra imm : Nat) (s : State) : Eff :=
  let a := effAddr t ra imm s
  let n := (loadSize k).1
  if a % n ≠ 0 then .fault 5
  else if mayLoad t a s = false then .fault 3
  else
    let v := leNat (meRead a n s)
    retireReg t rd (if (loadSize k).2 then sext 32 v else v) (noteRead t a n s)

/-- STORE (R338). -/
def effStore (t k rs ra imm : Nat) (s : State) : Eff :=
  let a := effAddr t ra imm s
  let n := 2 ^ (3 - k % 4)
  if a % n ≠ 0 then .fault 5
  else if mayStore t a s = false then .fault 4
  else
    let s1 := if a < 0x40000000 then s else pmcThread t 16 1 s
    retireNext t (meWrite a (toLe n (gpr t rs s)) s1)

/-- BEQ, BNE, BLT, BGE, BLTU, BGEU. -/
def branchTaken (k a b : Nat) : Bool :=
  match k % 6 with
  | 0 => a == b
  | 1 => a != b
  | 2 => decide (signedD a < signedD b)
  | 3 => decide (signedD b ≤ signedD a)
  | 4 => decide (a < b)
  | _ => decide (b ≤ a)

/-- What an AMO writes (R340); none where CAS does not write. -/
def amoNew (func old rb rd : Nat) : Option Nat :=
  match func with
  | 0 => some rb
  | 1 => if old = rd then some rb else none
  | 2 => some ((old + rb) % 2 ^ 64)
  | 3 => some (old &&& rb)
  | _ => some (old ||| rb)

/-- AMO (R340). -/
def effAmo (t func rd ra rb : Nat) (s : State) : Eff :=
  let a := gpr t ra s
  if a % 8 ≠ 0 then .fault 5
  else if mayAmo t a s = false then .fault 4
  else
    let old := leNat (meRead a 8 s)
    let s1 := noteRead t a 8 s
    let s2 := match amoNew func old (gpr t rb s) (gpr t rd s) with
      | some v => meWrite a (toLe 8 v) s1
      | none => s1
    retireReg t rd old s2

/-- SEND on a channel (R315, R317, R318, R344). -/
def effSend (t rd rs : Nat) (close : Bool) (word ch : Nat) (s : State) : Eff :=
  let c := chanAt ch s
  let isWriter := s.fld F.CHAN_CFG0_WRITER ch == t
  if s.fld F.CHAN_CFG0_ENABLE ch = 0 ∨ (isWriter = false ∧ c.holder ≠ some t) then .fault 6
  else if c.holder.isSome = true ∧ c.holder ≠ some t then retireReg t rd 3 s
  else
    let st := tset 0 c.staging word (gpr t rs s)
    let staged := max (s.fld F.CHAN_STATUS_STAGED ch) (word + 1)
    let kept := putChan ch { c with staging := st, written := setBit c.written word true, holder := some t } staged s
    if close = false then retireReg t rd 0 kept
    else if s.fld F.CHAN_CFG0_DEPTH ch ≤ c.queue.length then retireReg t rd 1 (pmcThread t 24 1 kept)
    else if msgShare t s = false then retireReg t rd 2 (pmcThread t 25 1 (kept.bump F.SHARE_REFUSED 0))
    else
      let msg := (List.range (word + 1)).map (fun i => tget 0 st i)
      let s1 := takeMsg t (putChan ch { staging := [], holder := none, queue := c.queue ++ [(t, msg)] } 0 s)
      let s2 := raiseEvent (s.fld F.CHAN_CFG0_READER ch) (s.fld F.CHAN_CFG1_RD_EVENT ch) s1
      let s3 := if 224 ≤ ch ∧ s.fld F.CHAN_CFG0_READER ch = 2 then s2.withHif { s2.hif with mbxChan := s2.hif.mbxChan ++ [ch] } else s2
      retireReg t rd 0 s3

/-- RECV on a channel (R316, R318, R344): the word to rd, then the result to rs. -/
def effRecv (t rd rs : Nat) (close : Bool) (word ch : Nat) (s : State) : Eff :=
  let c := chanAt ch s
  if s.fld F.CHAN_CFG0_ENABLE ch = 0 ∨ s.fld F.CHAN_CFG0_READER ch ≠ t then .fault 6
  else match c.queue with
    | [] => retireReg t rs 4 (setGpr t rd 0 (pmcThread t 26 1 s))
    | (w, msg) :: rest =>
      let s1 := setGpr t rd (msg.getD word 0) s
      let s2 := if close then
          raiseEvent (s.fld F.CHAN_CFG0_WRITER ch) (s.fld F.CHAN_CFG1_WR_EVENT ch)
            (returnMsg w (putChan ch { c with queue := rest } (s.fld F.CHAN_STATUS_STAGED ch) s1))
        else s1
      retireReg t rs 0 s2

/-- RECV on the scratch pool (R313, R344): the lowest free buffer. -/
def effPoolRecv (t rd rs : Nat) (s : State) : Eff :=
  let refused := retireReg t rs 2 (setGpr t rd (Config.refusedBuffer s.dp.fresh).toNat
    (pmcThread t 25 1 ({ s with dp := { s.dp with fresh := s.dp.fresh + 1 } }.bump F.SHARE_REFUSED 0)))
  if bufShare t s = false then refused
  else match (List.range 1024).find? (fun b => (tget none s.me.bufHolder b).isNone) with
    | none => refused
    | some b => retireReg t rs 0 (setGpr t rd b (takeBuf t b s))

/-- SEND on the scratch pool (R313, R344). -/
def effPoolSend (t rd rs : Nat) (s : State) : Eff :=
  let b := gpr t rs s
  if b < 1024 ∧ tget none s.me.bufHolder b = some t then retireReg t rd 0 (returnBuf t b s) else .fault 7

/-- A WFE completes (R307): rd takes the matching bits, which stop being pending. -/
def wfeComplete (t rd m : Nat) (s : State) : State := setPc t (pcOf t s + 4) (setGpr t rd m (clearEvents t m s))

/-- WFE (R307). -/
def effWfe (t rd ra : Nat) (s : State) : Eff :=
  let mask := gpr t ra s
  let m := matchedEvents t mask s
  if m ≠ 0 then .retire (wfeComplete t rd m s)
  else
    let s1 := s.setFlds [(F.WAIT_MASK_LO, t, mask), (F.WAIT_MASK_HI, t, mask / 2 ^ 32)]
    let s2 := s1.withMe { s1.me with waitRd := tset 0 s1.me.waitRd t rd }
    .hold (pmcThread t 20 1 (setThreadState t 2 s2))

/-- TIMER (R310): a count of 0 stops the timer. -/
def effTimer (t ra : Nat) (s : State) : Eff :=
  let n := gpr t ra s % 2 ^ 40
  retireNext t (s.withMe { s.me with timer := tset none s.me.timer t (if n = 0 then none else some (s.mc + n)) })

/-- UC_STATUS of core `c` as a word. -/
def ucStatus (c : Nat) (s : State) : Nat :=
  s.fld F.UC_STATUS_GEN c * 2 ^ 24 + s.fld F.UC_STATUS_HORIZ_BAD c * 2 ^ 9 + s.fld F.UC_STATUS_BUSY c * 2 ^ 8 + s.fld F.UC_STATUS_MODE c

/-- The value SAMPLE writes (Table 13.4). -/
def sampleValue (t sel : Nat) (s : State) : Nat :=
  let c := t / 8
  if sel = 0 then s.cycle
  else if sel = 1 then s.workNs
  else if sel = 2 then t
  else if sel = 3 then s.mc
  else if sel ≤ 11 then s.fld F.PMC_LO (c * 8 + (sel - 4)) + s.fld F.PMC_HI (c * 8 + (sel - 4)) * 2 ^ 32
  else if sel = 12 then s.fld F.EPOCH_COUNT 0
  else ucStatus c s

/-- DEVR begins (R342, R343): it retires when its data returns. -/
def effDevr (t rd ra imm : Nat) (s : State) : Eff :=
  let a := effAddr t ra imm s
  if a % 4 ≠ 0 then .fault 5
  else if 0x4000000 ≤ a then .fault 3
  else holds t 0x3C (s.withMe { s.me with devr := tset none s.me.devr t (some (rd, a)) })

/-- DEVW (R342, R343): posted to the core's queue of 16, or waiting while it is full. -/
def effDevw (t rd ra imm : Nat) (s : State) : Eff :=
  let a := effAddr t ra imm s
  let q := tget [] s.me.devw (t / 8)
  if a % 4 ≠ 0 then .fault 5
  else if 0x4000000 ≤ a then .fault 4
  else if 16 ≤ q.length then holds t 0x3D s
  else retireNext t (s.withMe { s.me with devw := tset [] s.me.devw (t / 8) (q ++ [(t, a, gpr t rd s % 2 ^ 32)]) })

/-- DEVSYNC (R343): it retires once every earlier DEVW of the thread has taken effect. -/
def effDevsync (t : Nat) (s : State) : Eff :=
  if (tget [] s.me.devw (t / 8)).any (fun e => e.1 == t) then holds t 0x3E s else retireNext t s

/-- The effect of a legal instruction (Table 13.2). -/
def effOf (t : Nat) (op : MeOp) (s : State) : Eff :=
  match op with
  | .alu rd ra rb func => retireReg t rd (aluFn func (gpr t ra s) (gpr t rb s)) s
  | .aluImm k rd ra imm => retireReg t rd (aluImmFn k (gpr t ra s) imm) s
  | .shiftImm k rd ra imm => retireReg t rd (aluFn (5 + k % 3) (gpr t ra s) (imm % 64)) s
  | .lui rd _ imm => retireReg t rd (sext 16 imm * 2 ^ 16) s
  | .orsh rd ra imm => retireReg t rd (gpr t ra s * 2 ^ 16 % 2 ^ 64 ||| imm % 65536) s
  | .slti k rd ra imm => retireReg t rd (aluFn (0x0C + k % 2) (gpr t ra s) (sext 16 imm)) s
  | .load k rd ra imm => effLoad t k rd ra imm s
  | .store k rs ra imm => effStore t k rs ra imm s
  | .branch k ra rb off =>
    if branchTaken k (gpr t ra s) (gpr t rb s) then retireJump t ((pcOf t s + 4 * sext 16 off) % 2 ^ 64) s else retireNext t s
  | .jmp off => retireJump t ((pcOf t s + 4 * sext 26 off) % 2 ^ 64) s
  | .call off => retireJump t ((pcOf t s + 4 * sext 26 off) % 2 ^ 64) (setGpr t 31 (pcOf t s + 4) s)
  | .jr rd ra imm => retireJump t (effAddr t ra imm s) (setGpr t rd (pcOf t s + 4) s)
  | .amo func rd ra rb => effAmo t func rd ra rb s
  | .send rd rs pool close word ch => if pool then effPoolSend t rd rs s else effSend t rd rs close word ch s
  | .recv rd rs pool close word ch => if pool then effPoolRecv t rd rs s else effRecv t rd rs close word ch s
  | .wfe rd ra _ => effWfe t rd ra s
  | .timer _ ra _ => effTimer t ra s
  | .sample rd _ imm => retireReg t rd (sampleValue t imm s) s
  | .devr rd ra imm => effDevr t rd ra imm s
  | .devw rd ra imm => effDevw t rd ra imm s
  | .devsync => effDevsync t s

/-! ### Issue and retirement -/

/-- The thread takes issue slots: it is in RUN and does not wait for an instruction to retire. -/
def canIssue (t : Nat) (s : State) : Bool := threadState t s == 1 && tget 0 s.me.held t == 0

/-- The thread has not issued for 4,096 mc or more (R304). -/
def starved (mc : Nat) (s : State) (t : Nat) : Bool := decide (tget 0 s.me.lastIssue t + 4096 ≤ mc)

/-- The threads of core `c` that take slots, in the order in which mc `mc` serves them (R304): the starved in ascending number, then by
descending priority, those of equal priority from the level's pointer on. -/
def issueOrder (c mc : Nat) (s : State) : List Nat :=
  let ready := ((List.range 8).map (fun k => c * 8 + k)).filter (fun t => canIssue t s)
  let fed := ready.filter (fun t => !starved mc s t)
  ready.filter (starved mc s) ++ [3, 2, 1, 0].flatMap (fun p =>
    ((List.range 8).map (fun k => c * 8 + (tget 0 s.me.rr (c * 4 + p) + k) % 8)).filter (fun t =>
      fed.contains t && s.fld F.THREAD_CFG_PRIORITY t == p))

/-- A thread issues one word in mc `mc`; the pointer of its level moves past it. -/
def issueWord (mc t : Nat) (s : State) : State :=
  let s1 := if starved mc s t then pmcThread t 23 1 s else s
  s1.withMe { s1.me with
    lastIssue := tset 0 s1.me.lastIssue t mc
    rr := tset 0 s1.me.rr (t / 8 * 4 + s.fld F.THREAD_CFG_PRIORITY t) ((t % 8 + 1) % 8)
    ahead := tset 0 s1.me.ahead t (tget 0 s1.me.ahead t + 1) }

/-- The two issue slots of core `c` in its next mc. -/
def issueMcOf (c : Nat) (s : State) : State :=
  let mc := coreMc c s
  let s1 := ((issueOrder c mc s).take 2).foldl (fun s t => issueWord mc t s) s
  s1.withMe { s1.me with issueMc := tset 0 s1.me.issueMc c (mc + 1) }

/-- The core of thread `t` fills its slots, mc by mc, until the thread has issued `n` words. -/
def issueUntil (t n : Nat) : Nat → State → State
  | 0, s => s
  | f + 1, s => if n ≤ tget 0 s.me.ahead t then s else issueUntil t n f (issueMcOf (t / 8) s)

/-- The words of an instruction are issued (R304, R305, R361): a thread in RUN issues at least once in every 4,100 mc. -/
def issueWords (t n : Nat) (s : State) : State :=
  if n = 0 ∨ tget 0 s.me.held t ≠ 0 then s
  else
    let s1 := issueUntil t n (4100 * n) s
    let s2 := pmcThread t (if s.fld F.UC_STATUS_MODE (t / 8) = 0 then 5 else 6) n (pmcThread t 4 n s1)
    s2.withMe { s2.me with
      ahead := tset 0 s2.me.ahead t (tget 0 s2.me.ahead t - n)
      slots := tset 0 s2.me.slots t (tget 0 s2.me.slots t + n)
      quietActed := false }

/-- The path on which thread `t` runs its instruction: that of its dispatch, where it has begun (R355, R362). -/
def pathOf (t : Nat) (s : State) : Nat :=
  if tget 0 s.me.held t ≠ 0 then tget 0 s.me.heldPath t else if s.fld F.UC_STATUS_MODE (t / 8) = 0 then 0 else 1

/-- What the retirement of an instruction counts (R361, R362): counters and the sampling count; `pc`: its own address, `w`: its word, `path`: its
path. -/
def retireCounts (t pc w path : Nat) (i : Issue) (s : State) : State :=
  let c := t / 8
  let op := w / 2 ^ 26
  let cls := classOf op
  let s1 := pmcThread t (7 + cls) 1 (pmcThread t 7 1 s)
  if s.fld F.SMP_CFG_EN c = 0 ∨ (s.fld F.SMP_CFG_THREADS c).testBit (t % 8) = false ∨
      (s.fld F.SMP_CFG_CLASS c ≠ 0 ∧ s.fld F.SMP_CFG_CLASS c ≠ cls) then s1
  else
    let n := tget 0 s1.me.smpCount c + 1
    if n < s.fld F.SMP_CFG_PERIOD c then s1.withMe { s1.me with smpCount := tset 0 s1.me.smpCount c n }
    else
      let record := [pc % 2 ^ 32, t * 2 ^ 27 + cls * 2 ^ 24 + op * 2 ^ 18 + path * 2 ^ 17 + min i.words 255 * 2 ^ 8,
        min i.latency 0xFFFFFFFF, s.mc % 2 ^ 32]
      s1.withMe { s1.me with
        smpCount := tset 0 s1.me.smpCount c 0
        smpDue := tset [] s1.me.smpDue c (tget [] s1.me.smpDue c ++ [record]) }

/-- An instruction of thread `t` retires: it is counted, and a HALT to come is carried out (12 R325). -/
def retired (t pc w path : Nat) (i : Issue) (s : State) : State :=
  haltDue t (retireCounts t pc w path i (s.withMe { s.me with held := tset 0 s.me.held t 0 }))

/-- The management engine runs: not in the Terminal state (15 R386) nor in SAFE (17 R441), and its core not halted (R356). -/
def coreRuns (t : Nat) (s : State) : Bool :=
  !s.terminal && s.fld F.LDR_STATUS_STATE 0 != 9 && s.fld F.UC_STATUS_MODE (t / 8) != 2

/-- The instruction word at the thread's PC. -/
def fetched (t : Nat) (s : State) : Nat := leNat (meRead (pcOf t s) 4 s)

/-- The cause of the thread fault that the thread's PC meets before any instruction is dispatched; 0 for none. -/
def fetchFault (t : Nat) (s : State) : Nat :=
  if mayFetch t (pcOf t s) s = false then 2
  else if pcOf t s % 4 ≠ 0 then 5
  else if legalWord (fetched t s) = false then 1 else 0

/-- The command names the instruction at the thread's PC, or one whose fetch or decoding faults. -/
def namesNext (t : Nat) (op : MeOp) (s : State) : Bool :=
  fetchFault t s != 0 || (meOpInRange op && fetched t s == encodeMe op)

/-- One instruction of thread `t`: fetch and decode, the parity of its words, its effect. A command that names another instruction than the
one at the PC describes no step of the machine, and nothing happens. -/
def executeOne (t : Nat) (i : Issue) (op : MeOp) (s : State) : State :=
  let w := fetched t s
  if fetchFault t s ≠ 0 then threadFault t (fetchFault t s) s
  else if namesNext t op s = false then s
  else
    let s1 := routineTemps t w i.words (issueWords t i.words s)
    match i.found with
    | .twoLevel store addr => abandoned t (machineCheck t store addr s1)
    | .horiz store addr => abandoned t (microHalt t store addr s1)
    | .ok =>
      match effOf t op s1 with
      | .fault cause => threadFault t cause s1
      | .hold s2 =>
        let s3 := s2.withMe { s2.me with heldPath := tset 0 s2.me.heldPath t (pathOf t s) }
        if threadState t s2 = 2 ∧ tget false s2.me.haltReq t = true then haltThread t s3 else s3
      | .retire s2 => retired t (pcOf t s) w (pathOf t s) i s2

/-- A thread in RUN reaches its next instruction: at a breakpoint it enters HALT (12 R325), else it executes it. A thread that waits for a
DEVR executes nothing; one whose DEVW or DEVSYNC waits tries it again. -/
def runInsn (t : Nat) (i : Issue) (op : MeOp) (s : State) : State :=
  if 32 ≤ t ∨ threadState t s ≠ 1 ∨ coreRuns t s = false ∨ (tget none s.me.devr t).isSome = true then s
  else if atBreakpoint t s = true ∧ tget false s.me.bpPass t = false ∧ tget 0 s.me.held t = 0 then haltThread t s
  else executeOne t i op (s.withMe { s.me with bpPass := tset false s.me.bpPass t false })

/-- WFE_WAKE (R307, R345): a waiting thread finds a bit of its mask, and its WFE completes; `i`: how it ran, its time in WAIT included. -/
def wfeWake (t : Nat) (i : Issue) (s : State) : State :=
  let m := matchedEvents t (waitMask t s) s
  if 32 ≤ t ∨ threadState t s ≠ 2 ∨ coreRuns t s = false ∨ m = 0 then s
  else
    let pc := pcOf t s
    let s1 := wfeComplete t (tget 0 s.me.waitRd t) m (setThreadState t 1 s)
    retired t pc (0x38 * 2 ^ 26) (tget 0 s.me.heldPath t) i s1

/-- DBG_STEP (12 R325, 13 R357): exactly one instruction of a thread in HALT, which then returns to HALT: when the instruction retires, when it
is abandoned, or as its WFE would wait. A thread halted in WAIT stands at its WFE. -/
def dbgStep (q : Requester) (t : Nat) (i : Issue) (op : MeOp) (s : State) : State :=
  if 32 ≤ t then s
  else debugWrite q (fun s =>
    if threadState t s ≠ 3 ∨ coreRuns t s = false ∨ namesNext t op s = false then s
    else
      let s1 := setThreadState t 1 s
      executeOne t i op (s1.withMe { s1.me with haltReq := tset false s1.me.haltReq t true })) s

/-- A DEVR's data returns and the instruction retires (R343). -/
def devrDone (t v : Nat) (i : Issue) (s : State) : State :=
  match tget none s.me.devr t with
  | none => s
  | some (rd, _) =>
    let pc := pcOf t s
    let s1 := setPc t (pc + 4) (setGpr t rd v (s.withMe { s.me with devr := tset none s.me.devr t none }))
    retired t pc (0x3C * 2 ^ 26) (tget 0 s.me.heldPath t) i s1

end Sys2Proof.Machine
end

