-- ==== Sys2Proof/Machine/Micro.lean ====
section
/-! DEFINITION. Microcode stores, performance counters, sampling, and the ME block reset (13_me_instruction_set.md R353 to R365;
12_management_engine.md R322, R330 to R332). -/

namespace Sys2Proof.Machine

/-! ### Stores (R347, R353, R364) -/

/-- The parity bit that makes a group of bits, with itself, hold an odd number of ones. -/
def oddParity (v w : Nat) : Nat := if onesIn v w % 2 = 1 then 0 else 1

/-- The stored bits of a word of a loader-copy body (R347, R353): parity computed by the loader. -/
def storedWord (store raw : Nat) : Nat :=
  match store with
  | 0 =>
    let d := raw % 2 ^ 24
    d + oddParity (d / 2 ^ 10) 14 * 2 ^ 24 + oddParity (d % 2 ^ 10) 10 * 2 ^ 25 + raw / 2 ^ 31 % 2 * 2 ^ 26
  | 1 =>
    let d := raw % 2 ^ 24
    d + oddParity (d % 2 ^ 12) 12 * 2 ^ 24 + oddParity (d / 2 ^ 12) 12 * 2 ^ 25
  | 2 => (List.range 6).foldl (fun v i => v + oddParity (bitsOf raw (32 * i) 32) 32 * 2 ^ (192 + i)) (raw % 2 ^ 192)
  | _ => (List.range 5).foldl (fun v i => v + oddParity (bitsOf raw (32 * i) 32) 32 * 2 ^ (160 + i)) (raw % 2 ^ 160)

/-- Words of a store, bytes of a word in the loader copy, and the copy's offset (R364). -/
def storeWords (store : Nat) : Nat := if store = 0 then 256 else if store = 1 then 16384 else if store = 2 then 2048 else 1024
def storeBytes (store : Nat) : Nat := if store ≤ 1 then 4 else if store = 2 then 24 else 20
def storeBase (store : Nat) : Nat := 0x3F000000 + (if store = 0 then 0 else if store = 1 then 0x400 else if store = 2 then 0x10400 else 0x1C400)

/-- A word as the loader copy gives it. -/
def copyWord (store a : Nat) (s : State) : Nat :=
  storedWord store (leNat (hbmRead s (storeBase store + storeBytes store * a) (storeBytes store)))

/-- Set a word of a store of core `c`. -/
def setUcWord (c store a v : Nat) (s : State) : State := s.withMe { s.me with uc := tset 0 s.me.uc ((c * 4 + store) * 16384 + a) v }

/-- Copy a store of core `c` from the loader copy. -/
def copyStore (c store : Nat) (s : State) : State :=
  (List.range (storeWords store)).foldl (fun s a => setUcWord c store a (copyWord store a s) s) s

/-- UC_RELOAD (R355): refused unless MODE = 1 and no command of the core is busy. -/
def ucReload (q : Requester) (c : Nat) (s : State) : State :=
  if 4 ≤ c then s
  else gated q (regOffset .UC_CMD c) (fun s =>
    if s.fld F.UC_STATUS_MODE c = 1 ∧ s.fld F.UC_STATUS_BUSY c = 0 then
      (s.setFld F.UC_STATUS_BUSY c 1).withMe { s.me with ucCmd := tset 0 s.me.ucCmd c 1 }
    else s.setFld F.UC_RESULT c 1) s

/-- UC_RELOAD_DONE (R355): the two-level stores are copied and verified. -/
def ucReloadDone (c : Nat) (ok : Bool) (s : State) : State :=
  if 4 ≤ c ∨ tget 0 s.me.ucCmd c ≠ 1 then s
  else
    let s1 := copyStore c 2 (copyStore c 1 (copyStore c 0 s))
    if ok then
      ucEnd c 0 (s1.setFlds [(F.UC_STATUS_GEN, c, s.fld F.UC_STATUS_GEN c + 1), (F.UC_STATUS_MODE, c, 0)])
    else raiseFault 20 4 c (ucEnd c 2 s1)

/-- UC_SCRUB (R358): accepted only while MODE = 0. -/
def ucScrub (q : Requester) (c : Nat) (s : State) : State :=
  if 4 ≤ c then s
  else gated q (regOffset .UC_CMD c) (fun s =>
    if s.fld F.UC_STATUS_MODE c = 0 ∧ s.fld F.UC_STATUS_BUSY c = 0 then
      (s.setFld F.UC_STATUS_BUSY c 1).withMe { s.me with ucCmd := tset 0 s.me.ucCmd c 2, scrubAt := tset 0 s.me.scrubAt c 0 }
    else s.setFld F.UC_RESULT c 1) s

/-- The store and address of word `n` of a sweep. -/
def scrubWord (n : Nat) : Nat × Nat :=
  if n < 256 then (0, n) else if n < 16640 then (1, n - 256) else if n < 18688 then (2, n - 16640) else (3, n - 18688)

/-- UC_SCRUB_WORD (R358): the next word of the sweep. `bad`: it mismatches or fails parity; `readBackOk`: the rewritten word reads back. -/
def ucScrubWord (c : Nat) (bad readBackOk : Bool) (s : State) : State :=
  let n := tget 0 s.me.scrubAt c
  if 4 ≤ c ∨ tget 0 s.me.ucCmd c ≠ 2 ∨ 19712 ≤ n then s
  else
    let x := scrubWord n
    let s1 := s.withMe { s.me with scrubAt := tset 0 s.me.scrubAt c (n + 1) }
    if bad = false ∧ ucWord c x.1 x.2 s = copyWord x.1 x.2 s then s1
    else
      let s2 := setUcWord c x.1 x.2 (copyWord x.1 x.2 s) s1
      if readBackOk then raiseFault 23 4 c (s2.bump F.UC_SCRUB_FIX c)
      else if x.1 < 3 then (let s3 := enterFallback c (Config.scrubThread s2.dp.fresh).toNat x.1 x.2 s2
        { s3 with dp := { s3.dp with fresh := s3.dp.fresh + 1 } })
      else raiseFault 20 4 c (s2.setFld F.UC_STATUS_HORIZ_BAD c 1)

/-- UC_SCRUB_DONE (R358): every word of the stores has been compared, and the sweep ends. -/
def ucScrubDone (c : Nat) (s : State) : State :=
  if 4 ≤ c ∨ tget 0 s.me.ucCmd c ≠ 2 ∨ tget 0 s.me.scrubAt c < 19712 then s else ucEnd c 0 s

/-- UC_RD_ADDR_WRITE (R365): the stored word is readable in UC_RD_DATA. -/
def ucRdAddrWrite (q : Requester) (c store a : Nat) (s : State) : State :=
  if 4 ≤ c then s
  else gated q (regOffset .UC_RD_ADDR c) (fun s =>
    let s1 := s.setFlds [(F.UC_RD_ADDR_STORE, c, store), (F.UC_RD_ADDR_ADDR, c, a)]
    let v := ucWord c (store % 4) (a % 16384) s
    (List.range 7).foldl (fun s w => s.setFld F.UC_RD_DATA (c * 7 + w) (v / 2 ^ (32 * w))) s1) s

/-! ### Performance counters (R360) -/

/-- PMC_WRITE (R360): a privileged write of PMC_LO (`hi` false) or PMC_HI of counter `n` of core `c`. -/
def pmcWrite (q : Requester) (c n : Nat) (hi : Bool) (v : Nat) (s : State) : State :=
  if 4 ≤ c ∨ 8 ≤ n then s
  else gated q (regOffset (if hi then .PMC_HI else .PMC_LO) (c * 8 + n)) (fun s => s.setFld (if hi then F.PMC_HI else F.PMC_LO) (c * 8 + n) v) s

/-- PMC_OVERFLOW (R360): an event of the kind that an enabled counter counts comes when it stands at 2^48 − 1. -/
def pmcOverflow (c n : Nat) (s : State) : State :=
  let i := c * 8 + n
  if 4 ≤ c ∨ 8 ≤ n ∨ s.fld F.PMC_CTRL c = 0 ∨ s.fld F.PMC_CFG_EN i = 0 ∨
      s.fld F.PMC_LO i + s.fld F.PMC_HI i * 2 ^ 32 ≠ 2 ^ 48 - 1 ∨ s.fld F.PMC_CFG_EVENT i = 0 ∨ 30 < s.fld F.PMC_CFG_EVENT i then s
  else pmcAdd c n 1 s

/-- The events that add in each mc (Table 13.8), over one mc in which nothing issues. -/
def pmcTick (s : State) : State :=
  (List.range 4).foldl (fun s c =>
    if s.fld F.PMC_CTRL c = 0 then s
    else
      let s1 := pmcCore c 1 1 s
      let s2 := if coreAsleep c s then pmcCore c 2 1 s1 else pmcCore c 3 2 s1
      (List.range 8).foldl (fun s k =>
        let t := c * 8 + k
        match threadState t s with
        | 1 =>
          let op := tget 0 s.me.held t
          pmcThread t 22 1 (if op = 0x3D then pmcThread t 19 1 s else if op = 0 then s else pmcThread t 18 1 s)
        | 2 => pmcThread t 21 1 s
        | _ => s) s2) s

/-! ### Precise sampling (R362, R363) -/

/-- Records held in a sample buffer. -/
def smpHeld (c : Nat) (s : State) : Nat := (s.fld F.SMP_HEAD c + 8192 - s.fld F.SMP_TAIL c) % 8192

/-- SAMPLE_RECORD (R362, R363): the record that has fallen due is written, or lost when 4,096 are held. -/
def sampleRecord (c : Nat) (s : State) : State :=
  match tget [] s.me.smpDue c with
  | [] => s
  | r :: rest =>
    if 4 ≤ c then s
    else
      let s1 := s.withMe { s.me with smpDue := tset [] s.me.smpDue c rest }
      let held := smpHeld c s
      if 4096 ≤ held then s1.bump F.SMP_LOST c
      else
        let h := s.fld F.SMP_HEAD c
        let s2 := (s1.withMe { s1.me with smpBuf := tset [] s1.me.smpBuf (c * 4096 + h % 4096) r }).setFld F.SMP_HEAD c (h + 1)
        if held + 1 = s.fld F.SMP_THRESH c then raiseSrc 40 s2 else s2

/-- A write of SMP_CFG as a word: a PERIOD of 0 is discarded, and EN = 1 sets the count to 0 (R362). -/
def smpCfgPut (c w : Nat) (s : State) : State :=
  let s1 := s.setFlds [(F.SMP_CFG_EN, c, w / 2 ^ 31), (F.SMP_CFG_CLASS, c, w / 2 ^ 28), (F.SMP_CFG_THREADS, c, w / 2 ^ 16)]
  let s2 := if w % 65536 = 0 then s1 else s1.setFld F.SMP_CFG_PERIOD c w
  if w / 2 ^ 31 % 2 = 1 then s2.withMe { s2.me with smpCount := tset 0 s2.me.smpCount c 0 } else s2

/-- SMP_CFG_WRITE (R362). -/
def smpCfgWrite (q : Requester) (c w : Nat) (s : State) : State :=
  if 4 ≤ c then s else gated q (regOffset .SMP_CFG c) (smpCfgPut c w) s

/-- A write of SMP_TAIL (R363): discarded when it would leave more than 4,096 held, or fewer than 0. -/
def smpTailPut (c v : Nat) (s : State) : State :=
  let freed := (v % 8192 + 8192 - s.fld F.SMP_TAIL c) % 8192
  if smpHeld c s < freed then s else s.setFld F.SMP_TAIL c v

/-- SMP_TAIL_WRITE (R363). -/
def smpTailWrite (q : Requester) (c v : Nat) (s : State) : State :=
  if 4 ≤ c then s else gated q (regOffset .SMP_TAIL c) (smpTailPut c v) s

/-! ### Loading the firmware and the ME block reset (12 R322, R331; 17 R434) -/

/-- A little-endian word of a body. -/
def bodyWord (b : List Byte) (o : Nat) : Nat := leNat (slice b o 4)

/-- The seven THREAD_CFG words and ENTRY of thread `t`, in the layout of Table 12.8. -/
def loadThread (t : Nat) (w : Nat → Nat) (s : State) : State :=
  s.setFlds [(F.THREAD_CFG_ENABLE, t, w 0 / 2 ^ 31), (F.THREAD_CFG_PRIORITY, t, w 0), (F.ACCESS_MASK_DRAM_ALL, t, w 1 / 2 ^ 31),
    (F.ACCESS_MASK_BLOCKS, t, w 1), (F.WIN0_BASE, t, w 2 / 2 ^ 16), (F.WIN0_PAGES, t, w 2), (F.WIN1_BASE, t, w 3 / 2 ^ 16),
    (F.WIN1_PAGES, t, w 3), (F.DRAM_WIN_BASE, t, w 4 / 2 ^ 16), (F.DRAM_WIN_MIB, t, w 4), (F.SHARE_MSG_DYNAMIC, t, w 5 / 2 ^ 31),
    (F.SHARE_MSG_CAP, t, w 5 / 2 ^ 16), (F.SHARE_MSG_MIN, t, w 5), (F.SHARE_BUF_DYNAMIC, t, w 6 / 2 ^ 31),
    (F.SHARE_BUF_CAP, t, w 6 / 2 ^ 16), (F.SHARE_BUF_MIN, t, w 6), (F.ENTRY, t, w 7)]

/-- The two CHAN_CFG words of a channel. -/
def loadChannel (ch w0 w1 : Nat) (s : State) : State :=
  s.setFlds [(F.CHAN_CFG0_ENABLE, ch, w0 / 2 ^ 31), (F.CHAN_CFG0_WRITER, ch, w0 / 2 ^ 24), (F.CHAN_CFG0_READER, ch, w0 / 2 ^ 16),
    (F.CHAN_CFG0_DEPTH, ch, w0), (F.CHAN_CFG1_WR_EVENT, ch, w1 / 2 ^ 8), (F.CHAN_CFG1_RD_EVENT, ch, w1)]

/-- Record 0x0020 (Table 17.6): threads, channels 0 to 223, code from SRAM page 0; the owners of the port 513 rings are the threads of
Table 12.12. -/
def loadFirmware (b : List Byte) (s : State) : State :=
  let s1 := (List.range 32).foldl (fun s t => loadThread t (fun i => bodyWord b (32 * t + 4 * i)) s) s
  let s2 := (List.range 224).foldl (fun s ch => loadChannel ch (bodyWord b (1024 + 8 * ch)) (bodyWord b (1028 + 8 * ch)) s) s1
  let code := slice b 2824 (bodyWord b 2816)
  { s2 with sram := writeBytes s2.sram 0 code }.setFlds [(F.PORT513_CFG_RX_OWNER, 0, 4), (F.PORT513_CFG_TX_OWNER, 0, 5)]

/-- The thread entries of record 0x0021 from an offset (R331): each with its code at the start of WIN0; and the offset after them. -/
def loadExtThreads (b : List Byte) : Nat → Nat → State → State × Nat
  | 0, o, s => (s, o)
  | n + 1, o, s =>
    let t := bodyWord b o
    let len := bodyWord b (o + 36)
    let s1 := loadThread t (fun i => bodyWord b (o + 4 + 4 * i)) s
    let s2 : State := { s1 with sram := writeBytes s1.sram (4096 * s1.fld F.WIN0_BASE t) (slice b (o + 48) len) }
    loadExtThreads b n (o + 48 + (len + 3) / 4 * 4) s2

/-- Record 0x0021 (R331). -/
def loadExtension (b : List Byte) (s : State) : State :=
  if b.length < 4 then s
  else
    let x := loadExtThreads b (bodyWord b 0) 4 s
    (List.range (bodyWord b x.2)).foldl (fun s i =>
      let o := x.2 + 4 + 12 * i
      loadChannel (bodyWord b o) (bodyWord b (o + 4)) (bodyWord b (o + 8)) s) x.1

/-- The pools after a load (R313): what the MINs of the enabled threads leave. -/
def setPools (s : State) : State :=
  let en := (List.range 32).filter (fun t => s.fld F.THREAD_CFG_ENABLE t == 1)
  let msg := en.foldl (fun n t => n + s.fld F.SHARE_MSG_MIN t) 0
  let buf := en.foldl (fun n t => n + s.fld F.SHARE_BUF_MIN t) 0
  s.setFlds [(F.POOL_FREE_MSG, 0, 4096 - msg), (F.POOL_FREE_BUF, 0, 1024 - buf)]

/-- Bytes of the copy of record 0x0020 in the ME DRAM region (17 R434). -/
def firmwareCopy (s : State) : List Byte :=
  let len := leNat (hbmRead s (0x3F100000 + 2816) 4) % 0x180001
  let cfg := leNat (hbmRead s (0x3F100000 + 2820) 4) % 65
  hbmRead s 0x3F100000 (2824 + len + cfg)

/-- Bytes of the copy of record 0x0021: at most eight entries with WIN0 whole, and 32 channels. -/
def extensionCopy (s : State) : List Byte :=
  if leNat (hbmRead s 0x3F300000 4) = 0 then [] else hbmRead s 0x3F300000 0x190000

/-- ME_BLOCK_RESET (R322, 13 R356, 14 R375): it merges into one that has not ended (19 R481). -/
def meBlockReset (s : State) : State :=
  if inUnitReset 0 s then s
  else
    let s0 := unitBegin 0 s
    let s1 := (List.range 32).foldl (fun s t => (setThreadState t 0 s).setFlds [(F.HELD_MSG, t, 0), (F.HELD_BUF, t, 0)]) s0
    let s2 := (List.range 256).foldl (fun s ch =>
      s.setFlds [(F.CHAN_STATUS_STAGING_HELD, ch, 0), (F.CHAN_STATUS_STAGED, ch, 0), (F.CHAN_STATUS_QUEUED, ch, 0)]) s1
    let m := { s2.me with chans := [], notes := [], bufHolder := [], devr := [], devw := [], timer := [], waitRd := [], haltFrom := [],
                          bpPass := [], ucCmd := [], quietActed := false }
    let s3 : State := (List.range 32).foldl (fun s i => loadChannel (224 + i) 0 0 s)
      { s2 with me := m, events := [], hif := { s2.hif with mbxChan := [] } }
    let s4 := s3.setFlds [(F.RX513_HEAD, 0, 0), (F.RX513_TAIL, 0, 0), (F.TX513_HEAD, 0, 0), (F.TX513_TAIL, 0, 0),
      (F.ME_INFO, 0, s3.fld F.ME_INFO 0 + 1)]
    let s5 := setPools (loadExtension (extensionCopy s) (loadFirmware (firmwareCopy s) s4))
    let s6 := (List.range 4).foldl (fun s c =>
      (copyStore c 3 (copyStore c 2 (copyStore c 1 (copyStore c 0 s)))).setFlds [(F.UC_STATUS_MODE, c, 0), (F.UC_STATUS_BUSY, c, 0)]) s5
    intcMeReset s6

/-- ME_RESET (19 R480): a write of RESET_CTRL with ME_RESET = 1. -/
def meReset (q : Requester) (key : Nat) (s : State) : State :=
  gated q (regOffset .RESET_CTRL 0) (fun s => if key = 0xB10C then meBlockReset s else s) s

/-- A trap that found the supervisor in FAULT, or in reset, is taken once it runs again (15 R384). -/
def trapsLeft (s : State) : State :=
  if (List.range 4).any (fun m => s.fld F.TRAP_MAP m != 0) then raiseEvent 0 0 s else s

/-- ME_RESET_END (R322, 13 R356): the supervisor is in RUN. `bad`: a core whose stores failed their verify, which is a Fatal event. -/
def meResetEnd (bad : Option Nat) (s : State) : State :=
  if inUnitReset 0 s = false then s
  else match bad with
    | some c => raiseFault 22 4 c s
    | none => unitEnd 0 (trapsLeft (startThread 0 s))

end Sys2Proof.Machine
end

