-- ==== Sys2Proof/Machine/Plan.lean ====
section
/-! DEFINITION. Schedule synthesis of the Planner (10_planner.md R263, R267 to R272, R279): phase windows, release groups, placement,
latency bounds and gate lists. Every time is in integer picoseconds. -/

namespace Sys2Proof.Machine

/-! ### Policy (Table 10.2) -/

/-- Bits of a word of record 0x0090. -/
def policy (w lo n : Nat) (s : State) : Nat := bitsOf (tget 0 s.pln.policy w) lo n

/-- Bit of ENABLES: 0 SYNTH, 1 DETOUR, 2 QUARANTINE, 3 HH, 4 ALPHA, 5 WRED, 6 HDRM. -/
def enables (b : Nat) (s : State) : Bool := (tget 0 s.pln.policy 1).testBit b

/-- PLAN_CYCLE in ns. -/
def planCycle (s : State) : Nat := policy 0 0 30 s

/-- Port `p` is in PLAN_PORTS. -/
def planPort (p : Nat) (s : State) : Bool := decide (p < 512) && (tget 0 s.pln.policy (24 + p / 32)).testBit (p % 32)

/-- The ports of PLAN_PORTS, ascending. -/
def planPorts (s : State) : List Nat := (List.range 512).filter (fun p => planPort p s)

/-! ### Terms (R267, R268) -/

/-- A byte time in ps at the rate of a port. -/
def bytePs (p : Nat) (s : State) : Nat := if rateOf p s = 0 then 0 else 8000000 / rateOf p s

/-- `n` core cycles in ps. -/
def ccPs (n : Nat) : Nat := (n * 1000 + 2) / 3

/-- The least multiple of 8 ns at or above a time. -/
def ceil8 (x : Int) : Int := (x + 7999) / 8000 * 8000

/-- The worst receive latency of a port in ns (Table 2.3). -/
def rxWorst (p : Nat) (s : State) : Nat :=
  match s.fld F.PORT_CFG_MODE p, s.fld F.PORT_CFG_FEC p with
  | 1, _ => 232
  | 2, _ => 232
  | 3, _ => 104
  | 4, 0 => 61
  | 4, _ => 276
  | 5, 0 => 33
  | 5, 1 => 123
  | 5, _ => 278
  | 6, _ => 127
  | _, _ => 0

/-- The timestamp residual of a port in ns (Table 2.3). -/
def residual (p : Nat) (s : State) : Nat :=
  match s.fld F.PORT_CFG_MODE p with
  | 1 | 2 => 16
  | 3 => 8
  | 4 => 6
  | 5 => 3
  | 6 => 6
  | _ => 0

/-- The least and greatest phase of a stream over the last OBS_EPOCHS, 0 when none is known. -/
def obsRange (h : Nat) (s : State) : Int × Int :=
  match tget [] s.pln.obs h with
  | [] => (0, 0)
  | (_, a, b) :: l => l.foldl (fun r x => (min r.1 x.2.1, max r.2 x.2.2)) (a, b)

/-- φ_lo and φ_hi of a stream in ns. -/
def phaseWindow (h : Nat) (d : Decl) (s : State) : Int × Int :=
  let r := obsRange h s
  let m : Int := Int.ofNat (policy 6 0 16 s)
  (Int.ofNat d.phase + min 0 r.1 - m, Int.ofNat d.phase + max (Int.ofNat d.jitter) r.2 + m)

/-- X of the eligibility span: 0 for a copy that is cut-through eligible (07 R179), else the rest of the frame. -/
def eligX (d : Decl) (p : Nat) (s : State) : Nat :=
  if s.fld F.PORT_BUF_CFG d.inPort = 1 ∧ s.fld F.PORT_BUF_CFG p = 1 ∧ rateOf p s ≤ rateOf d.inPort s then 0
  else (d.maxLen - min d.maxLen 192) * bytePs d.inPort s

/-- The eligibility span E. -/
def eligSpan (d : Decl) (p : Nat) (s : State) : Nat :=
  1000 * rxWorst d.inPort s + min d.maxLen 192 * bytePs d.inPort s + ccPs 1 + ccPs 120 + 12000 + ccPs 60 + eligX d p s

/-- ε_p of R201 in ps. -/
def epsPs (p : Nat) (s : State) : Nat :=
  1000 * (20 + s.fld F.PORT_SCH_CFG_GUARD_EXTRA p) + (if s.fld F.PORT_CFG_FLOW_MODE p = 0 then 0 else 84 * bytePs p s)

/-! ### Egress -/

/-- The egress of a declaration as STREAM_EGRESS holds it: VALID, KIND in bit 30, EDIT, OPERAND. -/
def egressWord (w : Nat) : Nat := 2 ^ 31 + bitsOf w 31 1 * 2 ^ 30 + bitsOf w 16 8 * 2 ^ 16 + bitsOf w 0 16

/-- The ports of an egress, each with the edit program its copy runs: one port, or the members of a group. -/
def egressMembers (w : Nat) (s : State) : List (Nat × Nat) :=
  if bitsOf w 30 1 = 0 then [(bitsOf w 0 16, bitsOf w 16 8)]
  else
    let g := rwWord 2 (bitsOf w 0 16) 0 s
    if bitsOf g 31 1 = 0 then []
    else ((List.range (bitsOf g 16 11)).map (fun i =>
      let e := rwWord 3 (bitsOf g 0 16 + i) 0 s
      (bitsOf e 0 10, bitsOf e 16 8)))

/-- The ports that a frame of an egress goes to: a group makes no copy to the ingress port. -/
def egressPorts (w inPort : Nat) (s : State) : List (Nat × Nat) :=
  if bitsOf w 30 1 = 0 then egressMembers w s else (egressMembers w s).filter (fun x => x.1 != inPort)

/-- A port counts as up: under the START trigger with ADMIN_UP = 1 (Table 10.5), else with its link up and no quarantine (R281). -/
def planUp (start : Bool) (p : Nat) (s : State) : Bool :=
  if start then s.fld F.PORT_CFG_ADMIN_UP p == 1
  else s.fld F.PORT_STATUS_LINK_UP p == 1 && s.fld F.PORT_STATUS_QUARANTINED p == 0

/-- The port of an egress, or every member port, is up. -/
def egressUp (start : Bool) (w : Nat) (s : State) : Bool := (egressMembers w s).all (fun x => planUp start x.1 s)

/-! ### Instances and groups -/

/-- One instance of a stream on one egress port (R268), with what its bound needs. -/
structure Inst where
  handle : Nat
  port : Nat
  queue : Nat
  period : Nat
  budget : Nat
  lo : Int
  hi : Int
  /-- FRAMES × τ and τ -/
  work : Nat
  tau : Nat
  /-- φ_lo + k × PERIOD -/
  base : Int
  /-- 20 ns + c_p + r_p + L × byte(p) -/
  tail : Nat
deriving DecidableEq, Repr

/-- The bound of a member of a group opened at `o` (R269). -/
def boundOf (o : Int) (j w : Int) (m : Inst) : Int := o + j + w - m.tau - m.base + m.tail

/-- The slack of an instance: BUDGET less the bound it would have alone. A BUDGET of 0 is no deadline and leaves no bound short. -/
def slackOf (m : Inst) : Int :=
  (if m.budget = 0 then (2 : Int) ^ 62 else 1000 * m.budget) - boundOf (ceil8 m.lo) (m.hi - m.lo) m.work m

/-- The key (PERIOD, slack, HANDLE) of one instance is less than another's. -/
def keyLt (a b : Inst) : Bool :=
  if a.period ≠ b.period then decide (a.period < b.period)
  else if slackOf a ≠ slackOf b then decide (slackOf a < slackOf b)
  else decide (a.handle < b.handle)

/-- The member with the least key, and the one with the greatest. -/
def leastKey : List Inst → Option Inst
  | [] => none
  | m :: l => some (l.foldl (fun a b => if keyLt b a then b else a) m)

def worstKey : List Inst → Option Inst
  | [] => none
  | m :: l => some (l.foldl (fun a b => if keyLt a b then b else a) m)

/-- The instances of a stream on a port with edit program `edit`. -/
def instancesOf (h : Nat) (d : Decl) (p edit : Nat) (s : State) : List Inst :=
  let ph := phaseWindow h d s
  let len := d.maxLen + s.fld F.EDIT_GROW edit
  let tau := (len + 20) * bytePs p s
  let shift : Int := Int.ofNat (eligSpan d p s + 1000 * (12 + 30 + txLatency p s))
  let c := if s.fld F.PORT_CFG_FLOW_MODE p = 0 then 0 else 84 * bytePs p s
  (List.range (if d.period = 0 then 0 else planCycle s / d.period)).map (fun k =>
    let base := 1000 * (ph.1 + Int.ofNat (k * d.period))
    { handle := h, port := p, queue := d.queue, period := d.period, budget := scWord 0 h 2 s,
      lo := base + shift, hi := 1000 * (ph.2 + Int.ofNat (k * d.period)) + shift,
      work := d.frames * tau, tau := tau, base := base,
      tail := 20000 + c + 1000 * residual p s + len * bytePs p s })

/-- Insert an instance by its lo, then its handle. -/
def insInst (m : Inst) : List Inst → List Inst
  | [] => [m]
  | x :: l => if m.lo < x.lo ∨ (m.lo = x.lo ∧ m.handle < x.handle) then m :: x :: l else x :: insInst m l

/-- Split instances in order of lo into runs whose release intervals overlap, taken transitively; `hi` is the greatest hi of the run. -/
def splitRuns : List Inst → List Inst → Int → List (List Inst)
  | [], cur, _ => if cur.isEmpty then [] else [cur]
  | m :: l, cur, hi =>
    if cur.isEmpty then splitRuns l [m] m.hi
    else if m.lo ≤ hi then splitRuns l (cur ++ [m]) (max hi m.hi)
    else cur :: splitRuns l [m] m.hi

/-- The release groups of one port: by queue, in any order. -/
def groupsOf (ms : List Inst) : List (List Inst) :=
  (List.range 8).flatMap (fun q => splitRuns ((ms.filter (fun m => m.queue == q)).foldr insInst []) [] 0)

/-- Insert a group by ascending key. -/
def insGroup (g : List Inst) : List (List Inst) → List (List Inst)
  | [] => [g]
  | x :: l =>
    match leastKey g, leastKey x with
    | some a, some b => if keyLt a b then g :: x :: l else x :: insGroup g l
    | _, _ => x :: insGroup g l

/-! ### Placement (R270) -/

/-- Offsets of a window modulo C: the parts of [0, C) it takes. -/
def spanParts (c start len : Nat) : List (Nat × Nat) :=
  if start + len ≤ c then [(start, start + len)] else [(start, c), (0, start + len - c)]

/-- The end of a window on [0, C]. -/
def endOff (c start len : Nat) : Nat := if start + len ≤ c then start + len else start + len - c

/-- Two windows meet. -/
def spansMeet (c s1 l1 s2 l2 : Nat) : Bool :=
  (spanParts c s1 l1).any (fun a => (spanParts c s2 l2).any (fun b => decide (a.1 < b.2) && decide (b.1 < a.2)))

/-- A window [o, o + len) of queue `q` with lo `lo` may be reserved: it is free and keeps the release order. -/
def mayReserve (c o len q : Nat) (lo : Int) (rs : List Resv) : Bool :=
  rs.all (fun r =>
    !spansMeet c o len r.start r.len &&
    (r.queue != q ||
      (if r.lo < lo then decide (endOff c r.start r.len ≤ o)
       else if lo < r.lo then decide (endOff c o len ≤ r.start)
       else true)))

/-- The first offset at or above `o`, in steps of 8 ns and within `n` steps, at which the window may be reserved. -/
def firstFit (c len q : Nat) (lo : Int) (rs : List Resv) : Nat → Int → Option Int
  | 0, _ => none
  | n + 1, o => if mayReserve c (o.emod (Int.ofNat c)).toNat len q lo rs then some o else firstFit c len q lo rs n (o + 8000)

/-! ### Lists (R272) -/

/-- Insert an interval (start, end, gates) by its start. -/
def insSpan (x : Nat × Nat × Nat) : List (Nat × Nat × Nat) → List (Nat × Nat × Nat)
  | [] => [x]
  | y :: l => if x.1 < y.1 then x :: y :: l else y :: insSpan x l

/-- The reserved intervals with the gaps between them filled with BG_GATES, up to C. -/
def fillGaps (c bg : Nat) : Nat → List (Nat × Nat × Nat) → List (Nat × Nat × Nat)
  | at', [] => if at' < c then [(at', c, bg)] else []
  | at', x :: l => (if at' < x.1 then [(at', x.1, bg)] else []) ++ x :: fillGaps c bg x.2.1 l

/-- Merge adjacent intervals with equal gates. -/
def mergeSpans : List (Nat × Nat × Nat) → List (Nat × Nat × Nat)
  | [] => []
  | x :: l =>
    match mergeSpans l with
    | [] => [x]
    | y :: m => if x.2.2 = y.2.2 ∧ x.2.1 = y.1 then (x.1, y.2.1, x.2.2) :: m else x :: y :: m

/-- Entries of `units` of 8 ns with one gate mask: longer ones split after 4,194,303 units. -/
def splitEntry (gates : Nat) : Nat → Nat → List Nat
  | 0, units => [gates * 2 ^ 22 + units]
  | n + 1, units =>
    if 4194303 < units then (gates * 2 ^ 22 + 4194303) :: splitEntry gates n (units - 4194303) else [gates * 2 ^ 22 + units]

/-- The list of a port from its reservations; `c` is PLAN_CYCLE in ps. A port with none gets one entry with every gate open. -/
def listOf (c bg : Nat) (rs : List Resv) : List Nat :=
  let units (a b : Nat) : Nat := (b - a + 7999) / 8000
  if rs.isEmpty then splitEntry 0xFF 32 (units 0 c)
  else
    let parts := rs.flatMap (fun r => (spanParts c r.start r.len).map (fun x => (x.1, x.2, 2 ^ r.queue)))
    let spans := mergeSpans (fillGaps c bg 0 (parts.foldr insSpan []))
    spans.flatMap (fun x => splitEntry x.2.2 32 (units x.1 x.2.1))

/-! ### Synthesis -/

/-- A stream being placed: its declaration and the egress chosen, with its ports and programs. -/
structure Cand where
  handle : Nat
  decl : Decl
  egress : Nat
  detoured : Bool
deriving DecidableEq, Repr

/-- How the placement of the groups of every port ends: placed, or a stream refused with its reason. -/
inductive PlaceRes where
  | ok (resv : Tab (List Resv)) (wins : List (Nat × Nat × Nat × Int))
  | refuse (handle reason : Nat)
deriving DecidableEq, Repr

/-- Place the groups of one port in order. Each win is (handle, port, offset, bound). -/
def placeGroups (c : Nat) (bg eps : Nat) (p : Nat) :
    List (List Inst) → Tab (List Resv) → List (Nat × Nat × Nat × Int) → PlaceRes
  | [], rs, ws => .ok rs ws
  | g :: gs, rs, ws =>
    match worstKey g with
    | none => placeGroups c bg eps p gs rs ws
    | some worst =>
      let lo := g.foldl (fun a m => min a m.lo) worst.lo
      let j := g.foldl (fun a m => max a m.hi) worst.hi - lo
      let w : Int := Int.ofNat (g.foldl (fun a m => a + m.work) 0)
      let len := (ceil8 (j + w + Int.ofNat eps)).toNat
      let mine := tget [] rs p
      match firstFit c len worst.queue lo mine ((c + 7999) / 8000) (ceil8 lo) with
      | none => .refuse worst.handle 2
      | some o =>
        match worstKey (g.filter (fun m => m.budget != 0 && decide (1000 * Int.ofNat m.budget < boundOf o j w m))) with
        | some late => .refuse late.handle 1
        | none =>
          let off := (o.emod (Int.ofNat c)).toNat
          let mine' := mine ++ [{ start := off, len := len, queue := worst.queue, lo := lo }]
          if 1024 < (listOf c bg mine').length then .refuse worst.handle 3
          else placeGroups c bg eps p gs (tset [] rs p mine') (ws ++ g.map (fun m => (m.handle, p, off, boundOf o j w m)))

/-- The instances of the candidates on port `p`. -/
def portInsts (cs : List Cand) (p : Nat) (s : State) : List Inst :=
  cs.flatMap (fun x => ((egressPorts x.egress x.decl.inPort s).filter (fun e => e.1 == p)).flatMap
    (fun e => instancesOf x.handle x.decl p e.2 s))

/-- Place the candidates on the ports in ascending order, on top of the reservations `rs`. -/
def placePorts (cs : List Cand) (s : State) : List Nat → Tab (List Resv) → List (Nat × Nat × Nat × Int) → PlaceRes
  | [], rs, ws => .ok rs ws
  | p :: ps, rs, ws =>
    let c := 1000 * planCycle s
    match placeGroups c (policy 2 8 8 s) (epsPs p s) p ((groupsOf (portInsts cs p s)).foldr insGroup []) rs ws with
    | .refuse h r => .refuse h r
    | .ok rs' ws' => placePorts cs s ps rs' ws'

/-- The repeat loop of R270: a refused stream leaves, and the placement starts again with those still accepted. -/
def placeLoop (s : State) (base : Tab (List Resv)) : Nat → List Cand → List (Nat × Nat) →
    Tab (List Resv) × List (Nat × Nat × Nat × Int) × List (Nat × Nat)
  | 0, _, refused => (base, [], refused)
  | n + 1, cs, refused =>
    match placePorts cs s (planPorts s) base [] with
    | .ok rs ws => (rs, ws, refused)
    | .refuse h r => placeLoop s base n (cs.filter (fun x => x.handle != h)) (refused ++ [(h, r)])

/-- Streams with SCHED = 1, in handle order. -/
def schedStreams (s : State) : List (Nat × Decl) :=
  s.pln.decls.filterMap (fun e => match e.2 with | some d => if d.sched then some (e.1, d) else none | none => none)

/-- What a placement says of one stream. -/
def streamOf (h : Nat) (d : Decl) (egress : Nat) (det : Bool) (ws : List (Nat × Nat × Nat × Int)) (reason : Nat) (s : State) : PlanStream :=
  let mine := ws.filter (fun w => w.1 == h)
  let ph := phaseWindow h d s
  { handle := h, egress := egress, detoured := det, reason := reason,
    bound := (mine.foldl (fun a w => max a w.2.2.2) (0 : Int)).toNat,
    phaseLo := ph.1, phaseHi := ph.2, wins := mine.map (fun w => (w.2.1, w.2.2.1)) }

/-- The stream stands on its alternate egress in a plan. -/
def wasDetoured (h : Nat) (s : State) : Bool :=
  match s.pln.inForce with
  | none => false
  | some pl => pl.streams.any (fun x => x.handle == h && x.detoured)

/-- egress(s) of R270, and R280 for a stream that stands on its alternate, which returns to a primary that has not been up for RETURN_HOLD only when
the alternate is down: the egress and whether it is the alternate, or none. -/
def chooseEgress (start : Bool) (h : Nat) (d : Decl) (s : State) : Option (Nat × Bool) :=
  let prim := egressWord d.egress
  let alt := d.altEgress
  let up := egressUp start prim s
  let back := !wasDetoured h s || (egressMembers prim s).all (fun x => s.pln.returnOk.contains x.1)
  if up = true ∧ back = true then some (prim, false)
  else if bitsOf alt 31 1 = 1 ∧ egressUp start alt s = true then some (alt, true)
  else if up then some (prim, false)
  else none

/-- The lists of the PLAN_PORTS ports from their reservations. -/
def listsOf (rs : Tab (List Resv)) (s : State) : Tab (List Nat) :=
  (planPorts s).foldl (fun t p => tset [] t p (listOf (1000 * planCycle s) (policy 2 8 8 s) (tget [] rs p))) []

/-- The handle's egress as EGRESS declares it. -/
def primaryOf (h : Nat) (s : State) : Nat := (tget none s.pln.decls h).elim 0 (fun d => egressWord d.egress)

/-- SYNTHESIS (R270): the plan that the declarations, the policy, the port states and the Survey give. -/
def synthesize (start : Bool) (s : State) : Plan :=
  let all := schedStreams s
  let chosen := all.filterMap (fun x => (chooseEgress start x.1 x.2 s).map (fun e => ({ handle := x.1, decl := x.2, egress := e.1, detoured := e.2 } : Cand)))
  let r := placeLoop s [] (all.length + 1) chosen []
  let streams := all.map (fun x =>
    match chosen.find? (fun c => c.handle == x.1) with
    | none => streamOf x.1 x.2 (egressWord x.2.egress) false [] 4 s
    | some c =>
      match r.2.2.find? (fun e => e.1 == x.1) with
      | some e => streamOf x.1 x.2 c.egress c.detoured [] e.2 s
      | none => streamOf x.1 x.2 c.egress c.detoured r.2.1 0 s)
  { streams := streams, resv := r.1, lists := listsOf r.1 s }

/-- DETOUR (R279): every placed stream whose egress in force is one of the down ports and whose alternate is valid and up goes to it, placed
in the free time of the plan in force; one that finds no place is refused with DETOUR_NO_FIT. None when no stream moves. -/
def detourPlan (downs : List Nat) (s : State) : Option Plan :=
  match s.pln.inForce with
  | none => none
  | some pl =>
    let moves (x : PlanStream) : Bool :=
      x.reason == 0 && bitsOf x.egress 30 1 == 0 && downs.contains (bitsOf x.egress 0 16) &&
      (match tget none s.pln.decls x.handle with
        | some d => !x.detoured && bitsOf d.altEgress 31 1 == 1 && egressUp false d.altEgress s
        | none => false)
    let moved := (pl.streams.filter moves).filterMap (fun x => (tget none s.pln.decls x.handle).map
      (fun d => ({ handle := x.handle, decl := d, egress := d.altEgress, detoured := true } : Cand)))
    if moved.isEmpty then none
    else
      let r := placeLoop s pl.resv (moved.length + 1) moved []
      let streams := pl.streams.map (fun x =>
        match moved.find? (fun c => c.handle == x.handle) with
        | none => x
        | some c => streamOf c.handle c.decl c.egress true r.2.1 (if r.2.2.any (fun e => e.1 == c.handle) then 5 else 0) s)
      some { isDetour := true, streams := streams, resv := r.1, lists := listsOf r.1 s }

end Sys2Proof.Machine
end

