-- ==== Sys2Proof/Machine/Planner.lean ====
section
/-! DEFINITION. The Planner beyond synthesis (10_planner.md R262, R264 to R266, R271, R274 to R291): survey, triggers, commit, settings, heavy
flows, quarantine, the decision journal; and the entry to RUN (17_startup_image.md R425). -/

namespace Sys2Proof.Machine

def State.withPln (s : State) (p : PlnSt) : State := { s with pln := p }

/-! ### The decision journal (R288) -/

/-- DRAM address of journal slot 0 (16 Table 16.1). -/
def journalBase : Nat := 0x5C000000

/-- A journal record (Table 10.6), with TRIGGER, FLAGS, PLAN_ID, SUBJECT, REASON and VALUE; at shed level 3 and above only the types of R289. -/
def journalRec (ty trigger flags plan subject reason : Nat) (vals : List Nat) (s : State) : State :=
  let summary := 3 ≤ s.fld F.PLN_STATUS_SHED_LEVEL 0
  if summary ∧ [1, 3, 4, 6, 16, 20].contains ty = false then s
  else
    let n := s.fld F.JOURNAL_HEAD 0
    let w := s.work
    let bytes := toLe 8 n ++ toLe 4 (s.fld F.EPOCH_COUNT 0) ++ toLe 2 ty ++ toLe 1 trigger ++
      toLe 1 (flags + if summary then 4 else 0) ++ toLe 4 (timeNsWord w) ++ toLe 8 (timeSec w) ++ toLe 4 plan ++
      toLe 4 subject ++ toLe 2 reason ++ toLe 2 0 ++ (List.range 6).flatMap (fun i => toLe 4 (vals.getD i 0))
    let ev := toLe 8 n ++ toLe 2 ty ++ toLe 1 trigger ++ toLe 1 0 ++ toLe 4 subject ++ toLe 2 reason
    eventRecord 3 ev ((dramWrite 2 (journalBase + 64 * (n % 2 ^ 20)) bytes s).setFld F.JOURNAL_HEAD 0 (n + 1))

/-- A record that no plan and no trigger concerns. -/
def journal (ty subject : Nat) (vals : List Nat) (s : State) : State := journalRec ty 0xFF 0 0 subject 0 vals s

/-! ### Registers of the Planner -/

/-- STATUS.STATE: 0 idle, 1 synthesis, 2 awaiting approval, 3 prepared, 4 applying, 5 frozen. -/
def planState (s : State) : Nat := s.fld F.PLN_STATUS_STATE 0

/-- The state shown when no commit and no approval is under way. -/
def restState (s : State) : State :=
  s.setFld F.PLN_STATUS_STATE 0 (if s.fld F.PLN_CTRL_FREEZE 0 = 1 then 5 else if s.pln.running = 0 then 0 else 1)

/-- A commit is in progress, or is to be tried again (R284). -/
def committing (s : State) : Bool := s.pln.commit.isSome || s.pln.retry.isSome

/-- A trigger sets its bit in STATUS.PENDING (R282). -/
def trigger (b : Nat) (s : State) : State := s.setFld F.PLN_STATUS_PENDING 0 (setBit (s.fld F.PLN_STATUS_PENDING 0) b true)

/-- The Planner may write to the device (R286). -/
def thawed (s : State) : Bool := s.fld F.PLN_CTRL_FREEZE 0 == 0

/-- Bits of full syntheses: START, DECL, RETURN, PHASE, HOST. -/
def fullBits : Nat := 0x5B

/-! ### Settings other than gate lists (R274, R275, R277) -/

/-- A change of Q_MIN in RUN (07 R192): discarded, with CFG_REFUSED, when SHARED_SIZE would fall below 65,536. -/
def qMinChange (q v : Nat) (s : State) : State :=
  if s.fld F.POOL_STATUS 0 + s.fld F.Q_MIN q < 65536 + v then s.bump F.CFG_REFUSED 0 else setQMin q v s

/-- A change of PFC_HDRM in RUN (07 R192), under the same test: SHARED_SIZE follows the headroom (07 R182). -/
def hdrmChange (i v : Nat) (s : State) : State :=
  let old := s.fld F.PFC_HDRM i
  if s.fld F.POOL_STATUS 0 + old < 65536 + v then s.bump F.CFG_REFUSED 0
  else poolLevel (s.setFlds [(F.PFC_HDRM, i, v), (F.POOL_STATUS, 0, s.fld F.POOL_STATUS 0 + old - v)])

/-- The least headroom of a pair of port `p` in cells (07 R190), for a cable delay in ns. -/
def minHeadroom (p cable : Nat) (s : State) : Nat :=
  let b := bytePs p s
  let own := if preemptActive p s then (143 + 64 * s.fld F.MM_CFG_ADD_FRAG_SIZE p) * b else 9236 * b
  let t := 16000 + own + 84 * b + 2000 * cable + 1000 * policy 11 0 20 s + 9236 * b + 192 * b + 1000 * rxWorst p s + 52000
  (2 * rateOf p s * t + 149 * 8000000 - 1) / (149 * 8000000)

/-- The cable delay of a port: measured, else CABLE_DEFAULT. -/
def cableOf (p : Nat) (s : State) : Nat := (tget none s.pln.linkDelay p).getD (policy 12 0 20 s)

/-- Set the headroom of the pairs of port `p` (R274); `only`: which changes to write, by old and new value; `why`: the trigger and the plan of the
records. -/
def headroomPort (only : Nat → Nat → Bool) (why : Nat × Nat) (p : Nat) (s : State) : State :=
  let cable := cableOf p s
  let v := minHeadroom p cable s + policy 13 0 16 s
  let s1 := (List.range 8).foldl (fun s n =>
    let i := 8 * p + n
    let old := s.fld F.PFC_HDRM i
    if old = v ∨ only old v = false then s
    else
      let s2 := hdrmChange i v s
      journalRec (if s2.fld F.PFC_HDRM i = v then 8 else 9) why.1 0 why.2 i 0 [v, cable] s2) s
  s1.withPln { s1.pln with usedDelay := tset none s1.pln.usedDelay p (some cable) }

/-- The ports with FLOW_MODE 2. -/
def pfcPorts (s : State) : List Nat := (List.range 512).filter (fun p => s.fld F.PORT_CFG_FLOW_MODE p == 2 && s.fld F.PORT_CFG_MODE p != 0)

/-- Headroom of every port with FLOW_MODE 2, with HDRM = 1. -/
def headroomAll (only : Nat → Nat → Bool) (why : Nat × Nat) (s : State) : State :=
  if enables 6 s then (pfcPorts s).foldl (fun s p => headroomPort only why p s) s else s

/-- The Q_MIN that a plan asks for queue `n` of a PLAN_PORTS port (R275). -/
def qMinTarget (pl : Plan) (p n : Nat) (s : State) : Nat :=
  let image := tget 0 s.pln.qminImage (8 * p + n)
  let cells := pl.streams.foldl (fun a x =>
    match tget none s.pln.decls x.handle with
    | some d =>
      if x.reason = 0 ∧ d.queue = n then
        ((egressPorts x.egress d.inPort s).filter (fun e => e.1 == p)).foldl
          (fun a e => a + d.frames * cellsOf (d.maxLen + s.fld F.EDIT_GROW e.2)) a
      else a
    | none => a) 0
  if cells = 0 then image else max image (2 * cells)

/-- Write Q_MIN of every queue of the PLAN_PORTS ports as a plan asks: the increases or the decreases, or all. -/
def qMinAll (pl : Plan) (only : Nat → Nat → Bool) (s : State) : State :=
  (planPorts s).foldl (fun s p => (List.range 8).foldl (fun s n =>
    let q := 8 * p + n
    let old := s.fld F.Q_MIN q
    let v := qMinTarget pl p n s
    if old = v ∨ only old v = false then s
    else journalRec 10 pl.trigger 0 pl.id q 0 [old, v] (qMinChange q v s)) s) s

/-- WRED profiles of the queues of PLAN_PORTS in WRED mode (R277). -/
def wredAll (why : Nat × Nat) (s : State) : State :=
  if enables 5 s = false then s
  else (planPorts s).foldl (fun s p => (List.range 8).foldl (fun s n =>
    let q := 8 * p + n
    if s.fld F.Q_CFG_MODE q ≠ 1 then s
    else
      let raw := (policy 21 0 16 s * rateOf p s * 125 + 127999) / 128000
      let maxTh := min (max raw (policy 22 0 20 s)) (policy 23 0 20 s)
      let minTh := max 1 (maxTh / 4)
      journalRec 12 why.1 0 why.2 q 0 [s.fld F.WRED_HI_MAX_TH (3 * q), maxTh]
        (s.setFlds [(F.WRED_HI_MAX_TH, 3 * q, maxTh), (F.WRED_LO, 3 * q, minTh), (F.WRED_HI_MAX_TH, 3 * q + 1, 3 * maxTh / 4),
          (F.WRED_LO, 3 * q + 1, 3 * minTh / 4), (F.WRED_HI_MAX_TH, 3 * q + 2, maxTh / 2), (F.WRED_LO, 3 * q + 2, minTh / 2)])) s) s

/-- An increase, a decrease. -/
def isRise (old new : Nat) : Bool := decide (old < new)
def isFall (old new : Nat) : Bool := decide (new < old)

/-! ### Streams (R262, R271) -/

/-- FILTER_BLOCKED of a handle's context. -/
def setBlocked (h : Nat) (on : Bool) (s : State) : State := scSetFld 0 h 0 31 31 (if on then 1 else 0) s

def isBlocked (h : Nat) (s : State) : Bool := scFld 0 h 0 31 31 s == 1

/-- STREAM_EGRESS of a handle on every enabled die (R262). -/
def setEgress (h w : Nat) (s : State) : State :=
  (List.range 4).foldl (fun s d =>
    if s.dieEnabled d then
      let i := d * 65536 + h
      s.setFlds [(F.STREAM_EGRESS_VALID, i, w / 2 ^ 31), (F.STREAM_EGRESS_KIND, i, w / 2 ^ 30), (F.STREAM_EGRESS_EDIT, i, w / 2 ^ 16),
        (F.STREAM_EGRESS_OPERAND, i, w)]
    else s) s

/-- Refused streams of a plan. -/
def refusedOf (pl : Plan) : List PlanStream := pl.streams.filter (fun x => x.reason != 0)

/-- Placed streams of a plan. -/
def placedOf (pl : Plan) : List PlanStream := pl.streams.filter (fun x => x.reason == 0)

/-- STREAMS_REFUSED follows the plan in force; source 141 when it rises. -/
def showRefused (pl : Plan) (s : State) : State :=
  let n := (refusedOf pl).length
  let s1 := s.setFld F.STREAMS_REFUSED 0 n
  if s.fld F.STREAMS_REFUSED 0 < n then raiseSrc 141 s1 else s1

/-! ### Lists and commit (R272, R273, R283, R284) -/

/-- CRC-32C of R273 over the entries of lists, four bytes little-endian each. -/
def listsCrc (ls : List Nat) : Nat :=
  ls.foldl (fun reg w => (toLe 4 w).foldl (fun reg b => crcBits 32 0x1EDC6F41 b.toNat 8 reg) reg) 0

/-- Write a list to the admin list of a port with its base and cycle; nothing while a change is pending (08 Table 8.11). -/
def writeAdmin (p : Nat) (l : List Nat) (baseNs : Nat) (s : State) : State :=
  if s.fld F.GCL_STATUS_CHANGE_PENDING p = 1 then s
  else
    let s1 := l.zipIdx.foldl (fun s x => gclPut p (adminList p s) x.2 x.1 s) s
    s1.setFlds [(F.GCL_ADMIN_LEN, p, l.length), (F.GCL_ADMIN_CYCLE, p, planCycle s), (F.GCL_ADMIN_BASE_NS, p, baseNs % 1000000000),
      (F.GCL_ADMIN_BASE_SEC_LO, p, baseNs / 1000000000), (F.GCL_ADMIN_BASE_SEC_HI, p, baseNs / 1000000000 / 2 ^ 32)]

/-- The list of a port in a plan, or in the plan in force. -/
def planList (pl : Plan) (p : Nat) : List Nat := tget [] pl.lists p

/-- The ports whose list the plan changes, or whose list another requester has changed. -/
def changedPorts (pl : Plan) (s : State) : List Nat :=
  (planPorts s).filter (fun p =>
    s.pln.foreign.contains p ||
    (match s.pln.inForce with | some old => planList old p != planList pl p | none => true))

/-- The records of a committed plan: its placed and refused streams, then PLAN_COMMIT (Table 10.7). -/
def commitRecords (c : Commit) (s : State) : State :=
  let pl := c.plan
  let s1 := pl.streams.foldl (fun s x =>
    if x.reason = 0 then
      let w := x.wins.headD (0, 0)
      journalRec 2 pl.trigger 0 pl.id x.handle 0 [w.1, w.2 / 1000, (x.bound + 999) / 1000] s
    else journalRec 3 pl.trigger 0 pl.id x.handle x.reason [bitsOf x.egress 0 16] s) s
  let s2 := pl.streams.foldl (fun s x =>
    let was := s.pln.inForce.elim false (fun o => o.streams.any (fun y => y.handle == x.handle && y.detoured && y.reason == 0))
    if x.reason ≠ 0 then s
    else if x.detoured = true ∧ was = false then
      raiseSrc 142 ((journalRec 4 pl.trigger 0 pl.id x.handle 0 [bitsOf (primaryOf x.handle s) 0 16, bitsOf x.egress 0 16] s).bump F.DETOURS 0)
    else if x.detoured = false ∧ was = true then journalRec 5 pl.trigger 0 pl.id x.handle 0 [bitsOf x.egress 0 16] s
    else s) s1
  let crc := listsCrc (c.ports.flatMap (fun p => planList pl p))
  let flags := (if c.isPartial then 1 else 0) + (if c.foreign then 2 else 0)
  let tc := c.tc * nsUnit
  journalRec 1 pl.trigger flags pl.id c.ports.length 0
    [timeNsWord tc, timeSec tc % 2 ^ 32, timeSec tc / 2 ^ 32, crc, (placedOf pl).length, (refusedOf pl).length] s2

/-- A plan comes into force: the counters, the registers and the end of the commit. -/
def planInForce (c : Commit) (s : State) : State :=
  let s1 := commitRecords c s
  let s2 := if c.foreign then s1.bump F.FOREIGN_LIST 0 else s1
  let s3 := raiseSrc 140 (showRefused c.plan (s2.bump F.PLANS_COMMITTED 0))
  let s4 := s3.setFlds [(F.T_COMMIT_NS, 0, timeNsWord (c.tc * nsUnit)), (F.T_COMMIT_SEC_LO, 0, c.tc / 1000000000),
    (F.T_COMMIT_SEC_HI, 0, c.tc / 1000000000 / 2 ^ 32)]
  let left := s4.pln.foreign.filter (fun p => !c.ports.contains p)
  restState (s4.withPln { s4.pln with inForce := some c.plan, commit := none, outside := [], foreign := left })

/-- COMMIT of the first plan, inside PLAN and in one phase (R284). -/
def commitFirst (pl : Plan) (s : State) : State :=
  let s1 := (planPorts s).foldl (fun s p => writeAdmin p (planList pl p) 0 s) s
  let s2 := pl.streams.foldl (fun s x => setEgress x.handle x.egress (setBlocked x.handle (x.reason != 0) s)) s1
  let s3 := wredAll (pl.trigger, pl.id) (headroomAll (fun _ _ => true) (pl.trigger, pl.id) (qMinAll pl (fun _ _ => true) s2))
  planInForce { plan := pl, tc := 0, ports := planPorts s } s3

/-- T_c (R284): the least multiple of PLAN_CYCLE at or after now plus COMMIT_LEAD, in ns. -/
def commitTime (s : State) : Nat :=
  let c := planCycle s
  let t := s.workNsUp + 1000 * policy 3 0 14 s
  if c = 0 then t else (t + c - 1) / c * c

/-- The request of a port was accepted with change time `tc`. -/
def acceptedAt (p tc : Nat) (s : State) : Bool := match tget none s.dp.gclPending p with | some r => r.base == tc | none => false

/-- COMMIT_PREPARE (R283). The headroom is written with the first plan, also when it comes late (R274). -/
def prepare (pl : Plan) (tc : Nat) (s : State) : State :=
  let ports := changedPorts pl s
  let s1 := ports.foldl (fun s p => writeAdmin p (planList pl p) tc s) s
  let blocked := ((refusedOf pl).map (fun x => x.handle)).filter (fun h => !isBlocked h s)
  let s2 := blocked.foldl (fun s h => setBlocked h true s) s1
  let s3q := qMinAll pl isRise s2
  let s3 := if s.pln.inForce.isNone then headroomAll isRise (pl.trigger, pl.id) s3q else s3q
  let s4 := ports.foldl (fun s p => gclCtrl p false true s) s3
  let mine := ports.filter (fun p => s.fld F.GCL_STATUS_CHANGE_PENDING p == 0 && (tget none s4.dp.gclPending p).isSome)
  s4.withPln { s4.pln with commit := some { plan := pl, tc := tc, ports := ports, blocked := blocked, mine := mine } }

/-- Undo a prepare phase (R284): every request of this commit that was accepted is cancelled, and the streams it blocked return. -/
def undoPrepare (c : Commit) (s : State) : State :=
  let s1 := c.mine.foldl (fun s p => gclCtrl p true false s) s
  let s2 := c.blocked.foldl (fun s h => setBlocked h false s) s1
  s2.withPln { s2.pln with commit := none }

/-- COMMIT_ABORT (R284): the record and its counter. `cause`: 1 refused, 2 time, 3 freeze. -/
def abortRecord (pl : Plan) (p cause : Nat) (s : State) : State :=
  raiseSrc 146 ((journalRec 20 pl.trigger 0 pl.id 0 0 [p, cause] s).bump F.PLANS_ABORTED 0)

/-- The triggers that a plan came from are set again. -/
def again (pl : Plan) (s : State) : State :=
  (s.setFld F.PLN_STATUS_PENDING 0 (s.fld F.PLN_STATUS_PENDING 0 ||| pl.triggers)).withPln
    { s.pln with downPorts := s.pln.downPorts ++ pl.downs }

/-- The commit is prepared, or aborts; `first`: it will be tried once more, at the next epoch boundary and so with a T_c reckoned anew (R284). -/
def tryCommit (pl : Plan) (first : Bool) (s : State) : State :=
  let tc := commitTime s
  let s1 := prepare pl tc s
  match s1.pln.commit with
  | none => s1
  | some c =>
    match c.ports.find? (fun p => !acceptedAt p tc s1) with
    | none => s1.setFld F.PLN_STATUS_STATE 0 3
    | some p =>
      let s2 := abortRecord pl p (if c.mine.contains p then 2 else 1) (undoPrepare c s1)
      if first then restState (s2.withPln { s2.pln with retry := some pl })
      else
        let s3 := restState (again pl s2)
        s3.withPln { s3.pln with lastFull := some (s.fld F.EPOCH_COUNT 0) }

/-- A synthesised plan takes its number and is committed, or awaits approval (R287). In PLAN it is committed in one phase. -/
def offerPlan (pl0 : Plan) (wait : Bool) (s : State) : State :=
  let id := s.fld F.PLAN_ID 0 + 1
  let s1 := s.setFld F.PLAN_ID 0 id
  let pl := { pl0 with id := id % 2 ^ 32 }
  if wait then
    let s2 := raiseSrc 144 (journalRec 17 pl.trigger 0 pl.id 0 0 [] s1)
    (s2.setFld F.PLN_STATUS_STATE 0 2).withPln { s2.pln with waiting := some pl }
  else if s.fld F.LDR_STATUS_STATE 0 = 7 then commitFirst pl s1
  else tryCommit pl true s1

/-! ### Entry to RUN (17 R425) -/

/-- The free threads of 12 R330. -/
def freeThreads : List Nat := [6, 7, 14, 15, 22, 23, 30, 31]

/-- ENTER_RUN (17 R425): the change requests of the loaded lists, link bring-up, learning, the extension threads, READY; the time taken
and RESTARTS (17 R423, R424). -/
def enterRun (s : State) : State :=
  let s1 := (List.range 512).foldl (fun s p => if s.fld F.GCL_ADMIN_LEN p = 0 then s else gclCtrl p false true s) s
  let s2 := s1.setFlds [(F.LDR_STATUS_STATE, 0, 8), (F.START_US, 0, min (s.cycle / 3000) 0xFFFFFFFF), (F.RESTARTS, 0, 0)]
  let s3 := (List.range 512).foldl (fun s p => holdOff p (portBringUp p s)) s2
  freeThreads.foldl (fun s t => if s.fld F.THREAD_CFG_ENABLE t = 1 then startThread t s else s) s3

/-- SYNTHESIS_DONE (R270): the full synthesis that runs completes, and its plan goes to commit or awaits approval, once no commit and no approval
is under way. With SYNTH = 0 there is no plan. In PLAN the device then enters RUN. -/
def synthesisDone (s : State) : State :=
  if s.pln.running = 0 ∨ committing s = true ∨ s.pln.waiting.isSome = true then s
  else
    let trig := s.pln.running
    let bit := (List.range 9).find? (fun b => trig.testBit b)
    let s0 := restState (s.withPln { s.pln with running := 0 })
    let inPlan := s.fld F.LDR_STATUS_STATE 0 = 7
    let wait := s.fld F.PLN_CTRL_APPROVE_REQ 0 = 1
    let s1 := if enables 0 s then
        offerPlan { synthesize (trig.testBit 0) s with trigger := bit.getD 0xFF, triggers := trig } (decide wait) s0
      else if inPlan then wredAll (0, 0) (headroomAll (fun _ _ => true) (0, 0) s0) else s0
    if inPlan ∧ (enables 0 s = false ∨ ¬ wait) then enterRun s1 else s1

/-- The running list of a port is the one that a plan gives it. -/
def listInOper (pl : Plan) (p : Nat) (s : State) : Bool :=
  match tget none s.dp.gclOper p with
  | some r => r.len == (planList pl p).length && (planList pl p).zipIdx.all (fun x => gclWord p (tget 0 s.dp.operList p) x.2 s == x.1)
  | none => false

/-- COMMIT_APPLY (R283): once every changed port has changed, the apply phase ends the commit. A port that has lost its request is asked
again, so that the commit is carried through (R284, PARTIAL). -/
def commitApply (s : State) : State :=
  match s.pln.commit with
  | none => s
  | some c =>
    if planState s ≠ 3 ∨ c.ports.any (fun p => (tget none s.dp.gclPending p).isSome) = true then s
    else
      let lost := c.ports.filter (fun p => !listInOper c.plan p s)
      if lost.isEmpty = false then
        let s1 := lost.foldl (fun s p => gclCtrl p false true (writeAdmin p (planList c.plan p) c.tc s)) s
        s1.withPln { s1.pln with commit := some { c with isPartial := true } }
      else
        let why := (c.plan.trigger, c.plan.id)
        let was (h : Nat) : Bool := s.pln.inForce.elim false (fun o => (placedOf o).any (fun y => y.handle == h))
        let s1 := c.plan.streams.foldl (fun s x =>
          let s2 := setEgress x.handle x.egress s
          if x.reason = 0 ∧ was x.handle = false then setBlocked x.handle false s2 else s2) s
        let s2 := if s.pln.inForce.isNone then wredAll why (headroomAll isFall why s1) else s1
        planInForce { c with foreign := c.ports.any (fun p => s.pln.foreign.contains p) } (qMinAll c.plan isFall s2)

/-! ### Approval (R287) -/

/-- A quarantine is applied: a port-down event, whatever the state of the link, and the port is held down (R281, 02 R53). -/
def quarantine (p : Nat) (s : State) : State :=
  let s1 := raiseSrc 143 ((journal 6 p [s.fld F.LINK_FLAPS p] (s.setFld F.PORT_STATUS_QUARANTINED p 1)).bump F.QUARANTINES 0)
  portDown p .quarantine s1

/-- The waiting plan whose number APPROVE_ID names. -/
def waitingPlan (s : State) : Option Plan := if planState s = 2 ∧ s.fld F.APPROVE_ID 0 = s.fld F.PLAN_ID 0 then s.pln.waiting else none

/-- The waiting plan is discarded as REJECTED. -/
def discardPlan (s : State) : State :=
  match s.pln.waiting with
  | none => s
  | some pl => restState ((journalRec 19 pl.trigger 0 pl.id 0 0 [] s).withPln { s.pln with waiting := none })

/-- PLAN_APPROVE (R287): APPROVE_CMD with OP 1. -/
def planApprove (q : Requester) (s : State) : State :=
  gated q (regOffset .APPROVE_CMD 0) (fun s =>
    match waitingPlan s with
    | none => s.bump F.APPROVE_STALE 0
    | some pl =>
      let s1 := restState ((journalRec 18 pl.trigger 0 pl.id 0 0 [] s).withPln { s.pln with waiting := none })
      if pl.quar.isEmpty = false then pl.quar.foldl (fun s p => quarantine p s) s1
      else if s.fld F.LDR_STATUS_STATE 0 = 7 then enterRun (commitFirst pl s1)
      else tryCommit pl true s1) s

/-- PLAN_REJECT (R287): APPROVE_CMD with OP 2. -/
def planReject (q : Requester) (s : State) : State :=
  gated q (regOffset .APPROVE_CMD 0) (fun s =>
    match waitingPlan s with
    | none => s.bump F.APPROVE_STALE 0
    | some _ => discardPlan s) s

/-- APPROVE_TIMEOUT (R287). -/
def approveTimeout (s : State) : State := if planState s = 2 then discardPlan s else s

/-! ### PLN.CTRL (R286, R282) -/

/-- A quarantine ends (R281). -/
def quarantineEnds (p : Nat) (s : State) : State :=
  if s.fld F.PORT_STATUS_QUARANTINED p = 0 then s
  else holdOff p (journal 7 p [s.fld F.LINK_FLAPS p] (s.setFld F.PORT_STATUS_QUARANTINED p 0))

/-- FREEZE takes effect (R286): a synthesis and a commit that is to be tried again go back to their triggers, a waiting plan is discarded, and a
prepared commit is cancelled where every cancel can still be accepted. -/
def freeze (s : State) : State :=
  let s1 := journal 21 0 [s.fld F.PLN_STATUS_PENDING 0] s
  let s2 := (s1.setFld F.PLN_STATUS_PENDING 0 (s1.fld F.PLN_STATUS_PENDING 0 ||| s.pln.running)).withPln { s1.pln with running := 0 }
  let s3 := match s.pln.retry with
    | some pl => again pl (s2.withPln { s2.pln with retry := none })
    | none => s2
  if s.pln.waiting.isSome then discardPlan s3
  else match s.pln.commit with
  | none => restState s3
  | some c =>
    if c.ports.all (fun p => acceptedAt p c.tc s3 && gclCancelOk p s3) then
      restState (again c.plan (abortRecord c.plan (c.ports.headD 0) 3 (undoPrepare c s3)))
    else s3

/-- Quarantines that have fallen due are applied, when the Planner may write and they need no approval (R281, R286, R287). -/
def applyDue (s : State) : State :=
  s.pln.quarDue.foldl (fun s p => quarantine p s) (s.withPln { s.pln with quarDue := [] })

/-- Detours and quarantines wait for approval (R287). -/
def detoursWait (s : State) : Bool := s.fld F.PLN_CTRL_APPROVE_REQ 0 == 1 && s.fld F.PLN_CTRL_APPROVE_DETOUR 0 == 1

/-- UNFREEZE takes effect (R286): quarantines that ended or fell due are applied; triggers wait for the next epoch boundary. -/
def unfreeze (s : State) : State :=
  let s0 := journal 22 0 [s.fld F.PLN_STATUS_PENDING 0] s
  let s1 := if planState s = 5 then restState s0 else s0
  let s2 := s1.pln.quarEnd.foldl (fun s p => quarantineEnds p s) (s1.withPln { s1.pln with quarEnd := [] })
  if detoursWait s2 then s2 else applyDue s2

/-- A privileged write of PLN.CTRL as a word: APPROVE_DETOUR, APPROVE_REQ, FREEZE, REPLAN (Table 10.11). -/
def ctrlWrite (w : Nat) (s : State) : State :=
  let was := s.fld F.PLN_CTRL_FREEZE 0
  let s1 := s.setFlds [(F.PLN_CTRL_APPROVE_DETOUR, 0, bitsOf w 3 1), (F.PLN_CTRL_APPROVE_REQ, 0, bitsOf w 2 1), (F.PLN_CTRL_FREEZE, 0, bitsOf w 1 1)]
  let s2 := if bitsOf w 31 1 = 1 then trigger 6 s1 else s1
  if was = 0 ∧ bitsOf w 1 1 = 1 then freeze s2
  else if was = 1 ∧ bitsOf w 1 1 = 0 then unfreeze s2
  else s2

/-- A write of PLN.CTRL by a requester. -/
def plnCtrlWrite (q : Requester) (w : Nat) (s : State) : State := gated q (regOffset .PLN_CTRL 0) (ctrlWrite w) s

/-- SS_INDEX_WRITE (Table 10.12): any requester writes its own copy. -/
def ssIndexWrite (q : Requester) (h : Nat) (s : State) : State :=
  if s.terminal then s else s.withPln { s.pln with ssIndex := tset 0 s.pln.ssIndex q.code (h % 65536) }

/-! ### Expiries and periodic work -/

/-- QUARANTINE_EXPIRY (R281): QUARANTINE_TIME has passed; while frozen the Planner writes nothing, and the quarantine ends at unfreeze. -/
def quarantineExpiry (p : Nat) (s : State) : State :=
  if 512 ≤ p ∨ s.fld F.PORT_STATUS_QUARANTINED p = 0 then s
  else if thawed s then quarantineEnds p s
  else s.withPln { s.pln with quarEnd := s.pln.quarEnd ++ [p] }

/-- A stream of the plan in force is detoured from port `p`. -/
def isAway (p : Nat) (s : State) : Bool :=
  s.pln.inForce.elim false (fun pl => pl.streams.any (fun x =>
    x.detoured && (tget none s.pln.decls x.handle).elim false (fun d => (egressMembers (egressWord d.egress) s).any (fun e => e.1 == p))))

/-- RETURN_HOLD_EXPIRY (R280): a port that is the primary of a detoured stream has been up for RETURN_HOLD. -/
def returnHoldExpiry (p : Nat) (s : State) : State :=
  if isAway p s = false ∨ planUp false p s = false ∨ s.pln.returnOk.contains p = true then s
  else trigger 3 (s.withPln { s.pln with returnOk := s.pln.returnOk ++ [p] })

/-- Bytes on the wire of a port since reset, 20 added per frame (Table 10.3). -/
def wireOctets (p : Nat) (s : State) : Nat := s.fld F.TX_OCTETS p + 20 * s.fld F.TX_FRAMES p

/-- A new BUF_PERIOD begins. -/
def beginBufPeriod (s : State) : State :=
  let ps := planPorts s
  s.withPln { s.pln with
    bufRefused := ps.foldl (fun t p => (List.range 8).foldl (fun t n => tset 0 t (8 * p + n) (s.fld F.REFUSED_DT (8 * p + n))) t) []
    bufOctets := ps.foldl (fun t p => tset 0 t p (wireOctets p s)) []
    bufDepth := [], bufFree := none, bufEpochs := 0 }

/-- ALPHA_K of a queue as a signed number. -/
def alphaOf (q : Nat) (s : State) : Int := let k := s.fld F.Q_CFG_ALPHA_K q; if k < 4 then Int.ofNat k else Int.ofNat k - 8

/-- Three bits of a policy word as a signed number. -/
def signed3 (v : Nat) : Int := if v < 4 then Int.ofNat v else Int.ofNat v - 8

/-- n < 2^ALPHA_K × FREE. -/
def underAlpha (k n free : Nat) : Bool := if k < 4 then decide (n < 2 ^ k * free) else decide (n * 2 ^ (8 - k) < free)

/-- The step of one queue (R276): +1, −1 or 0. -/
def alphaStep (p n : Nat) (s : State) : Int :=
  let q := 8 * p + n
  let rose := tget 0 s.pln.bufRefused q < s.fld F.REFUSED_DT q
  let used := 8 * 3 * 100 * (wireOctets p s - tget 0 s.pln.bufOctets p)
  let lim := policy 20 8 7 s * rateOf p s * s.pln.bufEpochs * 1000
  let k := alphaOf q s
  let free := s.pln.bufFree.getD (freeShared s)
  if rose then (if used < lim ∧ k < signed3 (policy 20 4 3 s) then 1 else 0)
  else if signed3 (policy 20 0 3 s) < k ∧ underAlpha (s.fld F.Q_CFG_ALPHA_K q) (4 * tget 0 s.pln.bufDepth q) free = true then -1
  else 0

/-- ALPHA_K of queue `n` of a port moves by its step, with its journal record (R276). -/
def alphaQueue (p n : Nat) (s : State) : State :=
  let st := alphaStep p n s
  if (policy 2 8 8 s).testBit n = false ∨ st = 0 then s
  else
    let q := 8 * p + n
    let old := s.fld F.Q_CFG_ALPHA_K q
    let new := ((alphaOf q s + st).emod 8).toNat
    journalRec 11 8 0 0 q 0 [old, new] (s.setFld F.Q_CFG_ALPHA_K q new)

/-- The ALPHA_K steps of R276, for the queues of PLAN_PORTS in BG_GATES. -/
def alphaAct (s : State) : State := beginBufPeriod ((planPorts s).foldl (fun s p => (List.range 8).foldl (fun s n => alphaQueue p n s) s) s)

/-- ALPHA_ADJUST (R276, R282) at the end of a BUF_PERIOD: the BUF trigger sets, and is acted on unless the Planner is frozen or commits. -/
def alphaAdjust (s : State) : State :=
  if enables 4 s = false then s
  else if thawed s = false ∨ committing s = true then trigger 8 s
  else alphaAct s

/-- A 16-bit number in two's complement. -/
def signed16 (v : Nat) : Int := if v < 32768 then Int.ofNat v else Int.ofNat v - 65536

/-- The greatest of the five sensor readings (Table 15.7). -/
def greatestDieTemp (s : State) : Int := (List.range 5).foldl (fun a i => max a (signed16 (s.fld F.FLT_TEMP i))) (-32768)

/-- The greater of the two DRAM temperatures. -/
def greatestDramTemp (s : State) : Int := (List.range 2).foldl (fun a i => max a (signed8 (s.fld F.STACK_TEMP_RAW i))) (-128)

/-- SURVEY_RECORD (R288, Table 10.7): the greatest die and DRAM temperatures and the steps seen. -/
def surveyRecord (s : State) : State :=
  journal 23 0 [((greatestDieTemp s).emod (2 ^ 32)).toNat, ((greatestDramTemp s).emod (2 ^ 32)).toNat, s.pln.steps] s

/-- TRAP_TOKEN_REFILL (R290): the bucket of 64 gains one frame. -/
def trapTokenRefill (s : State) : State := s.withPln { s.pln with trapSpent := s.pln.trapSpent - 1 }

/-! ### The epoch boundary -/

/-- SURVEY (R264 to R266): the phases of the epoch go into the memory of OBS_EPOCHS, unless a step fell in it. -/
def surveyPhases (s : State) : State :=
  let e := s.fld F.EPOCH_COUNT 0
  let keep := policy 5 0 16 s
  let add (h : Nat) (l : List (Nat × Int × Int)) : List (Nat × Int × Int) :=
    let old := l.filter (fun x => decide (e < x.1 + keep))
    match tget none s.pln.phase h with
    | some v => if s.time.stepped then old else (e, v.1, v.2) :: old
    | none => old
  let hs := s.pln.obs.map Prod.fst ++ (s.pln.phase.map Prod.fst).filter (fun h => !thas s.pln.obs h)
  s.withPln { s.pln with obs := hs.foldl (fun t h => tset [] t h (add h (tget [] t h))) s.pln.obs }

/-- The PHASE trigger (Table 10.5, bit 4): three epochs in a row with a phase outside the window of the plan in force. -/
def phaseTrigger (s : State) : State :=
  match s.pln.inForce with
  | none => s
  | some pl =>
    pl.streams.foldl (fun s x =>
      match tget none s.pln.phase x.handle, tget none s.pln.decls x.handle with
      | some v, some d =>
        if x.reason ≠ 0 ∨ s.time.stepped = true then s
        else if Int.ofNat d.phase + v.1 < x.phaseLo ∨ x.phaseHi < Int.ofNat d.phase + v.2 then
          let n := tget 0 s.pln.outside x.handle + 1
          let s1 := s.withPln { s.pln with outside := tset 0 s.pln.outside x.handle n }
          if 3 ≤ n then trigger 4 s1 else s1
        else s.withPln { s.pln with outside := tset 0 s.pln.outside x.handle 0 }
      | _, _ => s) s

/-- The measured cable delay of a port lies more than 16 ns from the one last used for its headroom (R274). -/
def delayMoved (p : Nat) (s : State) : Bool :=
  match tget none s.pln.linkDelay p, tget none s.pln.usedDelay p with
  | some x, some u => decide (u + 16 < x) || decide (x + 16 < u)
  | _, _ => false

/-- The link delays that gPTP measured in the epoch on ports with MODE ≠ 0 and PTP_EN = 1 (09 R247), as (port, ns); a change of more than 16 ns
sets LINK_DELAY. -/
def surveyDelays (l : List (Nat × Nat)) (s : State) : State :=
  (l.filter (fun x => portExists x.1 s && s.fld F.PORT_PTP_CFG x.1 == 1)).foldl (fun s x =>
    let s1 := s.withPln { s.pln with linkDelay := tset none s.pln.linkDelay x.1 (some x.2) }
    if enables 6 s = true ∧ delayMoved x.1 s1 = true then trigger 5 s1 else s1) s

/-- The buffer inputs of the running BUF_PERIOD. -/
def surveyBuffer (s : State) : State :=
  if enables 4 s = false then s
  else
    let qs := (planPorts s).flatMap (fun p => (List.range 8).map (fun n => 8 * p + n))
    s.withPln { s.pln with
      bufDepth := qs.foldl (fun t q => tset 0 t q (max (tget 0 t q) (s.fld F.Q_DEPTH_MAX q))) s.pln.bufDepth
      bufFree := some (min (s.pln.bufFree.getD (freeShared s)) (freeShared s))
      bufEpochs := s.pln.bufEpochs + 1 }

/-- SHED_LEVEL_CHANGE (R289): the load of the epoch out of 4,000,000 issue slots moves the level. -/
def shedLevel (slots : Nat) (s : State) : State :=
  let load := 100 * slots / 4000000
  let s1 := s.setFld F.PLN_LOAD 0 (min load 255)
  let high := if 85 * 40000 < slots then s.pln.loadHigh + 1 else 0
  let low := if slots < 70 * 40000 then s.pln.loadLow + 1 else 0
  let lvl := s.fld F.PLN_STATUS_SHED_LEVEL 0
  let lvl' := if 3 ≤ high then min (lvl + 1) 5 else if 3 ≤ low then lvl - 1 else lvl
  let s2 := s1.withPln { s1.pln with loadHigh := high, loadLow := if 3 ≤ low then 0 else low }
  if lvl' = lvl then s2
  else raiseSrc 145 (journal 16 0 [lvl, lvl', load] (s2.setFld F.PLN_STATUS_SHED_LEVEL 0 lvl'))

/-- The port-down events that reached the Planner (R279, R281): the flaps of the sliding window, quarantines, and detours to come. -/
def seeDowns (s : State) : State :=
  let evs := s.pln.downs
  let ok := s.pln.returnOk.filter (fun p => !evs.any (fun e => e.1 == p))
  let down := s.pln.downPorts ++ (evs.map Prod.fst).filter (fun p => !s.pln.downPorts.contains p)
  let s0 := s.withPln { s.pln with downs := [], returnOk := ok, downPorts := down }
  let s1 := evs.foldl (fun s e =>
    if e.2.1 = false ∨ enables 2 s = false then s
    else
      let win := policy 7 16 16 s * 3000000000
      let l := e.2.2 :: (tget [] s.pln.flaps e.1).filter (fun c => decide (e.2.2 < c + win))
      let s2 := s.withPln { s.pln with flaps := tset [] s.pln.flaps e.1 l }
      if l.length < policy 7 0 8 s ∨ s.fld F.PORT_STATUS_QUARANTINED e.1 = 1 ∨ s.pln.quarDue.contains e.1 = true then s2
      else if thawed s = true ∧ detoursWait s = false then quarantine e.1 s2
      else s2.withPln { s2.pln with quarDue := s2.pln.quarDue ++ [e.1] }) s0
  if evs.isEmpty = true ∨ enables 1 s = false then s1 else trigger 2 s1

/-- The estimate in bytes of a key on a die in the epoch just ended: the sum over its two pipelines (11 R295). -/
def hhBytes (d key : Nat) (s : State) : Nat :=
  let one (x : Nat) : Nat := ((tget [] s.tel.candLatched x).filter (fun e => e.1 == key)).foldl (fun a e => a + e.2) 0
  one (2 * d) + one (2 * d + 1)

/-- Whole Mb/s of a number of bytes in an epoch, for the records. -/
def hhRate (d key : Nat) (s : State) : Nat := hhBytes d key s * 24 / 1000

/-- The estimate exceeds HH_THRESHOLD; it lies below half of it (R278). -/
def hhAbove (d key : Nat) (s : State) : Bool := decide (policy 14 0 17 s * 1000 < hhBytes d key s * 24)
def hhBelow (d key : Nat) (s : State) : Bool := decide (2 * (hhBytes d key s * 24) < policy 14 0 17 s * 1000)

/-- The words of a class key in a journal record. -/
def keyWords (key : Nat) : List Nat := (List.range 5).map (fun i => bitsOf key (32 * i) 32)

/-- The limit rule of a flow (R278). -/
def limitRule (key : Nat) (s : State) : TcamEntry :=
  { value := key, mask := 2 ^ 160 - 1, valid := true, prio := policy 17 16 16 s, action := BitVec.ofNat 32 (0xFE00FFFF + policy 17 0 3 s * 2 ^ 21) }

/-- HH_LIMITS follows the rules that stand. -/
def showLimits (s : State) : State := s.setFld F.HH_LIMITS 0 s.pln.hhRules.length

/-- Insert the limit rule of a flow that has stayed above the threshold, and set the shaper of every egress port. -/
def hhInsert (d key : Nat) (s : State) : State :=
  let est := hhRate d key s
  let none' := journalRec 15 7 0 0 d 0 (keyWords key ++ [est]) s
  if policy 17 8 8 s ≤ s.pln.hhRules.length then none'
  else match partOfKind d 1 s with
    | none => none'
    | some p =>
      let r := tcamInsertEntry d p (limitRule key s) s
      if r.2.result ≠ 0 then none'
      else
        let base := policy 18 0 15 s
        let s1 := (List.range 512).foldl (fun s p => (setShaper (base + p) (shaperNow (base + p) s) s).setFld F.SHP_RATE (base + p) (policy 15 0 27 s)) r.1
        showLimits (journalRec 13 7 0 0 d 0 (keyWords key ++ [est]) (s1.withPln { s1.pln with hhRules := s1.pln.hhRules ++ [(d, key, 0)] }))

/-- Delete the limit rule of a flow. -/
def hhDelete (d key : Nat) (s : State) : State :=
  let s1 := match partOfKind d 1 s with
    | some p => (tcamDeleteEntry d p (limitRule key s) s).1
    | none => s
  showLimits (journalRec 14 7 0 0 d 0 (keyWords key ++ [hhRate d key s])
    (s1.withPln { s1.pln with hhRules := s1.pln.hhRules.filter (fun r => !(r.1 == d && r.2.1 == key)) }))

/-- The heavy flows of the epoch just ended (R278), each epoch and while frozen too: the epochs above the threshold and below half of it, and the
HH trigger. Evaluation stops at shed level 2. -/
def hhSurvey (s : State) : State :=
  if enables 3 s = false ∨ 2 ≤ s.fld F.PLN_STATUS_SHED_LEVEL 0 then s
  else
    let keys := (List.range 4).flatMap (fun d =>
      let l := (tget [] s.tel.candLatched (2 * d)).map Prod.fst ++ (tget [] s.tel.candLatched (2 * d + 1)).map Prod.fst
      l.eraseDups.map (fun k => (d, k)))
    let hot := (keys.filter (fun k => hhAbove k.1 k.2 s)).map (fun k =>
      let n := (s.pln.hhHot.find? (fun x => x.1 == k.1 && x.2.1 == k.2)).elim 0 (fun x => x.2.2)
      (k.1, k.2, n + 1))
    let rules := s.pln.hhRules.map (fun r => (r.1, r.2.1, if hhBelow r.1 r.2.1 s then r.2.2 + 1 else 0))
    trigger 7 (s.withPln { s.pln with hhHot := hot, hhRules := rules })

/-- HH_LIMIT (R278): rules released, and rules for the flows that have stayed above the threshold. -/
def hhAct (s : State) : State :=
  let done := s.pln.hhRules.filter (fun r => decide (policy 16 16 16 s ≤ r.2.2))
  let s1 := done.foldl (fun s r => hhDelete r.1 r.2.1 s) s
  (s.pln.hhHot.filter (fun h => decide (policy 16 0 16 s ≤ h.2.2) && !s1.pln.hhRules.any (fun r => r.1 == h.1 && r.2.1 == h.2.1))).foldl
    (fun s h => hhInsert h.1 h.2.1 s) s1

/-- The direct triggers are acted on: LINK_DELAY, HH and BUF take no switch (R282). -/
def actDirect (s : State) : State :=
  let p := s.fld F.PLN_STATUS_PENDING 0
  let s1 := s.setFld F.PLN_STATUS_PENDING 0 (p - (p &&& 0x1A0))
  let s2 := if p.testBit 5 then
      (pfcPorts s1).foldl (fun s q => if delayMoved q s then headroomPort (fun _ _ => true) (5, 0) q s else s) s1
    else s1
  let s3 := if p.testBit 7 then hhAct s2 else s2
  if p.testBit 8 then alphaAct s3 else s3

/-- A full synthesis begins, when one is due and none runs (R282). -/
def beginSynthesis (s : State) : State :=
  let p := s.fld F.PLN_STATUS_PENDING 0
  let spaced := match s.pln.lastFull with | some e => decide (e + policy 4 0 16 s ≤ s.fld F.EPOCH_COUNT 0) | none => true
  if s.pln.running ≠ 0 ∨ p &&& fullBits = 0 ∨ spaced = false ∨ s.fld F.PLN_STATUS_SHED_LEVEL 0 = 5 then s
  else
    let s1 := s.setFld F.PLN_STATUS_PENDING 0 (p - (p &&& fullBits))
    restState (s1.withPln { s1.pln with running := p &&& fullBits, lastFull := some (s.fld F.EPOCH_COUNT 0) })

/-- The pending triggers are acted on with no commit in progress: the direct ones, quarantines due, then a detour (also while a synthesis runs,
R279), else a full synthesis. A plan that waits for approval holds the last two back. -/
def plannerTurn (s : State) : State :=
  let sd := actDirect s
  let s0 := if sd.pln.quarDue.isEmpty = false ∧ detoursWait sd = false then applyDue sd else sd
  if s0.pln.waiting.isSome then s0
  else if s0.pln.quarDue.isEmpty = false then offerPlan { quar := s0.pln.quarDue } true (s0.withPln { s0.pln with quarDue := [] })
  else
    let p := s0.fld F.PLN_STATUS_PENDING 0
    let detour := if p.testBit 2 = true ∧ enables 0 s0 = true then detourPlan s0.pln.downPorts s0 else none
    let s1 := if p.testBit 2 then
        (s0.setFld F.PLN_STATUS_PENDING 0 (setBit p 2 false)).withPln { s0.pln with downPorts := [] }
      else s0
    match detour with
    | some pl => offerPlan { pl with trigger := 2, triggers := 4, downs := s0.pln.downPorts } (detoursWait s) s1
    | none => beginSynthesis s1

/-- PLANNER_ACT (R282, R284): at an epoch boundary, unless frozen or in a commit. A commit that has aborted is tried again first. -/
def plannerAct (s : State) : State :=
  if thawed s = false ∨ s.pln.commit.isSome = true then s
  else match s.pln.retry with
  | some pl => tryCommit pl false (s.withPln { s.pln with retry := none })
  | none => plannerTurn s

/-- The Planner at an epoch boundary: the Survey of the epoch just ended, the load, the port-down events, heavy flows and the pending
triggers. The firmware runs from the end of LOAD, and not while the part is Terminal or the ME is in reset. -/
def plannerEpoch (delays : List (Nat × Nat)) (slots : Nat) (s : State) : State :=
  if s.terminal = true ∨ (s.fld F.LDR_STATUS_STATE 0 ≠ 7 ∧ s.fld F.LDR_STATUS_STATE 0 ≠ 8) ∨ inUnitReset 0 s = true then s
  else
    let s1 := surveyBuffer (surveyDelays delays (phaseTrigger (surveyPhases s)))
    let s2 := s1.withPln { s1.pln with phase := [], steps := s1.pln.steps + (if s.time.stepped then 1 else 0) }
    plannerAct (hhSurvey (seeDowns (shedLevel slots s2)))

end Sys2Proof.Machine
end

