-- ==== Sys2Proof/Machine/HostIf.lean ====
section
/-! DEFINITION. The PCI Express host interface (18_host_interface.md R446 to R466, R471) and the transmit ring of port 513
(12_management_engine.md R329). -/

namespace Sys2Proof.Machine

/-! ### Link, configuration and completions -/

/-- The completion of a host request: its status and the poisoned bit. -/
def complete (status : Nat) (poison : Bool) (s : State) : State := s.withHif { s.hif with cpl := status, poisoned := poison }

/-- The requester of a function. -/
def funcReq (f : Nat) : Requester := if f = 0 then .pf0 else .pf1

/-- PCIE_LINK_UP (R446): the link is in L0 at a rate code 1 to 5 and a width of 1, 2, 4, 8 or 16; source 64 (14 Table 14.3). -/
def pcieLinkUp (rate width : Nat) (s : State) : State :=
  if rate < 1 ∨ 5 < rate ∨ [1, 2, 4, 8, 16].contains width = false then s
  else raiseSrc 64 (s.setFlds [(F.LINK_STATUS_UP, 0, 1), (F.LINK_STATUS_RATE, 0, rate), (F.LINK_STATUS_WIDTH, 0, width), (F.LINK_STATUS_L1, 0, 0)])

/-- A function answers: the device has reached LOAD, or, for PF0, SAFE (17 R426, R441). -/
def funcAnswers (f : Nat) (s : State) : Bool := s.hif.enumerated || (f == 0 && s.safe)

/-- A function answers memory requests: it is in D0 (R465) and its memory space is enabled. -/
def answersMem (f : Nat) (s : State) : Bool := funcAnswers f s && dState f s == 0 && tget false s.hif.memEnable f

/-- An error is logged (R471): bit `b` of the function's status and source 65; an uncorrectable one commits HIF_UNCORR. -/
def aerLog (f b : Nat) (uncorr : Bool) (s : State) : State :=
  let s1 := raiseSrc 65 (s.withHif { s.hif with aer := tset 0 s.hif.aer f (setBit (tget 0 s.hif.aer f) b true) })
  if uncorr then raiseFault 28 4 f s1 else s1

/-- A memory request that function `f` does not answer receives Unsupported Request, logged in D3hot (R465, Table 18.7). -/
def memRefused (f : Nat) (s : State) : State :=
  let s1 := complete 1 false s
  if s.fld F.LINK_STATUS_UP 0 = 1 ∧ dState f s ≠ 0 then aerLog f 3 true s1 else s1

/-- The bits of a base address register that can be written, by its size (Table 18.2); 0 for a register that does not exist. -/
def barMask (f n : Nat) (s : State) : Nat :=
  match f, n with
  | 0, 0 => 0xFC000000
  | 0, 1 => 0xFFFFFFFF
  | 0, 2 => if s.safe then 0 else 0xF0000000
  | 0, 3 => if s.safe then 0 else 0xFFFFFFFF
  | 0, 4 => if s.safe then 0 else 0xFFFFC000
  | 0, 5 => if s.safe then 0 else 0xFFFFFFFF
  | 1, 0 => 0xFF000000
  | 1, 1 => 0xFFFFFFFF
  | 1, 4 => 0xFFFFC000
  | 1, 5 => 0xFFFFFFFF
  | _, _ => 0

/-- The type bits of a base address register: 64-bit, BAR2 prefetchable. -/
def barType (f n : Nat) : Nat := if n % 2 = 1 then 0 else if f = 0 ∧ n = 2 then 12 else 4

/-- A base address register as it reads. -/
def barRead (f n : Nat) (s : State) : Nat :=
  if barMask f n s = 0 then 0 else (tget 0 s.hif.bars (f * 8 + n) &&& barMask f n s) + barType f n

/-- Place stated fields over the free bits of a word: least significant bit, width and value of each. -/
def overFree (free : BitVec 32) (l : List (Nat × Nat × Nat)) : Nat :=
  l.foldl (fun w e => w - bitsOf w e.1 e.2.1 * 2 ^ e.1 + e.2.2 % 2 ^ e.2.1 * 2 ^ e.1) free.toNat

/-- The fields of word `w` of a capability of function `f` that Table 18.1 and R446 fix, in the layout of the PCI Express specification. -/
def capFields (f : Nat) (c : CfgCap) (w : Nat) (s : State) : List (Nat × Nat × Nat) :=
  let on (b : Bool) : Nat := if b then 1 else 0
  match c, w with
  | .powerManagement, 0 => [(0, 8, 1), (27, 5, 8)]
  | .powerManagement, 1 =>
    [(0, 2, dState f s), (3, 1, 1), (8, 1, on (tget false s.hif.pmeEn f)), (15, 1, on (tget false s.hif.pmeStatus f))]
  | .pciExpress, 0 => [(0, 8, 0x10), (20, 4, 0)]
  | .pciExpress, 1 => [(0, 3, 2), (5, 1, 1), (28, 1, 1)]
  | .pciExpress, 2 => [(5, 3, tget 0 s.hif.sizes (f * 2)), (12, 3, tget 2 s.hif.sizes (f * 2 + 1))]
  | .pciExpress, 3 => [(0, 4, 5), (4, 6, 16), (10, 2, 2), (15, 3, 3)]
  | .pciExpress, 4 =>
    [(16, 4, s.fld F.LINK_STATUS_RATE 0), (20, 6, s.fld F.LINK_STATUS_WIDTH 0)] ++ (if f = 0 then [(0, 2, 2 * on s.hif.aspmL1)] else [])
  | .msix, 0 =>
    [(0, 8, 0x11), (16, 11, vectorCount f - 1), (30, 1, on (tget false s.hif.fnMask f)), (31, 1, on (tget false s.hif.msixEnable f))]
  | .msix, 1 => [(0, 32, 4)]
  | .msix, 2 => [(0, 32, 0x2000 + 4)]
  | .aer, 0 => [(0, 16, 1)]
  | .aer, 1 =>
    let e := tget 0 s.hif.aer f
    [(12, 1, on (e.testBit 1)), (14, 1, on (e.testBit 4)), (16, 1, on (e.testBit 5)), (19, 1, on (e.testBit 2)), (20, 1, on (e.testBit 3))] ++
      (if e.testBit 6 then [] else [(4, 2, 0), (13, 1, 0), (18, 1, 0)])
  | .aer, 4 => if (tget 0 s.hif.aer f).testBit 0 then [] else [(0, 1, 0), (6, 3, 0), (12, 1, 0)]
  | .serialNumber, 0 => [(0, 16, 3)]
  | .serialNumber, 1 => [(0, 32, s.fld F.SERIAL_LO 0)]
  | .serialNumber, 2 => [(0, 32, s.fld F.SERIAL_HI 0)]
  | _, _ => []

/-- Word `w` of a capability of function `f` (R447). In SAFE there is no MSI-X (17 R441). -/
def capRead (f : Nat) (c : CfgCap) (w : Nat) (s : State) : Nat :=
  overFree (Config.capWord f c.code w) (if s.safe = true ∧ c = .msix then [] else capFields f c w s)

/-- A word of the configuration header of function `f` (R446, R448, 17 R426); it holds capabilities (R447), so that status bit shows them. -/
def configRead (f d : Nat) (s : State) : Nat :=
  match d with
  | 0 => 0x51201F6D
  | 1 => 2 ^ 20 + (if tget false s.hif.memEnable f then 2 else 0) + (if bme f s then 4 else 0)
  | 2 => 0x028000A1
  | 3 => 0x00800000
  | 11 => s.fld F.SUBSYS_SUBSYS_ID 0 * 2 ^ 16 + s.fld F.SUBSYS_SUBSYS_VENDOR 0
  | 15 => 0
  | n => if 4 ≤ n ∧ n < 10 then barRead f (n - 4) s else (Config.configWord f n).toNat

/-- What a configuration write does. -/
def configWrite (f : Nat) (r : CfgReq) (s : State) : State :=
  match r with
  | .read _ => s
  | .capability _ _ => s
  | .command mem bm =>
    let v := setBit (s.fld F.FUNC_STATUS_BME 0) f bm
    flushVectors f ((s.setFld F.FUNC_STATUS_BME 0 v).withHif { s.hif with memEnable := tset false s.hif.memEnable f mem })
  | .bar n v =>
    if barMask f n s = 0 then s
    else s.withHif { s.hif with bars := tset 0 s.hif.bars (f * 8 + n) (v &&& barMask f n s) }
  | .deviceControl mps mrrs =>
    let a := if mps ≤ 2 then tset 0 s.hif.sizes (f * 2) mps else s.hif.sizes
    s.withHif { s.hif with sizes := if mrrs ≤ 5 then tset 2 a (f * 2 + 1) mrrs else a }
  | .linkControl l1 => if f = 0 then s.withHif { s.hif with aspmL1 := l1 } else s
  | .pme en clear =>
    let st := if clear then tset false s.hif.pmeStatus f false else s.hif.pmeStatus
    s.withHif { s.hif with pmeEn := tset false s.hif.pmeEn f en, pmeStatus := st }
  | .msixControl en mask =>
    flushVectors f (s.withHif { s.hif with msixEnable := tset false s.hif.msixEnable f en, fnMask := tset false s.hif.fnMask f mask })
  | .aerClear bits => s.withHif { s.hif with aer := tset 0 s.hif.aer f (tget 0 s.hif.aer f - (tget 0 s.hif.aer f &&& bits)) }

/-- CONFIGURATION_REQUEST (17 R426): Retry Status until the device enters LOAD or SAFE; then both functions answer, but for function 1 in a SAFE
entered before LOAD. -/
def configurationRequest (f : Nat) (r : CfgReq) (s : State) : State :=
  if 2 ≤ f ∨ s.fld F.LINK_STATUS_UP 0 = 0 then s
  else if s.hif.enumerated = false ∧ s.safe = false then complete 2 false s
  else if f = 1 ∧ s.hif.enumerated = false then complete 1 false s
  else
    let s1 := complete 0 false s
    match r with
    | .read d => setOut (funcReq f) (configRead f d s) s1
    | .capability c w => setOut (funcReq f) (capRead f c w s) s1
    | w => configWrite f w s1

/-! ### BAR2 (R451) -/

/-- A memory request to BAR2 of PF0 is answered: BAR2 is absent in SAFE (17 R441). -/
def bar2Up (s : State) : Bool := answersMem 0 s && !s.safe && s.fld F.LINK_STATUS_UP 0 == 1

/-- The HBM3 address of a BAR2 offset. -/
def bar2Addr (o : Nat) (s : State) : Nat := s.fld F.BAR2_BASE 0 * 0x10000000 + o % 0x10000000

/-- BAR2_READ of up to 8 bytes; `ue`: the data includes a word flagged uncorrectable, as all of a FAILED channel is (16 R416). -/
def bar2Read (o n : Nat) (ue : Bool) (s : State) : State :=
  if bar2Up s = false then memRefused 0 s
  else
    let a := bar2Addr o s
    let failed := (List.range (min n 8)).any (fun k => s.fld F.CH_STATUS_STATE (dramChan (a + k)) == 4)
    dramRequests 2 false a (min n 8) (setOut .pf0 (leNat (hbmRead s a (min n 8))) (complete 0 (ue || failed) s))

/-- Bytes written through BAR2, burst by burst. -/
def bar2Put (a : Nat) (bs : List Byte) (s : State) : State :=
  (List.range ((a + bs.length - 1) / 64 + 1 - a / 64)).foldl (fun s k =>
    let b := (a / 64 + k) * 64
    let lo := max a b
    dramWrite 2 lo (slice bs (lo - a) (min (a + bs.length) (b + 64) - lo)) s) s

/-- BAR2_WRITE. -/
def bar2Write (o : Nat) (bs : List Byte) (s : State) : State :=
  if bar2Up s = false then memRefused 0 s
  else
    let a := bar2Addr o s
    bar2Put a bs (complete 0 false s)

/-! ### Access to the registers of PF1 and of the rings (R449, R450) -/

/-- PF1_WIN_WRITE (R449). -/
def pf1WinWrite (q : Requester) (v : Nat) (s : State) : State :=
  if q = .pf1 then (if s.terminal then s else s.setFld F.PF1_WIN 0 v)
  else gated q (regOffset .PF1_WIN 0) (fun s => s.setFld F.PF1_WIN 0 v) s

/-- PF1 may write the registers of this ring (R450). -/
def pf1Ring (r : Nat) (s : State) : Bool :=
  (decide (137 ≤ r) && decide (r < 146)) || (decide (128 ≤ r) && decide (r < 136) && s.fld F.EVT_CFG_FUNC (r - 128) == 1)

/-- A write of a ring register by a requester. -/
def ringGate (q : Requester) (reg : Reg) (r : Nat) (act : State → State) (s : State) : State :=
  if 146 ≤ r then s
  else if q = .pf1 ∧ pf1Ring r s = true then (if s.terminal then s else act s)
  else gated q (regOffset reg r) act s

/-! ### Rings (R458, R459) -/

/-- An event ring. -/
def isEventRing (r : Nat) : Bool := decide (128 ≤ r) && decide (r < 136)

/-- TAIL takes a value (R458): it may not pass HEAD, which is judged while the ring is enabled. -/
def ringTailPut (r v : Nat) (s : State) : State :=
  let n := ringSize r s
  let adv := (v + n - s.fld F.RING_TAIL r % n) % n
  let room := if isEventRing r then (s.fld F.RING_HEAD r + n - s.fld F.RING_TAIL r % n) % n
    else n - 1 - (s.fld F.RING_TAIL r + n - s.fld F.RING_HEAD r % n) % n
  if n ≤ v ∨ (s.fld F.RING_CFG_EN r = 1 ∧ room < adv) then s.setFld F.ERR_CAUSE r 2
  else
    let s1 := s.setFld F.RING_TAIL r v
    if isEventRing r then
      s1.withHif { s1.hif with evtRec := tset [] s1.hif.evtRec (r - 128) ((tget [] s1.hif.evtRec (r - 128)).drop adv) }
    else s1

/-- RING_TAIL_WRITE. -/
def ringTailWrite (q : Requester) (r v : Nat) (s : State) : State := ringGate q .RING_TAIL r (ringTailPut r (v % 65536)) s

/-- The fields of RING_CFG beside EN: SIZE_LOG2 while EN = 0, VECTOR within the function's table (R463). -/
def ringCfgPut (r w : Nat) (s : State) : State :=
  let size := bitsOf w 16 5
  let vec := bitsOf w 0 7
  let s1 := if s.fld F.RING_CFG_EN r = 0 ∧ 6 ≤ size ∧ size ≤ 16 then s.setFld F.RING_CFG_SIZE_LOG2 r size else s
  if vec < vectorCount (ringFunc r s) then s1.setFld F.RING_CFG_VECTOR r vec else s1

/-- RING_ENABLE (R459): EN goes from 0 to 1. -/
def ringEnable (q : Requester) (r w : Nat) (s : State) : State :=
  ringGate q .RING_CFG r (fun s =>
    let s1 := ringCfgPut r w s
    if s.fld F.RING_CFG_EN r = 1 then s1
    else
      let s2 := s1.setFlds [(F.RING_CFG_EN, r, 1), (F.RING_CFG_STOPPED, r, 0), (F.ERR_CAUSE, r, 0), (F.RING_HEAD, r, s1.fld F.RING_TAIL r)]
      s2.withHif { s2.hif with
        stopping := tset false s2.hif.stopping r false
        phase := if isEventRing r then tset false s2.hif.phase (r - 128) false else s2.hif.phase
        evtRec := if isEventRing r then tset [] s2.hif.evtRec (r - 128) [] else s2.hif.evtRec }) s

/-- RING_DISABLE (R459). -/
def ringDisable (q : Requester) (r w : Nat) (s : State) : State :=
  ringGate q .RING_CFG r (fun s =>
    let s1 := ringCfgPut r w s
    if s.fld F.RING_CFG_EN r = 0 then s1
    else (s1.setFld F.RING_CFG_EN r 0).withHif { s1.hif with stopping := tset false s1.hif.stopping r true }) s

/-- Work of a ring that has begun: copies on its receive slots, frames not written back. -/
def ringBusy (r : Nat) (s : State) : Bool := s.dp.hostRx.any (fun h => h.ring == r) || s.hif.txDone.any (fun t => t.ring == r)

/-- RING_STOPPED (R459): the DMA writes already begun are complete. -/
def ringStopped (r : Nat) (s : State) : State :=
  if tget false s.hif.stopping r = false ∨ ringBusy r s = true then s
  else (s.setFld F.RING_CFG_STOPPED r 1).withHif { s.hif with stopping := tset false s.hif.stopping r false }

/-- Take a staged copy off its receive slot without a write; it counts in DROP (R454). -/
def dropStaged (sel : HostRx → Bool) (s : State) : State :=
  let out := s.dp.hostRx.filter sel
  let s1 := out.foldl (fun s h => raiseSrc 67 (s.bump F.RING_DROP h.ring)) s
  out.foldl (fun s h => settle h.copy.frame s) { s1 with dp := { s1.dp with hostRx := s1.dp.hostRx.filter (fun h => !sel h) } }

/-- An error stops a ring (R455, R471); what waits on its receive slots is discarded. -/
def ringError (r cause : Nat) (s : State) : State :=
  dropStaged (fun h => h.ring == r) (s.setFlds [(F.RING_CFG_STOPPED, r, 1), (F.ERR_CAUSE, r, cause)])

/-! ### Receive DMA (R455, R456) -/

/-- BUF_LEN of a posted receive descriptor, when the descriptor is as Table 18.3 asks. -/
def rxBufLen (d : List Byte) : Option Nat :=
  let n := leNat (slice d 8 2)
  if n < 64 ∨ 16384 < n ∨ n % 64 ≠ 0 ∨ (d.drop 10).any (fun b => b != 0) = true then none else some n

/-- Fill descriptors in ring order: each takes up to BUF_LEN bytes. None: a descriptor is bad, or there are too few. -/
def fillDescs : List (List Byte) → List Byte → Option (List (Nat × List Byte))
  | [], bs => if bs.isEmpty then some [] else none
  | d :: ds, bs =>
    if bs.isEmpty then some []
    else match rxBufLen d with
      | none => none
      | some n => (fillDescs ds (bs.drop n)).map (fun l => (leNat (slice d 0 8), bs.take n) :: l)

/-- Bytes 8 to 31 of a written-back receive descriptor, as bytes 8 to 15 and bytes 16 to 31. -/
def rxWriteBack (h : HostRx) (eop : Bool) (n : Nat) (s : State) : List Byte × List Byte :=
  let c := h.copy
  let trailer := match c.mirror with | some (m, _, _) => s.fld F.MIRROR_CFG_TRAILER_EN m == 1 | none => false
  let flags := 0x80 + (if eop then 0x40 else 0) + (if h.err then 0x20 else 0) + (if trailer then 0x10 else 0) + (c.q - 4096) % 16
  (toLe 2 n ++ toLe 2 (if eop then h.bytes.length else 0) ++ toLe 1 c.trap ++ toLe 1 flags ++
     toLe 2 (h.inPort % 1024 + c.cls * 2 ^ 10 + c.colour * 2 ^ 13),
   toLe 2 h.handle ++ toLe 2 (c.vid % 4096) ++ timeBytes h.tIn)

/-- The host writes of one copy, in the order of R456. -/
def rxWrites (r : Nat) (h : HostRx) (parts : List (Nat × List Byte)) (s : State) : List (Nat × List Byte) :=
  let wb := parts.zipIdx.map (fun x => (ringAddr r (s.fld F.RING_HEAD r + x.2) s, rxWriteBack h (x.2 + 1 == parts.length) x.1.2.length s))
  parts ++ wb.map (fun x => (x.1 + 16, x.2.2)) ++ wb.map (fun x => (x.1 + 8, x.2.1))

/-- RECEIVE_DMA_COMPLETE (R456): the oldest staged copy of ring `r` is written; `descs`: the descriptors posted from HEAD, as read. -/
def receiveDmaComplete (r : Nat) (descs : List (List Byte)) (s : State) : State :=
  match s.dp.hostRx.find? (fun h => h.ring == r) with
  | none => s
  | some h =>
    if s.fld F.LINK_STATUS_L1 0 = 1 then s
    else if funcUp (ringFunc r s) s = false then dropStaged (fun x => x.copy.id == h.copy.id) s
    else match fillDescs (descs.take h.need) h.bytes with
      | none => ringError r 1 s
      | some parts =>
        let n := ringSize r s
        let s1 := (s.setFld F.RING_HEAD r ((s.fld F.RING_HEAD r + parts.length) % n)).addWrap F.RING_FRAMES r 1
        let s2 : State := { s1 with
          dp := { s1.dp with hostRx := s1.dp.hostRx.filter (fun x => x.copy.id != h.copy.id) }        }
        ringComplete r (settle h.copy.frame (postWrites (ringFunc r s) (rxWrites r h parts s) s2))

/-! ### Frames that enter at ports 512 and 513 -/

/-- The frame of a ring enters the shared buffer with a new FCS. -/
def injectFrame (f port : Nat) (body : List Byte) (cls : Cls) (edit : Option Nat) (s : State) : State × Frame :=
  let bs := body ++ fcsOf body
  let fr : Frame := { port := port, bytes := bs, len := some bs.length, stage := .buffered, tIn := s.work, cls := cls, inject := edit }
  let s1 := firstCell f (setFrame f fr s)
  (s1, (frameAt f s1).getD fr)

/-- Descriptors of a transmit ring whose frames have been read and not written back. -/
def txInFlight (r : Nat) (s : State) : Nat :=
  (s.hif.txDone.filter (fun t => t.ring == r)).foldl (fun a t => a + t.descs.length) 0

/-- The transmit ring served next (R457): the first after the last one with posted descriptors, in round robin. -/
def txPick (s : State) : Option Nat :=
  ((List.range 64).map (fun i => 64 + (s.hif.txLast + 1 + i) % 64)).find? (fun r =>
    ringRuns r s && funcUp 0 s && decide (txInFlight r s < ringPosted r s))

/-- The fields of a transmit descriptor that Table 18.4 fixes; `first`: QUEUE, DEST and EDIT count. -/
def txDescOk (first : Bool) (d : List Byte) (s : State) : Bool :=
  let len := leNat (slice d 8 2)
  let flags := leNat (slice d 10 1)
  let dest := leNat (slice d 12 2)
  let op := bitsOf dest 0 14
  decide (1 ≤ len) && decide (len ≤ 16384) && bitsOf flags 2 4 == 0 && (d.drop 15).all (fun b => b == 0) &&
  (!first ||
    (decide (leNat (slice d 11 1) < 8) && bitsOf dest 14 1 == 0 &&
     (if bitsOf dest 15 1 = 0 then decide (op < 512) && portNamed op s else leNat (slice d 14 1) == 0)))

/-- The frame of these descriptors and data is sent (R457). -/
def txFrameOk (descs : List (List Byte)) (data : List Byte) (s : State) : Bool :=
  decide (60 ≤ data.length) && decide (data.length ≤ 9212) && decide (descs.length ≤ 8) &&
  txDescOk true (descs.headD []) s && (descs.drop 1).all (fun d => txDescOk false d s)

/-- TRANSMIT_FRAME_FETCH (R457): the device serves the next transmit ring and reads the frame `f`: its descriptors up to EOP, and its
data. `ue`: a group (0) or copy entry (1) read uncorrectable. -/
def transmitFrameFetch (f : Nat) (descs : List (List Byte)) (data : List Byte) (ue : Option Nat) (s : State) : State :=
  match txPick s with
  | none => s
  | some r =>
    let sum := descs.foldl (fun a d => a + leNat (slice d 8 2)) 0
    if s.runs = false ∨ s.fld F.LINK_STATUS_L1 0 = 1 ∨ (frameAt f s).isSome = true ∨ descs.isEmpty = true ∨ data.length ≠ sum ∨
        ringPosted r s < txInFlight r s + descs.length then s
    else
      let at' := s.fld F.RING_HEAD r + txInFlight r s
      let t : HostTx := { ring := r, descs := (List.range descs.length).map (fun i => ringAddr r (at' + i) s), frame := f }
      let s0 := s.withHif { s.hif with txLast := r - 64 }
      if txFrameOk descs data s = false then s0.withHif { s0.hif with txDone := s0.hif.txDone ++ [{ t with bad := true }] }
      else
        let d := descs.headD []
        let dest := leNat (slice d 12 2)
        let cls : Cls := { queue := leNat (slice d 11 1), dest := if bitsOf dest 15 1 = 0 then .port (bitsOf dest 0 14) else .group (bitsOf dest 0 14) }
        let x := injectFrame f 512 data cls (some (leNat (slice d 14 1))) s0
        let mk := makeCopies f x.2 ue x.1
        let n := numberCopies mk.2 mk.1
        let r2 := admitAll false true (n.2.map (fun c => finishCopy x.2 x.2.tIn c n.1)) n.1
        settle f (countTruncated f (data.length + 4) (r2.1.withHif { r2.1.hif with txDone := r2.1.hif.txDone ++ [{ t with refused := r2.2 }] }))

/-- TRANSMIT_WRITEBACK (R457): the descriptors of the oldest frame of ring `r` are written back once each of its copies has been enqueued
or refused, the EOP descriptor last. -/
def transmitWriteback (r : Nat) (s : State) : State :=
  match s.hif.txDone.find? (fun t => t.ring == r) with
  | none => s
  | some t =>
    if s.fld F.LINK_STATUS_L1 0 = 1 ∨ s.dp.held.any (fun c => c.frame == t.frame && !t.bad) = true then s
    else
      let status := if t.bad then 3 else if t.refused then 2 else 1
      let last := t.descs.length - 1
      let ws := t.descs.zipIdx.map (fun x => (x.1 + 10, toLe 1 (if x.2 = last then 0xC0 + status else 0x80)))
      let s1 := (s.setFld F.RING_HEAD r ((s.fld F.RING_HEAD r + t.descs.length) % ringSize r s))
      let s2 := if t.bad then s1 else s1.addWrap F.RING_FRAMES r 1
      let s3 := if status = 2 then s2.bump F.RING_DROP r else s2
      let rest := dropFirst (fun x : HostTx => x.ring == r) s3.hif.txDone
      ringComplete r (postWrites 0 ws (s3.withHif { s3.hif with txDone := rest }))

/-- The record of Table 12.11 holds a field out of range (12 R329). -/
def tx513Bad (d : List Byte) (s : State) : Bool :=
  let buf := leNat (slice d 0 4)
  let len := leNat (slice d 4 2)
  let w := leNat (slice d 6 2)
  decide (buf % 64 ≠ 0) || decide (2 ^ 30 < buf + len) || decide (len < 60) || decide (9212 < len) ||
  !(decide (bitsOf w 0 10 < 512) && portNamed (bitsOf w 0 10) s) || bitsOf w 15 1 != 0 ||
  leNat (slice d 9 1) != 0 || leNat (slice d 24 4) != 0 || leNat (slice d 29 3) != 0

/-- A time in the register form of Table 9.1, in units of the working clock. -/
def timeOfBytes (d : List Byte) : Nat :=
  let ns := leNat (slice d 0 4)
  (leNat (slice d 4 8) * 1000000000 + ns / 4) * nsUnit + ns % 4 * 2 ^ 30

/-- TX513_RECORD_TAKE (12 R329): the hub takes the record at TAIL as frame `f`. -/
def tx513RecordTake (f : Nat) (s : State) : State :=
  let t := s.fld F.TX513_TAIL 0
  if s.runs = false ∨ t = s.fld F.TX513_HEAD 0 ∨ (frameAt f s).isSome = true then s
  else
    let a := 0x20000 + 32 * t
    let d := hbmRead s a 32
    let finish (status : Nat) (s : State) : State :=
      raiseEvent (s.fld F.PORT513_CFG_TX_OWNER 0) 5 ((hbmWrite (a + 28) [BitVec.ofNat 8 status] s).setFld F.TX513_TAIL 0 (t + 1))
    if tx513Bad d s then finish 3 s
    else
      let w := leNat (slice d 6 2)
      let p := bitsOf w 0 10
      let q := bitsOf w 10 3
      let x := injectFrame f 513 (hbmRead s (leNat (slice d 0 4)) (leNat (slice d 4 2))) { queue := q } (some 0) s
      let mode := bitsOf w 13 2
      let c : Copy := { baseCopy f x.2 with
        port := p, q := queueOf p q, edit := 0, learn := false,
        ts := if mode = 0 then none else some (mode, leNat (slice d 8 1) % 4, leNat (slice d 10 2), timeOfBytes (slice d 12 12)) }
      let n := numberCopies [c] x.1
      let r := admitAll false false (n.2.map (fun c => finishCopy x.2 x.2.tIn c n.1)) n.1
      finish (if r.2 then 2 else 1) (settle f (if r.2 then r.1.bump F.TX513_REFUSED 0 else r.1))

/-! ### MSI-X, power states (R463 to R465) -/

/-- MSIX_UNMASK (R463): a write of the table entry of vector `v` of function `f`, with its mask bit. -/
def msixUnmask (f v lo hi data : Nat) (mask : Bool) (s : State) : State :=
  if 2 ≤ f ∨ vectorCount f ≤ v ∨ answersMem f s = false ∨ s.safe = true then s
  else
    let k := f * 128 + v
    let w := tset 0 (tset 0 (tset 0 s.hif.msixWord (4 * k) (lo % 2 ^ 32)) (4 * k + 1) (hi % 2 ^ 32)) (4 * k + 2) (data % 2 ^ 32)
    flushVector f v (s.withHif { s.hif with msixWord := w, msixUnmasked := tset false s.hif.msixUnmasked k (!mask) })

/-- L1_ENTRY (R464): by ASPM with nothing to send, or with both functions in D3hot. -/
def l1Entry (s : State) : State :=
  if s.fld F.LINK_STATUS_UP 0 = 1 ∧ s.fld F.LINK_STATUS_L1 0 = 0 ∧ s.hif.tlpWait = [] ∧ (s.hif.aspmL1 = true ∨ (dState 0 s ≠ 0 ∧ dState 1 s ≠ 0)) then
    s.setFld F.LINK_STATUS_L1 0 1
  else s

/-- L1_EXIT (R464): the link is in L0; the writes that waited leave in issue order, and the messages after them (R463). -/
def l1Exit (s : State) : State :=
  if s.fld F.LINK_STATUS_L1 0 = 0 then s
  else
    let s1 := s.setFld F.LINK_STATUS_L1 0 0
    let w := s.hif.dmaWait
    s.hif.tlpWait.foldl (fun s k => sendTlp k s)
      (s1.withHif { s1.hif with tlpWait := [], dmaWait := [], hostWrites := if w.isEmpty then s1.hif.hostWrites else w })

/-- The power state of a function changes, which source 66 reports (14 Table 14.3). -/
def setD (f v : Nat) (s : State) : State :=
  let s1 := s.setFld (if f = 0 then F.FUNC_STATUS_PF0_D else F.FUNC_STATUS_PF1_D) 0 v
  if dState f s = v then s1 else raiseSrc 66 s1

/-- A write of PMCSR that moves a function to a power state: PME_En, and PME_Status cleared where asked. -/
def pmcsr (f d : Nat) (pmeEn clear : Bool) (s : State) : State :=
  if 2 ≤ f ∨ funcAnswers f s = false then s else setD f d (configWrite f (.pme pmeEn clear) s)

/-- D3HOT_ENTRY (R465). -/
def d3hotEntry (f : Nat) (pmeEn clear : Bool) (s : State) : State := pmcsr f 3 pmeEn clear s

/-- D0_ENTRY (R465): pending vectors are sent. -/
def d0Entry (f : Nat) (pmeEn clear : Bool) (s : State) : State := flushVectors f (pmcsr f 0 pmeEn clear s)

/-- PME_REPEAT (R465). -/
def pmeRepeat (f : Nat) (s : State) : State := if f < 2 ∧ tget false s.hif.pmeStatus f = true then sendPme s else s

/-! ### Function Level Reset (R466) -/

/-- The rings of a function. -/
def ringsOf (f : Nat) (s : State) : List Nat := (List.range 146).filter (fun r => ringFunc r s == f)

/-- A ring is disabled and cleared, with its counters (R466, R473). -/
def clearRing (r : Nat) (s : State) : State :=
  let s1 := s.setFlds [(F.RING_CFG_EN, r, 0), (F.RING_CFG_STOPPED, r, 1), (F.RING_CFG_SIZE_LOG2, r, 6), (F.RING_CFG_VECTOR, r, 0), (F.BASE_LO, r, 0),
    (F.BASE_HI, r, 0), (F.RING_MOD_MOD_TIME, r, 0), (F.RING_MOD_MOD_COUNT, r, 0), (F.RING_HEAD, r, 0), (F.RING_TAIL, r, 0), (F.ERR_CAUSE, r, 0),
    (F.RING_FRAMES, r, 0), (F.RING_DROP, r, 0)]
  let e := r - 128
  let ev := isEventRing r
  s1.withHif { s1.hif with
    ringPend := tset 0 s1.hif.ringPend r 0
    ringTimer := tset false s1.hif.ringTimer r false
    stopping := tset false s1.hif.stopping r false
    evtLost := if ev then tset 0 s1.hif.evtLost e 0 else s1.hif.evtLost
    phase := if ev then tset false s1.hif.phase e false else s1.hif.phase
    evtRec := if ev then tset [] s1.hif.evtRec e [] else s1.hif.evtRec
    txDone := s1.hif.txDone.filter (fun t => t.ring != r) }

/-- Keys below or from 128 belong to functions 0 and 1 in the MSI-X tables. -/
def keepOther {α : Type} (f unit : Nat) (t : Tab α) : Tab α := t.filter (fun e => e.1 / unit != f)

/-- What a Function Level Reset does (R466). -/
def flrFunction (f : Nat) (s : State) : State :=
  let s1 := (ringsOf f s).foldl (fun s r => clearRing r s) s
  let s2 := dropStaged (fun h => ringFunc h.ring s == f) s1
  let h := s2.hif
  let s3 := s2.withHif { h with
    msixWord := keepOther f 512 h.msixWord
    msixUnmasked := keepOther f 128 h.msixUnmasked
    msixPend := keepOther f 128 h.msixPend
    fnMask := tset false h.fnMask f false
    msixEnable := tset false h.msixEnable f false
    memEnable := tset false h.memEnable f false
    pmeEn := tset false h.pmeEn f false
    pmeStatus := tset false h.pmeStatus f false
    bars := keepOther f 8 h.bars
    sizes := keepOther f 2 h.sizes
    aer := tset 0 h.aer f 0
    tlpWait := h.tlpWait.filter (fun k => k / 128 != f)
    aspmL1 := if f = 0 then false else h.aspmL1
    flr := tset false h.flr f true }
  let s4 := setD f 0 (s3.setFld F.FUNC_STATUS_BME 0 (setBit (s3.fld F.FUNC_STATUS_BME 0) f false))
  if f ≠ 0 then s4
  else
    let s5 := s4.setFld F.BAR2_BASE 0 0
    if s5.fld F.MBX_STATUS_STATE 0 = 1 ∧ s5.hif.mbxHost = true then setLevel 68 false (s5.setFld F.MBX_STATUS_STATE 0 0) else s5

/-- FUNCTION_LEVEL_RESET. -/
def functionLevelReset (f : Nat) (s : State) : State := if 2 ≤ f ∨ funcAnswers f s = false then s else flrFunction f s

/-- FLR_DONE (R466): source 69. -/
def flrDone (f : Nat) (s : State) : State :=
  if 2 ≤ f ∨ tget false s.hif.flr f = false then s
  else raiseSrc 69 (s.withHif { s.hif with flr := tset false s.hif.flr f false })

/-- PCIE_LINK_DOWN (R466): a hot reset, or a link-down other than the entry to L1; what waited for the link is lost. -/
def pcieLinkDown (s : State) : State :=
  let s1 := s.setFlds [(F.LINK_STATUS_UP, 0, 0), (F.LINK_STATUS_RATE, 0, 0), (F.LINK_STATUS_WIDTH, 0, 0), (F.LINK_STATUS_L1, 0, 0)]
  let s2 := flrFunction 1 (flrFunction 0 (s1.withHif { s1.hif with tlpWait := [], dmaWait := [] }))
  raiseSrc 64 (raiseFault 29 4 0 s2)

/-! ### Errors (R471) -/

/-- COMPLETION_TIMEOUT on a read for ring `r`. -/
def completionTimeout (r : Nat) (s : State) : State := if 146 ≤ r then s else ringError r 3 (aerLog (ringFunc r s) 4 true s)

/-- COMPLETION_STATUS_ERROR on a read for ring `r`; not logged by the device. -/
def completionStatusError (r : Nat) (s : State) : State := if 146 ≤ r then s else ringError r 4 s

/-- TLP_ERROR (Table 18.7): the request is discarded. -/
def tlpError (f : Nat) (e : TlpErr) (s : State) : State :=
  if 2 ≤ f then s
  else match e with
    | .correctable => aerLog f 0 false s
    | .poisonedWrite => aerLog f 1 true s
    | .ecrc => aerLog f 2 true s
    | .unsupported => complete 1 false (aerLog f 3 true s)
    | .unexpectedCompletion => aerLog f 5 true s
    | .fatal => pcieLinkDown (aerLog f 6 true s)

end Sys2Proof.Machine
end

