-- ==== Sys2Proof/Machine/Faults.lean ====
section
/-! DEFINITION. The fault unit: order of commits, records, escalation, reactions, reset units, the Terminal state, chip reset and die
reset (15_faults.md; 01_architecture.md R18; 19_register_map.md R480, R481). -/

namespace Sys2Proof.Machine

/-! ### Order of events (R387) -/

/-- `a` is committed before `b`: stamp, class (higher first), die, source. -/
def evBefore (a b : FaultEv) : Bool :=
  if a.stamp ≠ b.stamp then decide (a.stamp < b.stamp)
  else if faultClass a.src ≠ faultClass b.src then decide (faultClass b.src < faultClass a.src)
  else if a.die ≠ b.die then decide (a.die < b.die)
  else decide (a.src ≤ b.src)

/-- Insert an event in commit order. -/
def insertEv (e : FaultEv) : List FaultEv → List FaultEv
  | [] => [e]
  | x :: xs => if evBefore e x then e :: x :: xs else x :: insertEv e xs

/-- Events in commit order. -/
def sortEvs (l : List FaultEv) : List FaultEv := l.foldl (fun a e => insertEv e a) []

/-! ### Records (R389, R390, Table 15.3) -/

/-- The four words of a fault record. -/
def faultWords (e : FaultEv) (cls : Nat) (conseq esc : Bool) : List Nat :=
  [timeNsWord e.stamp, timeSec e.stamp % 2 ^ 32, e.detail * 65536 + timeSec e.stamp / 2 ^ 32,
   2 ^ 31 + (if conseq then 2 ^ 30 else 0) + (if esc then 2 ^ 29 else 0) + cls * 2 ^ 26 + e.die * 2 ^ 23 + e.src]

/-- Write words into an array register from index `i`. -/
def setWords (f : Fld) (i : Nat) (ws : List Nat) (s : State) : State :=
  (List.range ws.length).foldl (fun s k => s.setFld f (i + k) (ws.getD k 0)) s

/-- An event enters the history queue and SRC_COUNT, and goes to the event rings. -/
def recordEvent (e : FaultEv) (cls : Nat) (conseq esc : Bool) (s : State) : State :=
  let ws := faultWords e cls conseq esc
  let h := s.fld F.FLT_STATUS_HIST_HEAD 0
  let s1 := (setWords F.FLT_HIST (4 * (h % 32)) ws s).setFld F.FLT_STATUS_HIST_HEAD 0 (h + 1)
  eventRecord 1 (ws.flatMap (toLe 4)) (s1.bump F.SRC_COUNT (5 * e.src + e.die))

/-- FIRST_FAULT_CAPTURE (R389) of an event that is not consequential. -/
def captureFirst (e : FaultEv) (cls : Nat) (esc : Bool) (s : State) : State :=
  let ws := faultWords e cls false esc
  if cls < s.fld F.FLT_CFG_FIRST_MIN 0 then s
  else if s.fld F.FLT_STATUS_FIRST_VALID 0 = 0 then raiseSrc 6 (setWords F.FIRST 0 ws (s.setFld F.FLT_STATUS_FIRST_VALID 0 1))
  else if cls = 5 then setWords F.FIRST 0 ws (s.setFld F.FIRST_FOLLOW 0 0)
  else s.bump F.FIRST_FOLLOW 0

/-! ### Reset units (R393, R394, Table 15.4) -/

/-- The reset unit of an event's source, in the numbering of `unitReset`. -/
def unitOf (e : FaultEv) : Option Nat :=
  if [16, 17, 18, 19, 20, 21, 23].contains e.src then some 0
  else if e.src = 28 ∨ e.src = 29 then some 1
  else if [24, 25, 26].contains e.src then some (2 + e.detail % 32)
  else if [64, 65, 66, 67, 69, 70, 71, 72, 73].contains e.src then some (34 + e.die % 4)
  else none

/-- The source has a reset unit (Table 15.1). -/
def hasUnit (n : Nat) : Bool := (unitOf { src := n, die := 4, detail := 0, stamp := 0 }).isSome

/-- The event's source is downstream of unit `u`. DIE_RETURN_FAIL is not taken as downstream of the die's reset that it ends. -/
def downstream (u : Nat) (e : FaultEv) : Bool :=
  if u = 0 then ((e.src == 7 || e.src == 8) && e.me) || (decide (16 ≤ e.src) && decide (e.src ≤ 23))
  else if u = 1 then e.src == 28 || e.src == 29
  else if u < 34 then e.src == 13 || ((e.src == 24 || e.src == 25 || e.src == 26) && e.detail == u - 2) || e.src == 65
  else decide (e.die = u - 34) && e.src != 4 && e.src != 74

/-- The event is consequential (R394). -/
def isConseq (e : FaultEv) (s : State) : Bool :=
  faultClass e.src != 5 && s.flt.windowOpen.any (fun w => w.2 && downstream w.1 e)

/-! ### Escalation (R392) -/

/-- ESCALATION: the class as recorded, whether it was raised, and the reactions. -/
def escalate (e : FaultEv) (s : State) : State × Nat × Bool × Nat :=
  let k := e.src * 8 + e.die
  let i := 5 * e.src + e.die
  let cls := faultClass e.src
  let own := s.fld F.SRC_REACT_REACT e.src
  let soon := match tget none s.flt.lastCommit k with
    | some t => decide (s.cycle < t + 3000 * s.fld F.SRC_REACT_WINDOW e.src)
    | none => false
  let n := if soon then min (s.fld F.FLT_SRC_STATUS i + 1) 15 else 0
  let s1 : State := { s with flt := { s.flt with lastCommit := tset none s.flt.lastCommit k (some s.cycle) } }
  if s.fld F.SRC_REACT_ESC_LIMIT e.src ≤ n ∧ cls < 4 then
    (s1.setFld F.FLT_SRC_STATUS i 0, cls + 1, true, own ||| s.fld F.ESC_REACT (cls + 1))
  else (s1.setFld F.FLT_SRC_STATUS i n, cls, false, own)

/-! ### Terminal (R386) -/

/-- The contents of the DRAM, with every table kept there, are lost (16 R417, 17 R420). -/
def loseDram (s : State) : State :=
  { s with
    hbm := []
    tb := { s.tb with tcamShadow := [], rwShadow := [], scShadow := [], gclShadow := [] } }

/-- TERMINAL_ENTRY (R386): transmitters idle, READY low, FAULT_N low, the clocks of the data plane and the ME stopped. -/
def enterTerminal (s : State) : State :=
  let s1 := s.setFlds [(F.FLT_STATUS_TERMINAL, 0, 1), (F.FLT_STATUS_FAULT_N, 0, 1)]
  loseDram { s1 with dp := { s1.dp with ports := s1.dp.ports.map (fun e => (e.1, { e.2 with tx := TxPin.idle })) } }

/-! ### Die reset (01 R18) -/

/-- The counters of the port dies, which reset with their die (02 to 07, 09, 11), and the registers of their command windows. -/
def dieCounters : List Reg :=
  [.RX_OCTETS, .RX_FRAMES, .TX_OCTETS, .TX_FRAMES, .RX_FCS_ERR, .RX_RUNT, .RX_OVERSIZE, .RX_CODE_ERR, .RX_PAUSE, .TX_PAUSE,
   .FEC_CORRECTED, .FEC_UNCORRECTABLE, .LINK_FLAPS, .MM_RX_FRAG, .MM_TX_FRAG, .MM_ASSEMBLY_ERR, .MM_SMD_ERR, .MM_HOLD, .RX_CTRL_OTHER,
   .TX_DOWN_DISCARD, .RX_PFC, .TX_PFC, .MAL_COUNT, .RX_MALFORMED, .RX_NO_MATCH, .RX_CLASS_DROP, .RX_TRAP, .TCAM_SCRUB_FIX,
   .TCAM_SCRUB_DEFER, .TCAM_SCRUB_SHADOW_UE, .TCAM_ACTION_UE, .TCAM_REPAIRS, .TCAM_OUT_SEARCHES, .TCAM_SWEEPS, .TCAM_PART_SEARCH,
   .TCAM_PART_HIT, .LEARNS, .MOVES, .AGED, .LEARN_REFUSED_FULL, .LEARN_REFUSED_RATE, .LEARN_REFUSED_LIMIT, .MOVE_REFUSED_LOCK,
   .LEARN_STATIC_CONFLICT, .FLAP_LOCKS, .LEARN_EVICTED, .EM_UE, .FAR_OVERFLOW, .FAR_TIMEOUT, .FAR_UE, .LEARNED_ENTRIES, .LAYBY_ENTRIES,
   .FAR_LOOKUPS, .FAR_HITS, .FWD_FLOOD, .FWD_FILTERED, .FWD_ROUTE_DROP, .FWD_LEARNED, .EDIT_UE, .EDIT_DROP, .EDIT_TTL_DROP,
   .EDIT_OVERSIZE, .EDIT_NA, .RLF_REPLAY_COUNT, .RLF_RETRAINS, .RLF_CODED, .RLF_UNCODED, .RLF_INSTALLS, .RLF_UNCODED_PENDING,
   .RLF_UNCODED_MASK, .RLF_DISCARD, .RLF_CTX_UE, .CT_BAD_TAIL, .CT_STOMPED, .PTP_TX_LOST, .PTP_RX_DROP, .PTP_ONESTEP_NA, .CAND_FULL,
   .TCAM_CMD, .TCAM_ADDR, .TCAM_STATUS, .TCAM_DATA, .EM_CMD, .EM_ADDR, .EM_STATUS, .EM_DATA]

/-- Elements of a register on one die: the first dimension of its place is the die. -/
def perDie (r : Reg) : Nat :=
  match (regInfo r).places with
  | p :: _ => (p.dims.drop 1).foldl (fun n d => n * d.1) 1
  | [] => 1

/-- Cells of the listed registers of die `d` return to their reset value, 0. -/
def clearDieRegs (rs : List Reg) (d : Nat) (s : State) : State :=
  let keys := rs.map (fun r => (r.code, perDie r))
  { s with regs := s.regs.filter (fun e =>
      !(keys.any (fun k => k.1 == e.1 / 64 % 512 && decide (e.1 / 32768 / k.2 = d)))) }

/-- Keys of a table that belong to die `d`, `n` to a die, are dropped. -/
def dropDie {α : Type} (n d : Nat) (t : Tab α) : Tab α := t.filter (fun e => e.1 / n != d)

/-- Frames that a die reset meets: one whose start flit has not crossed from its die is lost, one that is crossing gets a bad tail, one that has
crossed whole goes on. -/
def dieFrames (d : Nat) (s : State) : State :=
  let starts := startsWaiting (linkOf d 0 s)
  let mine := s.dp.frames.filter (fun e => decide (e.2.port < 512) && dieOf e.2.port == d && e.2.stage != .dropped)
  let here (e : Nat × Frame) : Bool := e.2.handed == 0 || starts.contains e.1
  let crossing := mine.filter (fun e => !here e && (!e.2.ended || flitWaits d 0 e.1 false s))
  let s1 := crossing.foldl (fun s e =>
    badTail e.1 false (setFrame e.1 { e.2 with coding := none, ended := true, bytes := e.2.bytes.take e.2.crossed } s)) s
  (mine.filter here).foldl (fun s e => dropFrame e.1 s) s1

/-- The near and TCAM memories, queues, contexts, windows and sketches of a die in reset. -/
def dieMemories (d : Nat) (s : State) : State :=
  { s with
    tb := { s.tb with
      tcam := dropDie 32768 d s.tb.tcam
      near := dropDie (2 ^ 20) d s.tb.near
      tcamRun := s.tb.tcamRun.filter (fun c => c.d != d)
      emRun := s.tb.emRun.filter (fun c => c.d != d)
      scrubAt := dropDie 1 d s.tb.scrubAt }
    dp := { s.dp with
      farPending := s.dp.farPending.filter (fun e => e.1 != d)
      farIssued := s.dp.farIssued.filter (fun e => e.1 != d)
      learnQ := s.dp.learnQ.filter (fun e => e.1 != d)
      learnSpent := dropDie 1 d s.dp.learnSpent
      ptpCount := dropDie 128 d s.dp.ptpCount
      flitFails := dropDie 2 d s.dp.flitFails }
    time := { s.time with txFifo := dropDie 1 d s.time.txFifo }
    tel := { s.tel with
      sketch := dropDie (8 * 4096) d s.tel.sketch
      shadow := dropDie (8 * 4096) d s.tel.shadow
      cand := dropDie 2 d s.tel.cand
      candLatched := dropDie 2 d s.tel.candLatched } }

/-- The Ralhafold link of a die in reset carries nothing and retrains (Table 15.6, the event at 60 µs). -/
def dieLink (d : Nat) (s : State) : State :=
  let s1 := clearContexts d (linkLost d s)
  let s2 := raiseFault 71 d 0 (s1.setFld F.RLF_STATUS_GEN d (s.fld F.RLF_STATUS_GEN d + 1))
  let s3 := setLink d 1 (linkOf d 1 s2).cleared (setLink d 0 (linkOf d 0 s2).cleared s2)
  { s3 with dp := { s3.dp with retraining := tset false s3.dp.retraining d true } }

/-- The TCAM blocks of a die in reset that were out of service stay so until it returns (04 R111). -/
def tcamHeld (d : Nat) (s : State) : State :=
  (List.range 16).foldl (fun s b => if blkOut d b s then s.setFld F.TCAM_BLK_STATUS_STATE (d * 16 + b) 4 else s) s

/-- The TCAM blocks of a returning die are in service; the generation of one that was out goes on (R396). -/
def tcamReturn (d : Nat) (s : State) : State :=
  let out := (List.range 16).filter (fun b => blkOut d b s)
  out.foldl (fun s b => if s.fld F.TCAM_BLK_STATUS_STATE (d * 16 + b) = 1 then s.addWrap F.TCAM_BLK_STATUS_GEN (d * 16 + b) 1 else s)
    (tcamInService d s)

/-- The ports of a die. -/
def portsOfDie (d : Nat) (s : State) : List Nat := ((List.range 128).map (fun k => 128 * d + k)).filter (fun p => portExists p s)

/-- DIE_RESET (01 R18): merged into a reset of the die that has not ended (R395). -/
def dieReset (d : Nat) (s : State) : State :=
  if 4 ≤ d ∨ s.dieEnabled d = false ∨ inUnitReset (34 + d) s = true then s
  else
    let s1 := unitBegin (34 + d) (s.setFld F.DIE_STATUS_IN_RESET 0 (setBit (s.fld F.DIE_STATUS_IN_RESET 0) d true))
    let s2 := (portsOfDie d s).foldl (fun s p => portDown p .dieReset s) s1
    let s3 := clearDieRegs dieCounters d (tcamHeld d (dieMemories d (dieLink d (dieFrames d s2))))
    { s3 with flt := { s3.flt with rebuilt := tset false s3.flt.rebuilt d false } }

/-- The die is held in reset by RESET_CTRL. -/
def dieHeld (d : Nat) (s : State) : Bool := (s.fld F.RESET_CTRL_DIE_HOLD 0).testBit d

/-- The die failed its return twice: it stays in reset until a chip reset (R397). -/
def dieDead (d : Nat) (s : State) : Bool := decide (2 ≤ tget 0 s.flt.dieFails d)

/-- Bring the entries of a table's shadow that belong to die `d` back into the table. -/
def fromShadow {α : Type} (n d : Nat) (shadow t : Tab α) : Tab α :=
  (shadow.filter (fun e => e.1 / n == d)).foldl (fun (t : Tab α) (e : Nat × α) => tins t e.1 e.2) t

/-- The die reset ends (05 R140): TCAM rows and static entries are rebuilt from the shadows. -/
def dieRebuild (d : Nat) (s : State) : State :=
  let s1 : State := { s with
    tb := { s.tb with
      tcam := fromShadow 32768 d s.tb.tcamShadow (dropDie 32768 d s.tb.tcam)
      near := dropDie (2 ^ 20) d s.tb.near }
    flt := { s.flt with rebuilt := tset false s.flt.rebuilt d true } }
  (shadowSlots d s).foldl (fun s a => nearSet d a (shadowAt d a s) s) (s1.setFld F.LAYBY_ENTRIES d 0)

/-- The verify pass of a returning die (R140): every static slot and TCAM row is as its shadow. -/
def dieVerify (d : Nat) (s : State) : Bool :=
  (shadowSlots d s).all (fun a => nearAt d a s == shadowAt d a s) &&
  s.tb.near.all (fun e => e.1 / 2 ^ 20 != d || !e.2.static || e.2 == shadowAt d (e.1 % 2 ^ 20) s) &&
  s.tb.tcam.filter (fun e => e.1 / 32768 == d) == s.tb.tcamShadow.filter (fun e => e.1 / 32768 == d)

/-- DIE_RESET_END (R140). -/
def dieResetEnd (d : Nat) (s : State) : State :=
  if 4 ≤ d ∨ inUnitReset (34 + d) s = false ∨ dieHeld d s = true ∨ dieDead d s = true then s else dieRebuild d s

/-- DIE_READMIT (R140, R396, R397): the verify of the rebuilt die ends; `ok`: every word of it was read without an error. -/
def dieReadmit (d : Nat) (ok : Bool) (s : State) : State :=
  if 4 ≤ d ∨ inUnitReset (34 + d) s = false ∨ dieHeld d s = true ∨ dieDead d s = true ∨ tget false s.flt.rebuilt d = false then s
  else if ok = true ∧ dieVerify d s = true then
    let s1 := tcamReturn d (s.setFlds [(F.EM_INFO, d, s.fld F.EM_INFO d + 1),
      (F.DIE_STATUS_IN_RESET, 0, setBit (s.fld F.DIE_STATUS_IN_RESET 0) d false)])
    let s2 := unitEnd (34 + d) { s1 with flt := { s1.flt with
      dieFails := tset 0 s1.flt.dieFails d 0, rebuilt := tset false s1.flt.rebuilt d false } }
    (portsOfDie d s2).foldl (fun s p => portBringUp p s) s2
  else
    let n := tget 0 s.flt.dieFails d + 1
    let s1 : State := { s with flt := { s.flt with dieFails := tset 0 s.flt.dieFails d n } }
    let s2 := raiseFault 74 d 0 s1
    if n < 2 then dieReset d (unitEnd (34 + d) s2) else s2

/-- DIE_HOLD of RESET_CTRL takes a value for die `d` (19 R480, R481). -/
def dieHoldPut (d : Nat) (on : Bool) (s : State) : State :=
  if s.dieEnabled d = false ∨ dieHeld d s = on then s
  else
    let s1 := s.setFld F.RESET_CTRL_DIE_HOLD 0 (setBit (s.fld F.RESET_CTRL_DIE_HOLD 0) d on)
    if on then dieReset d s1 else dieResetEnd d s1

/-- DIE_HOLD_SET and DIE_HOLD_CLEAR: a write of RESET_CTRL (19 R480). -/
def dieHoldWrite (q : Requester) (key d : Nat) (on : Bool) (s : State) : State :=
  gated q (regOffset .RESET_CTRL 0) (fun s => if key = 0xB10C ∧ d < 4 then dieHoldPut d on s else s) s

/-! ### Host interface reset (19 R480) -/

/-- The reset of unit HIF: a Function Level Reset of both functions, and the link retrains. -/
def hifBlockReset (s : State) : State := if inUnitReset 1 s then s else pcieLinkDown (unitBegin 1 s)

/-- HIF_RESET (19 R480). -/
def hifReset (q : Requester) (key : Nat) (s : State) : State :=
  gated q (regOffset .RESET_CTRL 0) (fun s => if key = 0xB10C then hifBlockReset s else s) s

/-- HIF_RESET_END (Table 15.4): the link is in L0 again. -/
def hifResetEnd (rate width : Nat) (s : State) : State :=
  if inUnitReset 1 s = false then s else unitEnd 1 (pcieLinkUp rate width s)

/-! ### Chip reset (R388, R391) -/

/-- The registers that R391 keeps across a chip reset. -/
def fltKept : List Reg := [.FIRST, .FIRST_FOLLOW, .FLT_HIST, .SRC_COUNT]

/-- The cells that a chip reset keeps: those of R391, with FIRST_VALID, HIST_HEAD and FAULT_N (R385). -/
def keptRegs (s : State) : Tab Nat :=
  s.regs.filter (fun e =>
    let r := e.1 / 64 % 512
    (fltKept.map Reg.code).contains r ||
    (r == Reg.FLT_STATUS.code && (e.1 % 64 == 0 || e.1 % 64 == 28 || e.1 % 64 == 29 || e.1 % 64 == 30)))

/-- What a flash operation is at: the 256-byte pages of a PROGRAM, the 64 KiB sector of an ERASE (17 Table 17.7). -/
def flashParts (r : RcvRun) : List (Nat × Nat) :=
  if r.op = 2 then (List.range (r.len / 256)).map (fun k => (r.addr + 256 * k, 256))
  else if r.op = 3 then [(r.addr, 65536)]
  else []

/-- A flash operation that a reset cuts off leaves its pages or sector undefined (17 R443); a command that is refused touches none. -/
def cutFlash (l : LdrSt) : LdrSt :=
  match l.rcvRun with
  | some r => { l with rcvRun := none, cut := if l.rcvResult = 0 then l.cut ++ flashParts r else l.cut }
  | none => l

/-- What of the supplies, flash and fuses any reset keeps. -/
def keptLdr (l : LdrSt) : LdrSt :=
  let c := cutFlash l
  { railBad := c.railBad, railOut := c.railOut, settling := c.settling, resetLow := c.resetLow, flash := c.flash, cut := c.cut,
    otp := c.otp, scan := c.scan, powerUp := c.powerUp }

/-- The state after a reset of the whole part, with the commands that wait: the model's count of free values drawn goes on. -/
def anew (s : State) : State :=
  { State.reset with pending := s.pending, readOut := s.readOut, dp := { State.reset.dp with fresh := s.dp.fresh } }

/-- CHIP_RESET to FUSE_LOAD without passing RESET_HELD, with the start cause (R388, 17 R444). -/
def chipReset (cause : Nat) (s : State) : State :=
  let n := s.fld F.RESTARTS 0
  let run := s.fld F.LDR_STATUS_STATE 0 = 8
  let s1 : State := { anew s with regs := keptRegs s, ldr := keptLdr s.ldr }
  let s2 := s1.setFld F.LDR_STATUS_START_CAUSE 0 cause
  if cause ≠ 2 then s2
  else
    let k := if run then 0 else n + 1
    let s3 := s2.setFlds [(F.FLT_STATUS_CHIP_RESET_CAUSE, 0, 1), (F.RESTARTS, 0, k)]
    if 3 ≤ k then s3.setFlds [(F.LDR_STATUS_STATE, 0, 9), (F.LDR_STATUS_SAFE_CAUSE, 0, 3)] else s3

/-! ### Reactions (R381, R384, R388) -/

/-- BLOCK_RESET of an event's reset unit. -/
def blockReset (e : FaultEv) (s : State) : State :=
  match unitOf e with
  | none => s
  | some u =>
    if u = 0 then meBlockReset s
    else if u = 1 then hifBlockReset s
    else if u < 34 then retrainChannel (u - 2) s
    else dieReset (u - 34) s

/-- The reactions of one event but for chip reset: bits INT, TRAP, BLOCK_RESET, FAULT_N. -/
def reactTo (e : FaultEv) (cls bits : Nat) (block : Bool) (s : State) : State :=
  let s1 := if bits.testBit 0 then raiseSrc (cls + 1) s else s
  let s2 := if bits.testBit 1 then
      raiseEvent 0 0 (s1.setFld F.TRAP_MAP (e.src / 32) (setBit (s1.fld F.TRAP_MAP (e.src / 32)) (e.src % 32) true)) else s1
  let s3 := if bits.testBit 4 then s2.setFld F.FLT_STATUS_FAULT_N 0 1 else s2
  if bits.testBit 2 ∧ block = true then blockReset e s3 else s3

/-- Commit one event: its record, its escalation and its first-fault capture; and the reactions it selects. -/
def commitEvent (e : FaultEv) (s : State) : State × Nat × Nat :=
  let cls := faultClass e.src
  if isConseq e s then ((recordEvent e cls true false s).bump F.CONSEQ_COUNT 0, cls, 0)
  else
    let x := escalate e s
    (captureFirst e x.2.1 x.2.2.1 (recordEvent e x.2.1 false x.2.2.1 x.1), x.2.1, x.2.2.2)

/-- Commit events in order, gathering each with its class and reactions. -/
def commitList : List FaultEv → State → State × List (FaultEv × Nat × Nat)
  | [], s => (s, [])
  | e :: es, s =>
    let x := commitEvent e s
    let y := commitList es x.1
    (y.1, (e, x.2.1, x.2.2) :: y.2)

/-- Take the union of the reactions of the events committed in one cycle (R388): Terminal before chip reset, either before block resets
(R386: a reaction not yet begun is abandoned).
In the Terminal state nothing is taken. Events still held when a chip reset is decided enter the history without a reaction. -/
def takeReactions (l : List (FaultEv × Nat × Nat)) (s : State) : State :=
  if s.terminal then s
  else
    let chip := l.any (fun x => x.2.2.testBit 3)
    let last := l.any (fun x => x.2.1 == 5)
    let s1 := l.foldl (fun s x => reactTo x.1 x.2.1 x.2.2 (!chip && !last) s) s
    if last then enterTerminal s1
    else if chip = false then s1
    else
      let rest := commitList (sortEvs s1.flt.events) { s1 with flt := { s1.flt with events := [] } }
      if rest.2.any (fun x => x.2.1 == 5) then enterTerminal rest.1 else chipReset 2 rest.1

/-- FAULT_COMMIT (R387): the held events with the least stamp are committed, in key order, and their reactions taken. -/
def faultCommit (s : State) : State :=
  match sortEvs s.flt.events with
  | [] => s
  | e :: es =>
    let now := (e :: es).filter (fun x => x.stamp == e.stamp)
    let later := (e :: es).filter (fun x => x.stamp != e.stamp)
    let x := commitList now { s with flt := { s.flt with events := later } }
    takeReactions x.2 x.1

/-- When the working clock steps, every held event is committed at once in key order (R387). -/
def commitAll (s : State) : State :=
  let x := commitList (sortEvs s.flt.events) { s with flt := { s.flt with events := [] } }
  takeReactions x.2 x.1

/-! ### Sensors and control -/

/-- TEMP_SENSOR_READ (R386, R380 source 6): sensor `i` reads `deg` °C. -/
def tempSensorRead (i : Nat) (deg : Int) (s : State) : State :=
  if 5 ≤ i then s
  else
    let warn := Int.ofNat (s.fld F.FLT_CFG_TJ_WARN 0)
    let hot := decide (125 < deg)
    let s1 := s.setFld F.FLT_TEMP i (deg % 65536).toNat
    let s2 := if hot = true ∧ tget false s.flt.tjOver i = true then raiseFault 1 4 i s1 else s1
    let was := tget false s.flt.tjWarm i
    let s3 := if warn ≤ deg ∧ was = false then raiseFault 6 4 i s2 else s2
    let warm := if warn ≤ deg then true else if deg ≤ warn - 5 then false else was
    { s3 with flt := { s3.flt with tjOver := tset false s3.flt.tjOver i hot, tjWarm := tset false s3.flt.tjWarm i warm } }

/-- FIRST_CLEAR (R389). -/
def firstClearPut (s : State) : State :=
  setWords F.FIRST 0 [0, 0, 0, 0] (s.setFlds [(F.FLT_STATUS_FIRST_VALID, 0, 0), (F.FIRST_FOLLOW, 0, 0)])

def firstClear (q : Requester) (s : State) : State := gated q (regOffset .FLT_CTRL 0) firstClearPut s

/-- FAULT_N_RELEASE (R385): without effect while the part is Terminal. -/
def faultNRelease (q : Requester) (s : State) : State :=
  gated q (regOffset .FLT_CTRL 0) (fun s => s.setFld F.FLT_STATUS_FAULT_N 0 0) s

/-- A write of SRC_REACT[n] (R383, Table 15.8). -/
def srcReactPut (n w : Nat) (s : State) : State :=
  let bad := (w.testBit 2 && !hasUnit n) || (faultClass n == 5 && w % 32 != 0)
  if faultExists n = false ∨ bad = true then s
  else
    let s1 := s.setFld F.SRC_REACT_REACT n w
    let s2 := if w / 2 ^ 16 % 2 ^ 16 = 0 then s1 else s1.setFld F.SRC_REACT_WINDOW n (w / 2 ^ 16)
    if w / 2 ^ 12 % 16 = 0 then s2 else s2.setFld F.SRC_REACT_ESC_LIMIT n (w / 2 ^ 12)

/-- SRC_REACT_WRITE (R383): of SRC_REACT[n], or of ESC_REACT[n]. -/
def srcReactWrite (q : Requester) (esc : Bool) (n w : Nat) (s : State) : State :=
  if esc then (if n = 0 ∨ 5 ≤ n then s else gated q (regOffset .ESC_REACT n) (fun s => s.setFld F.ESC_REACT n w) s)
  else (if n = 0 ∨ 128 ≤ n then s else gated q (regOffset .SRC_REACT n) (srcReactPut n w) s)

/-- CONSEQ_WINDOW_CLOSE (R393): 2 µs after the reset of unit `u` ended. -/
def conseqWindowClose (u : Nat) (s : State) : State := if inUnitReset u s then s else windowClose u s

end Sys2Proof.Machine
end

