-- ==== Sys2Proof/Machine/Fuses.lean ====
section
/-! DEFINITION. The one-time programmable fuses and the JTAG unlock (19_register_map.md R483, R484). -/

namespace Sys2Proof.Machine

/-- Replace the loader part. -/
def State.withLdr (s : State) (l : LdrSt) : State := { s with ldr := l }

/-- A fuse word (Table 19.6); a blank word is 0. -/
def otpWord (w : Nat) (s : State) : Nat := tget 0 s.ldr.otp w

/-- Consecutive fuse words as bytes, each word little-endian. -/
def otpBytes (w n : Nat) (s : State) : List Byte := (List.range n).flatMap (fun i => toLe 4 (otpWord (w + i) s))

/-! ### JTAG unlock (R483) -/

/-- A new challenge is drawn. -/
def drawChallenge (s : State) : State :=
  let n := (Config.challenge s.dp.fresh).toNat
  (List.range 4).foldl (fun s w => s.setFld F.JTAG_CHALLENGE w (n / 2 ^ (32 * w))) { s with dp := { s.dp with fresh := s.dp.fresh + 1 } }

/-- Four words of an array as 16 bytes. -/
def words4 (f : Fld) (s : State) : List Byte := (List.range 4).flatMap (fun w => toLe 4 (s.fld f w))

/-- A write of JTAG_RESPONSE[w]: JTAG only; word 3 submits the attempt. -/
def jtagResponse (q : Requester) (w v : Nat) (s : State) : State :=
  if s.terminal = true ∨ 4 ≤ w then s
  else if q = .jtag then
    let s1 := s.setFld F.JTAG_RESPONSE w v
    if w = 3 then s1.withLdr { s1.ldr with jtagTry := true } else s1
  else if privileged q 0 s then s
  else privViolation q true (regOffset .JTAG_RESPONSE w) s

/-- The response equals the first 128 bits of the HMAC over the challenge and SERIAL. -/
def unlockMatches (s : State) : Bool :=
  (hmac384 (otpBytes 8 8 s) (words4 F.JTAG_CHALLENGE s ++ toLe 4 (s.fld F.SERIAL_LO 0) ++ toLe 4 (s.fld F.SERIAL_HI 0))).take 16
    == words4 F.JTAG_RESPONSE s

/-- JTAG_UNLOCK_RESULT (R483): the attempt is compared, unless DISABLED or LOCKOUT. -/
def jtagUnlockResult (s : State) : State :=
  if s.ldr.jtagTry = false then s
  else
    let s1 := s.withLdr { s.ldr with jtagTry := false }
    if s.fld F.JTAG_STATUS_DISABLED 0 = 1 ∨ s.fld F.JTAG_STATUS_LOCKOUT 0 = 1 then s1
    else if unlockMatches s then s1.setFld F.JTAG_STATUS_UNLOCKED 0 1
    else
      let n := s.fld F.JTAG_STATUS_FAILS 0 + 1
      let s2 := drawChallenge (s1.setFld F.JTAG_STATUS_FAILS 0 (min n 3))
      if 3 ≤ n then s2.setFld F.JTAG_STATUS_LOCKOUT 0 1 else s2

/-! ### OTP commands (R484) -/

/-- A fuse word that only the factory programs (Table 19.6). -/
def factoryWord (w : Nat) : Bool := decide (18 ≤ w)

/-- A fuse word that READ shows as 0: DEBUG_KEY, TRIM and CHECK. -/
def hiddenWord (w : Nat) : Bool := (decide (8 ≤ w) && decide (w < 16)) || decide (20 ≤ w)

/-- A write of OTP_CMD acts: privileged, with its KEY, in RUN or SAFE. -/
def otpGate (q : Requester) (key : Nat) (act : State → State) (s : State) : State :=
  gated q (regOffset .OTP_CMD 0) (fun s =>
    if key = 0xB10C ∧ (s.fld F.LDR_STATUS_STATE 0 = 8 ∨ s.fld F.LDR_STATUS_STATE 0 = 9) then act s else s) s

/-- A command begins, with the RESULT that its end will show. -/
def otpBegin (result : Nat) (s : State) : State :=
  (s.setFld F.OTP_STATUS_BUSY 0 1).withLdr { s.ldr with otpRun := some result }

/-- OTP_READ (R484). -/
def otpRead (q : Requester) (key : Nat) (s : State) : State :=
  otpGate q key (fun s =>
    if s.fld F.OTP_STATUS_BUSY 0 = 1 then s
    else
      let w := s.fld F.OTP_ADDR 0
      (otpBegin 0 s).setFld F.OTP_DATA 0 (if hiddenWord w then 0 else otpWord w s)) s

/-- OTP_PROGRAM (R484): `readBack` is what the word reads after the programming. -/
def otpProgram (q : Requester) (key readBack : Nat) (s : State) : State :=
  otpGate q key (fun s =>
    let w := s.fld F.OTP_ADDR 0
    let v := s.fld F.OTP_DATA 0
    if s.fld F.OTP_STATUS_BUSY 0 = 1 then s.setFld F.OTP_STATUS_RESULT 0 1
    else if otpWord w s ≠ 0 ∨ v = 0 ∨ factoryWord w = true then otpBegin 1 s
    else
      let r := readBack % 2 ^ 32
      otpBegin (if r = v then 0 else 2) (s.withLdr { s.ldr with otp := tset 0 s.ldr.otp w r })) s

/-- OTP_COMMAND_END (R484): BUSY clears and RESULT is set. -/
def otpFinish (s : State) : State :=
  match s.ldr.otpRun with
  | none => s
  | some r => (s.setFlds [(F.OTP_STATUS_BUSY, 0, 0), (F.OTP_STATUS_RESULT, 0, r)]).withLdr { s.ldr with otpRun := none }

end Sys2Proof.Machine
end

