-- ==== Sys2Proof/Machine/Image.lean ====
section
/-! DEFINITION. The start image on flash: its header, its records, and the checks of AUTH (17_startup_image.md R427 to R432, R437, R438). -/

namespace Sys2Proof.Machine

/-- The flash address of a slot (Table 17.2): 0 A, 1 B. -/
def slotBase (slot : Nat) : Nat := if slot = 0 then 0 else 0x3000000

/-- A byte of the flash. -/
def flashByte (a : Nat) (s : State) : Byte := tget 0xFF s.ldr.flash a

/-- Consecutive bytes of the flash. -/
def flashBytes (a n : Nat) (s : State) : List Byte := (List.range n).map (fun i => flashByte (a + i) s)

/-- A little-endian number of `n` bytes at byte `o` of a slot's image. -/
def imgNum (slot o n : Nat) (s : State) : Nat := leNat (flashBytes (slotBase slot + o) n s)

/-- A range of the flash meets a page or sector of undefined content (R443). -/
def flashCut (a n : Nat) (s : State) : Bool := s.ldr.cut.any (fun c => decide (c.1 < a + n) && decide (a < c.1 + c.2))

/-- A record as its header gives it (Table 17.4), with the offset of its body and its position from 1. -/
structure Rec where
  ty : Nat
  len : Nat
  target : Nat
  crc : Nat
  body : Nat
  index : Nat
deriving DecidableEq, Repr

/-- The record types of Table 17.5 in load order: type, required, TARGET. -/
def recTypes : List (Nat × Bool × Nat) :=
  [(0x0001, true, 4), (0x0010, true, 6), (0x0011, true, 6), (0x0012, true, 6), (0x0020, true, 6), (0x0021, false, 6), (0x0030, true, 13),
   (0x00B0, true, 1), (0x00C0, false, 5), (0x00D0, false, 0xFF), (0x0040, true, 13), (0x0050, false, 13), (0x0080, false, 10),
   (0x0060, false, 13), (0x0070, false, 11), (0x00A8, false, 8), (0x00A0, false, 9), (0x0090, false, 7), (0x00F0, false, 4)]

/-- Round up to a multiple of 16. -/
def up16 (n : Nat) : Nat := (n + 15) / 16 * 16

/-- The record whose header stands at offset `o` of a slot's image. -/
def recAt (slot o index : Nat) (s : State) : Rec :=
  { ty := imgNum slot o 2 s, len := imgNum slot (o + 4) 4 s, target := imgNum slot (o + 8) 4 s, crc := imgNum slot (o + 12) 4 s,
    body := o + 16, index := index }

/-- The record is one that an image may hold here: it lies within LENGTH, its TYPE is listed with its TARGET, and no earlier one has its TYPE. -/
def recOk (length : Nat) (seen : List Rec) (r : Rec) : Bool :=
  decide (r.body + up16 r.len ≤ length) && recTypes.any (fun t => t.1 == r.ty && t.2.2 == r.target) && !seen.any (fun x => x.ty == r.ty)

/-- The record walk (R438, check 4) from offset `o`: the records, or the one that breaches. `fuel` is one more than the most an image holds. -/
def recWalk (slot length : Nat) (s : State) : Nat → Nat → List Rec → Except Rec (List Rec)
  | 0, _, seen => .ok seen
  | fuel + 1, o, seen =>
    if length ≤ o then .ok seen
    else
      let r := recAt slot o (seen.length + 1) s
      if length < o + 16 ∨ recOk length seen r = false then .error r
      else recWalk slot length s fuel (r.body + up16 r.len) (seen ++ [r])

/-- The body of a record. -/
def recBody (slot : Nat) (r : Rec) (s : State) : List Byte := flashBytes (slotBase slot + r.body) r.len s

/-- How a slot ends: the code of SLOT_RESULT, with a record type and index. -/
abbrev SlotEnd := Nat × Nat × Nat

/-- Checks 1 to 3 of R438: the header. -/
def headerCheck (slot : Nat) (s : State) : Option Nat :=
  let h := flashBytes (slotBase slot) 256 s
  let len := imgNum slot 8 4 s
  let count := imgNum slot 12 4 s
  if imgNum slot 0 4 s ≠ 0x4C4D5449 ∨ imgNum slot 4 2 s ≠ 2 ∨ crc32c (h.take 252) ≠ imgNum slot 252 4 s ∨ imgNum slot 6 1 s = 0 ∨
      imgNum slot 7 1 s ≠ 0 ∨ (slice h 52 200).any (fun b => b != 0) = true then some 3
  else if len % 16 ≠ 0 ∨ len < 272 ∨ 50331648 < len ∨ count = 0 ∨ 19 < count then some 4
  else if s.fld F.BEHAVIOUR_LEVEL_LEVEL 0 < imgNum slot 6 1 s then some 5
  else none

/-- The signature record stands where R431 places it: last, at SIG_OFFSET; SIG_OFFSET is 0 when there is none. -/
def sigPlaced (sigOffset : Nat) (recs : List Rec) : Bool :=
  match recs.find? (fun r => r.ty == 0x00F0) with
  | some r => r.index == recs.length && r.body == sigOffset + 16
  | none => sigOffset == 0

/-- The record that a slot without a record to name shows: open. -/
def openRecord (s : State) : Nat × Nat := (Config.badSlot s.dp.fresh).2

/-- Check 4: the records, or a breach. -/
def walkCheck (slot : Nat) (s : State) : Except SlotEnd (List Rec) :=
  match recWalk slot (imgNum slot 8 4 s) s 20 256 [] with
  | .error r => .error (6, r.ty, r.index)
  | .ok recs =>
    if recs.length ≠ imgNum slot 12 4 s ∨ recTypes.any (fun t => t.2.1 && !recs.any (fun r => r.ty == t.1)) = true then .error (6, openRecord s)
    else if sigPlaced (imgNum slot 48 4 s) recs = false then
      .error (6, match recs.find? (fun r => r.ty == 0x00F0) with | some r => (r.ty, r.index) | none => openRecord s)
    else .ok recs

/-- The OTP key hash is blank. -/
def keyBlank (s : State) : Bool := (List.range 8).all (fun w => otpWord w s == 0)

/-- Check 6 (R437, R438): the key and the signature. -/
def sigCheck (slot : Nat) (recs : List Rec) (s : State) : Option Nat :=
  match recs.find? (fun r => r.ty == 0x00F0) with
  | none => some 8
  | some r =>
    let b := recBody slot r s
    let pub := slice b 4 97
    if (sha384 pub).take 32 ≠ otpBytes 0 8 s then some 9
    else if b.length = 208 ∧ leNat (b.take 2) = 1 ∧ (slice b 2 2 ++ slice b 101 3 ++ slice b 200 8).all (fun x => x == 0) = true ∧
        ecdsaVerify pub (beNat (slice b 104 48)) (beNat (slice b 152 48)) (flashBytes (slotBase slot) (imgNum slot 48 4 s) s) = true then none
    else some 8

/-- AUTH of a slot (R438): its records, or the first failure. A slot with undefined content fails, in a way the spec leaves open (R443). -/
def authSlot (slot : Nat) (s : State) : Except SlotEnd (List Rec) :=
  if flashCut (slotBase slot) 0x3000000 s then
    .error (3 + (Config.badSlot s.dp.fresh).1 % 7, openRecord s)
  else match headerCheck slot s with
    | some c => .error (c, 0, 0)
    | none =>
      match walkCheck slot s with
      | .error e => .error e
      | .ok recs =>
        match recs.find? (fun r => crc32c (recBody slot r s) != r.crc) with
        | some r => .error (7, r.ty, r.index)
        | none =>
          if keyBlank s then .ok recs
          else match sigCheck slot recs s with
            | some c => .error (c, 0, 0)
            | none => .ok recs

/-- SLOT_RESULT of a slot. -/
def setSlotResult (slot : Nat) (e : SlotEnd) (s : State) : State :=
  s.setFlds [(F.SLOT_RESULT_RESULT, slot, e.1), (F.SLOT_RESULT_REC_TYPE, slot, e.2.1), (F.SLOT_RESULT_REC_INDEX, slot, e.2.2)]

end Sys2Proof.Machine
end

