-- ==== Sys2Proof/Machine/Recovery.lean ====
section
/-! DEFINITION. The recovery mailbox, the reload, and the submission of a change (17_startup_image.md R441 to R444; 18_host_interface.md R467). -/

namespace Sys2Proof.Machine

/-- A command of the recovery mailbox begins: its operands and the RESULT its end will show; source 70 is held in SAFE (14 Table 14.3). -/
def rcvBegin (op result : Nat) (s : State) : State :=
  (setLevel 70 s.safe (s.setFld F.RCV_STATUS_BUSY 0 1)).withLdr
    { s.ldr with rcvRun := some { op := op, addr := s.fld F.RCV_ADDR 0, len := s.fld F.RCV_LEN 0 }, rcvResult := result }

/-- RCV_LEN is in range (R442). -/
def rcvLenOk (s : State) : Bool := decide (1 ≤ s.fld F.RCV_LEN 0) && decide (s.fld F.RCV_LEN 0 ≤ 4096)

/-- A write of RCV_CMD: discarded while BUSY, and ended with REFUSED when RCV_LEN is out of range; `act` gives the effect and the RESULT. -/
def rcvStart (q : Requester) (op : Nat) (act : State → State × Nat) (s : State) : State :=
  gated q (regOffset .RCV_CMD 0) (fun s =>
    if s.fld F.RCV_STATUS_BUSY 0 = 1 then s
    else if rcvLenOk s = false then rcvBegin op 1 s
    else let r := act s; rcvBegin op r.2 r.1) s

/-- A range of the flash that PROGRAM or ERASE may reach: in SAFE any; in RUN the slot not loaded and the recovery area (R442). -/
def rcvMay (a n : Nat) (s : State) : Bool :=
  decide (a + n ≤ 0x8000000) &&
  (s.safe ||
    (s.fld F.LDR_STATUS_STATE 0 == 8 &&
      (decide (0x6000000 ≤ a) ||
       (if s.fld F.LDR_STATUS_SLOT 0 = 0 then decide (0x3000000 ≤ a) else decide (a + n ≤ 0x3000000)))))

/-- The first 4,096 bytes that RCV_DATA holds. -/
def rcvData (n : Nat) (s : State) : List Byte := ((List.range ((n + 3) / 4)).flatMap (fun w => toLe 4 (s.fld F.RCV_DATA w))).take n

/-- Write bytes of the flash. -/
def flashWrite (a : Nat) (bs : List Byte) (s : State) : State :=
  s.withLdr { s.ldr with flash := (List.range bs.length).foldl (fun t i => tset 0xFF t (a + i) (bs.getD i 0xFF)) s.ldr.flash }

/-- A byte as READ finds it: a page or sector of undefined content reads what it likes. -/
def rcvByte (a : Nat) (s : State) : Byte := if flashCut a 1 s then Config.cutByte a else flashByte a s

/-- The bytes that READ asks for appear in RCV_DATA. -/
def rcvShow (s : State) : State :=
  let n := s.fld F.RCV_LEN 0
  let bs := (List.range n).map (fun i => rcvByte (s.fld F.RCV_ADDR 0 + i) s)
  (List.range ((n + 3) / 4)).foldl (fun s w =>
    let old := toLe 4 (s.fld F.RCV_DATA w)
    s.setFld F.RCV_DATA w (leNat (slice bs (4 * w) 4 ++ old.drop (slice bs (4 * w) 4).length))) s

/-- RCV_READ. -/
def rcvRead (q : Requester) (s : State) : State :=
  rcvStart q 1 (fun s =>
    let a := s.fld F.RCV_ADDR 0
    let n := s.fld F.RCV_LEN 0
    if s.safe = false ∨ 0x8000000 < a + n then (s, 1)
    else (rcvShow s, 0)) s

/-- RCV_PROGRAM. -/
def rcvProgram (q : Requester) (s : State) : State :=
  rcvStart q 2 (fun s =>
    let a := s.fld F.RCV_ADDR 0
    let n := s.fld F.RCV_LEN 0
    if rcvMay a n s = false then (s, 1)
    else if a % 256 ≠ 0 ∨ n % 256 ≠ 0 then (s, 2)
    else (flashWrite a (rcvData n s) s, 0)) s

/-- RCV_ERASE: the sector reads 0xFF, and its content is defined again (R443). -/
def rcvErase (q : Requester) (s : State) : State :=
  rcvStart q 3 (fun s =>
    let a := s.fld F.RCV_ADDR 0
    if rcvMay a 1 s = false then (s, 1)
    else if a % 65536 ≠ 0 then (s, 2)
    else
      let out := fun (x : Nat) => decide (x < a) || decide (a + 65536 ≤ x)
      (s.withLdr { s.ldr with flash := s.ldr.flash.filter (fun e => out e.1), cut := s.ldr.cut.filter (fun c => out c.1) }, 0)) s

/-- RCV_CHECK: NVM_READ and AUTH of a slot without loading. -/
def rcvCheck (q : Requester) (s : State) : State :=
  rcvStart q 4 (fun s =>
    let a := s.fld F.RCV_ADDR 0
    if s.safe = false ∨ (a ≠ 0 ∧ a ≠ 0x3000000) then (s, 1)
    else
      let slot := if a = 0 then 0 else 1
      match authSlot slot s with
      | .ok _ => (setSlotResult slot (1, 0, 0) s, 0)
      | .error e => (setSlotResult slot e s, 4)) s

/-- RCV_RESTART: a chip reset with START_CAUSE 4; refused outside SAFE, and with RCV_LEN out of range. -/
def rcvRestart (q : Requester) (s : State) : State :=
  gated q (regOffset .RCV_CMD 0) (fun s =>
    if s.fld F.RCV_STATUS_BUSY 0 = 1 then s
    else if s.safe = true ∧ rcvLenOk s = true then chipReset 4 s
    else rcvBegin 5 1 s) s

/-- RCV_COMMAND_END (R442): BUSY clears and RESULT is set. `late`: a flash operation exceeded its bound. -/
def rcvFinish (late : Bool) (s : State) : State :=
  match s.ldr.rcvRun with
  | none => s
  | some r =>
    let failed := late && s.ldr.rcvResult == 0 && decide (r.op ≤ 4)
    let l := if failed = true ∧ (r.op = 2 ∨ r.op = 3) then cutFlash s.ldr else { s.ldr with rcvRun := none }
    (setLevel 70 false (s.setFlds [(F.RCV_STATUS_BUSY, 0, 0), (F.RCV_STATUS_RESULT, 0, if failed then 3 else s.ldr.rcvResult)])).withLdr { l with rcvResult := 0 }

/-- RELOAD (R444): in SAFE it acts as RESTART. -/
def reload (q : Requester) (key : Nat) (s : State) : State :=
  gated q (regOffset .LDR_CTRL 0) (fun s => if key = 0xA5C3 then chipReset (if s.safe then 4 else 3) s else s) s

/-! ### The change mailbox (18 R467) -/

/-- A request ends: STATE is DONE and source 68 falls. -/
def mbxEnd (result reason entry : Nat) (s : State) : State :=
  setLevel 68 false (s.setFlds [(F.MBX_STATUS_RESULT, 0, result), (F.MBX_STATUS_REASON, 0, reason), (F.MBX_STATUS_ENTRY, 0, entry),
    (F.MBX_STATUS_STATE, 0, 3)])

/-- The end of a request with its MAILBOX event. -/
def mbxDone (result reason entry : Nat) (s : State) : State :=
  eventRecord 4 (toLe 1 result ++ toLe 1 reason ++ toLe 2 entry) (mbxEnd result reason entry s)

/-- MBX_SUBMIT. -/
def mbxSubmit (q : Requester) (len : Nat) (s : State) : State :=
  gated q (regOffset .MBX_CMD 0) (fun s =>
    let st := s.fld F.MBX_STATUS_STATE 0
    if st = 1 ∨ st = 2 then s
    else if len < 8 ∨ 4096 < len ∨ len % 8 ≠ 0 then mbxDone 2 1 0 s
    else if s.safe = true ∨ inUnitReset 0 s = true then mbxEnd 3 0 0 s
    else setLevel 68 true ((s.setFlds [(F.MBX_STATUS_STATE, 0, 1)]).withHif { s.hif with mbxLen := len, mbxHost := q == .pf0 })) s

end Sys2Proof.Machine
end

