-- ==== Sys2Proof/Machine/Telemetry.lean ====
section
/-! DEFINITION. Cycles, epochs and the telemetry export (01_architecture.md R28; 11_telemetry.md R296 to R300; 18_host_interface.md R461). -/

namespace Sys2Proof.Machine

/-! ### Cycles and epochs (01 R28) -/

/-- `n` hub core cycles pass: one working-clock tick of 1 ns in three cycles, at the rate in force (09 R237). -/
def advance (n : Nat) (s : State) : State :=
  let c := s.cycle
  let ticks := (c + n) / 3 - c / 3
  let s1 := s.setFld F.CYCLE_COUNT 0 (c + n)
  { s1 with work := (Int.ofNat s.work + Int.ofNat ticks * (Int.ofNat nsUnit + s.time.rate)).toNat }

/-- THREAD_SLOTS latches the words issued in the epoch just ended (12 R305). -/
def slotsLatch (s : State) : State :=
  let s1 := (List.range 32).foldl (fun s t => s.setFld F.THREAD_SLOTS t (tget 0 s.me.slots t)) s
  s1.withMe { s1.me with slots := [] }

/-- EPOCH becomes pending in every thread (12 Table 12.2). -/
def epochEvent (s : State) : State := (List.range 32).foldl (fun s t => raiseEvent t 3 s) s

/-! ### The block (R300) -/

/-- Little-endian words. -/
def leWords (ws : List Nat) : List Byte := ws.flatMap (toLe 4)

/-- A section: TYPE, 0, LENGTH, content. -/
def section_ (ty : Nat) (body : List Byte) : List Byte := toLe 2 ty ++ [0, 0] ++ toLe 4 body.length ++ body

/-- The port is part of the device: its die is enabled, it is in use, and it is no lane of another port's group. A port of a die in reset is
down, not absent. -/
def portPresent (p : Nat) (s : State) : Bool := s.dieEnabled (dieOf p) && s.fld F.PORT_CFG_MODE p != 0 && !joinedLane p s

/-- The entry of an Ethernet port, 64 bytes; all 0 for a port that is absent. The registers of a die in reset read 0 (01 R18). -/
def portEntry (p : Nat) (s : State) : List Byte :=
  if portPresent p s = false then List.replicate 64 0
  else
    let die (v : Nat) : Nat := if s.dieUp (dieOf p) then v else 0
    toLe 8 (die (s.fld F.RX_OCTETS p)) ++ toLe 8 (die (s.fld F.RX_FRAMES p)) ++ toLe 8 (die (s.fld F.TX_OCTETS p)) ++
    toLe 8 (die (s.fld F.TX_FRAMES p)) ++
    leWords [die (s.fld F.RX_FCS_ERR p), die (s.fld F.RX_MALFORMED p), die (s.fld F.FWD_FLOOD p), s.fld F.COPY_REFUSED p, die (s.fld F.LINK_FLAPS p),
      die (s.fld F.CT_STOMPED p), die (regWord .PORT_STATUS p s), 0]

/-- The entry of a queue, 32 bytes. -/
def queueEntry (q : Nat) (s : State) : List Byte :=
  if portPresent (q / 8) s = false then List.replicate 32 0
  else leWords [s.fld F.Q_DEPTH_SUM q, s.fld F.Q_DEPTH_MAX q, s.fld F.Q_HWM q, s.fld F.Q_DELAY_HWM q, s.fld F.REFUSED_DT q, s.fld F.WRED_DROP q,
    s.fld F.ECN_MARKED q, s.fld F.Q_LATE_DISCARD q]

/-- A handle is in use: a stream is declared under it, or it is the context of the frames without a stream (R293). -/
def handlePresent (h : Nat) (s : State) : Bool := h == 65535 || (tget none s.pln.decls h).isSome

/-- The entry of a stream handle, 72 bytes; all 0 for a handle that is absent. -/
def streamEntry (h : Nat) (s : State) : List Byte :=
  if handlePresent h s = false then List.replicate 72 0
  else leWords ([h] ++ (List.range 8).map (fun w => scWord 4 h w s) ++ (List.range 8).map (fun w => scWord 5 h w s) ++ [scWord 6 h 0 s])

/-- The 64 candidates of a pipeline: class key in network order and estimate. -/
def candEntries (x : Nat) (s : State) : List Byte :=
  let l := (tget [] s.tel.candLatched x).take 64
  l.flatMap (fun e => toBe 20 e.1 ++ toLe 4 e.2) ++ List.replicate (24 * (64 - l.length)) 0

/-- A signed byte as 16 bits. -/
def sext8 (v : Nat) : Nat := if v < 128 then v else v + 0xFF00

/-- The SUMMARY section. -/
def summary (s : State) : List Byte :=
  [BitVec.ofNat 8 (s.fld F.PLN_LOAD 0), BitVec.ofNat 8 (s.fld F.PLN_STATUS_SHED_LEVEL 0), 0, 0] ++ toLe 2 (s.fld F.PLN_STATUS_PENDING 0) ++
  [BitVec.ofNat 8 (s.fld F.TIME_STATUS_STATE 0), BitVec.ofNat 8 (s.fld F.TIME_STATUS_FOLLOW_LOCK 0)] ++
  (List.range 4).flatMap (fun d => toLe 2 (s.fld F.FLT_TEMP d)) ++
  (List.range 2).flatMap (fun m => toLe 2 (sext8 (s.fld F.STACK_TEMP_RAW m))) ++
  leWords [s.fld F.FREE_CELLS 0, s.fld F.FREE_DESC 0, s.fld F.SHARED_USED 0] ++ List.replicate 32 0

/-- The block header (Table 11.2) with its CRC field at `crc`. -/
def blockHeader (e start crc : Nat) (gap : Bool) (s : State) : List Byte :=
  let seq := s.fld F.EXPORT_SEQ 0
  let flags := (if gap then 1 else 0) + (if s.fld F.PLN_STATUS_SHED_LEVEL 0 ≠ 0 then 2 else 0) + (if s.time.stepped then 4 else 0) +
    s.fld F.DIE_STATUS_ENABLED 0 * 16
  toLe 2 0x544C ++ [1, BitVec.ofNat 8 (seq % 64)] ++ toLe 8 seq ++ toLe 4 e ++ timeBytes start ++ leWords [flags, 266416, crc] ++
    List.replicate 24 0

/-- The six sections (Table 11.3). -/
def blockSections (s : State) : List Byte :=
  let slice := s.fld F.EXPORT_SEQ 0 % 64
  section_ 1 ((List.range 512).flatMap (fun p => portEntry p s)) ++
  section_ 2 ((List.range 4096).flatMap (fun q => queueEntry q s)) ++
  section_ 3 ((List.range 1024).flatMap (fun i => streamEntry (1024 * slice + i) s)) ++
  section_ 4 ((List.range 64).flatMap (fun i => leWords ((List.range 64).map (fun b => s.fld F.HIST ((64 * slice + i) * 64 + b))))) ++
  section_ 5 ((List.range 8).flatMap (fun x => candEntries x s)) ++
  section_ 6 (summary s)

/-- The CRC of R115 over bytes in order, from seed `r`. -/
def crcBytes (r : Nat) (bs : List Byte) : Nat := bs.foldl (fun r b => crcBits 32 0x1EDC6F41 b.toNat 8 r) r

/-- The whole block for epoch `e` that began at `start`. -/
def exportBlock (e start : Nat) (gap : Bool) (s : State) : List Byte :=
  let body := blockSections s
  blockHeader e start (crcBytes 0 (blockHeader e start 0 gap s ++ body)) gap s ++ body

/-! ### Epochs -/

/-- The sweep for epoch `e` begins (R298, R299), unless the shed level decimates it or the last block is still incomplete. It reads every counter at
the boundary itself. -/
def exportStart (e start : Nat) (s : State) : State :=
  if s.fld F.EXPORT_CFG_EN 0 = 0 ∨ (s.fld F.PLN_STATUS_SHED_LEVEL 0 ≠ 0 ∧ e % 4 ≠ 0) then s
  else if s.tel.building.isSome then { s.bump F.EXPORT_LATE 0 with tel := { s.tel with gap := true } }
  else { s with tel := { s.tel with building := some (exportBlock e start s.tel.gap s), gap := false } }

/-- What an epoch boundary does, at a cycle count that is a multiple of 1,000,000; `delays`: the link delays that gPTP measured in the epoch
just ended, by port in ns (10 R264). -/
def epochWork (delays : List (Nat × Nat)) (s : State) : State :=
  let e := s.fld F.EPOCH_COUNT 0
  let start := s.tel.epochStart
  let load := s.me.slots.foldl (fun a x => a + x.2) 0
  let s1 := s.setFld F.EPOCH_COUNT 0 (s.cycle / 1000000)
  let s2 := epochEvent (slotsLatch (intcEpoch (sketchLatch (depthLatch s1))))
  let s3 := exportStart e start (plannerEpoch delays load s2)
  { s3 with
    dp := { s3.dp with ptpCount := [], lateRaised := false }
    time := { s3.time with stepped := false }
    tel := { s3.tel with epochStart := s3.work } }

/-- What waits for the next cycle happens: threshold updates held back by another of their pair (07 R191), and the verify pass of a TCAM block
whose rows have been rewritten (04 R109). -/
def nextCycle (s : State) : State := tcamVerify (pfcNext s)

/-- EPOCH_BOUNDARY (R28): the cycle count reaches the next multiple of 1,000,000. -/
def epochBoundary (delays : List (Nat × Nat)) (s : State) : State :=
  epochWork delays (nextCycle (advance (1000000 - s.cycle % 1000000) s))

/-- One hub core cycle with no command: the tick of the block's clock. -/
def tick (s : State) : State :=
  let s1 := nextCycle (advance 1 s)
  let s2 := if s1.cycle % 2 = 0 then pmcTick s1 else s1
  if s2.cycle % 1000000 = 0 then epochWork [] s2 else s2

/-! ### Delivery -/

/-- The block is offered to the telemetry ring of function `f` (R298, 18 R461); `d`: the descriptor at HEAD. -/
def offerBlock (f : Nat) (d block : List Byte) (seq : Nat) (s : State) : State :=
  let r := if f = 0 then 136 else 145
  let en := if f = 0 then s.fld F.EXPORT_CFG_PF0_EN 0 else s.fld F.EXPORT_CFG_PF1_EN 0
  let drop := if f = 0 then F.EXPORT_DROP_PF0 else F.EXPORT_DROP_PF1
  let addr := leNat (slice d 0 8)
  let at_ := ringAddr r (s.fld F.RING_HEAD r) s
  let next (s : State) : State := s.setFld F.RING_HEAD r ((s.fld F.RING_HEAD r + 1) % ringSize r s)
  if en = 0 then s
  else if ringRuns r s = false ∨ ringPosted r s = 0 ∨ funcUp f s = false then s.bump drop 0
  else if addr % 4096 ≠ 0 ∨ (slice d 12 20).any (fun b => b != 0) = true then ringError r 1 (s.bump drop 0)
  else if leNat (slice d 8 4) < 266416 then
    let w : List (Nat × List Byte) := [(at_ + 8, slice d 8 4 ++ [0xC0, 0, 0, 0])]
    ringComplete r (moreWrites f w (next (s.bump drop 0)))
  else
    let w : List (Nat × List Byte) := [(addr, block), (at_ + 16, toLe 8 seq), (at_ + 8, slice d 8 4 ++ [0x80, 0, 0, 0])]
    ringComplete r (moreWrites f w ((next s).addWrap F.RING_FRAMES r 1))

/-- Base of the telemetry history (16 Table 16.1). -/
def historyBase : Nat := 0x60000000

/-- EXPORT_BLOCK_COMPLETE (R298): the block goes to its history slot, at service class 3 (16 R405), and to the telemetry rings; `d0` and `d1`: the descriptors at their HEADs. -/
def exportComplete (d0 d1 : List Byte) (s : State) : State :=
  match s.tel.building with
  | none => s
  | some block =>
    let seq := s.fld F.EXPORT_SEQ 0
    let at_ := historyBase + 0x60000 * (seq % 4096)
    let s1 := (dramRequests 3 true at_ block.length (hbmWrite at_ block s)).addWrap F.EXPORT_SEQ 0 1
    let s2 : State := { s1 with tel := { s1.tel with building := none }, hif := { s1.hif with hostWrites := [] } }
    offerBlock 1 d1 block seq (offerBlock 0 d0 block seq s2)

end Sys2Proof.Machine
end

