-- ==== Sys2Proof/Machine/Time.lean ====
section
/-! DEFINITION. The time base: followers, rate changes and steps, time pins and the timestamp FIFOs (09_time_base.md). -/

namespace Sys2Proof.Machine

/-! ### Followers -/

/-- TIME_BEACON (R240, R241): the follower of die `d` measures the error `e` (2^-32 ns). The beacon after an unlock or a retrain gives the master
value; at any other, an error above 2 ns unlocks the follower, which keeps it till the next, and a smaller one is corrected. Eight good beacons
in a row lock it. No beacon arrives while the link retrains. -/
def timeBeacon (d : Nat) (e : Int) (s : State) : State :=
  if 4 ≤ d ∨ s.dieUp d = false ∨ tget false s.dp.retraining d = true then s
  else
    let lock := s.fld F.TIME_STATUS_FOLLOW_LOCK 0
    let n := tget 0 s.time.goodBeacons d
    let put (off : Int) (good : Nat) (s : State) : State :=
      s.withTime { s.time with follow := tset 0 s.time.follow d off, goodBeacons := tset 0 s.time.goodBeacons d good }
    if lock.testBit d = false ∧ n = 0 then put 0 1 s
    else if 2 * nsUnit < e.natAbs then
      put e 0 (raiseFault 73 d 0 (raiseSrc 109 ((s.setFld F.TIME_STATUS_FOLLOW_LOCK 0 (setBit lock d false)).bump F.FOLLOW_UNLOCKS 0)))
    else if lock.testBit d then put 0 0 s
    else if nsUnit < e.natAbs then put 0 1 s
    else if n < 8 then put 0 (n + 1) s
    else put 0 0 (s.setFld F.TIME_STATUS_FOLLOW_LOCK 0 (setBit lock d true))

/-! ### Rate changes and steps -/

/-- Deadline wheels at a step (Table 9.2): forward, the copies of the slots passed move to the overdue lists in slot order
and the others keep their place on the wheel; backward, no copy moves. `old`: the state before the step. -/
def stepWheels (old : State) (forward : Bool) (adv : Nat) (s : State) : State :=
  let waiting := fun (c : Copy) => c.slot.isSome && !s.dp.overdue.contains c.id
  let passed := fun (c : Copy) => waiting c && forward && decide (c.slot.getD 0 < presentSlot c.port old + adv % 1024)
  let due := s.dp.copies.filter passed
  let sorted := due.mergeSort (fun a b => decide (a.slot.getD 0 ≤ b.slot.getD 0))
  let base := fun (p : Nat) => if forward then presentSlot p old + adv else presentSlot p s
  let refile := fun (c : Copy) =>
    if waiting c && !passed c then { c with slot := some (base c.port + (c.slot.getD 0 + 1024 * (base c.port) - base c.port) % 1024) } else c
  { s with dp := { s.dp with copies := s.dp.copies.map refile, overdue := s.dp.overdue ++ sorted.map (fun c => c.id) } }

/-- The change time of a pending list after a step to `now` ns (Table 9.2). -/
def shiftedChange (oper : Option GateRun) (r : GateRun) (now : Nat) : GateRun :=
  if r.base ≤ now then { r with base := changeTime oper now } else r

/-- Port gate lists at a step (Table 9.2). -/
def stepPortGates (s : State) : State :=
  let now := s.workNsUp
  let s1 := s.dp.gclPending.foldl (fun s e => match e.2 with
    | some r =>
      let r1 := shiftedChange (tget none s.dp.gclOper e.1) r now
      let s2 := s.setFlds [(F.GCL_CHANGE_TIME_NS, e.1, r1.base % 1000000000), (F.GCL_CHANGE_TIME_SEC_LO, e.1, r1.base / 1000000000),
        (F.GCL_CHANGE_TIME_SEC_HI, e.1, r1.base / 1000000000 / 2 ^ 32)]
      { s2 with dp := { s2.dp with gclPending := tset none s2.dp.gclPending e.1 (some r1) } }
    | none => s) s
  s1.dp.gclOper.foldl (fun s e => match e.2 with
    | some r =>
      if s.workNs < r.base then s
      else
        let l := tget 0 s.dp.operList e.1
        let x := r.at (fun i => bitsOf (gclWord e.1 l i s) 0 22) s.workNs
        s.setFld F.GCL_STATUS_OPER_INDEX e.1 x.1
    | none => s) s1

/-- Stream gates at a step (Table 9.2). -/
def stepStreamGates (s : State) : State :=
  let now := s.workNs
  let fix := fun (st : StreamGateSt) =>
    { st with
      pending := st.pending.map (fun r => shiftedChange st.oper r s.workNsUp)
      openNow := match st.oper with
        | some r => if now < r.base then st.openNow
          else scFld 2 (r.first + (r.at (fun i => scFld 2 (r.first + i) 0 21 0 s) now).1) 0 31 31 s == 1
        | none => st.openNow }
  s.dp.streamGates.foldl (fun s e => setGateSt e.1 (fix e.2) s) s

/-- The level of PPS_OUT at a time in ns, with EN = 1 (R257). -/
def ppsLevel (ns : Nat) (s : State) : Bool := decide (ns % 1000000000 < s.fld F.PPS_OUT_CFG_WIDTH 0 * 1000)

/-- The written START of SYNC_OUT_n in units of 0.25 ns. -/
def syncStart (n : Nat) (s : State) : Nat :=
  let ns := s.fld F.SYNC_OUT_START_NS n
  ((s.fld F.SYNC_OUT_START_SEC_LO n + s.fld F.SYNC_OUT_START_SEC_HI n * 2 ^ 32) * 1000000000 + ns / 4) * 4 + ns % 4

/-- The written schedule of SYNC_OUT_n (R258). -/
def syncWritten (n : Nat) (s : State) : Sched :=
  { start := syncStart n s, period := s.fld F.SYNC_OUT_PERIOD n, width := s.fld F.SYNC_OUT_WIDTH n }

/-- The level a periodic schedule gives at a time in units of 0.25 ns. -/
def Sched.level (c : Sched) (t : Nat) : Bool := decide (c.start ≤ t) && decide ((t - c.start) % (4 * c.period) < 4 * c.width)

/-- Set the level of SYNC_OUT_n. -/
def setSyncOut (n : Nat) (v : Bool) (s : State) : State := s.withTime { s.time with syncOut := tset false s.time.syncOut n v }

/-- The level that the mode of SYNC_OUT_n gives at once (R246, R258): off, level, before or after START, or the schedule in force. -/
def syncNow (n : Nat) (s : State) : State :=
  let lv := s.fld F.SYNC_OUT_CFG_LEVEL n == 1
  match s.fld F.SYNC_OUT_CFG_MODE n with
  | 0 => setSyncOut n false s
  | 1 => setSyncOut n lv s
  | 2 => setSyncOut n (if syncStart n s ≤ s.work / 2 ^ 30 then lv else tget false s.time.syncBefore n) s
  | _ => setSyncOut n ((tget ({} : Sched) s.time.syncSched n).level (s.work / 2 ^ 30)) s

/-- The time pins at a step (Table 9.2): each takes the level its schedule gives at the new time. -/
def stepPins (s : State) : State :=
  let s1 := if s.fld F.PPS_OUT_CFG_EN 0 = 1 then s.withTime { s.time with ppsOut := ppsLevel s.workNs s } else s
  (List.range 4).foldl (fun s n => syncNow n s) s1

/-- A write of SYNC_OUT_CFG_n (R258): off and level act at once; a schedule that was not running starts from the written one; before START of a
single edge the pin keeps its level. -/
def syncCfgWrite (n mode level : Nat) (s : State) : State :=
  let s1 := s.setFlds [(F.SYNC_OUT_CFG_MODE, n, mode), (F.SYNC_OUT_CFG_LEVEL, n, level)]
  if mode = 3 ∧ s.fld F.SYNC_OUT_CFG_MODE n ≠ 3 then
    setSyncOut n false (s1.withTime { s1.time with syncSched := tset {} s1.time.syncSched n (syncWritten n s1) })
  else if mode = 2 then s1.withTime { s1.time with syncBefore := tset false s1.time.syncBefore n (tget false s.time.syncOut n) }
  else if mode = 3 then s1
  else syncNow n s1

/-- What is projected on the working clock follows a step (R238): the ends and starts on the wire that 08 R199 reckons with. -/
def stepProjections (delta : Int) (s : State) : State :=
  let move (t : Nat) : Nat := (Int.ofNat t + delta * Int.ofNat (2 ^ 30)).toNat
  { s with dp := { s.dp with
    ports := s.dp.ports.map (fun e => (e.1, { e.2 with free := move e.2.free }))
    tx := s.dp.tx.map (fun t => { t with fragAt := move t.fragAt, copy := { t.copy with tStart := move t.copy.tStart } }) } }

/-- TIME_STEP_APPLY (R246): the working clock moves by `delta` (0.25 ns) in one tick, with the consequences of Table 9.2. A follower
that is not locked does not take the step. -/
def applyStep (delta : Int) (s : State) : State :=
  let new := (Int.ofNat s.work + delta * Int.ofNat (2 ^ 30)) % Int.ofNat (2 ^ 48 * 1000000000 * nsUnit)
  let s0 : State := { s with work := new.toNat }
  let s1 := stepPins (stepStreamGates (stepPortGates (stepProjections delta s0)))
  let s2 := stepWheels s (decide (0 ≤ delta)) (delta.natAbs / 128) s1
  let s3 := raiseSrc 99 (s2.bump F.TIME_STEPS 0)
  let lock := s3.fld F.TIME_STATUS_FOLLOW_LOCK 0
  let follow := (List.range 4).foldl (fun t d =>
    if lock.testBit d then t else tset 0 t d (tget 0 t d - delta * Int.ofNat (2 ^ 30))) s3.time.follow
  { s3 with
    time := { s3.time with stepped := true, follow := follow }
    pln := { s3.pln with phase := [] } }

/-- APPLY_INSTANT (R245, R246): the rate change or step, or both, whose apply instant comes first takes effect. -/
def applyInstantReached (s : State) : State :=
  let tr := s.time.ratePend.map (fun e => e.2)
  let ts := s.time.stepPend.map (fun e => e.2.2)
  let doRate := match tr, ts with | some a, some b => decide (a ≤ b) | some _, none => true | none, _ => false
  let doStep := match tr, ts with | some a, some b => decide (b ≤ a) | none, some _ => true | _, none => false
  let s1 := match doRate, s.time.ratePend with
    | true, some (r, _) =>
      let s2 := applyRate r (s.setFld F.TIME_STATUS_RATE_PENDING 0 0)
      s2.withTime { s2.time with ratePend := none }
    | _, _ => s
  match doStep, s.time.stepPend with
  | true, some (isSet, v, _) =>
    let s2 := s1.setFld F.TIME_STATUS_STEP_PENDING 0 0
    let s3 := s2.withTime { s2.time with stepPend := none }
    applyStep (if isSet then v - Int.ofNat (s.work / 2 ^ 30) else v) s3
  | _, _ => s1

/-! ### Clock sources -/

/-- PLL_LOCK_LOSS (R239): 0 the core PLL, 1 the ME PLL, 2 the time-base PLL. -/
def pllLockLoss (which : Nat) (s : State) : State := raiseFault 5 4 which s

/-! ### Time pins -/

/-- The SEC_HI word of a time. -/
def timeSecHi (t : Nat) : Nat := timeSec t / 2 ^ 32

/-- The SEC_LO word of a time. -/
def timeSecLo (t : Nat) : Nat := timeSec t % 2 ^ 32

/-- PPS_IN_EDGE (R254, R256): a rising edge; under WORK_SOURCE 2 the servo hears its source (R249). -/
def ppsInEdge (s : State) : State :=
  if s.fld F.PPS_IN_CFG 0 = 0 then s
  else
    let t := s.work / 2 ^ 30 * 2 ^ 30
    let close := match s.time.ppsLast with | some l => decide (l ≤ t) && decide (t < l + 100 * nsUnit) | none => false
    if close then s
    else
      let bad := match s.time.ppsLast with
        | some l => decide (100000 * nsUnit < (Int.ofNat t - Int.ofNat l - Int.ofNat (1000000000 * nsUnit)).natAbs)
        | none => false
      let s1 := s.setFlds [(F.PPS_IN_TS_NS, 0, timeNsWord t), (F.PPS_IN_TS_SEC_LO, 0, timeSecLo t), (F.PPS_IN_TS_SEC_HI, 0, timeSecHi t)]
      let s2 := if bad then raiseSrc 108 (s1.bump F.PPS_IN_BAD_PERIOD 0) else s1
      let s3 := if s.fld F.TIME_STATUS_PPS_IN_LOST 0 = 1 then
          raiseSrc 98 (setLevel 97 false (s2.setFld F.TIME_STATUS_PPS_IN_LOST 0 0))
        else s2
      let s4 := s3.withTime { s3.time with ppsLast := some t }
      if s.fld F.TIME_CFG_WORK_SOURCE 0 = 2 then servoUpdate s4 else s4

/-- PPS_IN_LOSS_TIMEOUT (R256, R253). -/
def ppsInLoss (s : State) : State :=
  let s1 := setLevel 97 true (s.setFld F.TIME_STATUS_PPS_IN_LOST 0 1)
  if s.fld F.TIME_CFG_WORK_SOURCE 0 = 2 then enterHoldover s1 else s1

/-- SYNC_IN_EDGE (R254, R255): an edge on SYNC_IN_n, rising or falling. -/
def syncInEdge (n : Nat) (rising : Bool) (s : State) : State :=
  let sel := s.fld F.SYNC_IN_CFG n
  if 4 ≤ n ∨ (sel.testBit (if rising then 0 else 1)) = false then s
  else
    let t := s.work / 2 ^ 30 * 2 ^ 30
    let close := match tget none s.time.syncLast n with | some l => decide (l ≤ t) && decide (t < l + 100 * nsUnit) | none => false
    if close then s.bump F.SYNC_IN_MERGED n
    else
      let s1 := s.withTime { s.time with syncLast := tset none s.time.syncLast n (some t) }
      let l := tget [] s.time.syncFifo n
      if 16 ≤ l.length then raiseSrc (104 + n) (s1.bump F.SYNC_IN_OVERFLOW n)
      else raiseSrc (100 + n) (s1.withTime { s1.time with syncFifo := tset [] s1.time.syncFifo n (l ++ [(t, rising)]) })

/-- The three words of the head of a SYNC_IN FIFO: NS, SEC_LO, SEC_HI with VALID and RISING. -/
def syncHead (n : Nat) (s : State) : List Nat :=
  match (tget [] s.time.syncFifo n).head? with
  | some (t, r) => [timeNsWord t, timeSecLo t, 2 ^ 31 + (if r then 2 ^ 30 else 0) + timeSecHi t]
  | none => [0, 0, 0]

/-- SYNC_IN_TS_READ (R255): a read of SYNC_IN_TS_NS_n latches the other words; a privileged one pops the FIFO. -/
def syncInRead (q : Requester) (n : Nat) (s : State) : State :=
  if 4 ≤ n then s
  else
    let w := syncHead n s
    let s1 := setOut q (w.getD 0 0) (setLatch q (cellKey .SYNC_IN_TS_NS 0 n) (w.drop 1) s)
    if privileged q 3 s then s1.withTime { s1.time with syncFifo := tset [] s1.time.syncFifo n ((tget [] s1.time.syncFifo n).drop 1) }
    else s1

/-- The words of the head of a transmit timestamp FIFO: PTP_TX_INFO, NS, SEC_LO, SEC_HI. -/
def ptpHead (d : Nat) (s : State) : List Nat :=
  match (tget [] s.time.txFifo d).head? with
  | some e => [2 ^ 31 + e.port % 128 * 2 ^ 24 + e.domain % 4 * 2 ^ 22 + e.seqId % 2 ^ 16, timeNsWord e.time, timeSecLo e.time, timeSecHi e.time]
  | none => [0, 0, 0, 0]

/-- PTP_TX_INFO_READ (R252): a privileged read pops the head and latches its timestamp words; an observer read returns the head. -/
def ptpInfoRead (q : Requester) (d : Nat) (s : State) : State :=
  if 4 ≤ d then s
  else if s.dieUp d = false then setOut q 0 s
  else
    let w := ptpHead d s
    let s1 := setOut q (w.getD 0 0) s
    if privileged q (13 + d) s then
      let s2 := setLatch q (cellKey .PTP_TX_INFO 0 d) (w.drop 1) s1
      s2.withTime { s2.time with txFifo := tset [] s2.time.txFifo d ((tget [] s2.time.txFifo d).drop 1) }
    else s1

/-- PPS_OUT_EDGE (R257): with EN = 1 the pin rises when NS passes 0, and falls after WIDTH. -/
def ppsOutEdge (rising : Bool) (s : State) : State :=
  if s.fld F.PPS_OUT_CFG_EN 0 = 1 then s.withTime { s.time with ppsOut := rising } else s

/-- SYNC_OUT_EDGE (R258): an edge of the schedule of SYNC_OUT_n. At a rising edge of a periodic one, what was written since
comes into force. -/
def syncOutEdge (n : Nat) (rising : Bool) (s : State) : State :=
  if 4 ≤ n then s
  else match s.fld F.SYNC_OUT_CFG_MODE n with
    | 2 => setSyncOut n (s.fld F.SYNC_OUT_CFG_LEVEL n == 1) s
    | 3 =>
      let s1 := setSyncOut n rising s
      if rising then s1.withTime { s1.time with syncSched := tset {} s1.time.syncSched n (syncWritten n s1) } else s1
    | _ => s

end Sys2Proof.Machine
end

