-- ==== Sys2Proof/Machine/RegAccess.lean ====
section
/-! DEFINITION. Accesses to the register space: which register an offset names, what a read returns and does, and what a write does, in each
requester's view (00_scope.md R7 to R14, R505; 19_register_map.md R474, R475). -/

namespace Sys2Proof.Machine

/-! ### The map (R474) -/

/-- Registers in table order, part 0. -/
def regList0 : List Reg :=
  [.CYCLE_COUNT, .EPOCH_COUNT, .DIE_STATUS, .GLB_ID, .REVISION, .BEHAVIOUR_LEVEL, .SERIAL_LO, .SERIAL_HI, .SUBSYS, .RESET_CTRL,
   .PRIV_VIOL_COUNT, .PRIV_VIOL_LAST, .PRIV_VIOL_ADDR, .JTAG_CHALLENGE, .JTAG_RESPONSE, .JTAG_STATUS, .OTP_CMD, .OTP_ADDR,
   .OTP_DATA, .OTP_STATUS, .PORT_CFG, .PORT_STATUS, .PORT_EVENT, .PORT_EVENT_EN, .LINK_TIMING, .MM_CFG, .MM_STATUS, .SD_TX_EQ,
   .SD_RX_STATUS, .RX_OCTETS, .RX_FRAMES, .TX_OCTETS, .TX_FRAMES, .RX_FCS_ERR, .RX_RUNT, .RX_OVERSIZE, .RX_CODE_ERR, .RX_PAUSE,
   .TX_PAUSE, .FEC_CORRECTED, .FEC_UNCORRECTABLE, .LINK_FLAPS, .MM_RX_FRAG, .MM_TX_FRAG, .MM_ASSEMBLY_ERR, .MM_SMD_ERR,
   .MM_HOLD, .RX_CTRL_OTHER, .TX_DOWN_DISCARD, .RX_PFC, .TX_PFC, .PORT_CLASS_CFG, .PORT_PVID, .IP_PROFILE, .PARSE_INFO,
   .MAL_COUNT, .CLASS_KEY_SEG, .PARSE_NODE, .RX_MALFORMED, .RX_NO_MATCH, .RX_CLASS_DROP, .RX_TRAP, .TCAM_PART, .TCAM_GMASK]

/-- Registers in table order, part 1. -/
def regList1 : List Reg :=
  [.TCAM_BLK_STATUS, .TCAM_SCRUB_FIX, .TCAM_SCRUB_DEFER, .TCAM_SCRUB_SHADOW_UE, .TCAM_ACTION_UE, .TCAM_REPAIRS,
   .TCAM_OUT_SEARCHES, .TCAM_SWEEPS, .TCAM_PART_SEARCH, .TCAM_PART_HIT, .TCAM_CMD, .TCAM_ADDR, .TCAM_STATUS, .TCAM_DATA,
   .EM_SEED, .EM_FAR_SEED, .EM_CFG, .EM_AGE, .EM_INFO, .VLAN, .PORT_LEARN_CFG, .EM_CMD, .EM_ADDR, .EM_STATUS, .EM_DATA,
   .LEARNS, .MOVES, .AGED, .LEARN_REFUSED_FULL, .LEARN_REFUSED_RATE, .LEARN_REFUSED_LIMIT, .MOVE_REFUSED_LOCK,
   .LEARN_STATIC_CONFLICT, .FLAP_LOCKS, .LEARN_EVICTED, .EM_UE, .FAR_OVERFLOW, .FAR_TIMEOUT, .FAR_UE, .LEARNED_ENTRIES,
   .LAYBY_ENTRIES, .FAR_LOOKUPS, .FAR_HITS, .FWD_FLOOD, .FWD_FILTERED, .FWD_ROUTE_DROP, .FWD_LEARNED, .RW_CMD, .RW_INDEX,
   .RW_STATUS, .RW_DATA, .EDIT_CFG, .RTAG_CFG, .REPL_UE, .EDIT_GROW, .MIRROR_CFG, .MIRROR_DEST, .MIRROR_STREAM, .MIRROR_PORTS,
   .MIRROR_COPIES, .MIRROR_REFUSED, .MIRROR_TRUNCATED, .MC_HOLD_CFG, .MC_HOLD_STATUS]

/-- Registers in table order, part 2. -/
def regList2 : List Reg :=
  [.MC_HOLD_EXPIRED, .MC_HOLD_FULL, .COPY_REFUSED, .EDIT_UE, .PORT_EDIT_CFG, .PORT_MAC_LO, .PORT_MAC_HI, .EDIT_DROP,
   .EDIT_TTL_DROP, .EDIT_OVERSIZE, .EDIT_NA, .POOL_STATUS, .SHARED_USED, .FREE_CELLS, .FREE_DESC, .TRANSIT_USED, .POOL_ALARM,
   .CFG_REFUSED, .HDRM_OVERRUN, .NO_DESC, .BUF_UE, .BUF_CE, .DELTA_MASK, .Q_CFG, .Q_MIN, .Q_CELLS, .Q_HWM, .Q_HDRM_CELLS,
   .WRED_LO, .WRED_HI, .Q_AVG, .PFC_XOFF, .PFC_XON, .PFC_HDRM, .PFC_STATUS, .PFC_HDRM_USED, .PORT_PFC_TIMING, .ENQ_COPIES,
   .REFUSED_DT, .WRED_DROP, .ECN_MARKED, .FLUSHED, .HDRM_ADMIT, .CT_BAD_DISCARD, .RLF_STATUS, .RLF_REPLAY_COUNT, .RLF_RETRAINS,
   .RLF_CODED, .RLF_UNCODED, .RLF_INSTALLS, .RLF_UNCODED_PENDING, .RLF_UNCODED_MASK, .RLF_DISCARD, .RLF_CTX_UE, .PORT_BUF_CFG,
   .CT_BAD_TAIL, .CT_STOMPED, .PORT_SCH_CFG, .GCL_CTRL, .GCL_STATUS, .GCL_ADMIN_BASE_NS, .GCL_ADMIN_BASE_SEC_LO,
   .GCL_ADMIN_BASE_SEC_HI, .GCL_ADMIN_CYCLE]

/-- Registers in table order, part 3. -/
def regList3 : List Reg :=
  [.GCL_ADMIN_LEN, .GCL_OPER_BASE_NS, .GCL_OPER_BASE_SEC_LO, .GCL_OPER_BASE_SEC_HI, .GCL_OPER_CYCLE, .GCL_OPER_LEN,
   .GCL_CHANGE_TIME_NS, .GCL_CHANGE_TIME_SEC_LO, .GCL_CHANGE_TIME_SEC_HI, .GCL_CHANGES, .GCL_START_IN_PAST, .LATE_MARKED,
   .Q_SCH_CFG, .Q_SHAPER, .Q_DL_BUDGET, .Q_DL_CFG, .Q_DELAY_HWM, .Q_DEPTH_SUM, .Q_DEPTH_MAX, .Q_LATE_DISCARD, .SHP_RATE,
   .SHP_BURST, .SHP_TOKENS, .GCL_SEL, .GCL_ENTRY, .SCH_UE, .HIST, .SC_CMD, .SC_INDEX, .SC_STATUS, .SC_DATA, .SC_UE, .TIME_CFG,
   .SERVO_CFG, .STEP_THRESHOLD, .TIME_STATUS, .NOW_NS, .NOW_SEC_LO, .NOW_SEC_HI, .RATE_ADJ, .STEP_LO, .STEP_HI, .STEP_CTRL,
   .SET_NS, .SET_SEC_LO, .SET_SEC_HI, .DOM_CFG, .DOM_OFFSET_LO, .DOM_OFFSET_HI, .DOM_RATE, .TIME_STEPS, .FOLLOW_UNLOCKS,
   .PPS_IN_BAD_PERIOD, .PPS_OUT_CFG, .PPS_IN_CFG, .PPS_IN_TS_NS, .PPS_IN_TS_SEC_LO, .PPS_IN_TS_SEC_HI, .SYNC_IN_CFG,
   .SYNC_IN_TS_NS, .SYNC_IN_TS_SEC_LO, .SYNC_IN_TS_SEC_HI, .SYNC_IN_MERGED, .SYNC_IN_OVERFLOW]

/-- Registers in table order, part 4. -/
def regList4 : List Reg :=
  [.SYNC_OUT_CFG, .SYNC_OUT_START_NS, .SYNC_OUT_START_SEC_LO, .SYNC_OUT_START_SEC_HI, .SYNC_OUT_PERIOD, .SYNC_OUT_WIDTH,
   .PTP_TX_INFO, .PTP_TX_NS, .PTP_TX_SEC_LO, .PTP_TX_SEC_HI, .PTP_TX_LOST, .PORT_PTP_CFG, .PTP_RX_DROP, .PTP_ONESTEP_NA,
   .STREAM_EGRESS, .PLN_CTRL, .PLN_STATUS, .PLAN_ID, .APPROVE_ID, .APPROVE_CMD, .PLN_LOAD, .T_COMMIT_NS, .T_COMMIT_SEC_LO,
   .T_COMMIT_SEC_HI, .JOURNAL_ADDR, .JOURNAL_HEAD, .PLANS_COMMITTED, .PLANS_ABORTED, .DETOURS, .QUARANTINES, .STREAMS_REFUSED,
   .HH_LIMITS, .TRAP_SHAPED_DROP, .APPROVE_STALE, .FOREIGN_LIST, .SS_INDEX, .SS_DATA0, .SS_DATA1, .SS_DATA2, .SS_DATA3,
   .EXPORT_CFG, .EXPORT_SEQ, .HISTORY_ADDR, .EXPORT_DROP_PF0, .EXPORT_DROP_PF1, .EXPORT_LATE, .SKETCH_SEED, .HH_CAND_BYTES,
   .CAND_FULL, .THREAD_CFG, .ACCESS_MASK, .WIN0, .WIN1, .DRAM_WIN, .SHARE_MSG, .SHARE_BUF, .ENTRY, .THREAD_STATUS,
   .WAIT_MASK_LO, .WAIT_MASK_HI, .THREAD_SLOTS, .THREAD_CTRL, .HELD, .ME_INFO]

/-- Registers in table order, part 5. TRAP_MAP stands before FLT_HIST: Table 15.7 gives both the offsets 0x200 to 0x20C, and TRAP_MAP answers there. -/
def regList5 : List Reg :=
  [.CORE_CFG, .DEADLOCKS, .SUP_NOTE, .SUP_NOTE_LOST, .SHARE_REFUSED, .POOL_FREE, .CHAN_CFG0, .CHAN_CFG1, .CHAN_STATUS,
   .PORT513_CFG, .RX513_HEAD, .RX513_TAIL, .TX513_HEAD, .TX513_TAIL, .TX513_REFUSED, .DBG_CMD, .DBG_STATUS, .DBG_RESULT,
   .BP_ADDR, .BP_CTRL, .UC_STATUS, .UC_CMD, .UC_RESULT, .UC_MCHK, .MCHK_COUNT, .UC_SCRUB_FIX, .UC_RD_ADDR, .UC_RD_DATA,
   .PMC_CTRL, .PMC_OVF, .PMC_IRQ_EN, .PMC_CFG, .PMC_LO, .PMC_HI, .SMP_CFG, .SMP_HEAD, .SMP_TAIL, .SMP_THRESH, .SMP_LOST,
   .SAMPLE_ENTRY, .SRC_CFG, .SRC_STATUS, .CLAIM, .COMPLETE, .TGT_STATUS, .TGT_CLAIMS, .SW_RAISE, .STORMS, .WITHDRAWALS,
   .COMPLETE_STRAY, .MASK_WINDOW_DELIVERIES, .INTC_PENDING, .FLT_CFG, .FLT_CTRL, .FLT_STATUS, .FIRST, .FIRST_FOLLOW,
   .CONSEQ_COUNT, .FLT_TEMP, .TRAP_MAP, .FLT_HIST, .SRC_REACT, .ESC_REACT, .FLT_SRC_STATUS]

/-- Registers in table order, part 6. -/
def regList6 : List Reg :=
  [.SRC_COUNT, .MEM_CFG, .STACK_TEMP, .LAST_UE_ADDR_LO, .LAST_UE_ADDR_HI, .MEM_CE_COUNT, .MEM_UE_COUNT, .CH_CFG, .CH_STATUS,
   .CH_CTRL, .CH_EVENT, .CH_EVENT_EN, .CATCHUP_COUNT, .RD_REFRESHES, .FLOOR_HITS, .PATROL_FIX, .MEM_RETRAINS, .FAILED_ACCESS,
   .LDR_STATUS, .START_US, .RESTARTS, .SLOT_RESULT, .BUILD_ID, .ID_INTEGRATOR, .ID_BOARD, .ID_VERSION, .LDR_NAME, .LDR_CTRL,
   .RCV_CMD, .RCV_ADDR, .RCV_LEN, .RCV_STATUS, .RCV_DATA, .HIF_CFG, .BAR2_BASE, .PF1_WIN, .LINK_STATUS, .FUNC_STATUS, .HQ_MAP,
   .EVT_CFG, .MBX_CMD, .MBX_STATUS, .MBX_REQ, .RX_NOT_ALLOWED, .BASE_LO, .BASE_HI, .RING_CFG, .RING_MOD, .RING_HEAD,
   .RING_TAIL, .ERR_CAUSE, .RING_FRAMES, .RING_DROP]

/-- Every register. -/
def allRegs : List Reg := regList0 ++ regList1 ++ regList2 ++ regList3 ++ regList4 ++ regList5 ++ regList6

/-- The read-only fields marked "image", by their lowest bit: a write of the loader sets them (17 R436). -/
def imageFields : Reg → List Nat
  | .PORT_CFG => [10, 8, 6, 4, 0]
  | .MM_CFG => [20, 12, 10, 9, 8, 0]
  | .PORT_CLASS_CFG => [23, 21, 18]
  | .IP_PROFILE => [5, 4, 3, 2, 1, 0]
  | .PARSE_INFO => [0]
  | .CLASS_KEY_SEG => [16, 0]
  | .PARSE_NODE => [0]
  | .TCAM_PART => [31, 12, 8, 4, 3, 0]
  | .EM_SEED => [0]
  | .EM_FAR_SEED => [0]
  | .EM_CFG => [24]
  | .POOL_STATUS => [0]
  | .PORT_SCH_CFG => [31]
  | .Q_SCH_CFG => [30]
  | .SKETCH_SEED => [0]
  | .THREAD_CFG => [31]
  | .ACCESS_MASK => [31, 0]
  | .WIN0 => [16, 0]
  | .WIN1 => [16, 0]
  | .DRAM_WIN => [16, 0]
  | .SHARE_MSG => [31, 16, 0]
  | .SHARE_BUF => [31, 16, 0]
  | .ENTRY => [0]
  | .POOL_FREE => [16, 0]
  | .PORT513_CFG => [8, 0]
  | .CH_CFG => [0]
  | .ID_INTEGRATOR => [0]
  | .ID_BOARD => [0]
  | .ID_VERSION => [0]
  | .LDR_NAME => [0]
  | _ => []

/-- Where a byte offset from a place's base falls in its dimensions: the index, row-major, and the byte within the element. -/
def dimFind : List (Nat × Nat) → Nat → Nat → Option (Nat × Nat)
  | [], i, o => some (i, o)
  | (n, st) :: ds, i, o => if o / st < n then dimFind ds (i * n + o / st) (o % st) else none

/-- The words of a register: two for a 64-bit counter. -/
def Reg.words (r : Reg) : Nat := if (regInfo r).fields.any (fun f => decide (32 ≤ f.hi)) then 2 else 1

/-- The index and word of register `r` at an offset within one of its places. -/
def placeFind (r : Reg) (o : Nat) (p : Place) : Option (Nat × Nat) :=
  if o < p.base then none
  else match dimFind p.dims 0 (o - p.base) with
    | some (i, b) => if b / 4 < r.words then some (p.idx0 + i, b / 4) else none
    | none => none

/-- A register word at an offset: the register, its index, and 0 or 1 for the low or high word. -/
structure RegAt where
  reg : Reg
  idx : Nat
  word : Nat
deriving DecidableEq, Repr

/-- The register word that stands at an offset (R474). -/
def regAt (o : Nat) : Option RegAt :=
  if o % 4 ≠ 0 then none
  else allRegs.findSome? (fun r =>
    ((regInfo r).places.findSome? (placeFind r o)).map (fun x => { reg := r, idx := x.1, word := x.2 }))

/-- The fields of a register. -/
def Reg.fields (r : Reg) : List FieldSpec := (regInfo r).fields

/-- The register holds a field that the privileged view can write (R11). -/
def Reg.writable (r : Reg) : Bool := r.fields.any (fun f => f.acc == .RW || f.acc == .WO || f.acc == .W1C)

/-- The register holds a field of view P. -/
def Reg.hasP (r : Reg) : Bool := r.fields.any (fun f => !f.obs)

/-! ### Values -/

/-- The handle that SS_DATA shows a requester, and its stream in the plan in force. -/
def ssStream (q : Requester) (s : State) : Option PlanStream :=
  let h := tget 0 s.pln.ssIndex q.code
  match s.pln.inForce, tget none s.pln.decls h with
  | some pl, some d => if d.sched then pl.streams.find? (fun x => x.handle == h) else none
  | _, _ => none

/-- A signed value as a 32-bit word. -/
def word32 (v : Int) : Nat := (v % Int.ofNat (2 ^ 32)).toNat

/-- The word `w` of SS_DATA (Table 10.12). -/
def ssData (q : Requester) (w : Nat) (s : State) : Nat :=
  match w, ssStream q s with
  | 0, some x => (if x.reason ≠ 0 then 2 else if x.detoured then 3 else 1) * 2 ^ 28 + x.reason % 256 * 2 ^ 16
  | 1, some x => if x.reason ≠ 0 then 0xFFFFFFFF else min ((x.bound + 999) / 1000) 0xFFFFFFFE
  | 1, none => 0xFFFFFFFF
  | 2, _ => word32 (obsRange (tget 0 s.pln.ssIndex q.code) s).1
  | 3, _ => word32 (obsRange (tget 0 s.pln.ssIndex q.code) s).2
  | _, _ => 0

/-- A word of TCAM_GMASK: index die × 160 + partition × 20 + word. -/
def gmaskWord (i : Nat) (s : State) : Nat :=
  let part := i / 160 * 8 + i % 160 / 20
  if 5 * 2 ^ s.fld F.TCAM_PART_WIDTH part ≤ i % 20 then 0
  else if s.fld F.TCAM_PART_KIND part = 1 then 0xFFFFFFFF
  else s.fld F.TCAM_GMASK i

/-- A word of the list that GCL_SEL_j selects: index j × 1,024 + entry (Table 8.11). -/
def gclEntry (i : Nat) (s : State) : Nat :=
  let p := s.fld F.GCL_SEL_PORT (i / 1024)
  gclWord p (if s.fld F.GCL_SEL_LIST (i / 1024) = 0 then adminList p s else 1 - adminList p s) (i % 1024) s

/-- GCL_STATUS of a port: OPER_GATES are the gate states at the present instant + OFFSET_p (08 Table 8.9). -/
def gclStatus (p : Nat) (s : State) : Nat :=
  let v := regWord .GCL_STATUS p s
  v - s.fld F.GCL_STATUS_OPER_GATES p * 2 ^ 16 + (portGatesAt p ((s.work + offsetOf p s) / nsUnit) s).1 % 256 * 2 ^ 16

/-- A word of INTC.PENDING. -/
def pendingWord (w : Nat) (s : State) : Nat :=
  (List.range 32).foldl (fun v b => if s.fld F.SRC_STATUS_PENDING (32 * w + b) = 1 then v + 2 ^ b else v) 0

/-- The present value of a register word, all fields shown. -/
def liveWord (q : Requester) (a : RegAt) (s : State) : Nat :=
  let i := a.idx
  match a.reg with
  | .NOW_NS => timeNsWord s.work
  | .NOW_SEC_LO => latched q (cellKey .NOW_NS 0 0) 0 (timeSecLo s.work) s
  | .NOW_SEC_HI => latched q (cellKey .NOW_NS 0 0) 1 (timeSecHi s.work) s
  | .PPS_IN_TS_SEC_LO => latched q (cellKey .PPS_IN_TS_NS 0 0) 0 (s.fld F.PPS_IN_TS_SEC_LO 0) s
  | .PPS_IN_TS_SEC_HI => latched q (cellKey .PPS_IN_TS_NS 0 0) 1 (s.fld F.PPS_IN_TS_SEC_HI 0) s
  | .SYNC_IN_TS_NS => (syncHead i s).getD 0 0
  | .SYNC_IN_TS_SEC_LO => latched q (cellKey .SYNC_IN_TS_NS 0 i) 0 ((syncHead i s).getD 1 0) s
  | .SYNC_IN_TS_SEC_HI => latched q (cellKey .SYNC_IN_TS_NS 0 i) 1 ((syncHead i s).getD 2 0) s
  | .PTP_TX_INFO => (ptpHead i s).getD 0 0
  | .PTP_TX_NS => latched q (cellKey .PTP_TX_INFO 0 i) 0 ((ptpHead i s).getD 1 0) s
  | .PTP_TX_SEC_LO => latched q (cellKey .PTP_TX_INFO 0 i) 1 (latched q (cellKey .PTP_TX_NS 0 i) 0 ((ptpHead i s).getD 2 0) s) s
  | .PTP_TX_SEC_HI => latched q (cellKey .PTP_TX_INFO 0 i) 2 (latched q (cellKey .PTP_TX_NS 0 i) 1 ((ptpHead i s).getD 3 0) s) s
  | .PRIV_VIOL_ADDR => latched q (cellKey .PRIV_VIOL_LAST 0 0) 0 (s.fld F.PRIV_VIOL_ADDR 0) s
  | .PMC_HI => latched q (cellKey .PMC_LO 0 i) 0 (s.fld F.PMC_HI i) s
  | .SHP_TOKENS => shaperTokens i s
  | .GCL_ENTRY => gclEntry i s
  | .GCL_STATUS => gclStatus i s
  | .CORE_CFG => s.fld F.CORE_CFG_IRQ_MASK i + (if coreAsleep i s then 256 else 0)
  | .TCAM_GMASK => gmaskWord i s
  | .SS_INDEX => tget 0 s.pln.ssIndex q.code
  | .SS_DATA0 => ssData q 0 s
  | .SS_DATA1 => ssData q 1 s
  | .SS_DATA2 => ssData q 2 s
  | .SS_DATA3 => ssData q 3 s
  | .SUP_NOTE => s.me.notes.headD 0
  | .SAMPLE_ENTRY => (tget [] s.me.smpBuf (i / 4)).getD (i % 4) 0
  | .CLAIM => claimValue i s
  | .TGT_STATUS => (if requestLine i s then 2 ^ 31 else 0) + (allSources.filter (fun n => deliveredTo i n s)).length
  | .INTC_PENDING => pendingWord i s
  | r =>
    let v := regWord r i s
    if a.word = 1 then latched q (cellKey r 0 i) 0 (v / 2 ^ 32 % 2 ^ 32) s else v % 2 ^ 32

/-- The bits of a register word that a read shows: no write-only field, and in the observer view no field of view P (R8, R11). -/
def shownBits (priv : Bool) (a : RegAt) : Nat :=
  a.reg.fields.foldl (fun m f =>
    if f.acc == .WO || (!priv && !f.obs) then m
    else m + (if f.lo / 32 = a.word then (2 ^ (min (f.hi + 1 - f.lo) 32) - 1) * 2 ^ (f.lo % 32) else if f.hi / 32 = a.word then 2 ^ (f.hi % 32 + 1) - 1 else 0)) 0

/-! ### Reads -/

/-- The requester holds the latch of the head it popped from the timestamp FIFO of die `d` (09 R252). -/
def holdsPopped (q : Requester) (d : Nat) (s : State) : Bool :=
  match tget none s.latch q.code with
  | some (k, _) => k == cellKey .PTP_TX_INFO 0 d
  | none => false

/-- The upper words that a read of this word latches for its requester: of a 64-bit counter (R14), of a timestamp (09 R259), of PMC_LO (13 R360) and
of PRIV_VIOL_LAST (19 R482). An address of two words is no counter. -/
def latchWords (q : Requester) (a : RegAt) (s : State) : Option (List Nat) :=
  match a.reg with
  | .JOURNAL_ADDR | .HISTORY_ADDR => none
  | .PTP_TX_NS => if holdsPopped q a.idx s then none else some ((ptpHead a.idx s).drop 2)
  | .NOW_NS => some [timeSecLo s.work, timeSecHi s.work]
  | .PPS_IN_TS_NS => some [s.fld F.PPS_IN_TS_SEC_LO 0, s.fld F.PPS_IN_TS_SEC_HI 0]
  | .PMC_LO => some [s.fld F.PMC_HI a.idx]
  | .PRIV_VIOL_LAST => some [s.fld F.PRIV_VIOL_ADDR 0]
  | r => if r.words = 2 ∧ a.word = 0 then some [regWord r a.idx s / 2 ^ 32 % 2 ^ 32] else none

/-- A privileged read clears the RC fields (R12). The level at which a queue stands is part of its mark from then on (07 Table 7.9). -/
def clearRc (a : RegAt) (s : State) : State :=
  if a.reg = .Q_HWM then s.setFld F.Q_HWM a.idx (s.fld F.Q_CELLS a.idx + s.fld F.Q_HDRM_CELLS a.idx)
  else a.reg.fields.foldl (fun s f => if f.acc == .RC then s.setCell a.reg f.lo a.idx 0 else s) s

/-- A read of a register word by a requester: its value, its latch, and what it clears or pops. -/
def readReg (q : Requester) (a : RegAt) (s : State) : State :=
  let o := regOffset a.reg a.idx + 4 * a.word
  let priv := privileged q (blockOf o) s
  match a.reg with
  | .CLAIM => claimRead q a.idx s
  | .SUP_NOTE => supNoteRead q s
  | .SYNC_IN_TS_NS => syncInRead q a.idx s
  | .PTP_TX_INFO => ptpInfoRead q a.idx s
  | _ =>
    let s1 := setOut q (liveWord q a s &&& shownBits priv a) s
    let s2 := match latchWords q a s with | some ws => setLatch q (cellKey a.reg 0 a.idx) ws s1 | none => s1
    if priv then clearRc a s2
    else if a.reg.hasP then privViolation q false o s2 else s2

/-- In SAFE the host reaches GLB, FLT, LDR and HIF only, and PF1 nothing (17 R426, R441). -/
def safeHides (q : Requester) (o : Nat) (s : State) : Bool :=
  s.safe && (match q with
    | .pf0 => !([0, 2, 4, 5].contains (blockOf o))
    | .pf1 => true
    | _ => false)

/-- The offset lies in the port block of a lane p + 1 to p + 3 of a joined group, whose registers but the SerDes ones read 0 and ignore writes
(02 R41). -/
def joinedHidden (o : Nat) (r : Reg) (s : State) : Bool :=
  decide (0x2000000 ≤ o) && (o - 0x2000000) % 0x800000 / 0x20000 == 8 && r != .SD_TX_EQ && r != .SD_RX_STATUS &&
    joinedLane ((o - 0x2000000) / 0x800000 * 128 + (o - 0x2000000) % 0x800000 % 0x20000 / 1024) s

/-- No register of this offset can be reached any more: in the Terminal state FLT and GLB alone read as ever (15 R386), and a link that failed
permanently, itself a Terminal fault, carries no access (01 R21). -/
def beyondReach (o : Nat) (s : State) : Bool :=
  (s.terminal && blockOf o != 0 && blockOf o != 2) || (decide (13 ≤ blockOf o) && tget false s.dp.linkDead (blockOf o - 13))

/-- A read of register offset `o` (R474): 0 at a misaligned one (R7), where no register stands, and in the window of a die that is disabled or in
reset. -/
def readAt (q : Requester) (o : Nat) (s : State) : State :=
  if o % 4 ≠ 0 then setOut q 0 s
  else if beyondReach o s then setOut q (Config.terminalRead o).toNat s
  else if safeHides q o s then setOut q 0 s
  else if 13 ≤ blockOf o ∧ s.dieUp (blockOf o - 13) = false then setOut q 0 s
  else match regAt o with
    | none => setOut q 0 s
    | some a => if joinedHidden o a.reg s then setOut q 0 s else readReg q a s

/-- An access to this offset crosses a Ralhafold link that retrains, and waits for the end of the retrain (07 R171). -/
def linkWaits (o : Nat) (s : State) : Bool :=
  decide (13 ≤ blockOf o) && s.dieUp (blockOf o - 13) && tget false s.dp.retraining (blockOf o - 13) &&
    !tget false s.dp.linkDead (blockOf o - 13)

/-- The access waits. -/
def sidePut (a : SideAccess) (s : State) : State := { s with dp := { s.dp with sideWait := s.dp.sideWait ++ [a] } }

/-! ### Routes (R449, R475) -/

/-- The register offset that a requester's address reaches: PF1 sees 16 MiB, the upper half through PF1_WIN. -/
def reach (q : Requester) (o : Nat) (s : State) : Option Nat :=
  match q with
  | .pf1 =>
    if o < 0x800000 then some o
    else if o < 0x1000000 then some (s.fld F.PF1_WIN 0 * 0x800000 + (o - 0x800000))
    else none
  | _ => if o < 0x4000000 then some o else none

/-- The requester's bus reaches the device: a function answers memory requests (18 R448), a thread's core runs, the supplies hold. -/
def busUp (q : Requester) (s : State) : Bool :=
  !s.ldr.held &&
  (match q with
  | .pf0 => answersMem 0 s
  | .pf1 => answersMem 1 s
  | .thread _ => !s.terminal && !s.safe
  | _ => true)

/-- An access that no bus takes to the device: a function refuses it (18 R465). -/
def unanswered (q : Requester) (s : State) : State :=
  if s.ldr.held then s
  else match q with
    | .pf0 => memRefused 0 s
    | .pf1 => memRefused 1 s
    | _ => s

/-- A read by a requester at its own address. -/
def regRead (q : Requester) (o : Nat) (s : State) : State :=
  if busUp q s = false then unanswered q s
  else match reach q o s with
    | some a => if linkWaits a s then sidePut { req := q, off := a } s else readAt q a s
    | none => setOut q 0 s

/-! ### Writes -/

/-- The value of a field in a written word. -/
def fieldBits (f : FieldSpec) (w : Nat) : Nat := bitsOf w f.lo (f.hi + 1 - f.lo)

/-- A field takes a written value under its access code; a value outside its ranges leaves it (R8, R505). -/
def putField (r : Reg) (i w : Nat) (f : FieldSpec) (s : State) : State :=
  let v := fieldBits f w
  match f.acc with
  | .RW => if f.ranges.isEmpty || f.ranges.any (fun x => decide (x.1 ≤ v) && decide (v ≤ x.2)) then s.setCell r f.lo i v else s
  | .W1C => s.setCell r f.lo i (s.cell r f.lo i - (s.cell r f.lo i &&& v))
  | _ => s

/-- Every field of a register takes its value. -/
def putFields (r : Reg) (i w : Nat) (s : State) : State := r.fields.foldl (fun s f => putField r i w f s) s

/-- A GATE_LIST write refused while a change is pending (08 R207). -/
def gclRefused (p : Nat) (s : State) : State := s.setFld F.GCL_STATUS_WRITE_REFUSED p 1

/-- A port's admin list has been changed by another requester than the Planner (10 R285). -/
def noteForeign (p : Nat) (s : State) : State :=
  if (policy (24 + p / 32) (p % 32) 1 s) = 1 ∧ s.pln.foreign.contains p = false then s.withPln { s.pln with foreign := s.pln.foreign ++ [p] } else s

/-- The plan in force or a port's gate parameters: a write of an admin register. -/
def adminPut (r : Reg) (p w : Nat) (s : State) : State :=
  if s.fld F.GCL_STATUS_CHANGE_PENDING p = 1 then gclRefused p s else noteForeign p (putFields r p w s)

/-- A write of a list word through GCL_ENTRY_j. -/
def gclEntryPut (i w : Nat) (s : State) : State :=
  let p := s.fld F.GCL_SEL_PORT (i / 1024)
  if s.fld F.GCL_SEL_LIST (i / 1024) = 1 then s
  else if s.fld F.GCL_STATUS_CHANGE_PENDING p = 1 then gclRefused p s
  else noteForeign p (gclPut p (adminList p s) (i % 1024) w s)

/-- How many bits of a word are set. -/
def onesOf (w : Nat) : Nat := ((List.range 32).filter (fun b => w.testBit b)).length

/-- A write of a BUF register of R192, or another one with a side effect of its own; `none` where the access codes say it all. -/
def bufferPut (r : Reg) (i w : Nat) (s : State) : Option State :=
  match r with
  | .Q_MIN => some (qMinChange i (w % 2 ^ 20) s)
  | .PFC_HDRM => some (hdrmChange i (w % 2 ^ 20) s)
  | .PFC_XON => some (if s.fld F.PFC_XOFF i ≤ w % 2 ^ 20 then s else s.setFld F.PFC_XON i w)
  | .Q_CFG =>
    let s1 := putFields r i w s
    some (if s.fld F.Q_CFG_MODE i = 2 ∧ s1.fld F.Q_CFG_MODE i ≠ 2 then refuseHeld (fun c => c.q == i) false s1 else s1)
  | .POOL_ALARM => some (poolLevel (putFields r i w s))
  | .DELTA_MASK => some (if 4 < onesOf w then s else putFields r i w s)
  | .TCAM_DATA => some (if i % 42 = 40 then s.setFld F.TCAM_DATA i (w % 2 ^ 17) else putFields r i w s)
  | .VLAN => some (if i % 4096 = 0 ∨ i % 4096 = 4095 then s else putFields r i w s)
  | _ => none

/-- BURST of a shaper changes (08 R217): the tokens stand as they are, but never above BURST; in LOAD they start at BURST. -/
def burstPut (i w : Nat) (s : State) : State :=
  let st := shaperNow i s
  let s1 := putFields .SHP_BURST i w s
  if s.fld F.LDR_STATUS_STATE 0 = 5 then s1
  else setShaper i { st with spent := st.spent + s1.fld F.SHP_BURST i * byteUnit - s.fld F.SHP_BURST i * byteUnit } s1

/-- A write of a scheduler, stream or time register with a side effect. -/
def egressPut (r : Reg) (i w : Nat) (s : State) : Option State :=
  match r with
  | .SHP_RATE => some (putFields r i w (setShaper i (shaperNow i s) s))
  | .SHP_BURST => some (burstPut i w s)
  | .GCL_CTRL =>
    let s1 := s.setFld F.GCL_CTRL_INIT_GATES i w
    some (gclCtrl i (w.testBit 30) (w.testBit 31) (if w.testBit 31 then noteForeign i s1 else s1))
  | .GCL_ADMIN_BASE_NS | .GCL_ADMIN_BASE_SEC_LO | .GCL_ADMIN_BASE_SEC_HI | .GCL_ADMIN_CYCLE | .GCL_ADMIN_LEN => some (adminPut r i w s)
  | .GCL_ENTRY => some (gclEntryPut i w s)
  | .MIRROR_CFG =>
    let s1 := putFields r i w s
    some (if s.fld F.MIRROR_CFG_SRC_KIND i = 0 then { s1 with dp := { s1.dp with mirrorCount := tset 0 s1.dp.mirrorCount i 0 } } else s1)
  | .MIRROR_PORTS => some (putFields r i (if i % 17 = 16 then w % 4 else w) s)
  | .RATE_ADJ => some (rateAdjWrite w s)
  | .TIME_CFG => some (workSourceWritten (putFields r i w s))
  | .STEP_CTRL => some (if w % 4 = 1 then timeStep s else if w % 4 = 2 then timeSet s else s)
  | .SYNC_OUT_CFG => some (syncCfgWrite i (w % 4) (bitsOf w 2 1) s)
  | .SYNC_OUT_WIDTH => some (if w % 2 ^ 30 < 20 ∨ s.fld F.SYNC_OUT_PERIOD i < w % 2 ^ 30 + 20 then s else putFields r i w s)
  | .PPS_OUT_CFG =>
    let s1 := putFields r i w s
    some (if w.testBit 31 then s1 else s1.withTime { s1.time with ppsOut := false })
  | _ => none

/-- The command that an operation code selects in a table window: its number below the length of the list. -/
def opOf (ops : List (State → State × CmdEnd)) (op : Nat) : Option (State → State × CmdEnd) := if op = 0 then none else ops[op - 1]?

/-- A write of a command register of a table window (04 R101, 05 R138, 06 R163, 08 R235). -/
def windowPut (q : Requester) (r : Reg) (i w : Nat) (s : State) : Option State :=
  let d := i / 2
  let j := i % 2
  match r with
  | .TCAM_CMD => some (tcamStart q d j (w % 8) (bitsOf w 8 3) s)
  | .EM_CMD => some (emStart q d j (w % 8) (bitsOf w 3 1) s)
  | .RW_CMD =>
    let t := bitsOf w 2 2
    some (match opOf [rwOpRead i t false, rwOpWrite i t] (w % 4) with | some op => rwStart q i op s | none => gated q (regOffset r i) id s)
  | .SC_CMD =>
    let t := bitsOf w 4 3
    some (match opOf [scOpRead i t false, scOpWrite i t, scOpChange i t] (w % 4) with | some op => scStart q i t op s | none => gated q (regOffset r i) id s)
  | _ => none

/-- An instruction word as an operation with its fields (13 Table 13.1). -/
def decodeMe (w : Nat) : MeOp :=
  let op := w / 2 ^ 26 % 64
  let a := bitsOf w 21 5
  let b := bitsOf w 16 5
  let lo := w % 65536
  if op = 0x00 then .alu a b (bitsOf w 11 5) (w % 2048)
  else if op ≤ 0x04 then .aluImm (op - 1) a b lo
  else if op ≤ 0x07 then .shiftImm (op - 5) a b lo
  else if op = 0x08 then .lui a b lo
  else if op = 0x09 then .orsh a b lo
  else if op ≤ 0x0B then .slti (op - 0x0A) a b lo
  else if 0x10 ≤ op ∧ op ≤ 0x14 then .load (op - 0x10) a b lo
  else if 0x18 ≤ op ∧ op ≤ 0x1B then .store (op - 0x18) a b lo
  else if 0x20 ≤ op ∧ op ≤ 0x25 then .branch (op - 0x20) a b lo
  else if op = 0x28 then .jmp (w % 2 ^ 26)
  else if op = 0x29 then .call (w % 2 ^ 26)
  else if op = 0x2A then .jr a b lo
  else if op = 0x30 then .amo (w % 2048) a b (bitsOf w 11 5)
  else if op = 0x34 then .send a b (w.testBit 15) (w.testBit 14) (bitsOf w 10 4) (w % 256)
  else if op = 0x35 then .recv a b (w.testBit 15) (w.testBit 14) (bitsOf w 10 4) (w % 256)
  else if op = 0x38 then .wfe a b lo
  else if op = 0x39 then .timer a b lo
  else if op = 0x3A then .sample a b lo
  else if op = 0x3C then .devr a b lo
  else if op = 0x3D then .devw a b lo
  else .devsync

/-- A write of an ME register with a meaning of its own. -/
def mePut (q : Requester) (r : Reg) (i w : Nat) (s : State) : Option State :=
  match r with
  | .THREAD_CFG => some (gated q (regOffset r i) (fun s => if 2 < w % 4 ∧ freeThreads.contains i = true then s else s.setFld F.THREAD_CFG_PRIORITY i w) s)
  | .THREAD_CTRL => some (if w % 4 = 1 then threadStart q i s else if w % 4 = 2 then threadStop q i s else gated q (regOffset r i) id s)
  | .RX513_TAIL => some (rx513TailWrite q (w % 4096) s)
  | .TX513_HEAD => some (tx513HeadWrite q (w % 1024) s)
  | .BP_ADDR | .BP_CTRL => some (debugWrite q (putFields r i w) s)
  | .DBG_CMD =>
    let t := w % 32
    some (match bitsOf w 28 4 with
      | 1 => dbgHalt q t s
      | 2 => dbgStep q t {} (decodeMe (fetched t s)) s
      | 3 => dbgResume q t s
      | 4 => dbgAbort q t s
      | _ => debugWrite q id s)
  | .UC_CMD => some (if w % 4 = 1 then ucReload q i s else if w % 4 = 2 then ucScrub q i s else gated q (regOffset r i) id s)
  | .UC_RD_ADDR => some (ucRdAddrWrite q i (bitsOf w 30 2) (w % 16384) s)
  | .SMP_CFG => some (smpCfgWrite q i w s)
  | .SMP_TAIL => some (smpTailWrite q i (w % 8192) s)
  | _ => none

/-- RESET_CTRL (19 R480). -/
def resetCtrl (w : Nat) (s : State) : State :=
  if w / 2 ^ 16 ≠ 0xB10C then s
  else
    let s1 := (List.range 4).foldl (fun s d => dieHoldPut d (w.testBit d) s) s
    let s2 := if w.testBit 8 then meBlockReset s1 else s1
    if w.testBit 9 then hifBlockReset s2 else s2

/-- A write of a control register of the hub with a meaning of its own. -/
def hubPut (q : Requester) (r : Reg) (i w : Nat) (s : State) : Option State :=
  match r with
  | .RESET_CTRL => some (gated q (regOffset r i) (resetCtrl w) s)
  | .JTAG_RESPONSE => some (jtagResponse q i w s)
  | .OTP_CMD =>
    some (match w % 4 with
      | 1 => otpRead q (w / 2 ^ 16) s
      | 2 => otpProgram q (w / 2 ^ 16) (s.fld F.OTP_DATA 0) s
      | _ => gated q (regOffset r i) id s)
  | .PORT_CFG => some (adminUpWrite q i (w.testBit 7) s)
  | .SD_TX_EQ => some (sdTxEqWrite q i (BitVec.ofNat 32 w) s)
  | .PLN_CTRL => some (plnCtrlWrite q w s)
  | .APPROVE_CMD => some (if w % 4 = 1 then planApprove q s else if w % 4 = 2 then planReject q s else gated q (regOffset r i) id s)
  | .SS_INDEX => some (ssIndexWrite q w s)
  | .SRC_CFG => some (gated q (regOffset r i) (srcCfgWrite i w) s)
  | .COMPLETE => some (completeWrite q i w s)
  | .SW_RAISE => some (if w % 2 = 1 then swRaise q s else gated q (regOffset r i) id s)
  | .FLT_CTRL =>
    some (gated q (regOffset r i) (fun s =>
      let s1 := if w.testBit 1 then firstClearPut s else s
      if w.testBit 0 then s1.setFld F.FLT_STATUS_FAULT_N 0 0 else s1) s)
  | .SRC_REACT => some (gated q (regOffset r i) (srcReactPut i w) s)
  | .ESC_REACT => some (if i = 0 then s else gated q (regOffset r i) (fun s => s.setFld F.ESC_REACT i w) s)
  | .CH_CTRL => some (if w % 2 = 1 then channelRetrain q i s else gated q (regOffset r i) id s)
  | .LDR_CTRL => some (if w % 2 = 1 then reload q (w / 2 ^ 16) s else gated q (regOffset r i) id s)
  | .RCV_CMD =>
    some (match w % 8 with
      | 1 => rcvRead q s
      | 2 => rcvProgram q s
      | 3 => rcvErase q s
      | 4 => rcvCheck q s
      | 5 => rcvRestart q s
      | _ => gated q (regOffset r i) id s)
  | .MBX_CMD => some (if w / 2 ^ 28 % 16 = 1 then mbxSubmit q (w % 8192) s else gated q (regOffset r i) id s)
  | .PF1_WIN => some (pf1WinWrite q (w % 8) s)
  | .HQ_MAP =>
    some (gated q (regOffset r i) (fun s =>
      if w.testBit 31 = true ∧ 8 ≤ w % 64 then s.setFld F.HQ_MAP_FUNC i (w / 2 ^ 31) else putFields r i w s) s)
  | .BASE_LO | .BASE_HI => some (ringGate q r i (fun s => if s.fld F.RING_CFG_EN i = 1 then s else putFields r i w s) s)
  | .RING_MOD => some (ringGate q r i (putFields r i w) s)
  | .RING_CFG => some (if w.testBit 31 then ringEnable q i w s else ringDisable q i w s)
  | .RING_TAIL => some (ringTailWrite q i w s)
  | .TCAM_GMASK =>
    some (gated q (regOffset r i) (fun s =>
      let part := i / 160 * 8 + i % 160 / 20
      if s.fld F.TCAM_PART_KIND part = 1 ∨ 5 * 2 ^ s.fld F.TCAM_PART_WIDTH part ≤ i % 20 then s else putFields r i w s) s)
  | _ => none

/-- A write of a register by a requester: the registers with a meaning of their own, then those whose write only has a side effect, then the
access codes alone. -/
def writeReg (q : Requester) (a : RegAt) (w : Nat) (s : State) : State :=
  let r := a.reg
  let i := a.idx
  match windowPut q r i w s with
  | some s' => s'
  | none => match mePut q r i w s with
    | some s' => s'
    | none => match hubPut q r i w s with
      | some s' => s'
      | none =>
        if r.writable = false then s
        else gated q (regOffset r i + 4 * a.word) (fun s =>
          match bufferPut r i w s with
          | some s' => s'
          | none => match egressPut r i w s with
            | some s' => s'
            | none => if a.word = 0 then putFields r i w s else s) s

/-- A write of register offset `o`: discarded in the Terminal state, where the host reaches no such block, where no register stands, and in the
window of a die that is disabled or in reset. -/
def writeAt (q : Requester) (o w : Nat) (s : State) : State :=
  if s.terminal = true ∨ beyondReach o s = true ∨ safeHides q o s = true then s
  else if 13 ≤ blockOf o ∧ s.dieUp (blockOf o - 13) = false then s
  else match regAt o with
    | none => s
    | some a => if joinedHidden o a.reg s then s else writeReg q a (w % 2 ^ 32) s

/-- A write by a requester at its own address. -/
def regWrite (q : Requester) (o w : Nat) (s : State) : State :=
  if busUp q s = false then unanswered q s
  else match reach q o s with
    | some a => if linkWaits a s then sidePut { req := q, off := a, word := some (w % 2 ^ 32) } s else writeAt q a w s
    | none => s

end Sys2Proof.Machine
end

