-- ==== Sys2Proof/Machine/Records.lean ====
section
/-! DEFINITION. The image records of load steps 1 to 7: what each loads and when it is refused (12_management_engine.md R313, R331;
13_me_instruction_set.md R364; 14_interrupts.md R366; 15_faults.md R382; 17_startup_image.md R433 to R436; 18_host_interface.md R472). A
loader answers `none` where the record is refused; so it does where a word sets a bit that its layout reserves. -/

namespace Sys2Proof.Machine

/-! ### Words in the layout of a register -/

/-- The bits of a 32-bit register that hold fields. -/
def regMask (r : Reg) : Nat := r.fields.foldl (fun m f => m ||| ((2 ^ (f.hi + 1 - f.lo) - 1) * 2 ^ f.lo)) 0

/-- A word sets no reserved bit of a register. -/
def noReserved (r : Reg) (w : Nat) : Bool := (w &&& regMask r) == w

/-- A field's value in a word lies within its ranges. -/
def fieldOk (f : FieldSpec) (w : Nat) : Bool :=
  f.ranges.isEmpty || f.ranges.any (fun x => decide (x.1 ≤ fieldBits f w) && decide (fieldBits f w ≤ x.2))

/-- A word sets no reserved bit and holds every field within its ranges. -/
def wordOk (r : Reg) (w : Nat) : Bool := noReserved r w && r.fields.all (fun f => fieldOk f w)

/-- The same with 0 accepted in every field (R435, a port with MODE = 0). -/
def wordOk0 (r : Reg) (w : Nat) : Bool := noReserved r w && r.fields.all (fun f => fieldBits f w == 0 || fieldOk f w)

/-- Every field of a register takes its value from a word, whatever its access code. -/
def putImage (r : Reg) (i w : Nat) (s : State) : State := r.fields.foldl (fun s f => s.setCell r f.lo i (fieldBits f w)) s

/-- Answer a state where every check holds. -/
def keep (ok : Bool) (s : State) : Option State := if ok then some s else none

/-- Word `i` of a body. -/
def wordAt (b : List Byte) (i : Nat) : Nat := bodyWord b (4 * i)

/-- Every byte of a list is 0. -/
def allZero (b : List Byte) : Bool := b.all (fun x => x == 0)

/-! ### 0x0001 identity (R433) -/

def loadIdentity (b : List Byte) (s : State) : Option State :=
  keep (b.length == 64 && allZero (slice b 52 12))
    ((List.range 8).foldl (fun s i => s.setFld F.LDR_NAME i (bodyWord b (20 + 4 * i)))
      (s.setFlds [(F.ID_INTEGRATOR, 0, bodyWord b 0), (F.ID_BOARD, 0, bodyWord b 4), (F.ID_VERSION, 0, bodyWord b 8)]))

/-! ### 0x0010, 0x0011, 0x0012 microcode (13 R364) -/

/-- A source code of Table 13.6. -/
def srcOk (c : Nat) : Bool := decide (c ≤ 16)

/-- A destination code of Table 13.6. -/
def destOk (c : Nat) : Bool := decide (c ≤ 8)

/-- A lane holds codes of Table 13.6, an OP of Table 13.3, and no reserved bit. -/
def laneOk (l : Nat) : Bool :=
  let op := bitsOf l 46 6
  srcOk (bitsOf l 58 6) && srcOk (bitsOf l 52 6) && destOk (bitsOf l 40 6) && bitsOf l 0 24 == 0 &&
    (decide (op ≤ 0x0D) || (decide (0x10 ≤ op) && decide (op ≤ 0x12)) || op == 0x3F)

/-- CTL holds codes of R350 and Table 13.6, and no reserved bit. -/
def ctlOk (c : Nat) : Bool :=
  decide (bitsOf c 56 4 ≤ 11) && srcOk (bitsOf c 47 6) && srcOk (bitsOf c 41 6) && destOk (bitsOf c 35 6) && bitsOf c 0 32 == 0 &&
    (bitsOf c 56 4 != 3 || decide (bitsOf c 32 3 ≤ 4))

/-- The unit of a CTL stands only in an END word (R348): STORE, AMO, DEVR, DEVW, DEVSYNC, SEND, RECV, WFE, TIMER. -/
def endUnit (c : Nat) : Bool := decide (2 ≤ bitsOf c 56 4) && decide (bitsOf c 56 4 ≤ 10)

/-- SEQ leads to the next address. -/
def seqNext (q : Nat) : Bool := q == 0 || q == 2

/-- The dispatch entries of defined opcodes (13 R336, R347). -/
def definedEntry (e : Nat) : Bool :=
  (decide (1 ≤ e) && decide (e ≤ 0x0B)) || (decide (0x10 ≤ e) && decide (e ≤ 0x14)) || (decide (0x18 ≤ e) && decide (e ≤ 0x1B)) ||
  (decide (0x20 ≤ e) && decide (e ≤ 0x25)) || (decide (0x28 ≤ e) && decide (e ≤ 0x2A)) || e == 0x34 || e == 0x35 ||
  (decide (0x38 ≤ e) && decide (e ≤ 0x3A)) || (decide (0x3C ≤ e) && decide (e ≤ 0x3E)) ||
  (decide (64 ≤ e) && decide (e ≤ 64 + 0x0D)) || e == 64 + 0x10 || e == 64 + 0x11 || (decide (128 ≤ e) && decide (e ≤ 132))

/-- The body is copied to the loader copy, and the stores of all four cores take it. -/
def loadStore (stores : List Nat) (base : Nat) (b : List Byte) (s : State) : State :=
  (List.range 4).foldl (fun s c => stores.foldl (fun s st => copyStore c st s) s) (hbmWrite base b s)

def loadDispatch (b : List Byte) (s : State) : Option State :=
  keep (b.length == 66560 &&
      (List.range 256).all (fun e => bitsOf (wordAt b e) 24 7 == 0 && (wordAt b e).testBit 31 == definedEntry e) &&
      (List.range 16384).all (fun a => bitsOf (wordAt b (256 + a)) 24 8 == 0) &&
      !seqNext (bitsOf (wordAt b 16639) 22 2))
    (loadStore [0, 1] 0x3F000000 b s)

/-- The nanoword at an address of the body. -/
def nanoWord (b : List Byte) (a : Nat) : Nat := leNat (slice b (24 * a) 24)

def loadNano (b : List Byte) (s : State) : Option State :=
  keep (b.length == 49152 &&
      (List.range 2048).all (fun a =>
        let w := nanoWord b a
        let l0 := bitsOf w 124 64
        let l1 := bitsOf w 60 64
        laneOk l0 && laneOk l1 && ctlOk (bitsOf w 0 60) && (bitsOf l0 40 6 == 0 || bitsOf l0 40 6 != bitsOf l1 40 6)))
    (loadStore [2] 0x3F010400 b s)

def loadHoriz (b : List Byte) (s : State) : Option State :=
  keep (b.length == 20480 &&
      (List.range 1024).all (fun a =>
        let w := leNat (slice b (20 * a) 20)
        let q := bitsOf w 158 2
        laneOk (bitsOf w 80 64) && ctlOk (bitsOf w 20 60) && bitsOf w 0 20 == 0 && (q != 2 || decide (bitsOf w 144 4 < 6)) &&
          (q == 3 || !endUnit (bitsOf w 20 60)) && (a != 1023 || !seqNext q)))
    (loadStore [3] 0x3F01C400 b s)

/-- The refusals that bind a microword to the nanoword it names: a condition code above 5 under BRANCH, a unit of R348 outside an END word. -/
def microCross (short nano : List Byte) : Bool :=
  (List.range 16384).all (fun a =>
    let m := wordAt short (256 + a)
    let w := nanoWord nano (bitsOf m 11 11)
    let q := bitsOf m 22 2
    (q != 2 || decide (bitsOf w 188 4 < 6)) && (q == 3 || !endUnit (bitsOf w 0 60)))

/-! ### 0x0020, 0x0021 threads (R434, 12 R313, R331) -/

/-- The seven THREAD_CFG words and ENTRY hold values of Table 12.8, and shares of R313. -/
def threadOk (t : Nat) (w : Nat → Nat) : Bool :=
  let share (v total : Nat) : Bool :=
    let cap := bitsOf v 16 13
    let mn := v % 2 ^ 13
    decide (cap ≤ total) && decide (mn ≤ total) && (!v.testBit 31 || decide (mn ≤ cap))
  noReserved .THREAD_CFG (w 0) && noReserved .ACCESS_MASK (w 1) && noReserved .WIN0 (w 2) && noReserved .WIN1 (w 3) &&
  noReserved .DRAM_WIN (w 4) && noReserved .SHARE_MSG (w 5) && noReserved .SHARE_BUF (w 6) &&
  [w 2, w 3].all (fun v => decide (bitsOf v 16 10 ≤ 383) && decide (v % 512 ≤ 384)) && decide (w 4 % 2048 ≤ 1024) &&
  (t == 0 || w 4 % 2048 == 0 || decide (bitsOf (w 4) 16 10 + w 4 % 2048 ≤ 1008)) &&
  share (w 5) 4096 && share (w 6) 1024

/-- Two words of a channel: no reserved bit, and values in range where it is enabled. -/
def channelOk (w0 w1 : Nat) : Bool :=
  noReserved .CHAN_CFG0 w0 && noReserved .CHAN_CFG1 w1 && (!w0.testBit 31 || (wordOk .CHAN_CFG0 w0 && wordOk .CHAN_CFG1 w1))

/-- The MINs of the enabled threads fit the totals (12 R313). -/
def sharesFit (s : State) : Bool :=
  let en := (List.range 32).filter (fun t => s.fld F.THREAD_CFG_ENABLE t == 1)
  decide (en.foldl (fun n t => n + s.fld F.SHARE_MSG_MIN t) 0 ≤ 4096) && decide (en.foldl (fun n t => n + s.fld F.SHARE_BUF_MIN t) 0 ≤ 1024)

/-- The configuration items of record 0x0020 (R434): `seen` are the instances named so far. -/
def itemsOk : Nat → List Byte → List Nat → Bool
  | _, [], _ => true
  | 0, _, _ => false
  | n + 1, b, seen =>
    let c := slice b 4 12
    let g (i : Nat) : Nat := leNat (slice c i 1)
    decide (16 ≤ b.length) && leNat (b.take 2) == 1 && leNat (slice b 2 2) == 12 && decide (g 0 ≤ 3) && !seen.contains (g 0) &&
      decide (-7 ≤ signed8 (g 8)) && decide (signed8 (g 8) ≤ 1) && decide (-3 ≤ signed8 (g 9)) && decide (signed8 (g 9) ≤ 5) && decide (2 ≤ g 10) &&
      itemsOk n (b.drop 16) (g 0 :: seen)

def loadFirmwareRec (b : List Byte) (s : State) : Option State :=
  let code := bodyWord b 2816
  let cfg := bodyWord b 2820
  let ok := decide (2824 ≤ b.length) && code % 4096 == 0 && decide (4096 ≤ code) && decide (code ≤ 1572864) && cfg % 4 == 0 &&
    decide (cfg ≤ 64) && b.length == 2824 + code + cfg && itemsOk 4 (slice b (2824 + code) cfg) [] &&
    freeThreads.all (fun t => allZero (slice b (32 * t) 32)) &&
    (List.range 32).all (fun t => threadOk t (fun i => bodyWord b (32 * t + 4 * i))) &&
    (List.range 224).all (fun ch => channelOk (bodyWord b (1024 + 8 * ch)) (bodyWord b (1028 + 8 * ch)))
  let s1 := hbmWrite 0x3F100000 b (loadFirmware b s)
  keep (ok && sharesFit s1) s1

/-- The thread entries of record 0x0021 from an offset: each as its thread and offset, with the offset after the last; `none` where one does
not fit the body. -/
def extEntries (b : List Byte) : Nat → Nat → Option (List (Nat × Nat) × Nat)
  | 0, o => some ([], o)
  | n + 1, o =>
    let len := bodyWord b (o + 36)
    if b.length < o + 48 ∨ b.length < o + 48 + up4 len then none
    else (extEntries b n (o + 48 + up4 len)).map (fun x => ((bodyWord b o, o) :: x.1, x.2))
where
  up4 (n : Nat) : Nat := (n + 3) / 4 * 4

/-- What a thread entry of record 0x0021 may hold (12 R331). -/
def extThreadOk (b : List Byte) (x : Nat × Nat) : Bool :=
  let w (i : Nat) : Nat := bodyWord b (x.2 + 4 + 4 * i)
  freeThreads.contains x.1 && threadOk x.1 w && decide (w 0 % 4 ≤ 2) && (w 1 &&& 0x57) == 0 &&
    decide (bodyWord b (x.2 + 36) ≤ 4096 * (w 2 % 512)) && allZero (slice b (x.2 + 40) 8)

/-- What a channel entry may hold: a number from 224, one end on a thread of the record, the other on one or on thread 2. -/
def extChannelOk (b : List Byte) (threads : List Nat) (o : Nat) : Bool :=
  let ch := bodyWord b o
  let w0 := bodyWord b (o + 4)
  let wr := bitsOf w0 24 5
  let rd := bitsOf w0 16 5
  decide (224 ≤ ch) && decide (ch ≤ 255) && channelOk w0 (bodyWord b (o + 8)) && (threads.contains wr || threads.contains rd) &&
    (threads.contains wr || wr == 2) && (threads.contains rd || rd == 2)

def loadExtensionRec (b : List Byte) (s : State) : Option State :=
  match extEntries b (bodyWord b 0) 4 with
  | none => none
  | some x =>
    let n := bodyWord b x.2
    let ts := x.1.map Prod.fst
    let ok := decide (4 ≤ b.length) && decide (bodyWord b 0 ≤ 8) && allDistinct ts && x.1.all (extThreadOk b) &&
      b.length == x.2 + 4 + 12 * n && (List.range n).all (fun i => extChannelOk b ts (x.2 + 4 + 12 * i))
    let s1 := hbmWrite 0x3F300000 b (loadExtension b s)
    keep ok s1

/-- WIN0 and WIN1 of an extension thread share no page with those of a firmware thread (12 R331). -/
def extWindowsFree (s : State) : Bool :=
  let win (t : Nat) : List (Nat × Nat) := [(s.fld F.WIN0_BASE t, s.fld F.WIN0_PAGES t), (s.fld F.WIN1_BASE t, s.fld F.WIN1_PAGES t)]
  let fw := ((List.range 32).filter (fun t => !freeThreads.contains t)).flatMap win
  let ext := freeThreads.flatMap win
  ext.all (fun a => fw.all (fun c => a.2 == 0 || c.2 == 0 || decide (a.1 + a.2 ≤ c.1) || decide (c.1 + c.2 ≤ a.1)))

/-! ### 0x0030 ports (R435, 02 R37, R40, R42, R48, R52, R56) -/

/-- The registers of a port entry, in order. -/
def portRegs : List Reg :=
  [.PORT_CFG, .PORT_EVENT_EN, .LINK_TIMING, .MM_CFG, .SD_TX_EQ, .PORT_CLASS_CFG, .PORT_PVID, .PORT_LEARN_CFG, .PORT_EDIT_CFG, .PORT_MAC_LO,
   .PORT_MAC_HI, .PORT_BUF_CFG, .PORT_PTP_CFG]

/-- The FEC codes that a mode takes (Table 2.1). -/
def fecOk (mode fec : Nat) : Bool :=
  match mode with
  | 4 => decide (fec ≤ 1)
  | 5 => decide (fec ≤ 2)
  | 6 => fec == 3
  | _ => fec == 0

/-- The rate class of a mode (R40); 0 fits every class. -/
def rateClass (mode : Nat) : Nat :=
  match mode with
  | 1 | 2 => 1
  | 3 => 2
  | 4 => 3
  | 5 | 6 => 4
  | _ => 0

/-- What the words of a port entry must hold beyond the ranges of its fields. `v` gives word `i`; `z` accepts a field of 0. -/
def portWordsOk (v : Nat → Nat) : Bool :=
  let mode := v 0 % 16
  let z := mode == 0
  let cfg := v 0
  let maxf := bitsOf cfg 10 14
  let taps := v 4
  let pre := taps % 16
  let main := bitsOf taps 4 6
  let post := bitsOf taps 10 5
  let lt := v 2
  let upOk := bitsOf lt 16 10 == 0 || decide (bitsOf lt 16 10 ≤ 1000)
  decide (mode ≤ 6) && fecOk mode (bitsOf cfg 4 2) && decide (bitsOf cfg 8 2 ≤ 2) && (bitsOf cfg 6 1 == 0 || mode == 1) &&
  (maxf == 0 || (decide (64 ≤ maxf) && decide (maxf ≤ 9216))) && noReserved .PORT_CFG cfg &&
  wordOk .PORT_EVENT_EN (v 1) && noReserved .LINK_TIMING lt && upOk && decide (lt % 16384 ≤ 10000) &&
  noReserved .MM_CFG (v 3) && decide (bitsOf (v 3) 12 8 ≤ 128) &&
  noReserved .SD_TX_EQ taps && decide (pre + main + post ≤ 63) && decide (pre + post ≤ main) &&
  wordOk .PORT_CLASS_CFG (v 5) && decide (bitsOf (v 5) 18 3 ≤ 4) &&
  (if z then wordOk0 .PORT_PVID (v 6) else wordOk .PORT_PVID (v 6)) &&
  noReserved .PORT_LEARN_CFG (v 7) && decide (bitsOf (v 7) 2 20 ≤ 528384) && wordOk .PORT_EDIT_CFG (v 8) && wordOk .PORT_MAC_LO (v 9) &&
  wordOk .PORT_MAC_HI (v 10) && wordOk .PORT_BUF_CFG (v 11) && wordOk .PORT_PTP_CFG (v 12) && v 13 == 0 && v 14 == 0 && v 15 == 0

/-- A word of a port entry with its defaults taken: MAX_FRAME, UP_HOLDOFF, VERIFY_TIME and VERIFY_LIMIT of a port with a mode. -/
def portDefault (mode i w : Nat) : Nat :=
  if mode = 0 then w
  else match i with
    | 0 => if bitsOf w 10 14 = 0 then w + 9216 * 2 ^ 10 else w
    | 2 => if bitsOf w 16 10 = 0 then w + 10 * 2 ^ 16 else w
    | 3 =>
      let w1 := if bitsOf w 12 8 = 0 then w + 10 * 2 ^ 12 else w
      if bitsOf w 20 3 = 0 then w1 + 3 * 2 ^ 20 else w1
    | _ => w

/-- Word `i` of the entry of port `p`. -/
def portWord (b : List Byte) (p i : Nat) : Nat := wordAt b (16 + 16 * p + i)

/-- The entry of a port is accepted, given the enabled dies. -/
def portEntryOk (b : List Byte) (p : Nat) : Bool :=
  let mode (p : Nat) : Nat := portWord b p 0 % 16
  if (wordAt b 0).testBit (dieOf p) = false ∨ (p % 4 ≠ 0 ∧ mode (p / 4 * 4) = 6) then allZero (slice b (64 + 64 * p) 64)
  else portWordsOk (portWord b p) && (p % 4 == 0 || mode p != 6)

/-- The lanes of a quad run at one rate (R40), and a joined group leaves its other lanes no mode (R41). -/
def quadOk (mode : Nat → Nat) (q : Nat) : Bool :=
  let cs := ((List.range 4).map (fun k => rateClass (mode (4 * q + k)))).filter (fun c => c != 0)
  cs.all (fun c => c == cs.headD 0) &&
    (List.range 3).all (fun k => mode (4 * q + k + 1) != 6 && (mode (4 * q) != 6 || mode (4 * q + k + 1) == 0))

/-- A port takes the words of its entry. -/
def putPort (b : List Byte) (p : Nat) (s : State) : State :=
  portRegs.zipIdx.foldl (fun s x => putImage x.1 p (portDefault (portWord b p 0 % 16) x.2 (portWord b p x.2)) s) s

def loadPorts (b : List Byte) (s : State) : Option State :=
  let dies := wordAt b 0
  let ok := b.length == 32832 && decide (1 ≤ dies) && decide (dies ≤ 15) && allZero (slice b 4 60) &&
    (List.range 512).all (portEntryOk b) && (List.range 128).all (quadOk (fun p => portWord b p 0 % 16))
  let s1 := (List.range 512).foldl (fun s p => putPort b p s) s
  keep ok (s1.setFlds [(F.DIE_STATUS_ENABLED, 0, dies), (F.DIE_STATUS_IN_RESET, 0, 15 - dies)])

/-! ### 0x00B0 interrupts and reactions (14 R366, 15 R382) -/

/-- The word of SRC_CFG[n]; TYPE is not configured. -/
def srcWordOk (n w : Nat) : Bool := if srcExists n then noReserved .SRC_CFG w else w == 0

def putSrc (n w : Nat) (s : State) : State :=
  if srcExists n then
    s.setFlds [(F.SRC_CFG_STORM_LIMIT, n, if bitsOf w 24 8 = 0 then 64 else bitsOf w 24 8), (F.SRC_CFG_MASK, n, w / 2 ^ 23),
      (F.SRC_CFG_ENABLE, n, w / 2 ^ 16), (F.SRC_CFG_PRIORITY, n, w)]
  else s

/-- The word of SRC_REACT[n]. -/
def reactWordOk (n w : Nat) : Bool :=
  if faultExists n = false then w == 0
  else noReserved .SRC_REACT w && (hasUnit n || !w.testBit 2) && (faultClass n != 5 || (w % 32 == 0 && !w.testBit 11))

def putReact (n w : Nat) (s : State) : State :=
  if faultExists n then
    s.setFlds [(F.SRC_REACT_WINDOW, n, if bitsOf w 16 16 = 0 then 1000 else bitsOf w 16 16),
      (F.SRC_REACT_ESC_LIMIT, n, if bitsOf w 12 4 = 0 then 3 else bitsOf w 12 4),
      (F.SRC_REACT_REACT, n, if w.testBit 11 then faultDefault n else w)]
  else s

/-- The word of ESC_REACT[c]: DEF in bit 11, the reactions in [4:0]. -/
def escWordOk (w : Nat) : Bool := (w &&& 0x81F) == w

def loadRouting (b : List Byte) (s : State) : Option State :=
  let cfg := wordAt b 384
  let ok := b.length == 2064 && (List.range 384).all (fun i => srcWordOk (i + 1) (wordAt b i)) && (cfg == 0 || wordOk .FLT_CFG cfg) &&
    (List.range 127).all (fun i => reactWordOk (i + 1) (wordAt b (385 + i))) && (List.range 4).all (fun i => escWordOk (wordAt b (512 + i)))
  let s1 := (List.range 384).foldl (fun s i => putSrc (i + 1) (wordAt b i) s) s
  let s2 := s1.setFlds [(F.FLT_CFG_TJ_WARN, 0, if cfg = 0 then 110 else bitsOf cfg 8 8), (F.FLT_CFG_FIRST_MIN, 0, if cfg = 0 then 2 else cfg)]
  let s3 := (List.range 127).foldl (fun s i => putReact (i + 1) (wordAt b (385 + i)) s) s2
  keep ok ((List.range 4).foldl (fun s i =>
    let w := wordAt b (512 + i)
    s.setFld F.ESC_REACT (i + 1) (if w.testBit 11 then escDefault (i + 1) else w)) s3)

/-! ### 0x00C0 host interface (18 R472) -/

def loadHost (b : List Byte) (s : State) : Option State :=
  let hq := (List.range 16).map (fun i => wordAt b (1 + i))
  let pf1 := (hq.filter (fun w => w.testBit 31)).map (fun w => w % 64)
  let ok := b.length == 100 && noReserved .HIF_CFG (wordAt b 0) &&
    hq.all (fun w => noReserved .HQ_MAP w && (!w.testBit 31 || decide (w % 64 < 8))) && allDistinct pf1 &&
    (List.range 8).all (fun i => noReserved .EVT_CFG (wordAt b (17 + i)))
  let s1 := (List.range 16).foldl (fun s i => putImage .HQ_MAP i (wordAt b (1 + i)) s) (putImage .HIF_CFG 0 (wordAt b 0) s)
  keep ok ((List.range 8).foldl (fun s i => putImage .EVT_CFG i (wordAt b (17 + i)) s) s1)

/-- A TCAM_PART word of a partition in use (04 R89, Table 4.1). -/
def partOk (w : Nat) : Bool :=
  let g := 2 ^ bitsOf w 4 2
  let first := bitsOf w 8 4
  let last := bitsOf w 12 4
  let mode := bitsOf w 3 1
  noReserved .TCAM_PART w && decide (bitsOf w 4 2 ≤ 2) && decide (first ≤ last) && first % g == 0 && (last + 1 - first) % g == 0 &&
  (match w % 8 with
    | 0 => true
    | 1 => g == 1 && mode == 0
    | 2 => g == 1 && mode == 1
    | 3 => g == 2 && mode == 1
    | _ => false)

/-- The port that an exact-match action of KIND 2 names is one that a record may name. -/
def entryPortOk (action : BitVec 48) (s : State) : Bool := action.toNat / 2 ^ 44 != 2 || portNamed (action.toNat % 65536) s

/-! ### 0x00D0 generic register writes (R436) -/

/-- The places that an entry may not name; beside those of R436 the registers of a number that names no port (01 R23). -/
def writeBarred (o : Nat) (a : Option RegAt) (s : State) : Bool :=
  decide (0x4000000 ≤ o) || o % 4 != 0 || blockOf o == 4 || (decide (13 ≤ blockOf o) && !s.dieEnabled (blockOf o - 13)) ||
  (match a with
    | none => blockOf o == 0
    | some x =>
      (blockOf o == 0 && (imageFields x.reg).isEmpty) || joinedHidden o x.reg s ||
      [Reg.FLT_CTRL, .SW_RAISE, .STEP_CTRL, .GCL_CTRL, .THREAD_CTRL, .DBG_CMD, .BP_ADDR, .BP_CTRL, .UC_CMD, .CH_CTRL].contains x.reg)

/-- The loader's WRITE of a rewrite table: the repeated-port rule waits for the end of the record (06 R145). -/
def loadRw (i table : Nat) (s : State) : Option State :=
  let j := s.fld F.RW_INDEX i
  let ws := rwData i table s
  match rwForm table j ws s with
  | 0 => some (rwStore table j ws s)
  | _ => none

/-- A write of a command register in LOAD: the command runs to its end, and a RESULT other than OK refuses. Each window of a port die takes it
from a requester that it serves; an INSERT names no barred port (01 R17, R23). -/
def loadCommand (a : RegAt) (w : Nat) (s : State) : Option State :=
  let i := a.idx
  let o := regOffset a.reg i
  let q : Requester := if i % 2 = 0 then .thread 0 else .pf0
  match a.reg with
  | .TCAM_CMD =>
    let s1 := tcamFinish (i / 2) (i % 2) [] (writeAt q o w s)
    keep (s1.fld F.TCAM_STATUS_RESULT i == 0) s1
  | .EM_CMD =>
    let s1 := writeAt q o w s
    let c := emRunning (i / 2) (i % 2) s1
    let named := match c with | some c => c.op != 3 || entryPortOk c.action s1 | none => true
    let s2 := emFinish (i / 2) (i % 2) false s1
    keep (named && s2.fld F.EM_STATUS_RESULT i == 0) s2
  | .RW_CMD =>
    if w % 4 = 2 then loadRw i (bitsOf w 2 2) s
    else
      let s1 := rwFinish i (writeAt .pf0 o w s)
      keep (s1.fld F.RW_STATUS_RESULT i == 0) s1
  | .SC_CMD =>
    let s1 := scFinish i (writeAt .pf0 o w s)
    keep (s1.fld F.SC_STATUS_RESULT i == 0) s1
  | .MBX_CMD => if w / 2 ^ 28 % 16 = 1 then none else some s
  | _ => some (writeAt .pf0 o w s)

/-- A value that the chapter of its register refuses in an image, though its record gives it (R505): a stream function or a segment of 03 R74 and
R78, a partition of 04 R89, a thread entry of 12 R313, the modes and codes that tables call refused, and a port number of 01 R17 and R23. -/
def valueRefused (r : Reg) (i w : Nat) (s : State) : Bool :=
  let thread (k : Nat) : Bool := !threadOk i (fun n =>
    if n = k then w &&& regMask r else regWord ([Reg.THREAD_CFG, .ACCESS_MASK, .WIN0, .WIN1, .DRAM_WIN, .SHARE_MSG, .SHARE_BUF].getD n r) i s)
  match r with
  | .PORT_CFG =>
    let mode := w % 16
    let maxf := bitsOf w 10 14
    !(decide (mode ≤ 6) && fecOk mode (bitsOf w 4 2) && decide (bitsOf w 8 2 ≤ 2) && (bitsOf w 6 1 == 0 || mode == 1) &&
      (maxf == 0 || (decide (64 ≤ maxf) && decide (maxf ≤ 9216))))
  | .MM_CFG => decide (128 < bitsOf w 12 8)
  | .PORT_CLASS_CFG => decide (4 < bitsOf w 18 3)
  | .CLASS_KEY_SEG => decide (64 < w % 128) || decide (640 < bitsOf w 16 10 + w % 128)
  | .TCAM_PART => w.testBit 31 && !partOk (w &&& regMask r)
  | .Q_CFG => w % 4 == 3
  | .Q_SCH_CFG => bitsOf w 30 2 == 3 || (bitsOf w 30 2 == 2 && decide (4096 ≤ i))
  | .Q_DL_CFG => bitsOf w 30 2 == 3
  | .CH_CFG => w % 4 == 3
  | .WIN0 => thread 2
  | .WIN1 => thread 3
  | .DRAM_WIN => thread 4
  | .SHARE_MSG => thread 5
  | .SHARE_BUF => thread 6
  | .MIRROR_DEST => portBarred (w % 1024) s
  | .MIRROR_PORTS => decide (i % 17 < 16) && (List.range 32).any (fun k => w.testBit k && portBarred (32 * (i % 17) + k) s)
  | .GCL_SEL => portBarred (w % 1024) s
  | .STREAM_EGRESS => w.testBit 31 && !w.testBit 30 && portBarred (w % 2 ^ 16) s
  | _ => false

/-- One entry of record 0x00D0: a privileged write, in which a field marked "image" takes its value whatever its access code. A value that a table
calls discarded leaves its field (R505). -/
def loadWrite (o w : Nat) (s : State) : Option State :=
  let a := regAt o
  if writeBarred o a s then none
  else match a with
    | none => some s
    | some x =>
      if valueRefused x.reg x.idx w s then none
      else (loadCommand x w s).map (fun s1 =>
        (x.reg.fields.filter (fun f => (imageFields x.reg).contains f.lo)).foldl (fun s f => s.setCell x.reg f.lo x.idx (fieldBits f w)) s1)

/-- The entries from an offset, in record order. -/
def loadWrites (b : List Byte) : Nat → Nat → State → Option State
  | 0, _, s => some s
  | n + 1, o, s => (loadWrite (bodyWord b o) (bodyWord b (o + 4)) s).bind (loadWrites b n (o + 8))

/-- No group with VALID = 1 names one port twice (06 R145). -/
def groupsOk (s : State) : Bool :=
  (validGroups s).all (fun g => allDistinct (runPorts (bitsOf g.2 0 16) (bitsOf g.2 16 11) 65536 0 s))

/-- No class profile is wider than its key (03 R78). -/
def profilesOk (s : State) : Bool :=
  (List.range 32).all (fun j => decide ((List.range 4).foldl (fun n k => n + s.fld F.CLASS_KEY_SEG_WIDTH (4 * j + k)) 0 ≤ 141))

def loadGeneric (b : List Byte) (s : State) : Option State :=
  let n := bodyWord b 0
  if b.length ≠ 4 + 8 * n then none
  else (loadWrites b n 4 s).bind (fun s1 =>
    keep (groupsOk s1 && profilesOk s1 && (List.range 128).all (quadOk (fun p => s1.fld F.PORT_CFG_MODE p))) s1)

end Sys2Proof.Machine
end

