-- ==== Sys2Proof/Machine/RecordTables.lean ====
section
/-! DEFINITION. The image records of load steps 8 to 15 and the refusals that bind two records (03_parsing_classification.md R64, R65, R77 to
R80; 04_associative_search.md R89, R99, R100; 05_exact_match_learning.md R124, R137; 07_shared_buffer.md R194; 08_egress_scheduling.md R196,
R217, R233; 10_planner.md R260, R261, R263). -/

namespace Sys2Proof.Machine

/-- The enabled dies. -/
def enabledDies (s : State) : List Nat := (List.range 4).filter (fun d => s.dieEnabled d)

/-- The enabled dies of a DIE_MASK (01 R17). -/
def maskDies (m : Nat) (s : State) : List Nat := (enabledDies s).filter (fun d => m.testBit d)

/-- Run a loader over a list, stopping at a refusal. -/
def loadEach {α : Type} (f : α → State → Option State) : List α → State → Option State
  | [], s => some s
  | x :: xs, s => (f x s).bind (loadEach f xs)

/-! ### 0x0040 parse graph (03 R64, R65) -/

/-- The width that a role fixes (R65). -/
def roleWidth (role : Nat) : Option Nat :=
  match role with
  | 2 | 3 => some 48
  | 4 | 5 => some 32
  | 6 => some 128
  | 7 => some 8
  | 8 | 9 => some 16
  | 10 => some 6
  | _ => none

/-- An extraction slot (Table 3.1, R65). -/
def extractOk (w : Nat) : Bool :=
  let role := bitsOf w 28 4
  let width := bitsOf w 11 7 + 1
  decide (role ≤ 10) && decide (bitsOf w 18 10 + width ≤ 576) && decide (w % 2048 ≤ 1535) &&
    (match roleWidth role with | some n => width == n | none => true)

/-- A node entry. -/
def nodeOk (count : Nat) (w : Nat → Nat) : Bool :=
  let dk := bitsOf (w 0) 18 2
  bitsOf (w 0) 20 12 == 0 && dk != 3 && (dk != 0 || decide (bitsOf (w 0) 12 6 < count)) && decide (bitsOf (w 0) 9 3 ≤ 5) &&
  decide (w 0 % 256 ≤ 192) && decide (w 1 < 4096) && bitsOf (w 2) 25 7 == 0 && decide (w 2 % 2048 ≤ 1535) && decide (w 3 < 65536) &&
  decide (w 3 % 2048 ≤ 1535) &&
  (List.range 8).all (fun t =>
    let x := w (4 + t)
    bitsOf x 24 8 == 0 && (!(x.testBit 22 && !x.testBit 23) || decide (bitsOf x 16 6 < count))) &&
  (List.range 4).all (fun e => extractOk (w (12 + e)))

def loadParse (b : List Byte) (s : State) : Option State :=
  let n := wordAt b 0
  let ok := decide (1 ≤ n) && decide (n ≤ 64) && b.length == 20 + 64 * n && (List.range 4).all (fun i => noReserved .IP_PROFILE (wordAt b (1 + i))) &&
    (List.range n).all (fun k => nodeOk n (fun i => wordAt b (5 + 16 * k + i)))
  keep ok ((enabledDies s).foldl (fun s d =>
    let s1 := (List.range 4).foldl (fun s i => putImage .IP_PROFILE (4 * d + i) (wordAt b (1 + i)) s) (s.setFld F.PARSE_INFO d n)
    (List.range 1024).foldl (fun s i => s.setFld F.PARSE_NODE (1024 * d + i) (if i < 16 * n then wordAt b (5 + i) else 0)) s1) s)

/-! ### 0x0050 class rules, partitions, routes (03 R78 to R80, 04 R89, R99, R100) -/

/-- The segments of the class profiles (R78). -/
def segmentsOk (w : Nat → Nat) : Bool :=
  (List.range 32).all (fun i => noReserved .CLASS_KEY_SEG (w i) && decide (w i % 128 ≤ 64) && decide (bitsOf (w i) 16 10 + w i % 128 ≤ 640)) &&
  (List.range 8).all (fun j => decide ((List.range 4).foldl (fun n k => n + w (4 * j + k) % 128) 0 ≤ 141))

/-- The action of a class rule (Table 3.9). -/
def ruleActionOk (a : Nat) : Bool :=
  let cls := bitsOf a 28 4
  let col := bitsOf a 25 3
  let q := bitsOf a 21 4
  (decide (cls ≤ 7) || cls == 0xF) && (decide (col ≤ 2) || col == 7) && (decide (q ≤ 7) || q == 0xF) && bitsOf a 16 3 == 0

/-- The partitions: each in order, none overlapping, at most one of kinds 1 to 3 (R89). -/
def partsOk (ws : List Nat) : Bool :=
  let on := ws.filter (fun w => w.testBit 31)
  let blocks := on.flatMap (fun w => (List.range (bitsOf w 12 4 + 1 - bitsOf w 8 4)).map (fun k => bitsOf w 8 4 + k))
  let kinds := (on.map (fun w => w % 8)).filter (fun k => k != 0)
  on.all partOk && allDistinct blocks && allDistinct kinds && ws.all (fun w => w.testBit 31 || w == 0)

/-- The global mask words of a partition (R99). -/
def gmaskOk (part : Nat) (m : Nat → Nat) : Bool :=
  let n := if part.testBit 31 then 5 * 2 ^ bitsOf part 4 2 else 0
  (List.range 20).all (fun w => if n ≤ w then m w == 0 else part % 8 != 1 || m w == 0xFFFFFFFF)

/-- A class rule (Table 3.8) at an offset of the body. -/
def ruleOk (b : List Byte) (s : State) (o : Nat) : Bool :=
  let m := leNat (slice b (o + 42) 1)
  !(maskDies m s).isEmpty && decide (m < 16) && leNat (slice b (o + 43) 1) == 0 && ruleActionOk (bodyWord b (o + 44))

/-- A class rule as a TCAM entry. -/
def ruleEntry (b : List Byte) (o : Nat) : TcamEntry :=
  { value := beNat (slice b o 20), mask := beNat (slice b (o + 20) 20), valid := true, prio := leNat (slice b (o + 40) 2),
    action := BitVec.ofNat 32 (bodyWord b (o + 44)) }

/-- A route (Table 4.4) at an offset of the body: its values are in range. -/
def routeOk (b : List Byte) (s : State) (o : Nat) : Bool :=
  let fam := leNat (slice b o 1)
  let pl := leNat (slice b (o + 1) 1)
  let m := leNat (slice b (o + 2) 1)
  let ve := leNat (slice b (o + 3) 1)
  let vid := leNat (slice b (o + 4) 2)
  let dest := beNat (slice b (o + 8) 16)
  let w := if fam = 4 then 32 else 128
  (fam == 4 || fam == 6) && decide (pl ≤ w) && !(maskDies m s).isEmpty && decide (m < 16) && decide (ve ≤ 1) &&
  (if ve = 1 then decide (1 ≤ vid) && decide (vid ≤ 4094) else vid == 0) && leNat (slice b (o + 6) 2) == 0 &&
  decide (dest < 2 ^ w) && dest % 2 ^ (w - pl) == 0 && bitsOf (bodyWord b (o + 24)) 16 14 == 0

/-- The partition kind of a route. -/
def routeKind (b : List Byte) (o : Nat) : Nat := if leNat (slice b o 1) = 4 then 2 else 3

/-- A route as a TCAM entry (R96, R97). -/
def routeEntry (b : List Byte) (o : Nat) : TcamEntry :=
  let k := routeKind b o
  let w := if k = 2 then 160 else 320
  let pl := leNat (slice b (o + 1) 1)
  let ve := leNat (slice b (o + 3) 1)
  { value := (if k = 2 then 5 else 6) * 2 ^ (w - 4) + leNat (slice b (o + 4) 2) * 2 ^ (w - 16) + beNat (slice b (o + 8) 16),
    mask := routeMask k pl ve, valid := true, prio := 2 * pl + ve, action := BitVec.ofNat 32 (bodyWord b (o + 24)) }

/-- Put a route behind those of the same or a higher rank. -/
def insRoute (e : TcamEntry) : List TcamEntry → List TcamEntry
  | [] => [e]
  | x :: xs => if x.prio < e.prio then e :: x :: xs else x :: insRoute e xs

/-- No two routes of a list are the same (R100). -/
def noSame : List TcamEntry → Bool
  | [] => true
  | e :: es => !es.any (sameRoute e) && noSame es

/-- Fill a partition of a die with entries from its lowest address. -/
def fillPart (d kind : Nat) (es : List TcamEntry) (s : State) : Option State :=
  if es.isEmpty then some s
  else match (tcamParts d s).find? (fun p => p.kind == kind) with
    | none => none
    | some p => keep (decide (es.length ≤ p.size)) (es.zipIdx.foldl (fun s x => tcamPutEntry d p.g (p.addr x.2) x.1 s) s)

/-- The rules and routes of one die (R100). -/
def loadDieTcam (b : List Byte) (rules routes : List Nat) (d : Nat) (s : State) : Option State :=
  let named (o : Nat) (at_ : Nat) : Bool := (leNat (slice b (o + at_) 1)).testBit d
  let rs := (rules.filter (fun o => named o 42)).map (ruleEntry b)
  let rt (k : Nat) : List TcamEntry :=
    ((routes.filter (fun o => named o 2 && routeKind b o == k)).map (routeEntry b)).foldl (fun l e => insRoute e l) []
  if noSame (rt 2) && noSame (rt 3) then
    ((fillPart d 1 rs s).bind (fillPart d 2 (rt 2))).bind (fillPart d 3 (rt 3))
  else none

def loadClass (b : List Byte) (s : State) : Option State :=
  let n := wordAt b 32
  let po := 132 + 48 * n
  let parts := (List.range 8).map (fun k => bodyWord b (po + 4 * k))
  let gm (k w : Nat) : Nat := bodyWord b (po + 32 + 80 * k + 4 * w)
  let m := bodyWord b (po + 672)
  let rules := (List.range n).map (fun k => 132 + 48 * k)
  let routes := (List.range m).map (fun k => po + 676 + 28 * k)
  let ok := b.length == po + 676 + 28 * m && segmentsOk (wordAt b) && rules.all (ruleOk b s) && partsOk parts &&
    (List.range 8).all (fun k => gmaskOk (parts.getD k 0) (gm k)) && routes.all (routeOk b s)
  let s1 := (enabledDies s).foldl (fun s d =>
    let s1 := (List.range 32).foldl (fun s i => putImage .CLASS_KEY_SEG (32 * d + i) (wordAt b i) s) s
    let s2 := (List.range 8).foldl (fun s k => putImage .TCAM_PART (8 * d + k) (parts.getD k 0) s) s1
    (List.range 160).foldl (fun s i => s.setFld F.TCAM_GMASK (160 * d + i) (gm (i / 20) (i % 20))) s2) s
  if ok then loadEach (loadDieTcam b rules routes) (enabledDies s) s1 else none

/-! ### 0x0080 stream declarations (10 R260, R261; 03 R77) -/

/-- HANDLE of a declaration. -/
def declHandle (b : List Byte) : Nat := leNat (b.take 2)

/-- Context word `i` of a declaration; word 6 gives GEN_SEQ only. -/
def declCtx (b : List Byte) (i : Nat) : Nat := if i = 6 then bodyWord b 60 % 65536 else bodyWord b (36 + 4 * i)

/-- A declaration as the Planner holds it. -/
def declOf (b : List Byte) : Decl :=
  let f := leNat (slice b 2 1)
  let cq := leNat (slice b 3 1)
  { sched := f.testBit 0, ident := f.testBit 1, cls := cq % 8, queue := bitsOf cq 4 3, egress := bodyWord b 4, altEgress := bodyWord b 8,
    inPort := leNat (slice b 12 2), maxLen := leNat (slice b 14 2), period := bodyWord b 16, phase := bodyWord b 20, jitter := bodyWord b 24,
    frames := leNat (slice b 28 1) }

/-- The die mask of the identification block. -/
def identMask (b : List Byte) : Nat := leNat (slice b 69 1) % 16

/-- The identification key of a declaration on die `d` (R75 to R77): the fields outside the profile enter as 0. -/
def identKey (d : Nat) (b : List Byte) (s : State) : Nat :=
  let c := slice b 68 36
  let fn := leNat (c.take 1)
  let m := bitsOf (leNat (slice c 1 1)) 4 2
  let i := 4 * d + m
  let vid := beNat (slice c 2 2) % 4096
  let mac := beNat (slice c 4 6)
  let useVid := useIf (s.fld F.IP_PROFILE_USE_VID i) vid
  let proto := useIf (s.fld F.IP_PROFILE_USE_PROTO i) (beNat (slice c 10 1))
  let dscp := useIf (s.fld F.IP_PROFILE_USE_DSCP i) (beNat (slice c 11 1) % 64)
  let sport := useIf (s.fld F.IP_PROFILE_USE_PORTS i) (beNat (slice c 12 2))
  let dport := useIf (s.fld F.IP_PROFILE_USE_PORTS i) (beNat (slice c 14 2))
  let dst := useIf (s.fld F.IP_PROFILE_USE_DST i) (beNat (slice c 16 16))
  let src := useIf (s.fld F.IP_PROFILE_USE_SRC i) (beNat (slice c 32 4))
  match fn with
  | 1 => macKey 1 vid mac
  | 2 => macKey 2 vid mac
  | 3 => 3 * 2 ^ 124 + useVid * 2 ^ 112 + src * 2 ^ 80 + dst % 2 ^ 32 * 2 ^ 48 + proto * 2 ^ 40 + sport * 2 ^ 24 + dport * 2 ^ 8 + dscp * 4 + m
  | _ => 4 * 2 ^ 252 + useVid * 2 ^ 240 + proto * 2 ^ 232 + sport * 2 ^ 216 + dport * 2 ^ 200 + dscp * 2 ^ 194 + m * 2 ^ 192 + dst

/-- VID takes part in the identification key of a declaration: of FN 1 and 2 always, of FN 3 and 4 where the profile uses it (R75, R77). -/
def identUsesVid (b : List Byte) (s : State) : Bool :=
  decide (leNat (slice b 68 1) ≤ 2) ||
    (maskDies (identMask b) s).any (fun d => s.fld F.IP_PROFILE_USE_VID (4 * d + bitsOf (leNat (slice b 69 1)) 4 2) == 1)

/-- Values that Tables 10.1, 8.5 and 3.5 allow a declaration. DESIGN CHOICE (log 99): bytes that Table 3.5 gives as 0 for the block's function, and
bits [7:6] of byte 11, are not looked at. -/
def declFieldsOk (b : List Byte) (s : State) : Bool :=
  let d := declOf b
  let f := leNat (slice b 2 1)
  let c := declCtx b
  let alt := d.altEgress
  let egOk (kind v : Nat) : Bool := kind == 0 || bitsOf v 16 8 == 0
  let ctx := ctxOk c && c 7 == 0 && !(c 0).testBit 31 && (List.range 7).all (fun w => (c w &&& scMask 0 w) == c w)
  if declHandle b = 0xFFFF then allZero (slice b 2 34) && allZero (slice b 68 36) && ctx
  else
    decide (f < 4) && (leNat (slice b 3 1) &&& 0x77) == leNat (slice b 3 1) && bitsOf d.egress 24 7 == 0 && egOk (bitsOf d.egress 31 1) d.egress &&
    bitsOf alt 24 6 == 0 && egOk (bitsOf alt 30 1) alt && allZero (slice b 29 7) && ctx &&
    (if d.sched then
      decide (d.inPort ≤ 511) && decide (64 ≤ d.maxLen) && decide (d.maxLen ≤ 9216) && decide (d.phase < d.period) && decide (d.jitter < d.period) &&
        decide (1 ≤ d.frames) && decide (d.frames ≤ 8)
    else
      decide (d.inPort ≤ 511) && (d.maxLen == 0 || (decide (64 ≤ d.maxLen) && decide (d.maxLen ≤ 9216))) &&
        (if d.period = 0 then d.phase == 0 && d.jitter == 0 else decide (d.phase < d.period) && decide (d.jitter < d.period)) &&
        decide (d.frames ≤ 8)) &&
    (!d.ident ||
      (decide (1 ≤ leNat (slice b 68 1)) && decide (leNat (slice b 68 1) ≤ 4) && bitsOf (leNat (slice b 69 1)) 6 2 == 0 &&
        !(maskDies (identMask b) s).isEmpty &&
        (!identUsesVid b s || (decide (1 ≤ beNat (slice b 70 2)) && decide (beNat (slice b 70 2) ≤ 4094)))))

/-- The ports and groups that a declaration names (06 R145, 01 R17). -/
def declPortsOk (b : List Byte) (s : State) : Bool :=
  let d := declOf b
  let ok (kind v : Nat) : Bool := if kind = 0 then portNamed (v % 65536) s else decide (v % 65536 ≤ 16383)
  declHandle b == 0xFFFF ||
    (ok (bitsOf d.egress 31 1) d.egress && (!d.altEgress.testBit 31 || ok (bitsOf d.altEgress 30 1) d.altEgress) &&
      (d.inPort == 0 && !d.sched || portNamed d.inPort s))

/-- MAX_SDU admits the stream's frames (R261). -/
def declSduOk (b : List Byte) : Bool :=
  let d := declOf b
  let sdu := bitsOf (declCtx b 0) 16 14
  !d.sched || sdu == 0 || decide (d.maxLen ≤ sdu)

/-- The refusals of R261 that bind a declaration to records 0x0030, 0x00D0 and 0x0090. -/
def declCrossOk (h : Nat) (d : Decl) (s : State) : Bool :=
  h == 0xFFFF || !d.sched ||
    ((policy 2 0 8 s).testBit d.queue && planCycle s % d.period == 0 && decide (d.maxLen ≤ s.fld F.PORT_CFG_MAX_FRAME d.inPort) &&
      (egressMembers (egressWord d.egress) s).all (fun x => planPort x.1 s))

/-- Install the identification entry of a declaration on a die: the bucket's lowest free slot, then the lay-by. -/
def putIdent (b : List Byte) (d : Nat) (s : State) : Option State :=
  let key := identKey d b s
  match nearFind d key s, nearFree d key s with
  | none, some a => some (nearPlace d a key (BitVec.ofNat 48 (2 ^ 44 + declHandle b)) true false s)
  | _, _ => none

/-- The dies on which a declaration has an identification entry. -/
def identDies (b : List Byte) (s : State) : List Nat := if (declOf b).ident then maskDies (identMask b) s else []

/-- The identification entries of a declaration: die and key. -/
def declIdents (b : List Byte) (s : State) : List (Nat × Nat) := (identDies b s).map (fun d => (d, identKey d b s))

/-- The declaration's context, and its egress on every enabled die; context 65,535 has no declaration. -/
def putDecl (b : List Byte) (s : State) : State :=
  let h := declHandle b
  let d : Decl := { declOf b with idents := declIdents b s }
  let s1 := scPut 0 h ((List.range 8).map (declCtx b)) s
  if h = 0xFFFF then s1 else setEgress h (egressWord d.egress) (s1.withPln { s1.pln with decls := tset none s1.pln.decls h (some d) })

/-- One declaration of the record. -/
def loadDecl (b : List Byte) (s : State) : Option State :=
  if declFieldsOk b s && declPortsOk b s && declSduOk b then
    (loadEach (putIdent b) (identDies b s) s).map (putDecl b)
  else none

def loadDecls (b : List Byte) (s : State) : Option State :=
  let n := wordAt b 0
  let bodies := (List.range n).map (fun k => slice b (4 + 104 * k) 104)
  if b.length = 4 + 104 * n ∧ n ≤ 65535 ∧ allDistinct (bodies.map declHandle) = true then loadEach loadDecl bodies s else none

/-! ### 0x0060, 0x0070 static entries (05 R114, R117, R137) -/

/-- Key and action of an entry in the layout of Table 5.2, with VALID and STATIC set. DESIGN CHOICE (log 106): one with another flag set is refused. -/
def staticOk (far : Bool) (e : List Byte) (s : State) : Bool :=
  let key := beNat (e.take 16)
  let act := BitVec.ofNat 48 (beNat (slice e 16 6))
  beNat (slice e 22 2) == 0xC000 && key / 2 ^ 124 == 7 && entryAllowed far key act && entryPortOk act s

/-- A static entry of record 0x0060 on one die. -/
def putStatic (e : List Byte) (d : Nat) (s : State) : Option State :=
  let key := beNat (e.take 16)
  match nearFind d key s, nearFree d key s with
  | none, some a => some (nearPlace d a key (BitVec.ofNat 48 (beNat (slice e 16 6))) true false s)
  | _, _ => none

/-- A static entry of record 0x0060. -/
def loadStatic (e : List Byte) (s : State) : Option State :=
  let m := leNat (slice e 24 1)
  if staticOk false e s = true ∧ m < 16 ∧ allZero (slice e 25 7) = true ∧ (maskDies m s).isEmpty = false then
    loadEach (putStatic e) (maskDies m s) s
  else none

def loadNear (b : List Byte) (s : State) : Option State :=
  let age := wordAt b 4
  let fl := bitsOf age 16 4
  let n := wordAt b 4100
  let ok := b.length == 16404 + 32 * n && noReserved .EM_AGE age && fl != 1 && noReserved .EM_CFG (wordAt b 5) &&
    (List.range 4094).all (fun v => noReserved .VLAN (wordAt b (6 + v)))
  let s1 := (enabledDies s).foldl (fun s d =>
    let s1 := s.setFlds [(F.EM_SEED, d, wordAt b d), (F.EM_AGE_FLAP_LIMIT, d, if fl = 0 then 8 else fl),
      (F.EM_AGE_AGE_PERIOD, d, if age % 65536 = 0 then 300 else age)]
    (List.range 4094).foldl (fun s v => putImage .VLAN (4096 * d + v + 1) (wordAt b (6 + v)) s) (putImage .EM_CFG d (wordAt b 5) s1)) s
  if ok then loadEach loadStatic ((List.range n).map (fun k => slice b (16404 + 32 * k) 32)) s1 else none

/-- A far entry: the lowest free slot of its bucket, then of its overflow line. -/
def loadFarEntry (d : Nat) (e : List Byte) (s : State) : Option State :=
  let key := beNat (e.take 16)
  match farFind d key s, farFree d key s with
  | none, some a =>
    let x : EmEntry := { key := BitVec.ofNat 128 key, action := BitVec.ofNat 48 (beNat (slice e 16 6)), valid := true, static := true }
    keep (staticOk true e s) (farPut d key a x s)
  | _, _ => none

def loadFar (b : List Byte) (s : State) : Option State :=
  let n := wordAt b 1
  let s1 := (enabledDies s).foldl (fun s d => s.setFld F.EM_FAR_SEED d (wordAt b 0)) s
  if b.length = 8 + 24 * n then loadEach (loadFarEntry ((enabledDies s).headD 0)) ((List.range n).map (fun k => slice b (8 + 24 * k) 24)) s1 else none

/-! ### 0x00A8 buffer (07 R194, Table 7.7) -/

/-- Q_CFG, Q_MIN and the three profiles of a queue. -/
def queueWordsOk (w : Nat → Nat) : Bool :=
  wordOk .Q_CFG (w 0) && wordOk .Q_MIN (w 1) &&
  (List.range 3).all (fun c => wordOk .WRED_LO (w (2 + 2 * c)) && wordOk .WRED_HI (w (3 + 2 * c)) &&
    (!(w (3 + 2 * c)).testBit 23 || decide (w (2 + 2 * c) % 2 ^ 20 < w (3 + 2 * c) % 2 ^ 20)))

/-- SHARED_SIZE as R182 gives it, plus what the reserves may exceed it by. -/
def sharedSize (s : State) : Int :=
  let mins := (List.range 4120).foldl (fun n q => n + s.fld F.Q_MIN q) 0
  let hdrm := (List.range 4096).foldl (fun n i => n + s.fld F.PFC_HDRM i) 0
  524288 - 32768 - Int.ofNat (mins + hdrm)

def loadBuffer (b : List Byte) (s : State) : Option State :=
  let hold := wordAt b 0
  let ok := b.length == 4 * 46274 && decide (hold ≤ 1000) && wordOk .POOL_ALARM (wordAt b 1) &&
    (List.range 512).all (fun p => decide (onesOf (wordAt b (2 + p)) ≤ 4)) &&
    (List.range 4120).all (fun q => queueWordsOk (fun i => wordAt b (514 + 8 * q + i))) &&
    (List.range 4096).all (fun i => wordOk .PFC_XOFF (wordAt b (33474 + 3 * i)) && wordOk .PFC_XON (wordAt b (33475 + 3 * i)) &&
      wordOk .PFC_HDRM (wordAt b (33476 + 3 * i)))
  let s1 := s.setFlds [(F.MC_HOLD_CFG, 0, if hold = 0 then 10 else hold), (F.POOL_ALARM, 0, wordAt b 1)]
  let s2 := (List.range 512).foldl (fun s p => (putImage .PORT_PFC_TIMING p (wordAt b (45762 + p)) s).setFld F.DELTA_MASK p (wordAt b (2 + p))) s1
  let s3 := (List.range 4120).foldl (fun s q =>
    let w (i : Nat) : Nat := wordAt b (514 + 8 * q + i)
    (List.range 3).foldl (fun s c => putImage .WRED_HI (3 * q + c) (w (3 + 2 * c)) (putImage .WRED_LO (3 * q + c) (w (2 + 2 * c)) s))
      (putImage .Q_MIN q (w 1) (putImage .Q_CFG q (w 0) s))) s2
  let s4 := (List.range 4096).foldl (fun s i =>
    s.setFlds [(F.PFC_XOFF, i, wordAt b (33474 + 3 * i)), (F.PFC_XON, i, wordAt b (33475 + 3 * i)), (F.PFC_HDRM, i, wordAt b (33476 + 3 * i))]) s3
  keep (ok && decide (65536 ≤ sharedSize s4)) (s4.setFld F.POOL_STATUS 0 (sharedSize s4).toNat)

/-- The refusals of R194 that need FLOW_MODE and the rate of record 0x0030: the thresholds of a pair in use, and REFRESH (µs) below the pause
time of QUANTA (512 bit times each). DEDUCED (log 73): a port without a mode has no bit time, and the word 0 of a port with FLOW_MODE 0 gives no
pause time. -/
def flowOk (s : State) : Bool :=
  (List.range 512).all (fun p =>
    let fm := s.fld F.PORT_CFG_FLOW_MODE p
    let used := if fm = 2 then 8 else if fm = 1 then 1 else 0
    let quanta := s.fld F.PORT_PFC_TIMING_QUANTA p
    let refresh := s.fld F.PORT_PFC_TIMING_REFRESH p
    (List.range used).all (fun n => decide (s.fld F.PFC_XON (8 * p + n) < s.fld F.PFC_XOFF (8 * p + n))) &&
      (s.fld F.PORT_CFG_MODE p == 0 || (fm == 0 && quanta == 0 && refresh == 0) ||
        decide (refresh * 1000000 < quanta * 512 * bytePs p s / 8)))

/-! ### 0x00A0 scheduler (08 R196, R217, R233, Table 8.4) -/

/-- The queues of a logical port. -/
def portQueues (p : Nat) : List Nat := if p = 512 then (List.range 16).map (4096 + ·) else (List.range 8).map (queueOf p ·)

/-- The four words of a queue. -/
def schedQueueOk (q : Nat) (w : Nat → Nat) : Bool :=
  let alg := bitsOf (w 0) 30 2
  noReserved .Q_SCH_CFG (w 0) && alg != 3 && (alg != 2 || decide (q < 4096)) && (alg != 1 || decide (9339 ≤ w 0 % 2 ^ 20)) &&
  wordOk .Q_SHAPER (w 1) && (alg != 2 || w 2 != 0) && wordOk .Q_DL_CFG (w 3)

/-- The numbers of an ascending list follow each other without a gap. -/
def consecutive : List Nat → Bool
  | x :: y :: l => y == x + 1 && consecutive (y :: l)
  | _ => true

/-- The DWRR queues of every port carry consecutive numbers (R196). -/
def dwrrOk (alg : Nat → Nat) : Bool := (List.range 514).all (fun p => consecutive ((portQueues p).filter (fun q => alg q == 1)))

/-- The shapers that a port names. -/
def namedShapers (shaper portShaper : Nat → Nat) (p : Nat) : List Nat :=
  ((portShaper p) :: (portQueues p).map shaper).filter (fun k => k != 0x7FFF)

/-- Each shaper of each port not named by any other: pairs (shaper, port) once each, no shaper twice (R217). -/
def shapersOk (shaper portShaper : Nat → Nat) : Bool :=
  let pairs := (List.range 514).flatMap (fun p => (dedup (namedShapers shaper portShaper p)).map (fun k => k))
  allDistinct pairs
where
  dedup : List Nat → List Nat
    | [] => []
    | x :: xs => if xs.contains x then dedup xs else x :: dedup xs

/-- A STR write (Table 8.4) as a WRITE, or a CHANGE of table 1, through window 1. -/
def loadStr (w : Nat → Nat) (s : State) : Option State :=
  let t := bitsOf (w 0) 28 3
  let op := bitsOf (w 0) 24 3
  let s1 := (List.range 8).foldl (fun s i => s.setFld F.SC_DATA (8 + i) (w (1 + i))) (s.setFld F.SC_INDEX 1 (w 0 % 2 ^ 20))
  if t = 7 ∨ (w 0 &&& 0x770FFFFF) ≠ w 0 then none
  else
    let r := if op = 2 then scOpWrite 1 t s1 else if op = 3 then scOpChange 1 t s1 else (s1, endWith 2)
    keep (r.2.result == 0) r.1

/-- The per-port words. -/
def putSchedPort (b : List Byte) (p : Nat) (s : State) : State :=
  let w (i : Nat) : Nat := wordAt b (16 * p + i)
  let s1 := putImage .PORT_SCH_CFG p (w 0) s
  if p < 512 then
    s1.setFlds [(F.GCL_CTRL_INIT_GATES, p, w 1), (F.GCL_ADMIN_BASE_NS, p, w 2), (F.GCL_ADMIN_BASE_SEC_LO, p, w 3),
      (F.GCL_ADMIN_BASE_SEC_HI, p, w 4), (F.GCL_ADMIN_CYCLE, p, w 5), (F.GCL_ADMIN_LEN, p, w 6)]
  else s1.setFld F.PORT_SCH_CFG_GATE_EN p 0

def schedPortOk (b : List Byte) (p : Nat) : Bool :=
  let w (i : Nat) : Nat := wordAt b (16 * p + i)
  wordOk .PORT_SCH_CFG (w 0) && decide (w 1 < 256) && decide (w 4 < 65536) && noReserved .GCL_ADMIN_CYCLE (w 5) && noReserved .GCL_ADMIN_LEN (w 6) &&
    (List.range 9).all (fun i => w (7 + i) == 0)

/-- A gate entry: its port (01 R17, R23) and index, and an OP that Table 8.2 does not refuse. -/
def gateEntryOk (k w : Nat) (s : State) : Bool :=
  decide (bitsOf k 16 10 < 512) && portNamed (bitsOf k 16 10) s && (k &&& 0x3FF03FF) == k && bitsOf w 30 2 != 3

def loadSched (b : List Byte) (s : State) : Option State :=
  let ns := wordAt b 24704
  let eo := 24705 + 3 * ns
  let ne := wordAt b eo
  let wo := eo + 1 + 2 * ne
  let nw := wordAt b wo
  let qw (q i : Nat) : Nat := wordAt b (8224 + 4 * q + i)
  let shp (k i : Nat) : Nat := wordAt b (24705 + 3 * k + i)
  let ent (k i : Nat) : Nat := wordAt b (eo + 1 + 2 * k + i)
  let ok := b.length == 4 * (wo + 1 + 9 * nw) && (List.range 514).all (schedPortOk b) && (List.range 4120).all (fun q => schedQueueOk q (qw q)) &&
    dwrrOk (fun q => bitsOf (qw q 0) 30 2) && shapersOk (fun q => qw q 1) (fun p => wordAt b (16 * p) % 2 ^ 15) &&
    (List.range ns).all (fun k => decide (shp k 0 < 20480) && wordOk .SHP_RATE (shp k 1) && wordOk .SHP_BURST (shp k 2)) &&
    (List.range ne).all (fun k => gateEntryOk (ent k 0) (ent k 1) s)
  let s1 := (List.range 514).foldl (fun s p => putSchedPort b p s) s
  let s2 := (List.range 4120).foldl (fun s q =>
    putImage .Q_DL_CFG q (qw q 3) (putImage .Q_DL_BUDGET q (qw q 2) (putImage .Q_SHAPER q (qw q 1) (putImage .Q_SCH_CFG q (qw q 0) s)))) s1
  let s3 := (List.range ns).foldl (fun s k => s.setFlds [(F.SHP_RATE, shp k 0, shp k 1), (F.SHP_BURST, shp k 0, shp k 2)]) s2
  let s4 := (List.range ne).foldl (fun s k =>
    let p := bitsOf (ent k 0) 16 10
    gclPut p (adminList p s) (ent k 0 % 1024) (ent k 1) s) s3
  if ok then loadEach (fun k => loadStr (fun i => wordAt b (wo + 1 + 9 * k + i))) (List.range nw) s4 else none

/-! ### 0x0090 policy (10 R263, Table 10.2) -/

/-- The fields of the policy words with a range: word, low bit, width, least, greatest. -/
def policyRanges : List (Nat × Nat × Nat × Nat × Nat) :=
  [(0, 0, 30, 1000, 1000000000), (3, 0, 14, 100, 10000), (4, 0, 16, 1, 65535), (5, 0, 16, 1, 65535), (7, 0, 8, 2, 255), (7, 16, 16, 1, 3600),
   (8, 0, 16, 1, 65535), (9, 0, 16, 1, 65535), (10, 0, 16, 1, 65535), (11, 0, 20, 0, 1000000), (12, 0, 20, 0, 1000000),
   (14, 0, 17, 1, 100000), (15, 0, 27, 1, 100000000), (16, 0, 16, 1, 65535), (16, 16, 16, 1, 65535), (17, 8, 8, 1, 255), (18, 0, 15, 0, 19968),
   (19, 0, 16, 1, 65535), (20, 8, 7, 1, 100), (21, 0, 16, 1, 65535), (22, 0, 20, 8, 0xFFFFF), (23, 0, 20, 8, 0xFFFFF)]

/-- The bits of a policy word that hold fields. -/
def policyMask (i : Nat) : Nat :=
  [0x3FFFFFFF, 0x7F, 0xFFFF, 0x3FFF, 0xFFFF, 0xFFFF, 0xFFFF, 0xFFFF00FF, 0xFFFF, 0xFFFF, 0xFFFF, 0xFFFFF, 0xFFFFF, 0xFFFF, 0x1FFFF, 0x7FFFFFF,
   0xFFFFFFFF, 0xFFFFFF07, 0x7FFF, 0xFFFF, 0x7F77, 0xFFFF, 0xFFFFF, 0xFFFFF].getD i 0xFFFFFFFF

/-- A policy word lies in the ranges of its fields. -/
def policyWordOk (i w : Nat) : Bool :=
  (w &&& policyMask i) == w && policyRanges.all (fun r => r.1 != i || (decide (r.2.2.2.1 ≤ bitsOf w r.2.1 r.2.2.1) && decide (bitsOf w r.2.1 r.2.2.1 ≤ r.2.2.2.2)))

/-- The rules that bind fields of the policy: masks without a common bit, LO ≤ HI, and no port of PLAN_PORTS that names no port. -/
def policyBoundOk (s : State) : Bool :=
  (policy 2 0 8 s &&& policy 2 8 8 s) == 0 && decide (policy 22 0 20 s ≤ policy 23 0 20 s)

/-- The ports of PLAN_PORTS are ports (01 R17). -/
def policyPortsOk (s : State) : Bool := (planPorts s).all (fun p => portNamed p s)

/-- Set a policy word. -/
def setPolicy (i w : Nat) (s : State) : State := s.withPln { s.pln with policy := tset 0 s.pln.policy i (w % 2 ^ 32) }

def loadPolicy (b : List Byte) (s : State) : Option State :=
  let s1 := (List.range 40).foldl (fun s i => setPolicy i (wordAt b i) s) s
  keep (b.length == 160 && (List.range 40).all (fun i => policyWordOk i (wordAt b i)) && policyBoundOk s1 && policyPortsOk s1) s1

/-- The refusals of R263 that bind the policy to record 0x00A0: GATE_EN on PLAN_PORTS with SYNTH; HH_QUEUE with HH. -/
def policyCrossOk (s : State) : Bool :=
  let hq := policy 17 0 3 s
  (!enables 0 s || (planPorts s).all (fun p => s.fld F.PORT_SCH_CFG_GATE_EN p == 1)) &&
  (!enables 3 s || (!(policy 2 0 8 s).testBit hq && (planPorts s).all (fun p => s.fld F.Q_SHAPER (8 * p + hq) == policy 18 0 15 s + p)))

/-! ### Refusals that bind two records (17 R432) -/

/-- A class rule names a stream that is declared (03 R80). -/
def rulesDeclared (s : State) : Bool :=
  (enabledDies s).all (fun d => match (tcamParts d s).find? (fun p => p.kind == 1) with
    | none => true
    | some p => (validEntries d p s).all (fun x => let h := x.2.action.toNat % 65536; h == 0xFFFF || (tget none s.pln.decls h).isSome))

/-- No queue of FAR_QUEUE_MASK runs in deadline mode (05 R124). -/
def farQueuesOk (s : State) : Bool :=
  (enabledDies s).all (fun d => (List.range 8).all (fun n =>
    !(s.fld F.EM_CFG_FAR_QUEUE_MASK d).testBit n || (List.range 512).all (fun p => s.fld F.Q_SCH_CFG_ALG (8 * p + n) != 2)))

/-- The checks after the last load step, each with the type of the record that it refuses: the record whose chapter states the refusal. -/
def crossChecks (body : Nat → List Byte) (s : State) : List (Nat × Bool) :=
  [(0x0010, microCross (body 0x0010) (body 0x0011)), (0x0021, extWindowsFree s && sharesFit s), (0x0050, rulesDeclared s),
   (0x0080, s.pln.decls.all (fun e => match e.2 with | some d => declCrossOk e.1 d s | none => true)), (0x0060, farQueuesOk s),
   (0x00A8, (body 0x00A8).isEmpty || flowOk s), (0x0090, policyCrossOk s)]

end Sys2Proof.Machine
end

