-- ==== Sys2Proof/Machine/Mailbox.lean ====
section
/-! DEFINITION. The change mailbox: the entries of a request, their checks and their application (18_host_interface.md R467 to R470). -/

namespace Sys2Proof.Machine

/-- One entry of a request (R468). -/
structure MbxEntry where
  ty : Nat
  op : Nat
  seq : Nat
  body : List Byte
deriving DecidableEq, Repr

/-- The entry at the front of a request and the rest of the request; `none` where the header or the body does not fit or byte 3 is not 0. -/
def mbxFront (b : List Byte) : Option (MbxEntry × List Byte) :=
  let len := leNat (slice b 6 2)
  let padded := (len + 7) / 8 * 8
  if b.length < 8 + padded ∨ leNat (slice b 3 1) ≠ 0 then none
  else some ({ ty := leNat (b.take 2), op := leNat (slice b 2 1), seq := leNat (slice b 4 2), body := slice b 8 len }, b.drop (8 + padded))

/-- What becomes of an entry: the state with it applied, or the reason that refuses it (R469). -/
abbrev MbxRes := Except Nat State

/-- The new identification entries of a declaration are inserted; one that stands for the same handle already stays. -/
def mbxIdents (h : Nat) (old : List (Nat × Nat)) : List (Nat × Nat) → State → Option State
  | [], s => some s
  | x :: xs, s =>
    if old.contains x then mbxIdents h old xs s
    else match nearFind x.1 x.2 s, nearFree x.1 x.2 s with
      | none, some a => mbxIdents h old xs (nearPlace x.1 a x.2 (BitVec.ofNat 48 (2 ^ 44 + h)) true false s)
      | _, _ => none

/-- Identification entries are deleted. -/
def mbxUnident (l : List (Nat × Nat)) (s : State) : State :=
  l.foldl (fun s x => match nearFind x.1 x.2 s with | some a => nearDelete x.1 a s | none => s) s

/-- The stream context of a declaration is written as a WRITE of table 0 writes it (08 R235). -/
def mbxContext (h : Nat) (new : Nat → Nat) (s : State) : State :=
  let old (w : Nat) : Nat := scWord 0 h w s
  let s1 := scPut 0 h ((List.range 8).map (fun w => scMerge 0 w (old w) (new w))) s
  if bitsOf (old 4) 22 9 ≠ bitsOf (new 4) 22 9 then recReset h s1 else s1

/-- ADD and REPLACE of a declaration (R469). Handle 0xFFFF carries context words only and is never declared (10 R260). -/
def mbxDecl (replace : Bool) (b : List Byte) (s : State) : MbxRes :=
  let h := declHandle b
  let old := tget none s.pln.decls h
  let new := declIdents b s
  let have_ := (old.elim [] (fun d => d.idents))
  if declFieldsOk b s = false ∨ declSduOk b = false then .error 2
  else if replace = false ∧ old.isSome = true then .error 3
  else if replace = true ∧ old.isNone = true then .error 4
  else match mbxIdents h have_ new s with
    | none => .error 5
    | some s1 =>
      if declPortsOk b s = false then .error 6
      else if declCrossOk h (declOf b) s = false then .error 7
      else
        let s2 := mbxUnident (have_.filter (fun x => !new.contains x)) s1
        let s3 := mbxContext h (declCtx b) s2
        if h = 0xFFFF then .ok s3
        else .ok (setEgress h (egressWord (declOf b).egress)
          (s3.withPln { s3.pln with decls := tset none s3.pln.decls h (some { declOf b with idents := new }) }))

/-- DELETE of a declaration (R469). -/
def mbxDelete (b : List Byte) (s : State) : MbxRes :=
  let h := leNat (b.take 2)
  match tget none s.pln.decls h with
  | none => .error 4
  | some d =>
    let s1 := scPut 0 h (List.replicate 8 0) (mbxUnident d.idents s)
    .ok (setEgress h 0 (s1.withPln { s1.pln with decls := tset none s1.pln.decls h none }))

/-- SET of policy words (R469, Table 18.8). -/
def mbxPolicy (b : List Byte) (s : State) : MbxRes :=
  let first := leNat (b.take 1)
  let count := leNat (slice b 1 1)
  let s1 := (List.range count).foldl (fun s k => setPolicy (first + k) (bodyWord b (4 + 4 * k)) s) s
  if 39 < first ∨ count < 1 ∨ 28 < count ∨ 40 < first + count then .error 2
  else if (List.range count).all (fun k => policyWordOk (first + k) (bodyWord b (4 + 4 * k))) = false ∨ policyBoundOk s1 = false then .error 2
  else if policyPortsOk s1 = false then .error 6
  else if policyCrossOk s1 = false ∨ s1.pln.decls.any (fun e => match e.2 with | some d => !declCrossOk e.1 d s1 | none => false) = true then .error 7
  else .ok s1

/-- The entry has a TYPE and OP of Table 18.8 and a body of that form. -/
def mbxForm (e : MbxEntry) : Bool :=
  match e.ty, e.op with
  | 0x0080, 1 => e.body.length == 104
  | 0x0080, 2 => e.body.length == 104
  | 0x0080, 3 => e.body.length == 8 && allZero (e.body.drop 2)
  | 0x0090, 4 => decide (4 ≤ e.body.length) && allZero (slice e.body 2 2) && e.body.length == 4 + 4 * leNat (slice e.body 1 1)
  | _, _ => false

/-- Check and apply one entry. -/
def mbxEntry (e : MbxEntry) (s : State) : MbxRes :=
  if mbxForm e = false then .error 1
  else match e.ty, e.op with
    | 0x0080, 1 => mbxDecl false e.body s
    | 0x0080, 2 => mbxDecl true e.body s
    | 0x0080, _ => mbxDelete e.body s
    | _, _ => mbxPolicy e.body s

/-- A run of entries, each against what the earlier ones leave: the state, or the reason and the index of the first that fails. -/
def mbxRun : Nat → Nat → List Byte → State → Except (Nat × Nat) State
  | 0, _, _, s => .ok s
  | fuel + 1, i, b, s =>
    if b.isEmpty then .ok s
    else match mbxFront b with
      | none => .error (1, i)
      | some x => match mbxEntry x.1 s with
        | .error r => .error (r, i)
        | .ok s1 => mbxRun fuel (i + 1) x.2 s1

/-- A request: the state after it, with its RESULT, REASON and ENTRY. At shed level 4 it is BUSY (R467); applied, it sets the DECL trigger. -/
def mbxServe (b : List Byte) (s : State) : State × Nat × Nat × Nat :=
  if 4 ≤ s.fld F.PLN_STATUS_SHED_LEVEL 0 then (s, 1, 0, 0)
  else match mbxRun 512 0 b s with
    | .error e => (s, 2, e.1, e.2)
    | .ok s1 => (trigger 1 s1, 0, 0, 0)

/-- Thread 2 runs: it may take a request. -/
def mbxUp (s : State) : Bool := coreRuns 2 s && !inUnitReset 0 s && (threadState 2 s == 1 || threadState 2 s == 2)

/-- The waiting request of the host is taken (R467). -/
def mbxTakeHost (s : State) : State :=
  if s.fld F.MBX_STATUS_STATE 0 ≠ 1 then s
  else
    let n := s.hif.mbxLen
    let b := ((List.range (n / 4)).flatMap (fun w => toLe 4 (s.fld F.MBX_REQ w)))
    let x := mbxServe b s
    mbxDone x.2.1 x.2.2.1 x.2.2.2 x.1

/-- A message of one word from thread 2 on a channel. -/
def mbxReply (ch v : Nat) (s : State) : State :=
  let c := chanAt ch s
  if s.fld F.CHAN_CFG0_ENABLE ch = 0 ∨ s.fld F.CHAN_CFG0_WRITER ch ≠ 2 then s
  else
    raiseEvent (s.fld F.CHAN_CFG0_READER ch) (s.fld F.CHAN_CFG1_RD_EVENT ch)
      (takeMsg 2 (putChan ch { c with queue := c.queue ++ [(2, [v])] } (s.fld F.CHAN_STATUS_STAGED ch) s))

/-- Thread 2 has room for its reply on a channel. -/
def mbxRoom (ch : Nat) (s : State) : Bool :=
  s.fld F.CHAN_CFG0_ENABLE ch == 0 || s.fld F.CHAN_CFG0_WRITER ch != 2 ||
    (decide ((chanAt ch s).queue.length < s.fld F.CHAN_CFG0_DEPTH ch) && msgShare 2 s)

/-- The oldest message submitted on a mailbox channel is taken (R470): one entry in bytes 0 to 127, answered on the other channel of the pair. -/
def mbxTakeChannel (s : State) : State :=
  match s.hif.mbxChan with
  | [] => s
  | ch :: rest =>
    let other := ch ^^^ 1
    let c := chanAt ch s
    if mbxRoom other s = false then s
    else
      let s0 := s.withHif { s.hif with mbxChan := rest }
      match c.queue with
      | [] => s0
      | (w, msg) :: more =>
        let b := (List.range 16).flatMap (fun i => toLe 8 (msg.getD i 0))
        let seq := leNat (slice b 4 2)
        let need := 8 + (leNat (slice b 6 2) + 7) / 8 * 8
        let s1 := raiseEvent (s.fld F.CHAN_CFG0_WRITER ch) (s.fld F.CHAN_CFG1_WR_EVENT ch)
          (returnMsg w (putChan ch { c with queue := more } (s.fld F.CHAN_STATUS_STAGED ch) s0))
        let x := if 128 < need ∨ msg.length * 8 < need then (s1, 2, 1, 0) else mbxServe (b.take need) s1
        mbxReply other (x.2.1 + x.2.2.1 * 256 + seq * 65536) x.1

/-- MBX_REQUEST_TAKE (R469, R470): thread 2 takes the host's request, or the oldest channel request. -/
def mbxRequestTake (channel : Bool) (s : State) : State :=
  if mbxUp s = false then s else if channel then mbxTakeChannel s else mbxTakeHost s

end Sys2Proof.Machine
end

