-- ==== Sys2Proof/Machine/Pins.lean ====
section
/-! DEFINITION. The states of the pins (20_electrical_package.md R489, R493, R494, Table 20.6; 02_ports.md R58). They are read from the state;
no command stores them. -/

namespace Sys2Proof.Machine

/-- What a pin does: it drives nothing (high impedance, or an open drain released), drives a level, stands in electrical idle, carries a signal
of its interface, is terminated with its input ignored, or is an input. -/
inductive PinLevel where
  | z | low | high | idle | active | terminated | input
deriving DecidableEq, Repr

/-- The pins of Table 20.6 that the part does not drive: its inputs, and TDO, which drives only while the TAP shifts. -/
inductive InPin where
  | sdRx (p : Nat)
  | pcieRx (l : Nat)
  | sdRefclk (d q : Nat)
  | pcieRefclk | sysClk
  | ppsIn
  | syncIn (n : Nat)
  | tck | tms | tdi | tdo | trstN
  | resetN | testEn
deriving DecidableEq, Repr

/-- The columns of Table 20.6. -/
inductive PinColumn where
  | held | starting | run | safe | terminal
deriving DecidableEq, Repr

/-- The column of the device state. -/
def pinColumn (s : State) : PinColumn :=
  if s.terminal then .terminal
  else if s.ldr.held then .held
  else match s.fld F.LDR_STATUS_STATE 0 with
    | 8 => .run
    | 9 => .safe
    | _ => .starting

/-- The rail that supplies a pin, in the order of Table 20.1 (Tables 20.1, 20.4). -/
def pinRail : Pin → Nat
  | .sdTx _ => 3
  | .pcieTx _ => 2
  | .smbScl | .smbSda | .smbAlertN | .faultN | .intN => 7
  | _ => 6

/-- A level as a pin drives it. -/
def levelOf (b : Bool) : PinLevel := if b then .high else .low

/-- An open-drain pin: low while its condition holds, else released. -/
def openDrain (b : Bool) : PinLevel := if b then .low else .z

/-- A SerDes transmitter in RUN (01 R18, 02 R54, R58): a lane of a disabled die or of one in reset, or of a port with MODE 0, stands in electrical
idle; that of a port with ADMIN_UP = 0 or in quarantine does once what goes out is out; any other transmits. The lanes of a joined group follow
their port. -/
def sdTxRun (n : Nat) (s : State) : PinLevel :=
  let p := if joinedLane n s then n / 4 * 4 else n
  if s.dieUp (dieOf p) = false ∨ s.fld F.PORT_CFG_MODE p = 0 then .idle
  else if s.fld F.PORT_CFG_ADMIN_UP p = 1 ∧ s.fld F.PORT_STATUS_QUARANTINED p = 0 then .active
  else match (tget ({} : PortSt) s.dp.ports p).tx with
    | .draining => .active
    | _ => .idle

/-- The flash pins carry a command: NVM_READ runs (17 R428), or the recovery mailbox (17 R442). -/
def flashActive (s : State) : Bool := s.fld F.LDR_STATUS_STATE 0 == 3 || s.ldr.rcvRun.isSome

/-- The cell of Table 20.6 for a pin. -/
def pinTable (p : Pin) (s : State) : PinLevel :=
  let st := s.fld F.LDR_STATUS_STATE 0
  match pinColumn s, p with
  | .held, _ => .z
  | .starting, .sdTx _ => if st < 6 then .z else .idle
  | .run, .sdTx n => sdTxRun n s
  | .safe, .sdTx _ => .idle
  | .terminal, .sdTx _ => .idle
  | _, .pcieTx _ => .active
  | .terminal, .nvmClk => .z
  | .terminal, .nvmCsN => .z
  | .terminal, .nvmRstN => .z
  | .terminal, .nvmDq _ => .z
  | .starting, .nvmClk => if st < 3 then .z else if flashActive s then .active else .low
  | .starting, .nvmCsN => if st < 3 then .z else if flashActive s then .active else .high
  | .starting, .nvmRstN => if st < 3 then .z else if st = 3 then .active else .high
  | _, .nvmClk => if flashActive s then .active else .low
  | _, .nvmCsN => if flashActive s then .active else .high
  | _, .nvmRstN => .high
  | _, .nvmDq _ => if flashActive s then .active else .z
  | _, .smbScl => .z
  | _, .smbSda => .z
  | .terminal, .smbAlertN => .low
  | _, .smbAlertN => openDrain (s.fld F.FLT_STATUS_FIRST_VALID 0 == 1)
  | .run, .ppsOut => levelOf s.time.ppsOut
  | _, .ppsOut => .z
  | .run, .syncOut n => levelOf (tget false s.time.syncOut n)
  | _, .syncOut _ => .z
  | .run, .ready => .high
  | _, .ready => .low
  | .terminal, .faultN => .low
  | _, .faultN => openDrain (s.fld F.FLT_STATUS_FAULT_N 0 == 1)
  | .terminal, .intN => .z
  | .starting, .intN => if st < 5 then .z else openDrain (requestLine 6 s)
  | _, .intN => openDrain (requestLine 6 s)

/-- The state of a pin: what a TAP instruction gives it (R494), nothing where its rail is not good (R489), else Table 20.6. -/
def pinState (p : Pin) (s : State) : PinLevel :=
  match s.ldr.scan.find? (fun x => x.1 == p) with
  | some x => levelOf x.2
  | none => if tget false s.ldr.railBad (pinRail p) then .z else pinTable p s

/-- A SerDes receiver in RUN (02 R58): terminated, and receiving while its port has its link up; a lane of a disabled die stands as in SAFE. -/
def sdRxRun (n : Nat) (s : State) : PinLevel :=
  let p := if joinedLane n s then n / 4 * 4 else n
  if s.dieUp (dieOf p) = true ∧ s.fld F.PORT_CFG_MODE p ≠ 0 ∧ s.fld F.PORT_STATUS_LINK_UP p = 1 then .active else .terminated

/-- The state of an input pin (Table 20.6). Receivers present no termination while VDDA_SD is not good (R489). -/
def inputState (p : InPin) (s : State) : PinLevel :=
  let vdda := !tget false s.ldr.railBad 2
  match p with
  | .sdRx n =>
    match pinColumn s with
    | .held => .z
    | .terminal => .z
    | .starting => if vdda = true ∧ 6 ≤ s.fld F.LDR_STATUS_STATE 0 then .terminated else .z
    | .run => if vdda then sdRxRun n s else .z
    | .safe => if vdda then .terminated else .z
  | .pcieRx _ => if vdda = true ∧ pinColumn s ≠ .held then .active else .z
  | .sdRefclk _ _ => if pinColumn s = .held then .z else .input
  | .pcieRefclk => if pinColumn s = .held then .z else .input
  | .sysClk => if pinColumn s = .held then .z else .input
  | .tdo => .z
  | _ => .input

end Sys2Proof.Machine
end

