-- ==== Sys2Proof/Machine/Sideband.lean ====
section
/-! DEFINITION. The SMBus target and the TAP (19_register_map.md R475, R476; 20_electrical_package.md R494). -/

namespace Sys2Proof.Machine

/-- What the last read of a requester returned. -/
def outOf (q : Requester) (s : State) : Nat := tget 0 s.readOut q.code

/-- The register is read for the SMBus target, and its value is held until it is ready. -/
def smbusFetch (o : Nat) (s : State) : State :=
  let s1 := readAt .smbus o s
  setOut .smbus (outOf .smbus s) (s1.withLdr { s1.ldr with smbRead := some (outOf .smbus s1), smbData := none })

/-- SMBUS_READ_START (R476): command 0x10 with the register offset; `good` is false where the PEC or the byte count is wrong, which is NACKed. The
register is read now, or once the link that it lies behind has retrained (07 R171). An offset that exists for no requester reads 0 (R474). -/
def smbusReadStart (good : Bool) (o : Nat) (s : State) : State :=
  if good = false ∨ s.ldr.held = true then s
  else
    let none_ := s.withLdr { s.ldr with smbRead := none, smbData := none }
    match reach .smbus o s with
    | none => none_.withLdr { none_.ldr with smbRead := some 0 }
    | some a => if linkWaits a s then sidePut { req := .smbus, off := a } none_ else smbusFetch a s

/-- SMBUS_READ_READY (R476): the data of the read is ready. -/
def smbusReadReady (s : State) : State :=
  match s.ldr.smbRead with
  | none => s
  | some v => s.withLdr { s.ldr with smbRead := none, smbData := some v }

/-- SMBUS_BLOCK_READ (R476): the five bytes of command 0x11, the status in the lowest; the value of a NOT_READY is open. -/
def smbusBlockRead (s : State) : State :=
  if s.ldr.held then s
  else match s.ldr.smbData with
    | some v => setOut .smbus (v * 256) s
    | none =>
      let n := s.dp.fresh
      setOut .smbus (1 + (Config.staleData n).toNat * 256) { s with dp := { s.dp with fresh := n + 1 } }

/-- SMBUS_WRITE (R476): command 0x12. -/
def smbusWrite (good : Bool) (o v : Nat) (s : State) : State := if good = false ∨ s.ldr.held = true then s else regWrite .smbus o v s

/-- SMBUS_ALERT_RESPONSE (R476). -/
def smbusAlert (s : State) : State := if s.ldr.held then s else setOut .smbus 0x5C s

/-- JTAG_REGISTER_ACCESS (R475): a write with its data, or a read. -/
def jtagAccess (o : Nat) (data : Option Nat) (s : State) : State :=
  match data with
  | some v => regWrite .jtag (o % 2 ^ 26) v s
  | none => regRead .jtag (o % 2 ^ 26) s

/-- The TAP works: VDD_CORE and VDD_IO are good (20 R494). -/
def tapUp (s : State) : Bool := !tget false s.ldr.railBad 0 && !tget false s.ldr.railBad 6

/-- BOUNDARY_SCAN_INSTRUCTION (20 R494): the instruction controls the pins of the list; an empty list leaves it. -/
def boundaryScan (pins : List (Pin × Bool)) (s : State) : State :=
  if tapUp s then s.withLdr { s.ldr with scan := pins } else s

/-- TRST_N_ASSERT (20 R494). -/
def trstAssert (s : State) : State := s.withLdr { s.ldr with scan := [] }

end Sys2Proof.Machine
end

