-- ==== Sys2Proof/Machine/Startup.lean ====
section
/-! DEFINITION. Supplies, the reset condition and the start sequence (17_startup_image.md R419 to R426, R428, R432, R438 to R441;
16_dram.md R414). -/

namespace Sys2Proof.Machine

/-! ### Supplies and the reset condition (R419 to R421) -/

/-- RESET_HELD is entered (R420): nothing is kept but the supplies, the flash, the fuses and the TAP. -/
def enterHeld (s : State) : State :=
  { anew s with ldr := { keptLdr s.ldr with held := true } }

/-- FUSE_LOAD is entered as the reset condition ends (R421); a rail that stopped being good makes it a power-up (R420). -/
def leaveHeld (s : State) : State :=
  let s1 : State := { anew s with ldr := { keptLdr s.ldr with powerUp := false } }
  s1.setFld F.LDR_STATUS_START_CAUSE 0 (if s.ldr.powerUp then 0 else 1)

/-- Every rail is good. -/
def railsGood (l : LdrSt) : Bool := (List.range 8).all (fun i => !tget false l.railBad i)

/-- The reset condition of R420. -/
def resetCondition (l : LdrSt) : Bool := !railsGood l || l.settling || l.resetLow

/-- RESET_HELD is left when the reset condition no longer holds; the Terminal state ignores it. -/
def tryLeave (s : State) : State :=
  if s.ldr.held = true ∧ s.terminal = false ∧ resetCondition s.ldr = false then leaveHeld s else s

/-- The Terminal state takes the place of RESET_HELD; its register accesses wait for the rails (20 R487). -/
def settleTerminal (s : State) : State :=
  if s.terminal = true ∧ s.ldr.held = true ∧ railsGood s.ldr = true then s.withLdr { s.ldr with held := false } else s

/-- What a sample of a supply rail shows (R419, 20 R487): within its operating range; outside it; or above its absolute maximum or below -0.3 V. -/
inductive RailReading where
  | good | out | absolute
deriving DecidableEq, Repr

/-- The operating range and the absolute maximum of each rail in µV (20 Table 20.1). -/
def railLimits : List (Int × Int × Int) :=
  [(727500, 772500, 900000), (824500, 875500, 1000000), (873000, 927000, 1050000), (1164000, 1236000, 1400000),
   (1067000, 1133000, 1250000), (388000, 412000, 500000), (1710000, 1890000, 2100000), (3135000, 3465000, 3800000)]

/-- A voltage of rail `i`, in µV, against Table 20.1. -/
def railReading (i : Nat) (uv : Int) : RailReading :=
  let l := railLimits.getD i (0, 0, 0)
  if l.2.2 < uv ∨ uv < -300000 then .absolute
  else if l.1 ≤ uv ∧ uv ≤ l.2.1 then .good
  else .out

/-- RAIL_SAMPLE (R419, R420, R487): a sample of rail `i`, in the order of Table 20.1, reads `uv` µV. A rail above its absolute maximum is SUPPLY_ABSOLUTE,
whatever else holds, as long as VDD_3V3 serves the monitor; the second sample in a row outside the range makes a rail not good, which the Terminal state too leaves for RESET_HELD. -/
def railSample (i : Nat) (uv : Int) (s : State) : State :=
  if 8 ≤ i then s
  else
    let l := s.ldr
    match railReading i uv with
    | .absolute => if tget false l.railBad 7 then s else raiseFault 2 4 i s
    | .out =>
      let n := tget 0 l.railOut i + 1
      let l1 := { l with railOut := tset 0 l.railOut i (min n 2) }
      if 2 ≤ n ∧ tget false l.railBad i = false then
        let scan := if i = 0 ∨ i = 6 then [] else l1.scan
        let s1 := s.withLdr { l1 with railBad := tset false l1.railBad i true, powerUp := true, scan := scan }
        if s.ldr.held = true ∧ s.terminal = false then s1 else enterHeld s1
      else s.withLdr l1
    | .good =>
      let l1 := { l with railOut := tset 0 l.railOut i 0, railBad := tset false l.railBad i false }
      let l2 := if railsGood l = false ∧ railsGood l1 = true then { l1 with settling := true } else l1
      settleTerminal (s.withLdr l2)

/-- RESET_N_EDGE (R420, R421): RESET_N is recognised low or released. The Terminal state ignores it. -/
def resetNEdge (low : Bool) (s : State) : State :=
  let s1 := s.withLdr { s.ldr with resetLow := low }
  if low then (if s.terminal = true ∨ s.ldr.held = true then s1 else enterHeld s1) else tryLeave s1

/-- RESET_HOLD_EXPIRY (R420): 2 ms have passed since the last rail became good. -/
def resetHoldExpiry (s : State) : State := tryLeave (s.withLdr { s.ldr with settling := false })

/-! ### The start states of Table 17.1 -/

/-- The start state. -/
def startState (s : State) : Nat := s.fld F.LDR_STATUS_STATE 0

/-- A step of the start sequence: in its state, and not in the Terminal state nor in RESET_HELD. -/
def inStart (n : Nat) (act : State → State) (s : State) : State :=
  if startState s = n ∧ s.terminal = false ∧ s.ldr.held = false then act s else s

/-- SAFE is entered with a cause (R441). -/
def enterSafe (cause : Nat) (s : State) : State := s.setFlds [(F.LDR_STATUS_STATE, 0, 9), (F.LDR_STATUS_SAFE_CAUSE, 0, cause)]

/-- FUSE_LOAD_DONE (R422, R424; 19 R479, R483): the PLLs lock and OTP is read; `sidebands`: the dies whose sideband came up. -/
def fuseLoadDone (otpOk : Bool) (sidebands : Nat) (s : State) : State :=
  inStart 2 (fun s =>
    if otpOk = false then raiseFault 3 4 0 s
    else
      let blankKey := (List.range 8).all (fun w => otpWord (8 + w) s == 0)
      let s1 := s.setFlds [(F.LDR_STATUS_STATE, 0, 3), (F.SERIAL_LO, 0, otpWord 18 s), (F.SERIAL_HI, 0, otpWord 19 s),
        (F.SUBSYS_SUBSYS_ID, 0, otpWord 16 s / 2 ^ 16), (F.SUBSYS_SUBSYS_VENDOR, 0, otpWord 16 s),
        (F.JTAG_STATUS_DISABLED, 0, if blankKey = true ∨ (otpWord 17 s).testBit 0 = true then 1 else 0),
        (F.LDR_STATUS_KEY_BLANK, 0, if keyBlank s then 1 else 0), (F.LDR_STATUS_SIDEBAND_UP, 0, sidebands)]
      drawChallenge ((List.range 32).foldl (fun s c => s.setFld F.CH_STATUS_STATE c 1) s1)) s

/-- SLOT_READ_COMPLETE (R428): the slot is read, or there is no flash. -/
def slotReadComplete (noFlash : Bool) (s : State) : State :=
  inStart 3 (fun s =>
    if noFlash then enterSafe 1 (setSlotResult 1 (2, 0, 0) (setSlotResult 0 (2, 0, 0) s))
    else s.setFld F.LDR_STATUS_STATE 0 4) s

/-- The next slot is read, or SAFE is entered after slot B (R439). -/
def nextSlot (s : State) : State :=
  if s.ldr.trying = 0 then (s.setFld F.LDR_STATUS_STATE 0 3).withLdr { s.ldr with trying := 1 } else enterSafe 1 s

/-! ### LOAD (R432) -/

/-- Apply the body of a record of type `ty`; `none` where it is refused. -/
def applyRecord (ty : Nat) (b : List Byte) (s : State) : Option State :=
  match ty with
  | 0x0001 => loadIdentity b s
  | 0x0010 => loadDispatch b s
  | 0x0011 => loadNano b s
  | 0x0012 => loadHoriz b s
  | 0x0020 => loadFirmwareRec b s
  | 0x0021 => loadExtensionRec b s
  | 0x0030 => loadPorts b s
  | 0x00B0 => loadRouting b s
  | 0x00C0 => loadHost b s
  | 0x00D0 => loadGeneric b s
  | 0x0040 => loadParse b s
  | 0x0050 => loadClass b s
  | 0x0080 => loadDecls b s
  | 0x0060 => loadNear b s
  | 0x0070 => loadFar b s
  | 0x00A8 => loadBuffer b s
  | 0x00A0 => loadSched b s
  | 0x0090 => loadPolicy b s
  | _ => some s

/-- An enabled die whose sideband did not come up is RLF_FAILED at load step 4 (R424). -/
def sidebandCheck (s : State) : State :=
  (List.range 4).foldl (fun s d =>
    if s.dieEnabled d = true ∧ (s.fld F.LDR_STATUS_SIDEBAND_UP 0).testBit d = false then raiseFault 4 d 0 s else s) s

/-- The near tables' seeds stand before the first entry is hashed: record 0x0060 gives them (05 R115), and the identification entries of record
0x0080 are installed by them, ahead of its static entries (R137). -/
def presetSeeds (slot : Nat) (recs : List Rec) (s : State) : State :=
  match recs.find? (fun r => r.ty == 0x0060) with
  | none => s
  | some r => (enabledDies s).foldl (fun s d => s.setFld F.EM_SEED d (wordAt (recBody slot r s) d)) s

/-- Records in load order, to the first refusal: the state, and the type and index of the record refused. Where an image holds no record 0x0021, the
count word of its copy in the ME DRAM region is zero. -/
def applyRecords (slot : Nat) (recs : List Rec) : List (Nat × Bool × Nat) → State → State × Option (Nat × Nat)
  | [], s => (s, none)
  | t :: ts, s =>
    match recs.find? (fun r => r.ty == t.1) with
    | none => applyRecords slot recs ts (if t.1 = 0x0021 then hbmWrite 0x3F300000 [0, 0, 0, 0] s else s)
    | some r =>
      match applyRecord t.1 (recBody slot r s) (if t.1 = 0x0080 then presetSeeds slot recs s else s) with
      | none => (s, some (r.ty, r.index))
      | some s1 => applyRecords slot recs ts (if t.1 = 0x0030 then sidebandCheck s1 else s1)

/-- The far table and the far overflow store are written to zero (R424), and so are the static shadows, which LOAD fills anew (DEDUCED, log 77). -/
def clearFar (s : State) : State :=
  { s with hbm := s.hbm.filter (fun e => !((decide (0x40000000 ≤ e.1) && decide (e.1 < 0x50200000)) ||
    (decide (0x54000000 ≤ e.1) && decide (e.1 < 0x5C000000)))) }

/-- LOAD of a slot begins (R440, R445): the identity of the image, the host answered from now on (R426), the far table cleared (R424). -/
def beginLoad (slot : Nat) (s : State) : State :=
  let s1 := s.setFlds [(F.LDR_STATUS_STATE, 0, 5), (F.LDR_STATUS_LEVEL, 0, imgNum slot 6 1 s), (F.LDR_STATUS_SLOT, 0, slot),
    (F.LDR_STATUS_UNSIGNED, 0, if keyBlank s then 1 else 0)]
  let s2 := (List.range 8).foldl (fun s w => s.setFld F.BUILD_ID w (imgNum slot (16 + 4 * w) 4 s)) s1
  clearFar { s2 with hif := { s2.hif with enumerated := true } }

/-- AUTH_DONE (R438, R439, R432): the slot is checked, and its records are applied, or slot B follows, or SAFE. -/
def authDone (s : State) : State :=
  inStart 4 (fun s =>
    let slot := s.ldr.trying
    match authSlot slot s with
    | .error e =>
      let s1 := setSlotResult slot e s
      nextSlot { s1 with dp := { s1.dp with fresh := s1.dp.fresh + 1 } }
    | .ok recs =>
      let x := applyRecords slot recs recTypes (beginLoad slot s)
      x.1.withLdr { x.1.ldr with refused := x.2 }) s

/-- The first cross-record refusal, with the index of its record. -/
def crossRefusal (slot : Nat) (s : State) : Option (Nat × Nat) :=
  let recs := match authSlot slot s with | .ok l => l | .error _ => []
  let body (ty : Nat) : List Byte := match recs.find? (fun r => r.ty == ty) with | some r => recBody slot r s | none => []
  match (crossChecks body s).find? (fun c => !c.2) with
  | none => none
  | some c => some (c.1, match recs.find? (fun r => r.ty == c.1) with | some r => r.index | none => 0)

/-- What the end of LOAD sets up: the pools with the level of source 128 (07 R195), the firmware threads (R425), the DRAM modes, SHARED_SIZE (07
R182), the TCAM blocks in use (04 Table 4.7), the servo's defaults, the Planner's and the export's heads (R424) and the addresses of their rings. -/
def endLoad (s : State) : State :=
  let s0 := servoDefaults ((enabledDies s).foldl (fun s d => tcamInService d s) s)
  let s1 := poolLevel (setDramModes (setPools (s0.setFld F.POOL_STATUS 0 (sharedSize s0).toNat)))
  let s2 := s1.withPln { s1.pln with qminImage := (List.range 4096).foldl (fun t q => tset 0 t q (s1.fld F.Q_MIN q)) [] }
  let s3 := s2.setFlds [(F.JOURNAL_HEAD, 0, 0), (F.EXPORT_SEQ, 0, 0), (F.JOURNAL_ADDR, 0, journalBase), (F.HISTORY_ADDR, 0, historyBase)]
  ((List.range 32).filter (fun t => !freeThreads.contains t)).foldl (fun s t =>
    if s.fld F.THREAD_CFG_ENABLE t = 1 then startThread t s else s) s3

/-- LOAD_COMPLETE (R432, R439): once base training has ended, the cross-record checks refuse the slot or TRAIN is entered. -/
def loadComplete (s : State) : State :=
  inStart 5 (fun s =>
    let slot := s.ldr.trying
    if s.ldr.trained = false ∨ s.fld F.SLOT_RESULT_RESULT slot = 10 then s
    else
      match (match s.ldr.refused with | some x => some x | none => crossRefusal slot s) with
      | some x => setSlotResult slot (10, x.1, x.2) s
      | none =>
        let s1 := endLoad ((setSlotResult slot (1, 0, 0) s).setFld F.LDR_STATUS_STATE 0 6)
        if slot = 1 then raiseFault 32 4 0 s1 else s1) s

/-- The register cells a rollback keeps (R424): those of the clocks, the working clock, the fault unit, DRAM training, the PCIe link and the
configuration space, and what the start itself has set. -/
def rollbackRegs : List Reg :=
  [.CYCLE_COUNT, .EPOCH_COUNT, .SERIAL_LO, .SERIAL_HI, .SUBSYS, .JTAG_CHALLENGE, .JTAG_STATUS, .TIME_STATUS, .RATE_ADJ, .FLT_STATUS, .FLT_CFG,
   .FIRST, .FIRST_FOLLOW, .CONSEQ_COUNT, .TRAP_MAP, .FLT_TEMP, .SRC_REACT, .ESC_REACT, .FLT_SRC_STATUS, .SRC_COUNT, .FLT_HIST,
   .CH_STATUS, .STACK_TEMP, .LINK_STATUS, .FUNC_STATUS, .LDR_STATUS, .RESTARTS, .SLOT_RESULT]

/-- Every block returns to its chip-reset value, but for what R424 excepts. -/
def rollback (s : State) : State :=
  let h := s.hif
  let codes := rollbackRegs.map Reg.code
  let s1 : State := { anew s with
    regs := s.regs.filter (fun e => codes.contains (e.1 / 64 % 512))
    work := s.work
    time := s.time
    flt := s.flt
    dram := s.dram
    hbm := s.hbm
    ldr := { s.ldr with refused := none }
    hif := { ({} : HifSt) with
      msixEnable := h.msixEnable, fnMask := h.fnMask, bars := h.bars, sizes := h.sizes, memEnable := h.memEnable, enumerated := h.enumerated
      aspmL1 := h.aspmL1, aer := h.aer, pmeEn := h.pmeEn, pmeStatus := h.pmeStatus } }
  clearFar (s1.setFlds [(F.LDR_STATUS_LEVEL, 0, 0), (F.LDR_STATUS_UNSIGNED, 0, 0), (F.LDR_STATUS_SLOT, 0, 0)])

/-- ROLLBACK_DONE (R424): slot B is read, or SAFE is entered. -/
def rollbackDone (s : State) : State :=
  inStart 5 (fun s => if s.fld F.SLOT_RESULT_RESULT s.ldr.trying ≠ 10 then s else nextSlot (rollback s)) s

/-! ### DRAM training (16 R414) and the way to RUN -/

/-- A channel fails its training: FAILED, and MEM_CH_FAIL. -/
def trainFail (c : Nat) (s : State) : State := channelFail c (s.setFld F.CH_STATUS_STATE c 4)

/-- BASE_TRAINING_DONE (R414, R424): `failed` are the channels that failed all three attempts. -/
def baseTrainingDone (failed : List Nat) (s : State) : State :=
  if s.ldr.trained = true ∨ s.ldr.held = true ∨ s.terminal = true ∨ s.fld F.CH_STATUS_STATE 0 ≠ 1 then s
  else
    let bad := failed.filter (fun c => decide (c < 32))
    let s1 := (List.range 32).foldl (fun s c => if bad.contains c then trainFail c s else s.setFld F.CH_STATUS_STATE c 2) s
    let s2 := s1.withLdr { s1.ldr with trained := true }
    if bad.isEmpty = true ∨ s2.safe = true then s2 else enterSafe 2 s2

/-- FINAL_CALIBRATION_DONE (R414, R424). -/
def finalCalibrationDone (failed : List Nat) (s : State) : State :=
  inStart 6 (fun s =>
    let bad := failed.filter (fun c => decide (c < 32))
    let s1 := (List.range 32).foldl (fun s c => if bad.contains c then trainFail c s else s) s
    let s2 := s1.withLdr { s1.ldr with calibrated := true }
    if bad.isEmpty then s2 else enterSafe 2 s2) s

/-- TRAIN_DONE (R422): the flit lanes of the enabled dies run at full rate, and PLAN is entered: the START trigger sets (10 R282). -/
def trainDone (s : State) : State :=
  inStart 6 (fun s =>
    if s.ldr.calibrated = false then s
    else
      let dies := enabledDies s
      let s1 := dies.foldl (fun s d => s.setFld F.RLF_STATUS_TRAINED d 1) s
      let s2 := s1.setFlds [(F.DIE_STATUS_LINK_UP, 0, s.fld F.DIE_STATUS_ENABLED 0), (F.LDR_STATUS_STATE, 0, 7)]
      trigger 0 s2) s

/-- PLAN_TIMEOUT (R424): RUN is entered without a plan; the synthesis goes on. -/
def planTimeout (s : State) : State := inStart 7 (fun s => enterRun (s.setFld F.LDR_STATUS_PLAN_TIMEOUT 0 1)) s

end Sys2Proof.Machine
end

