-- ==== Sys2Proof/Machine/Rows.lean ====
section
/-! DEFINITION. What the rows of the command table share: which parts work in which device state, and how a requester's access to a register
reaches the device (00_scope.md R10, R11; 15_faults.md R386; 17_startup_image.md R420, R441; 18_host_interface.md R449; 19_register_map.md R475). -/

namespace Sys2Proof.Machine

/-! ### What works when -/

/-- A part that works in every state but RESET_HELD (R420). -/
def powered (act : State → State) (s : State) : State := if s.ldr.held then s else act s

/-- A part whose clock stops in the Terminal state (R386). -/
def clocked (act : State → State) (s : State) : State := if s.ldr.held = true ∨ s.terminal = true then s else act s

/-- The data plane and the management engine, which stand still in SAFE too (R441). -/
def engine (act : State → State) (s : State) : State := if s.ldr.held = true ∨ s.terminal = true ∨ s.safe = true then s else act s

/-! ### Register accesses -/

/-- The register has an element of that index. -/
def regHas (r : Reg) (i : Nat) : Bool := (regInfo r).places.any (fun p => decide (p.idx0 ≤ i) && decide (i < p.idx0 + p.size))

/-- The requester's part of the map holds the register offset: PF1 sees the lowest 8 MiB, and 8 MiB more through PF1_WIN (R449). -/
def reachable (q : Requester) (o : Nat) (s : State) : Bool :=
  match q with
  | .pf1 => decide (o < 0x800000) || o / 0x800000 == s.fld F.PF1_WIN 0
  | _ => true

/-- The access of a requester comes to the device. -/
def arrives (q : Requester) (r : Reg) (i : Nat) (s : State) : Bool := regHas r i && busUp q s && reachable q (regOffset r i) s

/-- A write of a requester comes to the register itself: it is not discarded on its way. -/
def lands (q : Requester) (r : Reg) (i : Nat) (s : State) : Bool :=
  let o := regOffset r i
  arrives q r i s && !s.terminal && !beyondReach o s && !safeHides q o s && (decide (blockOf o < 13) || s.dieUp (blockOf o - 13)) &&
    !joinedHidden o r s

/-- A write of register `r[i]` of a block of the hub by a requester, with the effect `act`. -/
def writeRow (q : Requester) (r : Reg) (i : Nat) (act : State → State) (s : State) : State :=
  if lands q r i s then act s else if busUp q s then s else unanswered q s

/-- A write of the word `w` to register `r[i]` of a port die, with the effect `act`; across a link that retrains it waits (07 R171). -/
def pdRow (q : Requester) (r : Reg) (i w : Nat) (act : State → State) (s : State) : State :=
  if lands q r i s = false then (if busUp q s then s else unanswered q s)
  else if linkWaits (regOffset r i) s then sidePut { req := q, off := regOffset r i, word := some w } s
  else act s

/-- A read of register `r[i]` by a requester; across a link that retrains it waits. -/
def readRow (q : Requester) (r : Reg) (i : Nat) (s : State) : State :=
  if arrives q r i s = false then (if busUp q s then s else unanswered q s)
  else if linkWaits (regOffset r i) s then sidePut { req := q, off := regOffset r i } s
  else readAt q (regOffset r i) s

/-- A write of the command register of window `j` of STR. -/
def windowRow (q : Requester) (r : Reg) (j : Nat) (act : State → State) (s : State) : State :=
  if j < 2 then writeRow q r j act s else s

/-- A write of the word `w` to the command register of window `j` of die `d`. -/
def pdWindow (q : Requester) (r : Reg) (d j w : Nat) (act : State → State) (s : State) : State :=
  if j < 2 then pdRow q r (d * 2 + j) w act s else s

/-- A write of `n` bytes: one of another size than a word is discarded (R7). -/
def sizedWrite (q : Requester) (n o w : Nat) (s : State) : State := if n = 4 then regWrite q o w s else if busUp q s then s else unanswered q s

/-- A read of `n` bytes: one of another size than a word returns 0 and touches no register (R7). -/
def sizedRead (q : Requester) (n o : Nat) (s : State) : State :=
  if n = 4 then regRead q o s else if busUp q s then setOut q 0 s else unanswered q s

/-- A waiting access is made. -/
def sideAct (a : SideAccess) (s : State) : State :=
  match a.word with
  | some w => writeAt a.req a.off w s
  | none => if a.req = .smbus then smbusFetch a.off s else readAt a.req a.off s

/-- The waiting access is one to a register of die `d`. -/
def SideAccess.toDie (d : Nat) (a : SideAccess) : Bool := blockOf a.off == 13 + d

/-- RETRAIN_END (07 R171): the accesses that waited for the link are made, the oldest first. -/
def retrainEnd (d : Nat) (ok : Bool) (s : State) : State :=
  if tget false s.dp.retraining d = false ∨ tget false s.dp.linkDead d = true then s
  else
    let s1 := linkRetrained d ok s
    (s.dp.sideWait.filter (SideAccess.toDie d)).foldl (fun s a => sideAct a s)
      { s1 with dp := { s1.dp with sideWait := s1.dp.sideWait.filter (fun a => !SideAccess.toDie d a) } }

/-- A write of GCL_CTRL of port `p` with INIT_GATES: a change request, or the cancel of one (08 R207). -/
def gclCommand (q : Requester) (p gates : Nat) (cancel : Bool) (s : State) : State :=
  gated q (regOffset .GCL_CTRL p) (fun s =>
    let s1 := s.setFld F.GCL_CTRL_INIT_GATES p gates
    gclCtrl p cancel (!cancel) (if cancel then s1 else noteForeign p s1)) s

/-- APPLY_INSTANT (09 R246): when a step takes effect, every held fault event is committed at once (15 R387). -/
def applyReached (s : State) : State :=
  let s1 := applyInstantReached s
  if s.time.stepPend.isSome = true ∧ s1.time.stepPend.isNone = true then commitAll s1 else s1

/-- A write that the thread posted before to the same block stands in its core's queue (01 R27, 13 R343). -/
def writeBefore (t o : Nat) (s : State) : Bool :=
  (tget [] s.me.devw (t / 8)).any (fun e => e.1 == t && blockOf e.2.1 == blockOf o)

/-- DEVR_RETIRE (13 R342, R343): the read is made in the thread's view, and its data returns; not before the thread's earlier writes to the same
block have taken effect, nor across a link that retrains. -/
def devrRetire (t : Nat) (i : Issue) (s : State) : State :=
  match tget none s.me.devr t with
  | none => s
  | some (_, o) =>
    if writeBefore t o s = true ∨ linkWaits o s = true then s
    else
      let s1 := regRead (.thread t) o s
      devrDone t (outOf (.thread t) s1) i s1

/-- DEVW_TAKE_EFFECT (13 R343): the oldest posted write of core `c` takes effect in its block, not across a link that retrains. -/
def devwTake (c : Nat) (s : State) : State :=
  match tget [] s.me.devw c with
  | [] => s
  | (t, o, v) :: rest =>
    if linkWaits o s then s else regWrite (.thread t) o v (s.withMe { s.me with devw := tset [] s.me.devw c rest })

/-- A cycle in which no command waits: the clock ticks (01 R28), unless it stands still. -/
def idle (s : State) : State := clocked tick s

end Sys2Proof.Machine
end

