-- ==== Sys2Proof/Machine/ExecAccess.lean ====
section
/-! DEFINITION. Register accesses and the epoch (00_scope.md R7 to R14; 01_architecture.md R28; 19_register_map.md R474 to R482). -/

namespace Sys2Proof.Machine

/-- REGISTER_WRITE (R11, R7): A write of `n` bytes to a register that has no row of its own takes effect under its access code and view, or is
discarded or ignored. -/
def execRegisterWrite (q : Requester) (o : Access) (v : Nat) (s : State) : Host.Outcome State Fault Refusal :=
  .next (sizedWrite q o.size o.off v s)

/-- COUNTER_LOW_WORD_READ (R14): A read of the low word of a 64-bit counter returns it and latches the high word for the requester. -/
def execCounterLowWordRead (q : Requester) (o : Access) (s : State) : Host.Outcome State Fault Refusal :=
  .next (sizedRead q o.size o.off s)

/-- RC_FIELD_READ (R12): A privileged read of an RC field returns it and clears it; an observer read does not clear it. -/
def execRcFieldRead (q : Requester) (o : Access) (s : State) : Host.Outcome State Fault Refusal :=
  .next (sizedRead q o.size o.off s)

/-- PRIV_VIOL_LAST_READ (R482): A read of PRIV_VIOL_LAST latches PRIV_VIOL_ADDR for the requester. -/
def execPrivViolLastRead (q : Requester) (s : State) : Host.Outcome State Fault Refusal :=
  .next (readRow q .PRIV_VIOL_LAST 0 s)

/-- EPOCH_BOUNDARY (R28): GLB.CYCLE_COUNT reaches a multiple of 1,000,000, and GLB.EPOCH_COUNT advances. -/
def execEpochBoundary (delays : List (Nat × Nat)) (s : State) : Host.Outcome State Fault Refusal :=
  .next (clocked (epochBoundary delays) s)

end Sys2Proof.Machine
end

