-- ==== Sys2Proof/Machine/ExecDebug.lean ====
section
/-! DEFINITION. The commands of SMBus, JTAG and the fuses (19_register_map.md R475, R476, R483, R484; 20_electrical_package.md R494). -/

namespace Sys2Proof.Machine

/-- SMBUS_READ_START (R476): SMBus command 0x10 starts a register read. -/
def execSmbusReadStart (good : Bool) (o : Nat) (s : State) : Host.Outcome State Fault Refusal :=
  .next (smbusReadStart good o s)

/-- SMBUS_READ_READY (R476): The data of an SMBus read is ready. -/
def execSmbusReadReady (s : State) : Host.Outcome State Fault Refusal :=
  .next (smbusReadReady s)

/-- SMBUS_BLOCK_READ (R476): SMBus command 0x11 returns the status and the value. -/
def execSmbusBlockRead (s : State) : Host.Outcome State Fault Refusal :=
  .next (smbusBlockRead s)

/-- SMBUS_WRITE (R476): SMBus command 0x12 makes a write in the observer view. -/
def execSmbusWrite (good : Bool) (o v : Nat) (s : State) : Host.Outcome State Fault Refusal :=
  .next (smbusWrite good o v s)

/-- SMBUS_ALERT_RESPONSE (R476): The target answers the Alert Response Address with 0x5C. -/
def execSmbusAlertResponse (s : State) : Host.Outcome State Fault Refusal :=
  .next (smbusAlert s)

/-- JTAG_REGISTER_ACCESS (R475): The debug TAP makes a register access in its view. -/
def execJtagRegisterAccess (o : Nat) (data : Option Nat) (s : State) : Host.Outcome State Fault Refusal :=
  .next (jtagAccess o data s)

/-- JTAG_RESPONSE_SUBMIT (R483): A write of JTAG_RESPONSE word 3 submits an unlock attempt. -/
def execJtagResponseSubmit (q : Requester) (v : Nat) (s : State) : Host.Outcome State Fault Refusal :=
  .next (writeRow q .JTAG_RESPONSE 3 (jtagResponse q 3 v) s)

/-- JTAG_UNLOCK_RESULT (R483): The response is compared, and JTAG is unlocked or FAILS increments. -/
def execJtagUnlockResult (s : State) : Host.Outcome State Fault Refusal :=
  .next (powered jtagUnlockResult s)

/-- OTP_READ (R484): OTP_CMD READ reads a fuse word. -/
def execOtpRead (q : Requester) (key : Nat) (s : State) : Host.Outcome State Fault Refusal :=
  .next (writeRow q .OTP_CMD 0 (otpRead q key) s)

/-- OTP_PROGRAM (R484): OTP_CMD PROGRAM writes a blank fuse word and verifies it. -/
def execOtpProgram (q : Requester) (key readBack : Nat) (s : State) : Host.Outcome State Fault Refusal :=
  .next (writeRow q .OTP_CMD 0 (otpProgram q key readBack) s)

/-- OTP_COMMAND_END (R484): An OTP command completes, and RESULT is set. -/
def execOtpCommandEnd (s : State) : Host.Outcome State Fault Refusal :=
  .next (powered otpFinish s)

/-- BOUNDARY_SCAN_INSTRUCTION (R494): An IEEE 1149.1 or 1149.6 instruction overrides the pin states it names. -/
def execBoundaryScanInstruction (pins : List (Pin × Bool)) (s : State) : Host.Outcome State Fault Refusal :=
  .next (boundaryScan pins s)

/-- TRST_N_ASSERT (R494): TRST_N low ends a pin-controlling TAP instruction. -/
def execTrstNAssert (s : State) : Host.Outcome State Fault Refusal :=
  .next (trstAssert s)

end Sys2Proof.Machine
end

