-- ==== Sys2Proof/Machine/ExecDramSteps.lean ====
section
/-! DEFINITION. The commands of the DRAM controllers (16_dram.md). -/

namespace Sys2Proof.Machine

/-- DRAM_REQUEST_ISSUE (R406): A channel issues a request under its reorder mode. -/
def execDramRequestIssue (c : Nat) (ecc : Ecc) (parity : Bool) (s : State) : Host.Outcome State Fault Refusal :=
  .next (clocked (requestIssue c ecc parity) s)

/-- PATROL_READ (R408): Every 2 µs the patrol scrub reads one burst of each channel. -/
def execPatrolRead (c : Nat) (ecc : Ecc) (s : State) : Host.Outcome State Fault Refusal :=
  .next (clocked (patrolRead c ecc) s)

/-- STACK_TEMP_READ (R409): Every 1 µs the stack temperature is read and filtered. -/
def execStackTempRead (m : Nat) (raw : Int) (s : State) : Host.Outcome State Fault Refusal :=
  .next (clocked (stackTempRead m raw) s)

/-- REFRESH_DUE (R410): A refresh falls due on a pseudo-channel, and it is issued or postponed. -/
def execRefreshDue (c pc issued : Nat) (s : State) : Host.Outcome State Fault Refusal :=
  .next (clocked (refreshDue c pc issued) s)

/-- CATCHUP_END (R411): A refresh brings the debt to 4 or less, catch-up ends and requests issue. -/
def execCatchupEnd (c : Nat) (s : State) : Host.Outcome State Fault Refusal :=
  .next (clocked (catchupEnd c) s)

/-- NEIGHBOUR_REFRESH (R412): A row at RD_THRESHOLD has its neighbours refreshed. -/
def execNeighbourRefresh (c pc bank row : Nat) (s : State) : Host.Outcome State Fault Refusal :=
  .next (clocked (neighbourRefresh c pc bank row) s)

/-- RD_WINDOW_END (R412): At the end of a refresh window the activate tables and FLOOR clear. -/
def execRdWindowEnd (c : Nat) (s : State) : Host.Outcome State Fault Refusal :=
  .next (clocked (rdWindowEnd c) s)

/-- CHANNEL_RETRAIN (R415): CH_CTRL.RETRAIN, or a reaction, retrains a DRAM channel. -/
def execChannelRetrain (q : Requester) (c : Nat) (s : State) : Host.Outcome State Fault Refusal :=
  .next (writeRow q .CH_CTRL c (channelRetrain q c) s)

/-- CHANNEL_RETRAIN_END (R415): A DRAM retrain and its verify end, and the channel returns to READY or becomes FAILED. -/
def execChannelRetrainEnd (c : Nat) (ok : Bool) (s : State) : Host.Outcome State Fault Refusal :=
  .next (clocked (channelRetrainEnd c ok) s)

/-- CHANNEL_PHY_LOCK_LOSS (R415): The PHY of an HBM3 channel loses lock in RUN, and MEM_CH_FAIL is committed for that channel. -/
def execChannelPhyLockLoss (c : Nat) (s : State) : Host.Outcome State Fault Refusal :=
  .next (clocked (channelPhyLoss c) s)

end Sys2Proof.Machine
end

