-- ==== Sys2Proof/Machine/ExecFaultUnit.lean ====
section
/-! DEFINITION. The commands of the fault unit and of the reset control (15_faults.md; 19_register_map.md R480, R481). -/

namespace Sys2Proof.Machine

/-- FAULT_COMMIT (R387): The working clock passes an event's stamp by 32 ns, and the fault unit records it and takes its reactions. -/
def execFaultCommit (s : State) : Host.Outcome State Fault Refusal :=
  .next ((fun s => settleTerminal (faultCommit s)) s)

/-- TEMP_SENSOR_READ (R386): Every 10 µs the junction sensors are read for TJ_WARNING and TJ_CRITICAL. -/
def execTempSensorRead (i : Nat) (deg : Int) (s : State) : Host.Outcome State Fault Refusal :=
  .next (powered (tempSensorRead i deg) s)

/-- FIRST_CLEAR (R389): FLT.CTRL FIRST_CLEAR clears the first-fault record. -/
def execFirstClear (q : Requester) (s : State) : Host.Outcome State Fault Refusal :=
  .next (writeRow q .FLT_CTRL 0 (firstClear q) s)

/-- FAULT_N_RELEASE (R385): FLT.CTRL FAULT_N_RELEASE releases FAULT_N unless the part is Terminal. -/
def execFaultNRelease (q : Requester) (s : State) : Host.Outcome State Fault Refusal :=
  .next (writeRow q .FLT_CTRL 0 (faultNRelease q) s)

/-- SRC_REACT_WRITE (R383): A write of SRC_REACT or ESC_REACT takes effect, or is discarded for a forbidden reaction. -/
def execSrcReactWrite (q : Requester) (esc : Bool) (n w : Nat) (s : State) : Host.Outcome State Fault Refusal :=
  .next (writeRow q (if esc then .ESC_REACT else .SRC_REACT) n (srcReactWrite q esc n w) s)

/-- CONSEQ_WINDOW_CLOSE (R393): 2 µs after a unit's reset ends, its consequential window closes. -/
def execConseqWindowClose (u : Nat) (s : State) : Host.Outcome State Fault Refusal :=
  .next (powered (conseqWindowClose u) s)

/-- DIE_HOLD_SET (R480): RESET_CTRL DIE_HOLD bit set puts a port die into die reset. -/
def execDieHoldSet (q : Requester) (key d : Nat) (s : State) : Host.Outcome State Fault Refusal :=
  .next (writeRow q .RESET_CTRL 0 (dieHoldWrite q key d true) s)

/-- DIE_HOLD_CLEAR (R480): RESET_CTRL DIE_HOLD bit cleared ends the die reset. -/
def execDieHoldClear (q : Requester) (key d : Nat) (s : State) : Host.Outcome State Fault Refusal :=
  .next (writeRow q .RESET_CTRL 0 (dieHoldWrite q key d false) s)

/-- DIE_RESET_END (R140): A die reset ends, and the static entries are rebuilt from the shadows. -/
def execDieResetEnd (d : Nat) (s : State) : Host.Outcome State Fault Refusal :=
  .next (clocked (dieResetEnd d) s)

/-- DIE_READMIT (R140): The rebuild verify of a die passes, EM_INFO.GEN increments and the die carries traffic. -/
def execDieReadmit (d : Nat) (ok : Bool) (s : State) : Host.Outcome State Fault Refusal :=
  .next (clocked (dieReadmit d ok) s)

/-- ME_RESET (R480): RESET_CTRL ME_RESET requests an ME block reset. -/
def execMeReset (q : Requester) (key : Nat) (s : State) : Host.Outcome State Fault Refusal :=
  .next (writeRow q .RESET_CTRL 0 (meReset q key) s)

/-- HIF_RESET (R480): RESET_CTRL HIF_RESET resets the PCIe endpoint. -/
def execHifReset (q : Requester) (key : Nat) (s : State) : Host.Outcome State Fault Refusal :=
  .next (writeRow q .RESET_CTRL 0 (hifReset q key) s)

/-- HIF_RESET_END (R393): The PCIe link returns to L0 after an endpoint reset. -/
def execHifResetEnd (rate width : Nat) (s : State) : Host.Outcome State Fault Refusal :=
  .next (powered (hifResetEnd rate width) s)

end Sys2Proof.Machine
end

