-- ==== Sys2Proof/Machine/ExecHost.lean ====
section
/-! DEFINITION. The commands of the host interface (18_host_interface.md). -/

namespace Sys2Proof.Machine

/-- PCIE_LINK_UP (R446): The PCIe link reaches L0, or changes rate or width. -/
def execPcieLinkUp (rate width : Nat) (s : State) : Host.Outcome State Fault Refusal :=
  .next (powered (pcieLinkUp rate width) s)

/-- PCIE_LINK_DOWN (R466): A hot reset or a link-down acts as an FLR of both functions and commits HIF_LINK_DOWN. -/
def execPcieLinkDown (s : State) : Host.Outcome State Fault Refusal :=
  .next (powered pcieLinkDown s)

/-- CONFIGURATION_REQUEST (R426): A configuration request is answered, or retried with CRS before LOAD or SAFE. -/
def execConfigurationRequest (f : Nat) (r : CfgReq) (s : State) : Host.Outcome State Fault Refusal :=
  .next (powered (configurationRequest f r) s)

/-- BAR2_READ (R451): A PF0 BAR2 read reaches HBM3, poisoned on an uncorrectable word. -/
def execBar2Read (o n : Nat) (ue : Bool) (s : State) : Host.Outcome State Fault Refusal :=
  .next (powered (bar2Read o n ue) s)

/-- BAR2_WRITE (R451): A PF0 BAR2 write reaches HBM3. -/
def execBar2Write (o : Nat) (bs : List Byte) (s : State) : Host.Outcome State Fault Refusal :=
  .next (powered (bar2Write o bs) s)

/-- PF1_WIN_WRITE (R449): A write of PF1_WIN changes the PF1 window of the map. -/
def execPf1WinWrite (q : Requester) (v : Nat) (s : State) : Host.Outcome State Fault Refusal :=
  .next (writeRow q .PF1_WIN 0 (pf1WinWrite q v) s)

/-- RECEIVE_DMA_COMPLETE (R456): A host-bound copy's data and descriptors are written back with DONE. -/
def execReceiveDmaComplete (r : Nat) (descs : List (List Byte)) (s : State) : Host.Outcome State Fault Refusal :=
  .next (engine (receiveDmaComplete r descs) s)

/-- TRANSMIT_FRAME_FETCH (R457): The device serves a transmit ring, reads a frame and makes its copies. -/
def execTransmitFrameFetch (f : Nat) (descs : List (List Byte)) (data : List Byte) (ue : Option Nat) (s : State) : Host.Outcome State Fault Refusal :=
  .next (engine (transmitFrameFetch f descs data ue) s)

/-- TRANSMIT_WRITEBACK (R457): The descriptors of a transmitted frame are written back with STATUS. -/
def execTransmitWriteback (r : Nat) (s : State) : Host.Outcome State Fault Refusal :=
  .next (engine (transmitWriteback r) s)

/-- RING_TAIL_WRITE (R458): A write of TAIL posts or frees descriptors, or is discarded with BAD_TAIL. -/
def execRingTailWrite (q : Requester) (r v : Nat) (s : State) : Host.Outcome State Fault Refusal :=
  .next (writeRow q .RING_TAIL r (ringTailWrite q r v) s)

/-- RING_ENABLE (R459): A write of EN = 1 sets HEAD to TAIL and clears STOPPED. -/
def execRingEnable (q : Requester) (r w : Nat) (s : State) : Host.Outcome State Fault Refusal :=
  .next (writeRow q .RING_CFG r (ringEnable q r w) s)

/-- RING_DISABLE (R459): A write of EN = 0 stops new use of the ring. -/
def execRingDisable (q : Requester) (r w : Nat) (s : State) : Host.Outcome State Fault Refusal :=
  .next (writeRow q .RING_CFG r (ringDisable q r w) s)

/-- RING_STOPPED (R459): DMA writes already begun complete, and STOPPED sets. -/
def execRingStopped (r : Nat) (s : State) : Host.Outcome State Fault Refusal :=
  .next (powered (ringStopped r) s)

/-- MODERATION_TIMER_EXPIRY (R462): A ring's moderation timer expires with completions pending, and its vector is signalled. -/
def execModerationTimerExpiry (r : Nat) (s : State) : Host.Outcome State Fault Refusal :=
  .next (powered (moderationExpiry r) s)

/-- MSIX_UNMASK (R463): Unmasking a vector sends its pending message. -/
def execMsixUnmask (f v lo hi data : Nat) (mask : Bool) (s : State) : Host.Outcome State Fault Refusal :=
  .next (powered (msixUnmask f v lo hi data mask) s)

/-- L1_ENTRY (R464): After 16 µs with no TLP to send, the device requests L1. -/
def execL1Entry (s : State) : Host.Outcome State Fault Refusal :=
  .next (powered l1Entry s)

/-- L1_EXIT (R464): The link returns to L0, and waiting TLPs are sent. -/
def execL1Exit (s : State) : Host.Outcome State Fault Refusal :=
  .next (powered l1Exit s)

/-- D3HOT_ENTRY (R465): A function enters D3hot and stops DMA. -/
def execD3hotEntry (f : Nat) (pmeEn clear : Bool) (s : State) : Host.Outcome State Fault Refusal :=
  .next (powered (d3hotEntry f pmeEn clear) s)

/-- D0_ENTRY (R465): A function returns to D0, and its pending vectors are sent. -/
def execD0Entry (f : Nat) (pmeEn clear : Bool) (s : State) : Host.Outcome State Fault Refusal :=
  .next (powered (d0Entry f pmeEn clear) s)

/-- PME_REPEAT (R465): PM_PME is repeated every 100 ms while PME_Status stays 1. -/
def execPmeRepeat (f : Nat) (s : State) : Host.Outcome State Fault Refusal :=
  .next (powered (pmeRepeat f) s)

/-- FUNCTION_LEVEL_RESET (R466): An FLR clears the rings of a function and resets its state. -/
def execFunctionLevelReset (f : Nat) (s : State) : Host.Outcome State Fault Refusal :=
  .next (powered (functionLevelReset f) s)

/-- FLR_DONE (R466): The FLR completes, and source 69 is raised. -/
def execFlrDone (f : Nat) (s : State) : Host.Outcome State Fault Refusal :=
  .next (powered (flrDone f) s)

/-- MBX_SUBMIT (R467): MBX_CMD SUBMIT queues a change request, or refuses a bad length at once. -/
def execMbxSubmit (q : Requester) (len : Nat) (s : State) : Host.Outcome State Fault Refusal :=
  .next (writeRow q .MBX_CMD 0 (mbxSubmit q len) s)

/-- MBX_REQUEST_TAKE (R469): Thread 2 takes a request, checks every entry, applies it and replies. -/
def execMbxRequestTake (channel : Bool) (s : State) : Host.Outcome State Fault Refusal :=
  .next (engine (mbxRequestTake channel) s)

/-- COMPLETION_TIMEOUT (R471): A device read receives no completion in time, and the ring stops with TIMEOUT. -/
def execCompletionTimeout (r : Nat) (s : State) : Host.Outcome State Fault Refusal :=
  .next (powered (completionTimeout r) s)

/-- COMPLETION_STATUS_ERROR (R471): A UR or CA completion for a device read stops the ring with CPL_STATUS. -/
def execCompletionStatusError (r : Nat) (s : State) : Host.Outcome State Fault Refusal :=
  .next (powered (completionStatusError r) s)

/-- TLP_ERROR (R471): A poisoned, ECRC-failing or malformed TLP is logged and handled as Table 18.7 maps it. -/
def execTlpError (f : Nat) (e : TlpErr) (s : State) : Host.Outcome State Fault Refusal :=
  .next (powered (tlpError f e) s)

end Sys2Proof.Machine
end

