-- ==== Sys2Proof/Machine/ExecHub.lean ====
section
/-! DEFINITION. The commands of the hub: replication, admission, junctions, the scheduler and the egress side (01_architecture.md; 06 to 08). -/

namespace Sys2Proof.Machine

/-- HUB_INPUT_STAGE (R33): The decoded header of a frame reaches the hub, which polices it, stamps deadlines, makes copies, mirrors and admits each
copy. -/
def execHubInputStage (f : Nat) (scUe : Bool) (replUe : Option Nat) (ctxUe : Bool) (s : State) : Host.Outcome State Fault Refusal :=
  .next (engine (hubInput f scUe replUe ctxUe) s)

/-- MC_HOLD_RETRY (R148): The hub retries a held copy, and it is enqueued when admission succeeds. -/
def execMcHoldRetry (q : Nat) (s : State) : Host.Outcome State Fault Refusal :=
  .next (engine (holdRetry q) s)

/-- MC_HOLD_EXPIRY (R148): LIMIT has passed since the first held copy, and the remaining held copies are refused. -/
def execMcHoldExpiry (f : Nat) (s : State) : Host.Outcome State Fault Refusal :=
  .next (engine (holdExpiry f) s)

/-- LAST_CELL_WRITTEN (R181): The last cell of a frame is written, and provisional charges are lowered to their true values. -/
def execLastCellWritten (f : Nat) (s : State) : Host.Outcome State Fault Refusal :=
  .next (engine (lastCell f) s)

/-- FRAME_ELIGIBLE (R33): 60 cc after the buffer write or the last cell, the frame becomes eligible for dequeue. -/
def execFrameEligible (f : Nat) (s : State) : Host.Outcome State Fault Refusal :=
  .next (engine (frameEligible f) s)

/-- CONTEXT_INSTALL (R177): Once byte 63 of an installing frame arrives, the receiver stores the context and sends ACK. -/
def execContextInstall (j x : Nat) (s : State) : Host.Outcome State Fault Refusal :=
  .next (engine (contextInstall j x) s)

/-- CONTEXT_ACK (R177): An ACK with the current GEN makes a pending sending context VALID. -/
def execContextAck (d j i gen : Nat) (s : State) : Host.Outcome State Fault Refusal :=
  .next (engine (ctxAck d j i gen) s)

/-- CONTEXT_INVAL (R177): An INVAL received by the sender sets the context INVALID. -/
def execContextInval (d j i : Nat) (s : State) : Host.Outcome State Fault Refusal :=
  .next (engine (ctxInval d j i) s)

/-- FLIT_CRC_ERROR (R171): A flit arrives with a CRC error, it is replayed, and the replay count increments. -/
def execFlitCrcError (d j : Nat) (bs : List Byte) (s : State) : Host.Outcome State Fault Refusal :=
  .next (engine (flitCrcError d j bs) s)

/-- RETRAIN_END (R171): Ralhafold link retraining ends, with the link trained or permanently failed. -/
def execRetrainEnd (d : Nat) (ok : Bool) (s : State) : Host.Outcome State Fault Refusal :=
  .next (clocked (retrainEnd d ok) s)

/-- Q_AVG_UPDATE (R185): Every 1,024 cc each queue's average depth advances. -/
def execQAvgUpdate (s : State) : Host.Outcome State Fault Refusal :=
  .next (engine qAvgUpdate s)

/-- BUF_CONFIG_WRITE (R192): A write of admission or flow-control settings takes effect, or is discarded when SHARED_SIZE would fall below 65,536. -/
def execBufConfigWrite (q : Requester) (o v : Nat) (s : State) : Host.Outcome State Fault Refusal :=
  .next (regWrite q o v s)

/-- SCHEDULER_SELECT (R197): In each hub core cycle the scheduler may select one copy per port from its candidate queues. -/
def execSchedulerSelect (p : Nat) (ecc : Ecc) (cell bufLen : Nat) (s : State) : Host.Outcome State Fault Refusal :=
  .next (engine (schedulerSelect p ecc cell bufLen) s)

/-- EGRESS_COPY_ARRIVAL (R32): A copy reaches the egress port die, is edited, and is handed to the MAC for transmission. -/
def execEgressCopyArrival (id : Nat) (ue : Option Nat) (ctxUe : Bool) (s : State) : Host.Outcome State Fault Refusal :=
  .next (engine (egressArrival id ue ctxUe) s)

/-- TX_FRAME_END (R60): Transmission of a frame completes, and the transmit counters are updated. -/
def execTxFrameEnd (id : Nat) (s : State) : Host.Outcome State Fault Refusal :=
  .next (engine (txEnd id) s)

end Sys2Proof.Machine
end

