-- ==== Sys2Proof/Machine/ExecInsn.lean ====
section
/-! DEFINITION. The instructions of the management engine, with the commands that complete them (13_me_instruction_set.md). -/

namespace Sys2Proof.Machine

/-- ALU (R337): Instruction ALU computes rd from ra and rb under FUNC. -/
def execAlu (t : Nat) (i : Issue) (rd ra rb func : Nat) (s : State) : Host.Outcome State Fault Refusal :=
  .next (powered (runInsn t i (.alu rd ra rb func)) s)

/-- ALU_IMMEDIATE (R336): Instructions ADDI, ANDI, ORI and XORI combine ra with imm16. -/
def execAluImmediate (t : Nat) (i : Issue) (k rd ra imm : Nat) (s : State) : Host.Outcome State Fault Refusal :=
  .next (powered (runInsn t i (.aluImm k rd ra imm)) s)

/-- SHIFT_IMMEDIATE (R336): Instructions SLLI, SRLI and SRAI shift ra by an immediate. -/
def execShiftImmediate (t : Nat) (i : Issue) (k rd ra imm : Nat) (s : State) : Host.Outcome State Fault Refusal :=
  .next (powered (runInsn t i (.shiftImm k rd ra imm)) s)

/-- LUI (R336): Instruction LUI loads a shifted immediate. -/
def execLui (t : Nat) (i : Issue) (rd ra imm : Nat) (s : State) : Host.Outcome State Fault Refusal :=
  .next (powered (runInsn t i (.lui rd ra imm)) s)

/-- ORSH (R336): Instruction ORSH shifts ra by 16 and ORs in imm16. -/
def execOrsh (t : Nat) (i : Issue) (rd ra imm : Nat) (s : State) : Host.Outcome State Fault Refusal :=
  .next (powered (runInsn t i (.orsh rd ra imm)) s)

/-- SLTI (R336): Instructions SLTI and SLTIU compare ra with an immediate. -/
def execSlti (t : Nat) (i : Issue) (k rd ra imm : Nat) (s : State) : Host.Outcome State Fault Refusal :=
  .next (powered (runInsn t i (.slti k rd ra imm)) s)

/-- LOAD (R338): A load instruction reads memory through the thread's windows. -/
def execLoad (t : Nat) (i : Issue) (k rd ra imm : Nat) (s : State) : Host.Outcome State Fault Refusal :=
  .next (powered (runInsn t i (.load k rd ra imm)) s)

/-- STORE (R338): A store instruction writes memory through the thread's windows. -/
def execStore (t : Nat) (i : Issue) (k rs ra imm : Nat) (s : State) : Host.Outcome State Fault Refusal :=
  .next (powered (runInsn t i (.store k rs ra imm)) s)

/-- BRANCH (R341): A conditional branch compares ra and rb and may change the PC. -/
def execBranch (t : Nat) (i : Issue) (k ra rb off : Nat) (s : State) : Host.Outcome State Fault Refusal :=
  .next (powered (runInsn t i (.branch k ra rb off)) s)

/-- JMP (R341): Instruction JMP jumps relative to its own address. -/
def execJmp (t : Nat) (i : Issue) (off : Nat) (s : State) : Host.Outcome State Fault Refusal :=
  .next (powered (runInsn t i (.jmp off)) s)

/-- CALL (R341): Instruction CALL jumps and writes the return address to g31. -/
def execCall (t : Nat) (i : Issue) (off : Nat) (s : State) : Host.Outcome State Fault Refusal :=
  .next (powered (runInsn t i (.call off)) s)

/-- JR (R341): Instruction JR jumps to a register target and writes the return address. -/
def execJr (t : Nat) (i : Issue) (rd ra imm : Nat) (s : State) : Host.Outcome State Fault Refusal :=
  .next (powered (runInsn t i (.jr rd ra imm)) s)

/-- AMO_SWAP (R340): AMO SWAP indivisibly exchanges a memory word with rb. -/
def execAmoSwap (t : Nat) (i : Issue) (rd ra rb : Nat) (s : State) : Host.Outcome State Fault Refusal :=
  .next (powered (runInsn t i (.amo 0 rd ra rb)) s)

/-- AMO_CAS (R340): AMO CAS writes rb when the old value equals rd. -/
def execAmoCas (t : Nat) (i : Issue) (rd ra rb : Nat) (s : State) : Host.Outcome State Fault Refusal :=
  .next (powered (runInsn t i (.amo 1 rd ra rb)) s)

/-- AMO_FADD (R340): AMO FADD adds rb to a memory word. -/
def execAmoFadd (t : Nat) (i : Issue) (rd ra rb : Nat) (s : State) : Host.Outcome State Fault Refusal :=
  .next (powered (runInsn t i (.amo 2 rd ra rb)) s)

/-- AMO_FAND (R340): AMO FAND ANDs rb into a memory word. -/
def execAmoFand (t : Nat) (i : Issue) (rd ra rb : Nat) (s : State) : Host.Outcome State Fault Refusal :=
  .next (powered (runInsn t i (.amo 3 rd ra rb)) s)

/-- AMO_FOR (R340): AMO FOR ORs rb into a memory word. -/
def execAmoFor (t : Nat) (i : Issue) (rd ra rb : Nat) (s : State) : Host.Outcome State Fault Refusal :=
  .next (powered (runInsn t i (.amo 4 rd ra rb)) s)

/-- SEND (R315): Instruction SEND writes a staging word, and the closing SEND commits a message. -/
def execSend (t : Nat) (i : Issue) (rd rs : Nat) (close : Bool) (word ch : Nat) (s : State) : Host.Outcome State Fault Refusal :=
  .next (powered (runInsn t i (.send rd rs false close word ch)) s)

/-- RECV (R316): Instruction RECV reads a word of the oldest message, and the closing RECV frees it. -/
def execRecv (t : Nat) (i : Issue) (rd rs : Nat) (close : Bool) (word ch : Nat) (s : State) : Host.Outcome State Fault Refusal :=
  .next (powered (runInsn t i (.recv rd rs false close word ch)) s)

/-- POOL_RECV (R344): A RECV on the scratch pool draws one buffer. -/
def execPoolRecv (t : Nat) (i : Issue) (rd rs : Nat) (s : State) : Host.Outcome State Fault Refusal :=
  .next (powered (runInsn t i (.recv rd rs true true 0 0)) s)

/-- POOL_SEND (R344): A SEND on the scratch pool returns a held buffer. -/
def execPoolSend (t : Nat) (i : Issue) (rd rs : Nat) (s : State) : Host.Outcome State Fault Refusal :=
  .next (powered (runInsn t i (.send rd rs true true 0 0)) s)

/-- WFE (R307): Instruction WFE takes matching pending events or puts the thread in WAIT. -/
def execWfe (t : Nat) (i : Issue) (rd ra imm : Nat) (s : State) : Host.Outcome State Fault Refusal :=
  .next (powered (runInsn t i (.wfe rd ra imm)) s)

/-- WFE_WAKE (R307): A masked event becomes pending for a waiting thread, and its WFE completes. -/
def execWfeWake (t : Found Issue) (s : State) : Host.Outcome State Fault Refusal :=
  .next (powered (wfeWake t.n t.found) s)

/-- TIMER (R310): Instruction TIMER arms or stops the thread's one-shot timer. -/
def execTimer (t : Nat) (i : Issue) (rd ra imm : Nat) (s : State) : Host.Outcome State Fault Refusal :=
  .next (powered (runInsn t i (.timer rd ra imm)) s)

/-- THREAD_TIMER_EXPIRY (R310): A thread's timer expires and raises TIMER. -/
def execThreadTimerExpiry (t : Nat) (s : State) : Host.Outcome State Fault Refusal :=
  .next (engine (timerExpiry t) s)

/-- SAMPLE (R346): Instruction SAMPLE writes a selected 64-bit value untorn. -/
def execSample (t : Nat) (i : Issue) (rd ra imm : Nat) (s : State) : Host.Outcome State Fault Refusal :=
  .next (powered (runInsn t i (.sample rd ra imm)) s)

/-- DEVR (R342): Instruction DEVR starts a register read in the thread's view. -/
def execDevr (t : Nat) (i : Issue) (rd ra imm : Nat) (s : State) : Host.Outcome State Fault Refusal :=
  .next (powered (runInsn t i (.devr rd ra imm)) s)

/-- DEVR_RETIRE (R343): The register data of a DEVR returns to rd, and the instruction retires. -/
def execDevrRetire (t : Nat) (i : Issue) (s : State) : Host.Outcome State Fault Refusal :=
  .next (engine (devrRetire t i) s)

/-- DEVW (R343): Instruction DEVW posts a register write to the core's write queue, waiting while it is full. -/
def execDevw (t : Nat) (i : Issue) (rd ra imm : Nat) (s : State) : Host.Outcome State Fault Refusal :=
  .next (powered (runInsn t i (.devw rd ra imm)) s)

/-- DEVW_TAKE_EFFECT (R343): A posted DEVW leaves the queue and takes effect in its block. -/
def execDevwTakeEffect (c : Nat) (s : State) : Host.Outcome State Fault Refusal :=
  .next (engine (devwTake c) s)

/-- DEVSYNC (R343): Instruction DEVSYNC retires once every earlier DEVW of the thread has taken effect. -/
def execDevsync (t : Nat) (i : Issue) (s : State) : Host.Outcome State Fault Refusal :=
  .next (powered (runInsn t i .devsync) s)

end Sys2Proof.Machine
end

