-- ==== Sys2Proof/Machine/ExecInterrupts.lean ====
section
/-! DEFINITION. The commands of the interrupt controller (14_interrupts.md). -/

namespace Sys2Proof.Machine

/-- INTERRUPT_DELIVERY (R369): A pending source is delivered to the next enabled target, and that target's request is asserted. -/
def execInterruptDelivery (n : Nat) (s : State) : Host.Outcome State Fault Refusal :=
  .next (clocked (interruptDelivery n) s)

/-- CLAIM (R371): An owner's read of CLAIM_j returns the highest-priority delivered source and puts it in service. -/
def execClaim (q : Requester) (j : Nat) (s : State) : Host.Outcome State Fault Refusal :=
  .next (readRow q .CLAIM j s)

/-- COMPLETE (R372): A write of COMPLETE_j ends a source's service, and a level source is re-sampled. -/
def execComplete (q : Requester) (j n : Nat) (s : State) : Host.Outcome State Fault Refusal :=
  .next (writeRow q .COMPLETE j (completeWrite q j n) s)

/-- SRC_MASK_WRITE (R373): A write of MASK stops delivery after a window of 24 mc. -/
def execSrcMaskWrite (q : Requester) (n m : Nat) (s : State) : Host.Outcome State Fault Refusal :=
  .next (writeRow q .SRC_CFG n (srcMaskWrite q n m) s)

/-- SRC_ENABLE_WRITE (R374): A write of ENABLE may withdraw an unclaimed delivery and re-deliver the source. -/
def execSrcEnableWrite (q : Requester) (n e : Nat) (s : State) : Host.Outcome State Fault Refusal :=
  .next (writeRow q .SRC_CFG n (srcEnableWrite q n e) s)

/-- SW_RAISE (R377): A write of SW_RAISE makes source 384 pending. -/
def execSwRaise (q : Requester) (s : State) : Host.Outcome State Fault Refusal :=
  .next (writeRow q .SW_RAISE 0 (swRaise q) s)

end Sys2Proof.Machine
end

