-- ==== Sys2Proof/Machine/ExecLookup.lean ====
section
/-! DEFINITION. The commands of the ingress pipeline and of the far lookup (03_parsing_classification.md; 05_exact_match_learning.md R122 to R127). -/

namespace Sys2Proof.Machine

/-- PIPELINE_ENTRY (R31): The parse window of a frame is complete, and the frame enters the ingress pipeline up to classification done. -/
def execPipelineEntry (f : Nat) (win : List Byte) (len : Nat) (u : LookupUe) (x : ActUe) (s : State) : Host.Outcome State Fault Refusal :=
  .next (engine (pipelineEntry f win len u x) s)

/-- FAR_LOOKUP_ISSUE (R126): The hub accepts one pending far lookup every 5 cc, taking the dies in round-robin order, and reads the bucket line. -/
def execFarLookupIssue (s : State) : Host.Outcome State Fault Refusal :=
  .next (engine farIssue s)

/-- FAR_LOOKUP_RESULT (R126): The far result returns, classification done is taken, and the frame's hub input stage may begin. -/
def execFarLookupResult (f : Nat) (ecc : Ecc) (x : ActUe) (s : State) : Host.Outcome State Fault Refusal :=
  .next (engine (farResult f ecc x) s)

/-- FAR_LOOKUP_TIMEOUT (R127): A far lookup that has not returned at 900 ns is abandoned as a miss, and FAR_TIMEOUT is incremented. -/
def execFarLookupTimeout (f : Nat) (s : State) : Host.Outcome State Fault Refusal :=
  .next (engine (farTimeout f) s)

end Sys2Proof.Machine
end

