-- ==== Sys2Proof/Machine/ExecMicrocode.lean ====
section
/-! DEFINITION. The commands of the microcode stores, the performance counters and precise sampling (13_me_instruction_set.md R353 to R365). -/

namespace Sys2Proof.Machine

/-- UC_RELOAD (R355): UC_CMD RELOAD copies and verifies a core's two-level stores. -/
def execUcReload (q : Requester) (c : Nat) (s : State) : Host.Outcome State Fault Refusal :=
  .next (writeRow q .UC_CMD c (ucReload q c) s)

/-- UC_RELOAD_DONE (R355): Reload and verify end, and MODE returns to 0 or the result is VERIFY_FAIL. -/
def execUcReloadDone (c : Nat) (ok : Bool) (s : State) : Host.Outcome State Fault Refusal :=
  .next (clocked (ucReloadDone c ok) s)

/-- UC_SCRUB (R358): UC_CMD SCRUB starts a sweep of the microcode stores. -/
def execUcScrub (q : Requester) (c : Nat) (s : State) : Host.Outcome State Fault Refusal :=
  .next (writeRow q .UC_CMD c (ucScrub q c) s)

/-- UC_SCRUB_WORD (R358): Every 16 mc the scrub compares one word and rewrites it on mismatch. -/
def execUcScrubWord (c : Nat) (bad readBackOk : Bool) (s : State) : Host.Outcome State Fault Refusal :=
  .next (clocked (ucScrubWord c bad readBackOk) s)

/-- UC_SCRUB_DONE (R358): The scrub sweep ends, and source 37 is raised. -/
def execUcScrubDone (c : Nat) (s : State) : Host.Outcome State Fault Refusal :=
  .next (clocked (ucScrubDone c) s)

/-- UC_RD_ADDR_WRITE (R365): A write of UC_RD_ADDR makes the stored word readable in UC_RD_DATA after 16 mc. -/
def execUcRdAddrWrite (q : Requester) (c store a : Nat) (s : State) : Host.Outcome State Fault Refusal :=
  .next (writeRow q .UC_RD_ADDR c (ucRdAddrWrite q c store a) s)

/-- PMC_WRITE (R360): A privileged write sets part of a performance counter. -/
def execPmcWrite (q : Requester) (c n : Nat) (hi : Bool) (v : Nat) (s : State) : Host.Outcome State Fault Refusal :=
  .next (writeRow q (if hi then .PMC_HI else .PMC_LO) (c * 8 + n) (pmcWrite q c n hi v) s)

/-- PMC_OVERFLOW (R360): A performance counter wraps, sets its sticky bit and may raise source 39. -/
def execPmcOverflow (c n : Nat) (s : State) : Host.Outcome State Fault Refusal :=
  .next (clocked (pmcOverflow c n) s)

/-- SAMPLE_RECORD (R362): The retirement count reaches PERIOD, and the instruction is recorded in the sample buffer. -/
def execSampleRecord (c : Nat) (s : State) : Host.Outcome State Fault Refusal :=
  .next (clocked (sampleRecord c) s)

/-- SMP_CFG_WRITE (R362): A write of SMP_CFG with EN = 1 restarts the sampling count. -/
def execSmpCfgWrite (q : Requester) (c w : Nat) (s : State) : Host.Outcome State Fault Refusal :=
  .next (writeRow q .SMP_CFG c (smpCfgWrite q c w) s)

/-- SMP_TAIL_WRITE (R363): A write of SMP_TAIL frees sample records. -/
def execSmpTailWrite (q : Requester) (c v : Nat) (s : State) : Host.Outcome State Fault Refusal :=
  .next (writeRow q .SMP_TAIL c (smpTailWrite q c v) s)

end Sys2Proof.Machine
end

