-- ==== Sys2Proof/Machine/ExecPlans.lean ====
section
/-! DEFINITION. The commands of the Planner and of the telemetry export (10_planner.md; 11_telemetry.md R298). -/

namespace Sys2Proof.Machine

/-- SYNTHESIS_DONE (R270): A full synthesis completes, and its plan goes to commit or awaits approval. -/
def execSynthesisDone (s : State) : Host.Outcome State Fault Refusal :=
  .next (engine synthesisDone s)

/-- COMMIT_APPLY (R283): Once every changed port reports CHANGED, the Planner writes the apply phase and the PLAN_COMMIT record. -/
def execCommitApply (s : State) : Host.Outcome State Fault Refusal :=
  .next (engine commitApply s)

/-- QUARANTINE_EXPIRY (R281): QUARANTINE_TIME ends, and the port may come up. -/
def execQuarantineExpiry (p : Nat) (s : State) : Host.Outcome State Fault Refusal :=
  .next (engine (quarantineExpiry p) s)

/-- RETURN_HOLD_EXPIRY (R280): The primary port has been up for RETURN_HOLD, and the RETURN trigger sets. -/
def execReturnHoldExpiry (p : Nat) (s : State) : Host.Outcome State Fault Refusal :=
  .next (engine (returnHoldExpiry p) s)

/-- ALPHA_ADJUST (R276): At the end of BUF_PERIOD the Planner steps ALPHA_K. -/
def execAlphaAdjust (s : State) : Host.Outcome State Fault Refusal :=
  .next (engine alphaAdjust s)

/-- SURVEY_RECORD (R288): A SURVEY journal record is written every 3,000 epochs. -/
def execSurveyRecord (s : State) : Host.Outcome State Fault Refusal :=
  .next (engine surveyRecord s)

/-- PLAN_APPROVE (R287): APPROVE_CMD approve commits the waiting plan whose id matches. -/
def execPlanApprove (q : Requester) (s : State) : Host.Outcome State Fault Refusal :=
  .next (writeRow q .APPROVE_CMD 0 (planApprove q) s)

/-- PLAN_REJECT (R287): APPROVE_CMD reject discards the waiting plan. -/
def execPlanReject (q : Requester) (s : State) : Host.Outcome State Fault Refusal :=
  .next (writeRow q .APPROVE_CMD 0 (planReject q) s)

/-- APPROVE_TIMEOUT (R287): A plan has waited APPROVE_TIMEOUT without an answer and is discarded as REJECTED. -/
def execApproveTimeout (s : State) : Host.Outcome State Fault Refusal :=
  .next (engine approveTimeout s)

/-- FREEZE (R286): A write of FREEZE = 1 stops Planner writes and may cancel a commit. -/
def execFreeze (q : Requester) (w : Nat) (s : State) : Host.Outcome State Fault Refusal :=
  .next (writeRow q .PLN_CTRL 0 (plnCtrlWrite q (setBit w 1 true)) s)

/-- UNFREEZE (R286): Clearing FREEZE lets the Planner act on pending triggers at the next boundary. -/
def execUnfreeze (q : Requester) (w : Nat) (s : State) : Host.Outcome State Fault Refusal :=
  .next (writeRow q .PLN_CTRL 0 (plnCtrlWrite q (setBit w 1 false)) s)

/-- REPLAN (R282): A write of PLN.CTRL.REPLAN sets the HOST trigger. -/
def execReplan (q : Requester) (w : Nat) (s : State) : Host.Outcome State Fault Refusal :=
  .next (writeRow q .PLN_CTRL 0 (plnCtrlWrite q (setBit w 31 true)) s)

/-- SS_INDEX_WRITE (R13): A write of PLN.SS_INDEX sets the requester's own copy of the handle. -/
def execSsIndexWrite (q : Requester) (h : Nat) (s : State) : Host.Outcome State Fault Refusal :=
  .next (writeRow q .SS_INDEX 0 (ssIndexWrite q h) s)

/-- TRAP_TOKEN_REFILL (R290): Every 15,000 cc the port 513 trap bucket gains one frame. -/
def execTrapTokenRefill (s : State) : Host.Outcome State Fault Refusal :=
  .next (engine trapTokenRefill s)

/-- EXPORT_BLOCK_COMPLETE (R298): An export block is written to the history ring and offered to the telemetry rings. -/
def execExportBlockComplete (d0 d1 : List Byte) (s : State) : Host.Outcome State Fault Refusal :=
  .next (engine (exportComplete d0 d1) s)

end Sys2Proof.Machine
end

