-- ==== Sys2Proof/Machine/ExecPorts.lean ====
section
/-! DEFINITION. The commands of the Ethernet ports (02_ports.md; 20_electrical_package.md R497). -/

namespace Sys2Proof.Machine

/-- RX_FRAME_START (R30): The first bit of the destination address crosses the receive reference plane, and the ingress MAC milestone is taken. -/
def execRxFrameStart (f p : Nat) (frags : Bool) (s : State) : Host.Outcome State Fault Refusal :=
  .next (engine (rxStart f p frags) s)

/-- RX_FRAME_END (R43): The tail of a received frame arrives, its checks are made, and the MAC counters are updated. -/
def execRxFrameEnd (f : Nat) (bs : List Byte) (codeErr : Bool) (corr uncorr : Nat) (s : State) : Host.Outcome State Fault Refusal :=
  .next (engine (rxEnd f bs codeErr corr uncorr) s)

/-- PAUSE_FRAME_RECEIVED (R45): A PAUSE frame is consumed and counted, and it pauses all queues of the port when FLOW_MODE is 1. -/
def execPauseFrameReceived (p l quanta : Nat) (s : State) : Host.Outcome State Fault Refusal :=
  .next (engine (pauseReceived p l quanta) s)

/-- PFC_FRAME_RECEIVED (R45): A PFC frame is consumed and counted, and it pauses the enabled priorities when FLOW_MODE is 2. -/
def execPfcFrameReceived (p l enables : Nat) (quanta : List Nat) (s : State) : Host.Outcome State Fault Refusal :=
  .next (engine (pfcReceived p l enables quanta) s)

/-- MAC_CONTROL_OTHER (R44): A MAC control frame with another opcode is counted in RX_CTRL_OTHER and discarded. -/
def execMacControlOther (p l : Nat) (s : State) : Host.Outcome State Fault Refusal :=
  .next (engine (controlOther p l) s)

/-- PAUSE_EXPIRY (R45): The pause time of a queue runs out, and the queue may start frames again. -/
def execPauseExpiry (p n : Nat) (s : State) : Host.Outcome State Fault Refusal :=
  .next (engine (pauseExpiry p n) s)

/-- PTP_FRAME_RECEIVED (R250): An untagged gPTP frame is consumed by the port die and sent to port 513 queue 7, or dropped beyond 8 per epoch. -/
def execPtpFrameReceived (f : Nat) (bs : List Byte) (s : State) : Host.Outcome State Fault Refusal :=
  .next (engine (ptpReceived f bs) s)

/-- MM_FRAGMENT_RECEIVED (R47): A preempted fragment is received and reassembled, with assembly and SMD errors counted. -/
def execMmFragmentReceived (f : Nat) (bs : List Byte) (res : FragRes) (s : State) : Host.Outcome State Fault Refusal :=
  .next (engine (fragmentReceived f bs res) s)

/-- RX_PATH_STATUS_CHANGE (R506): Signal detect, PCS lock or the fault ordered sets change, and LOCAL_FAULT, REMOTE_FAULT and PORT_EVENT.FAULT follow.
-/
def execRxPathStatusChange (p : Nat) (signal lock : Bool) (lanes : Lanes) (lfSets rf : Bool) (s : State) :
    Host.Outcome State Fault Refusal :=
  .next (engine (rxPathStatus p signal lock lanes.lock lanes.order lanes.skew lfSets rf) s)

/-- ADAPTATION_DONE (R57): Initial receiver adaptation completes, and ADAPT_DONE sets. -/
def execAdaptationDone (p : Nat) (s : State) : Host.Outcome State Fault Refusal :=
  .next (engine (adaptationDone p) s)

/-- AN_COMPLETE (R39): Clause 37 negotiation completes on a 1000BASE-X port. -/
def execAnComplete (p : Nat) (rf : Bool) (s : State) : Host.Outcome State Fault Refusal :=
  .next (engine (anComplete p rf) s)

/-- SGMII_CONTROL_WORD (R39): An SGMII control word is received, and it either permits link up or keeps the link down and counts RX_CODE_ERR. -/
def execSgmiiControlWord (p : Nat) (up full gig : Bool) (s : State) : Host.Outcome State Fault Refusal :=
  .next (engine (sgmiiWord p up full gig) s)

/-- LINK_UP_HOLDOFF_EXPIRY (R52): The up conditions have held for UP_HOLDOFF, the link is declared up, and PORT_EVENT.UP sets. -/
def execLinkUpHoldoffExpiry (p : Nat) (s : State) : Host.Outcome State Fault Refusal :=
  .next (engine (linkUp p) s)

/-- LINK_DOWN_DEBOUNCE_EXPIRY (R52): A down condition has lasted DOWN_DEBOUNCE, and the link is declared down. -/
def execLinkDownDebounceExpiry (p : Nat) (s : State) : Host.Outcome State Fault Refusal :=
  .next (engine (linkDown p) s)

/-- ADMIN_UP_WRITE (R53): A write of PORT_CFG.ADMIN_UP, where a change from 1 to 0 causes the port-down event. -/
def execAdminUpWrite (q : Requester) (p : Nat) (v : Bool) (s : State) : Host.Outcome State Fault Refusal :=
  .next (pdRow q .PORT_CFG p (if v then 128 else 0) (adminUpWrite q p v) s)

/-- TX_DRAIN_IDLE (R54): After ADMIN_UP is cleared or the port is quarantined, the transmitter completes the frame in flight and then goes to
electrical idle. -/
def execTxDrainIdle (p : Nat) (s : State) : Host.Outcome State Fault Refusal :=
  .next (engine (txDrainIdle p) s)

/-- PORT_FLUSH_START (R193): The hub receives the port-down event, sets FLUSHING and begins releasing the port's copies. -/
def execPortFlushStart (p : Nat) (s : State) : Host.Outcome State Fault Refusal :=
  .next (engine (flushStart p) s)

/-- PORT_FLUSH_COMPLETE (R193): The flush of a port ends, and FLUSHING clears. -/
def execPortFlushComplete (p : Nat) (s : State) : Host.Outcome State Fault Refusal :=
  .next (engine (flushComplete p) s)

/-- PFC_FRAME_TRANSMIT (R46): A PAUSE or PFC frame requested by admission is sent at the next frame boundary. -/
def execPfcFrameTransmit (p : Nat) (s : State) : Host.Outcome State Fault Refusal :=
  .next (engine (pfcTransmit p) s)

/-- PFC_REFRESH_EXPIRY (R188): While XOFF stays set, the PFC frame is repeated every REFRESH µs. -/
def execPfcRefreshExpiry (p n : Nat) (s : State) : Host.Outcome State Fault Refusal :=
  .next (engine (pfcRefresh p n) s)

/-- VERIFY_TIMER_EXPIRY (R48): VERIFY_TIME has passed, and a verify frame is sent, or verification fails after VERIFY_LIMIT unanswered frames. -/
def execVerifyTimerExpiry (p : Nat) (s : State) : Host.Outcome State Fault Refusal :=
  .next (engine (verifyTimer p) s)

/-- RESPOND_FRAME_RECEIVED (R48): A respond frame arrives, VERIFY_STATUS becomes SUCCEEDED, and preemption becomes active. -/
def execRespondFrameReceived (p : Nat) (s : State) : Host.Outcome State Fault Refusal :=
  .next (engine (respondReceived p) s)

/-- HOLD_TAKE_EFFECT (R211): A hold sent by the hub reaches its time, the MAC preempts, and MM_HOLD is incremented. -/
def execHoldTakeEffect (p : Nat) (s : State) : Host.Outcome State Fault Refusal :=
  .next (engine (holdTake p) s)

/-- HOLD_RELEASE (R211): A hold ends at its release time, and the remainder of a held frame may be sent. -/
def execHoldRelease (p : Nat) (s : State) : Host.Outcome State Fault Refusal :=
  .next (engine (holdRelease p) s)

/-- SD_TX_EQ_WRITE (R56): A write of the SerDes transmit taps takes effect, or is discarded whole when the taps break R56. -/
def execSdTxEqWrite (q : Requester) (p : Nat) (w : Word) (s : State) : Host.Outcome State Fault Refusal :=
  .next (pdRow q .SD_TX_EQ p w.toNat (sdTxEqWrite q p w) s)

/-- QUAD_PLL_LOCK_LOSS (R497): A SerDes reference is lost, its quad PLLs unlock, and the links of its lanes go down. -/
def execQuadPllLockLoss (d r : Nat) (s : State) : Host.Outcome State Fault Refusal :=
  .next (clocked (quadPll d r true) s)

/-- QUAD_PLL_LOCK (R506): A SerDes reference returns in RUN, the quad transmit PLL of its lanes locks again, and LOCAL_FAULT of those ports clears so
the link may come up under R52. -/
def execQuadPllLock (d r : Nat) (s : State) : Host.Outcome State Fault Refusal :=
  .next (clocked (quadPll d r false) s)

end Sys2Proof.Machine
end

