-- ==== Sys2Proof/Machine/ExecRecovering.lean ====
section
/-! DEFINITION. The commands of the recovery mailbox and the reload (17_startup_image.md R442 to R444). -/

namespace Sys2Proof.Machine

/-- RCV_READ (R442): Recovery mailbox command READ reads flash in SAFE. -/
def execRcvRead (q : Requester) (s : State) : Host.Outcome State Fault Refusal :=
  .next (writeRow q .RCV_CMD 0 (rcvRead q) s)

/-- RCV_PROGRAM (R442): Recovery mailbox command PROGRAM writes flash pages. -/
def execRcvProgram (q : Requester) (s : State) : Host.Outcome State Fault Refusal :=
  .next (writeRow q .RCV_CMD 0 (rcvProgram q) s)

/-- RCV_ERASE (R442): Recovery mailbox command ERASE erases a 64 KiB sector. -/
def execRcvErase (q : Requester) (s : State) : Host.Outcome State Fault Refusal :=
  .next (writeRow q .RCV_CMD 0 (rcvErase q) s)

/-- RCV_CHECK (R442): Recovery mailbox command CHECK authenticates a slot without loading it. -/
def execRcvCheck (q : Requester) (s : State) : Host.Outcome State Fault Refusal :=
  .next (writeRow q .RCV_CMD 0 (rcvCheck q) s)

/-- RCV_RESTART (R442): Recovery mailbox command RESTART performs a chip reset from SAFE. -/
def execRcvRestart (q : Requester) (s : State) : Host.Outcome State Fault Refusal :=
  .next (writeRow q .RCV_CMD 0 (rcvRestart q) s)

/-- RCV_COMMAND_END (R442): A recovery mailbox command completes, BUSY clears and RESULT is set. -/
def execRcvCommandEnd (late : Bool) (s : State) : Host.Outcome State Fault Refusal :=
  .next (powered (rcvFinish late) s)

/-- RELOAD (R444): LDR.CTRL with the key reloads the image by chip reset. -/
def execReload (q : Requester) (key : Nat) (s : State) : Host.Outcome State Fault Refusal :=
  .next (writeRow q .LDR_CTRL 0 (reload q key) s)

end Sys2Proof.Machine
end

