-- ==== Sys2Proof/Machine/ExecSearch.lean ====
section
/-! DEFINITION. The commands of the TCAM and of the exact-match tables (04_associative_search.md; 05_exact_match_learning.md). -/

namespace Sys2Proof.Machine

/-- TCAM_READ (R101): TCAM command READ copies an entry to the DATA words. -/
def execTcamRead (q : Requester) (d j : Nat) (s : State) : Host.Outcome State Fault Refusal :=
  .next (pdWindow q .TCAM_CMD d j 1 (tcamStart q d j 1 0) s)

/-- TCAM_WRITE (R101): TCAM command WRITE writes an entry, subject to the order and entry checks, and posts it to the shadow. -/
def execTcamWrite (q : Requester) (d j : Nat) (s : State) : Host.Outcome State Fault Refusal :=
  .next (pdWindow q .TCAM_CMD d j 2 (tcamStart q d j 2 0) s)

/-- TCAM_CLEAR (R101): TCAM command CLEAR clears the valid bit of an entry. -/
def execTcamClear (q : Requester) (d j : Nat) (s : State) : Host.Outcome State Fault Refusal :=
  .next (pdWindow q .TCAM_CMD d j 3 (tcamStart q d j 3 0) s)

/-- TCAM_MOVE (R102): TCAM command MOVE writes the destination entry valid and then clears the source. -/
def execTcamMove (q : Requester) (d j : Nat) (s : State) : Host.Outcome State Fault Refusal :=
  .next (pdWindow q .TCAM_CMD d j 4 (tcamStart q d j 4 0) s)

/-- TCAM_INSERT (R104): TCAM command INSERT installs an entry, at the lowest free address or by the ordered insertion with moves. -/
def execTcamInsert (q : Requester) (d j part : Nat) (s : State) : Host.Outcome State Fault Refusal :=
  .next (pdWindow q .TCAM_CMD d j (5 + part % 8 * 256) (tcamStart q d j 5 part) s)

/-- TCAM_DELETE (R101): TCAM command DELETE clears the valid entry whose value, mask and priority match, or reports NOT_FOUND. -/
def execTcamDelete (q : Requester) (d j part : Nat) (s : State) : Host.Outcome State Fault Refusal :=
  .next (pdWindow q .TCAM_CMD d j (6 + part % 8 * 256) (tcamStart q d j 6 part) s)

/-- TCAM_SEARCH (R101): TCAM command SEARCH searches a partition with a given key and global mask. -/
def execTcamSearch (q : Requester) (d j part : Nat) (s : State) : Host.Outcome State Fault Refusal :=
  .next (pdWindow q .TCAM_CMD d j (7 + part % 8 * 256) (tcamStart q d j 7 part) s)

/-- TCAM_COMMAND_END (R101): A TCAM command completes, BUSY clears and RESULT is set. -/
def execTcamCommandEnd (d : Nat) (j : Found (List (Nat × Bool))) (s : State) : Host.Outcome State Fault Refusal :=
  .next (clocked (tcamFinish d j.n j.found) s)

/-- TCAM_SCRUB_SLOT (R105): Every 256 cc the scrubber reads the next TCAM row and compares it with the shadow, or defers it. -/
def execTcamScrubSlot (d : Nat) (find : ScrubFind) (s : State) : Host.Outcome State Fault Refusal :=
  .next (clocked (tcamScrub d find) s)

/-- TCAM_REPAIR_END (R109): The verify pass of a repaired block ends, and the block returns to service with GEN incremented. -/
def execTcamRepairEnd (d b : Nat) (ok : Bool) (s : State) : Host.Outcome State Fault Refusal :=
  .next (clocked (tcamRepairEnd d b ok) s)

/-- EM_READ (R138): Exact-match command READ reads the entry at ADDR. -/
def execEmRead (q : Requester) (d j table : Nat) (s : State) : Host.Outcome State Fault Refusal :=
  .next (pdWindow q .EM_CMD d j (1 + table % 2 * 8) (emStart q d j 1 table) s)

/-- EM_LOOKUP (R138): Exact-match command LOOKUP searches for a key. -/
def execEmLookup (q : Requester) (d j table : Nat) (s : State) : Host.Outcome State Fault Refusal :=
  .next (pdWindow q .EM_CMD d j (2 + table % 2 * 8) (emStart q d j 2 table) s)

/-- EM_INSERT (R139): Exact-match command INSERT installs a static entry, displacing a learned one when needed. -/
def execEmInsert (q : Requester) (d j table : Nat) (s : State) : Host.Outcome State Fault Refusal :=
  .next (pdWindow q .EM_CMD d j (3 + table % 2 * 8) (emStart q d j 3 table) s)

/-- EM_DELETE (R138): Exact-match command DELETE deletes an entry, static or learned. -/
def execEmDelete (q : Requester) (d j table : Nat) (s : State) : Host.Outcome State Fault Refusal :=
  .next (pdWindow q .EM_CMD d j (4 + table % 2 * 8) (emStart q d j 4 table) s)

/-- EM_FLUSH (R138): Exact-match command FLUSH deletes the learned entries of a port, of a VID, or of the whole table. -/
def execEmFlush (q : Requester) (d j table : Nat) (s : State) : Host.Outcome State Fault Refusal :=
  .next (pdWindow q .EM_CMD d j (5 + table % 2 * 8) (emStart q d j 5 table) s)

/-- EM_COMMAND_END (R138): An exact-match command completes, BUSY clears and RESULT is set. -/
def execEmCommandEnd (d : Nat) (j : Found Bool) (s : State) : Host.Outcome State Fault Refusal :=
  .next (clocked (emFinish d j.n j.found) s)

/-- LEARN_QUEUE_HEAD (R131): A learn request reaches the head of the queue with a token available, is looked up again and acted on. -/
def execLearnQueueHead (d : Found (List Nat)) (s : State) : Host.Outcome State Fault Refusal :=
  .next (engine (learnHead d.n d.found) s)

/-- LEARN_TOKEN_REFILL (R131): Every 3,000 cc the learn engine receives 64 tokens, capped at 64. -/
def execLearnTokenRefill (d : Nat) (s : State) : Host.Outcome State Fault Refusal :=
  .next (clocked (learnRefill d) s)

/-- AGE_PASS_START (R132): AGE_PERIOD has passed, and an age pass reads and clears every learned entry. -/
def execAgePassStart (d : Found (List Nat)) (s : State) : Host.Outcome State Fault Refusal :=
  .next (clocked (agePass d.n d.found) s)

end Sys2Proof.Machine
end

