-- ==== Sys2Proof/Machine/ExecStarting.lean ====
section
/-! DEFINITION. The commands of the supplies and of the start sequence (17_startup_image.md R419 to R440; 16_dram.md R414). -/

namespace Sys2Proof.Machine

/-- BASE_TRAINING_DONE (R414): HBM3 base training ends for all channels. -/
def execBaseTrainingDone (failed : List Nat) (s : State) : Host.Outcome State Fault Refusal :=
  .next (baseTrainingDone failed s)

/-- FINAL_CALIBRATION_DONE (R414): HBM3 final calibration ends in TRAIN. -/
def execFinalCalibrationDone (failed : List Nat) (s : State) : Host.Outcome State Fault Refusal :=
  .next (finalCalibrationDone failed s)

/-- RAIL_SAMPLE (R419): Every 1 µs every rail is sampled for good and absolute limits. -/
def execRailSample (i : Nat) (uv : Int) (s : State) : Host.Outcome State Fault Refusal :=
  .next (railSample i uv s)

/-- RESET_N_EDGE (R420): RESET_N is recognised low or released. -/
def execResetNEdge (low : Bool) (s : State) : Host.Outcome State Fault Refusal :=
  .next (resetNEdge low s)

/-- RESET_HOLD_EXPIRY (R420): 2 ms after the last rail became good, the reset condition ends. -/
def execResetHoldExpiry (s : State) : Host.Outcome State Fault Refusal :=
  .next (resetHoldExpiry s)

/-- FUSE_LOAD_DONE (R422): The PLLs lock and OTP is read, and the device enters NVM_READ. -/
def execFuseLoadDone (otpOk : Bool) (sidebands : Nat) (s : State) : Host.Outcome State Fault Refusal :=
  .next (fuseLoadDone otpOk sidebands s)

/-- SLOT_READ_COMPLETE (R428): A flash slot has been read and hashed, or NO_FLASH ends the read. -/
def execSlotReadComplete (noFlash : Bool) (s : State) : Host.Outcome State Fault Refusal :=
  .next (slotReadComplete noFlash s)

/-- AUTH_DONE (R438): AUTH checks a slot, which goes to LOAD, to slot B or to SAFE. -/
def execAuthDone (s : State) : Host.Outcome State Fault Refusal :=
  .next (authDone s)

/-- LOAD_COMPLETE (R432): LOAD ends after the cross-record checks, entering TRAIN or refusing the slot. -/
def execLoadComplete (s : State) : Host.Outcome State Fault Refusal :=
  .next (loadComplete s)

/-- ROLLBACK_DONE (R424): The rollback completes, and NVM_READ of slot B begins. -/
def execRollbackDone (s : State) : Host.Outcome State Fault Refusal :=
  .next (rollbackDone s)

/-- TRAIN_DONE (R422): TRAIN completes, and the device enters PLAN. -/
def execTrainDone (s : State) : Host.Outcome State Fault Refusal :=
  .next (trainDone s)

/-- PLAN_TIMEOUT (R424): No plan is committed 200 ms after entry to PLAN, and the device enters RUN. -/
def execPlanTimeout (s : State) : Host.Outcome State Fault Refusal :=
  .next (planTimeout s)

end Sys2Proof.Machine
end

