-- ==== Sys2Proof/Machine/ExecTables.lean ====
section
/-! DEFINITION. The commands of the rewrite window, the gate lists, the shapers and the stream tables (06_rewrite_replication_mirroring.md R163; 08_egress_scheduling.md). -/

namespace Sys2Proof.Machine

/-- RW_READ (R163): Rewrite-window command READ reads a program, next hop, group or copy entry. -/
def execRwRead (q : Requester) (j : Nat) (table : Found Bool) (s : State) : Host.Outcome State Fault Refusal :=
  .next (windowRow q .RW_CMD j (rwStart q j (rwOpRead j table.n table.found)) s)

/-- RW_WRITE (R163): Rewrite-window command WRITE writes an entry after its checks. -/
def execRwWrite (q : Requester) (j table : Nat) (s : State) : Host.Outcome State Fault Refusal :=
  .next (windowRow q .RW_CMD j (rwStart q j (rwOpWrite j table)) s)

/-- RW_COMMAND_END (R163): A rewrite-window command completes, BUSY clears and RESULT is set. -/
def execRwCommandEnd (j : Nat) (s : State) : Host.Outcome State Fault Refusal :=
  .next (clocked (rwFinish j) s)

/-- EDIT_CFG_WRITE (R163): A write of STR.EDIT_CFG or STR.RTAG_CFG is carried to every enabled die. -/
def execEditCfgWrite (q : Requester) (rtag : Bool) (v : Nat) (s : State) : Host.Outcome State Fault Refusal :=
  .next (writeRow q (if rtag then .RTAG_CFG else .EDIT_CFG) 0 (writeAt q (regOffset (if rtag then .RTAG_CFG else .EDIT_CFG) 0) v) s)

/-- GCL_CHANGE_REQ (R207): A gate list change request is checked, and it is refused with BAD_LIST or accepted with its change time. -/
def execGclChangeReq (q : Requester) (p gates : Nat) (s : State) : Host.Outcome State Fault Refusal :=
  .next (writeRow q .GCL_CTRL p (gclCommand q p gates false) s)

/-- GCL_CANCEL (R207): A cancel of a pending gate list change is accepted, or ignored when it comes too late. -/
def execGclCancel (q : Requester) (p gates : Nat) (s : State) : Host.Outcome State Fault Refusal :=
  .next (writeRow q .GCL_CTRL p (gclCommand q p gates true) s)

/-- GCL_CHANGE_APPLY (R207): At the change time the admin and oper lists exchange roles, and CHANGED sets. -/
def execGclChangeApply (p : Nat) (s : State) : Host.Outcome State Fault Refusal :=
  .next (clocked (gclApply p) s)

/-- GATE_ENTRY_BEGIN (R205): A gate list entry begins, and the port's gate states change. -/
def execGateEntryBegin (p i : Nat) (ue : Bool) (s : State) : Host.Outcome State Fault Refusal :=
  .next (engine (gateEntryBegin p i ue) s)

/-- DEADLINE_SLOT_ADVANCE (R213): The present deadline slot advances, and the remaining copies move to the overdue lists. -/
def execDeadlineSlotAdvance (p : Nat) (s : State) : Host.Outcome State Fault Refusal :=
  .next (engine (slotAdvance p) s)

/-- SHAPER_WHEEL_SLOT (R218): The shaper timing wheel reaches a slot, and its shapers become eligible. -/
def execShaperWheelSlot (s : State) : Host.Outcome State Fault Refusal :=
  .next (engine shaperWheel s)

/-- LED_EVALUATION (R223): At the end of LED_PERIOD, latent error detection evaluates a stream. -/
def execLedEvaluation (x : Nat) (s : State) : Host.Outcome State Fault Refusal :=
  .next (engine (ledEvaluate x) s)

/-- Q_DEPTH_SAMPLE (R230): Every 4,096 cc the scheduler samples Q_CELLS of every queue. -/
def execQDepthSample (s : State) : Host.Outcome State Fault Refusal :=
  .next (engine depthSample s)

/-- SC_READ (R235): Stream-window command READ reads a stream table entry. -/
def execScRead (q : Requester) (j : Nat) (table : Found Bool) (s : State) : Host.Outcome State Fault Refusal :=
  .next (windowRow q .SC_CMD j (scStart q j table.n (scOpRead j table.n table.found)) s)

/-- SC_WRITE (R235): Stream-window command WRITE writes a context, gate, pool entry, meter or counters. -/
def execScWrite (q : Requester) (j table : Nat) (s : State) : Host.Outcome State Fault Refusal :=
  .next (windowRow q .SC_CMD j (scStart q j table (scOpWrite j table)) s)

/-- SC_CHANGE (R225): Stream-window command CHANGE requests a new stream gate list. -/
def execScChange (q : Requester) (j table : Nat) (s : State) : Host.Outcome State Fault Refusal :=
  .next (windowRow q .SC_CMD j (scStart q j table (scOpChange j table)) s)

/-- SC_COMMAND_END (R235): A stream-window command completes, BUSY clears and RESULT is set. -/
def execScCommandEnd (j : Nat) (s : State) : Host.Outcome State Fault Refusal :=
  .next (clocked (scFinish j) s)

/-- STREAM_GATE_CHANGE_APPLY (R225): At the change time a stream gate's oper list takes the admin values. -/
def execStreamGateChangeApply (g : Nat) (s : State) : Host.Outcome State Fault Refusal :=
  .next (clocked (streamGateApply g) s)

/-- STREAM_GATE_ENTRY_BEGIN (R225): A stream gate list entry begins, and the gate opens or closes. -/
def execStreamGateEntryBegin (g i : Nat) (s : State) : Host.Outcome State Fault Refusal :=
  .next (clocked (streamGateEntry g i) s)

/-- STREAM_GATE_REGION_RELEASE (R225): 10 µs after a change, the region of the replaced list becomes writable. -/
def execStreamGateRegionRelease (g : Nat) (s : State) : Host.Outcome State Fault Refusal :=
  .next (clocked (streamGateRelease g) s)

end Sys2Proof.Machine
end

