-- ==== Sys2Proof/Machine/ExecThreads.lean ====
section
/-! DEFINITION. The commands of the management engine's threads, debugger and rings (12_management_engine.md). -/

namespace Sys2Proof.Machine

/-- SUP_NOTE_READ (R320): A privileged read of SUP_NOTE pops the supervisor queue. -/
def execSupNoteRead (q : Requester) (s : State) : Host.Outcome State Fault Refusal :=
  .next (readRow q .SUP_NOTE 0 s)

/-- THREAD_START (R323): THREAD_CTRL START resets a thread and runs it from ENTRY. -/
def execThreadStart (q : Requester) (t : Nat) (s : State) : Host.Outcome State Fault Refusal :=
  .next (writeRow q .THREAD_CTRL t (threadStart q t) s)

/-- THREAD_STOP (R323): THREAD_CTRL STOP puts a thread in OFF and releases its staging and buffers. -/
def execThreadStop (q : Requester) (t : Nat) (s : State) : Host.Outcome State Fault Refusal :=
  .next (writeRow q .THREAD_CTRL t (threadStop q t) s)

/-- CHAN_CFG_WRITE (R317): A write changes a channel's WRITER or READER within 16 mc. -/
def execChanCfgWrite (q : Requester) (ch writer reader : Nat) (s : State) : Host.Outcome State Fault Refusal :=
  .next (writeRow q .CHAN_CFG0 ch (chanCfgWrite q ch writer reader) s)

/-- DEADLOCK_DETECT (R324): The all-quiet condition has held for 32 mc, and DEADLOCK is pushed. -/
def execDeadlockDetect (s : State) : Host.Outcome State Fault Refusal :=
  .next (engine deadlockDetect s)

/-- DBG_HALT (R325): Debugger command HALT stops a thread at its next instruction boundary. -/
def execDbgHalt (q : Requester) (t : Nat) (s : State) : Host.Outcome State Fault Refusal :=
  .next (writeRow q .DBG_CMD 0 (dbgHalt q t) s)

/-- DBG_STEP (R325): Debugger command STEP executes one instruction of a halted thread. -/
def execDbgStep (q : Requester) (t : Nat) (i : Issue) (op : MeOp) (s : State) : Host.Outcome State Fault Refusal :=
  .next (writeRow q .DBG_CMD 0 (dbgStep q t i op) s)

/-- DBG_RESUME (R325): Debugger command RESUME returns a thread from HALT. -/
def execDbgResume (q : Requester) (t : Nat) (s : State) : Host.Outcome State Fault Refusal :=
  .next (writeRow q .DBG_CMD 0 (dbgResume q t) s)

/-- DBG_ABORT (R326): Debugger command ABORT puts a halted or faulted thread in OFF and discards its staging. -/
def execDbgAbort (q : Requester) (t : Nat) (s : State) : Host.Outcome State Fault Refusal :=
  .next (writeRow q .DBG_CMD 0 (dbgAbort q t) s)

/-- RX513_TAIL_WRITE (R328): The owner frees receive records by advancing RX513_TAIL. -/
def execRx513TailWrite (q : Requester) (v : Nat) (s : State) : Host.Outcome State Fault Refusal :=
  .next (writeRow q .RX513_TAIL 0 (rx513TailWrite q v) s)

/-- TX513_HEAD_WRITE (R329): The owner posts transmit records by advancing TX513_HEAD. -/
def execTx513HeadWrite (q : Requester) (v : Nat) (s : State) : Host.Outcome State Fault Refusal :=
  .next (writeRow q .TX513_HEAD 0 (tx513HeadWrite q v) s)

/-- TX513_RECORD_TAKE (R329): The hub takes a transmit record, enqueues its frame, writes STATUS and advances TX513_TAIL. -/
def execTx513RecordTake (f : Nat) (s : State) : Host.Outcome State Fault Refusal :=
  .next (engine (tx513RecordTake f) s)

/-- ME_RESET_END (R322): The supervisor thread is in RUN after an ME block reset. -/
def execMeResetEnd (bad : Option Nat) (s : State) : Host.Outcome State Fault Refusal :=
  .next (engine (meResetEnd bad) s)

end Sys2Proof.Machine
end

