-- ==== Sys2Proof/Machine/ExecTime.lean ====
section
/-! DEFINITION. The commands of the time base (09_time_base.md). -/

namespace Sys2Proof.Machine

/-- TIME_BEACON (R240): Every 1 µs the hub sends a beacon, and each follower corrects its phase. -/
def execTimeBeacon (d : Nat) (e : Int) (s : State) : Host.Outcome State Fault Refusal :=
  .next (clocked (timeBeacon d e) s)

/-- RATE_ADJ_WRITE (R245): A write of RATE_ADJ is held until its apply instant. -/
def execRateAdjWrite (q : Requester) (v : Nat) (s : State) : Host.Outcome State Fault Refusal :=
  .next (writeRow q .RATE_ADJ 0 (gated q (regOffset .RATE_ADJ 0) (rateAdjWrite v)) s)

/-- TIME_STEP (R245): STEP_CTRL command step schedules a step by DELTA. -/
def execTimeStep (q : Requester) (s : State) : Host.Outcome State Fault Refusal :=
  .next (writeRow q .STEP_CTRL 0 (gated q (regOffset .STEP_CTRL 0) timeStep) s)

/-- TIME_SET (R245): STEP_CTRL command set schedules a step to the SET value. -/
def execTimeSet (q : Requester) (s : State) : Host.Outcome State Fault Refusal :=
  .next (writeRow q .STEP_CTRL 0 (gated q (regOffset .STEP_CTRL 0) timeSet) s)

/-- APPLY_INSTANT (R246): At the apply instant a rate change or step takes effect on the master and the followers. -/
def execApplyInstant (s : State) : Host.Outcome State Fault Refusal :=
  .next (clocked applyReached s)

/-- PPS_IN_EDGE (R256): A rising edge on PPS_IN is captured and its period checked. -/
def execPpsInEdge (s : State) : Host.Outcome State Fault Refusal :=
  .next (clocked ppsInEdge s)

/-- PPS_IN_LOSS_TIMEOUT (R256): No PPS_IN edge has come for 1.5 s, and PPS_IN_LOST sets. -/
def execPpsInLossTimeout (s : State) : Host.Outcome State Fault Refusal :=
  .next (clocked ppsInLoss s)

/-- SYNC_IN_EDGE (R255): A selected edge on SYNC_IN_n is captured into its FIFO, or dropped on overflow. -/
def execSyncInEdge (n : Nat) (rising : Bool) (s : State) : Host.Outcome State Fault Refusal :=
  .next (clocked (syncInEdge n rising) s)

/-- SYNC_IN_TS_READ (R255): A privileged read of TS_NS pops the SYNC_IN FIFO head and latches its other words. -/
def execSyncInTsRead (q : Requester) (n : Nat) (s : State) : Host.Outcome State Fault Refusal :=
  .next (readRow q .SYNC_IN_TS_NS n s)

/-- PTP_TX_INFO_READ (R252): A privileged read of PTP_TX_INFO pops the transmit timestamp FIFO and latches the timestamp. -/
def execPtpTxInfoRead (q : Requester) (d : Nat) (s : State) : Host.Outcome State Fault Refusal :=
  .next (readRow q .PTP_TX_INFO d s)

/-- PPS_OUT_EDGE (R257): PPS_OUT rises at each second and falls after WIDTH. -/
def execPpsOutEdge (rising : Bool) (s : State) : Host.Outcome State Fault Refusal :=
  .next (clocked (ppsOutEdge rising) s)

/-- SYNC_OUT_EDGE (R258): SYNC_OUT_n changes level at an edge of its schedule. -/
def execSyncOutEdge (n : Nat) (rising : Bool) (s : State) : Host.Outcome State Fault Refusal :=
  .next (clocked (syncOutEdge n rising) s)

/-- SYNC_RECEIPT_TIMEOUT (R253): The working domain has had no Sync for syncReceiptTimeout, and the servo enters HOLDOVER. -/
def execSyncReceiptTimeout (s : State) : Host.Outcome State Fault Refusal :=
  .next (clocked syncReceiptTimeout s)

/-- HOLDOVER_LIMIT_EXPIRY (R253): After HOLDOVER_LIMIT in HOLDOVER, the state becomes FREE_RUN. -/
def execHoldoverLimitExpiry (s : State) : Host.Outcome State Fault Refusal :=
  .next (clocked holdoverExpiry s)

/-- PLL_LOCK_LOSS (R239): A core, ME or time-base PLL loses lock, and a Fatal event is raised. -/
def execPllLockLoss (which : Nat) (s : State) : Host.Outcome State Fault Refusal :=
  .next (powered (pllLockLoss which) s)

end Sys2Proof.Machine
end

