-- ==== Sys2Proof/Machine/Dispatch.lean ====
section
/-! DEFINITION. The meaning of every command: one arm per row of the table. -/

namespace Sys2Proof.Machine

def exec (i : Instr) (s : State) : Host.Outcome State Fault Refusal :=
  match i with
  | .registerWrite q o v => Sys2Proof.Machine.execRegisterWrite q o v s
  | .counterLowWordRead q o => Sys2Proof.Machine.execCounterLowWordRead q o s
  | .rcFieldRead q o => Sys2Proof.Machine.execRcFieldRead q o s
  | .privViolLastRead q => Sys2Proof.Machine.execPrivViolLastRead q s
  | .epochBoundary delays => Sys2Proof.Machine.execEpochBoundary delays s
  | .rxFrameStart f p frags => Sys2Proof.Machine.execRxFrameStart f p frags s
  | .pipelineEntry f win len u x => Sys2Proof.Machine.execPipelineEntry f win len u x s
  | .farLookupIssue => Sys2Proof.Machine.execFarLookupIssue s
  | .farLookupResult f ecc x => Sys2Proof.Machine.execFarLookupResult f ecc x s
  | .farLookupTimeout f => Sys2Proof.Machine.execFarLookupTimeout f s
  | .rxFrameEnd f bs codeErr corr uncorr => Sys2Proof.Machine.execRxFrameEnd f bs codeErr corr uncorr s
  | .pauseFrameReceived p l quanta => Sys2Proof.Machine.execPauseFrameReceived p l quanta s
  | .pfcFrameReceived p l enables quanta => Sys2Proof.Machine.execPfcFrameReceived p l enables quanta s
  | .macControlOther p l => Sys2Proof.Machine.execMacControlOther p l s
  | .pauseExpiry p n => Sys2Proof.Machine.execPauseExpiry p n s
  | .ptpFrameReceived f bs => Sys2Proof.Machine.execPtpFrameReceived f bs s
  | .mmFragmentReceived f bs res => Sys2Proof.Machine.execMmFragmentReceived f bs res s
  | .rxPathStatusChange p signal lock lanes lfSets rf => Sys2Proof.Machine.execRxPathStatusChange p signal lock lanes lfSets rf s
  | .adaptationDone p => Sys2Proof.Machine.execAdaptationDone p s
  | .anComplete p rf => Sys2Proof.Machine.execAnComplete p rf s
  | .sgmiiControlWord p up full gig => Sys2Proof.Machine.execSgmiiControlWord p up full gig s
  | .linkUpHoldoffExpiry p => Sys2Proof.Machine.execLinkUpHoldoffExpiry p s
  | .linkDownDebounceExpiry p => Sys2Proof.Machine.execLinkDownDebounceExpiry p s
  | .adminUpWrite q p v => Sys2Proof.Machine.execAdminUpWrite q p v s
  | .txDrainIdle p => Sys2Proof.Machine.execTxDrainIdle p s
  | .portFlushStart p => Sys2Proof.Machine.execPortFlushStart p s
  | .portFlushComplete p => Sys2Proof.Machine.execPortFlushComplete p s
  | .pfcFrameTransmit p => Sys2Proof.Machine.execPfcFrameTransmit p s
  | .pfcRefreshExpiry p n => Sys2Proof.Machine.execPfcRefreshExpiry p n s
  | .verifyTimerExpiry p => Sys2Proof.Machine.execVerifyTimerExpiry p s
  | .respondFrameReceived p => Sys2Proof.Machine.execRespondFrameReceived p s
  | .holdTakeEffect p => Sys2Proof.Machine.execHoldTakeEffect p s
  | .holdRelease p => Sys2Proof.Machine.execHoldRelease p s
  | .sdTxEqWrite q p w => Sys2Proof.Machine.execSdTxEqWrite q p w s
  | .quadPllLockLoss d r => Sys2Proof.Machine.execQuadPllLockLoss d r s
  | .tcamRead q d j => Sys2Proof.Machine.execTcamRead q d j s
  | .tcamWrite q d j => Sys2Proof.Machine.execTcamWrite q d j s
  | .tcamClear q d j => Sys2Proof.Machine.execTcamClear q d j s
  | .tcamMove q d j => Sys2Proof.Machine.execTcamMove q d j s
  | .tcamInsert q d j part => Sys2Proof.Machine.execTcamInsert q d j part s
  | .tcamDelete q d j part => Sys2Proof.Machine.execTcamDelete q d j part s
  | .tcamSearch q d j part => Sys2Proof.Machine.execTcamSearch q d j part s
  | .tcamCommandEnd d j => Sys2Proof.Machine.execTcamCommandEnd d j s
  | .tcamScrubSlot d find => Sys2Proof.Machine.execTcamScrubSlot d find s
  | .tcamRepairEnd d b ok => Sys2Proof.Machine.execTcamRepairEnd d b ok s
  | .emRead q d j table => Sys2Proof.Machine.execEmRead q d j table s
  | .emLookup q d j table => Sys2Proof.Machine.execEmLookup q d j table s
  | .emInsert q d j table => Sys2Proof.Machine.execEmInsert q d j table s
  | .emDelete q d j table => Sys2Proof.Machine.execEmDelete q d j table s
  | .emFlush q d j table => Sys2Proof.Machine.execEmFlush q d j table s
  | .emCommandEnd d j => Sys2Proof.Machine.execEmCommandEnd d j s
  | .learnQueueHead d => Sys2Proof.Machine.execLearnQueueHead d s
  | .learnTokenRefill d => Sys2Proof.Machine.execLearnTokenRefill d s
  | .agePassStart d => Sys2Proof.Machine.execAgePassStart d s
  | .hubInputStage f scUe replUe ctxUe => Sys2Proof.Machine.execHubInputStage f scUe replUe ctxUe s
  | .mcHoldRetry q => Sys2Proof.Machine.execMcHoldRetry q s
  | .mcHoldExpiry f => Sys2Proof.Machine.execMcHoldExpiry f s
  | .lastCellWritten f => Sys2Proof.Machine.execLastCellWritten f s
  | .frameEligible f => Sys2Proof.Machine.execFrameEligible f s
  | .contextInstall j x => Sys2Proof.Machine.execContextInstall j x s
  | .contextAck d j n gen => Sys2Proof.Machine.execContextAck d j n gen s
  | .contextInval d j n => Sys2Proof.Machine.execContextInval d j n s
  | .flitCrcError d j bs => Sys2Proof.Machine.execFlitCrcError d j bs s
  | .retrainEnd d ok => Sys2Proof.Machine.execRetrainEnd d ok s
  | .qAvgUpdate => Sys2Proof.Machine.execQAvgUpdate s
  | .bufConfigWrite q o v => Sys2Proof.Machine.execBufConfigWrite q o v s
  | .schedulerSelect p ecc cell bufLen => Sys2Proof.Machine.execSchedulerSelect p ecc cell bufLen s
  | .egressCopyArrival id ue ctxUe => Sys2Proof.Machine.execEgressCopyArrival id ue ctxUe s
  | .txFrameEnd id => Sys2Proof.Machine.execTxFrameEnd id s
  | .rwRead q j table => Sys2Proof.Machine.execRwRead q j table s
  | .rwWrite q j table => Sys2Proof.Machine.execRwWrite q j table s
  | .rwCommandEnd j => Sys2Proof.Machine.execRwCommandEnd j s
  | .editCfgWrite q rtag v => Sys2Proof.Machine.execEditCfgWrite q rtag v s
  | .gclChangeReq q p gates => Sys2Proof.Machine.execGclChangeReq q p gates s
  | .gclCancel q p gates => Sys2Proof.Machine.execGclCancel q p gates s
  | .gclChangeApply p => Sys2Proof.Machine.execGclChangeApply p s
  | .gateEntryBegin p n ue => Sys2Proof.Machine.execGateEntryBegin p n ue s
  | .deadlineSlotAdvance p => Sys2Proof.Machine.execDeadlineSlotAdvance p s
  | .shaperWheelSlot => Sys2Proof.Machine.execShaperWheelSlot s
  | .ledEvaluation x => Sys2Proof.Machine.execLedEvaluation x s
  | .qDepthSample => Sys2Proof.Machine.execQDepthSample s
  | .scRead q j table => Sys2Proof.Machine.execScRead q j table s
  | .scWrite q j table => Sys2Proof.Machine.execScWrite q j table s
  | .scChange q j table => Sys2Proof.Machine.execScChange q j table s
  | .scCommandEnd j => Sys2Proof.Machine.execScCommandEnd j s
  | .streamGateChangeApply g => Sys2Proof.Machine.execStreamGateChangeApply g s
  | .streamGateEntryBegin g n => Sys2Proof.Machine.execStreamGateEntryBegin g n s
  | .streamGateRegionRelease g => Sys2Proof.Machine.execStreamGateRegionRelease g s
  | .timeBeacon d e => Sys2Proof.Machine.execTimeBeacon d e s
  | .rateAdjWrite q v => Sys2Proof.Machine.execRateAdjWrite q v s
  | .timeStep q => Sys2Proof.Machine.execTimeStep q s
  | .timeSet q => Sys2Proof.Machine.execTimeSet q s
  | .applyInstant => Sys2Proof.Machine.execApplyInstant s
  | .ppsInEdge => Sys2Proof.Machine.execPpsInEdge s
  | .ppsInLossTimeout => Sys2Proof.Machine.execPpsInLossTimeout s
  | .syncInEdge n rising => Sys2Proof.Machine.execSyncInEdge n rising s
  | .syncInTsRead q n => Sys2Proof.Machine.execSyncInTsRead q n s
  | .ptpTxInfoRead q d => Sys2Proof.Machine.execPtpTxInfoRead q d s
  | .ppsOutEdge rising => Sys2Proof.Machine.execPpsOutEdge rising s
  | .syncOutEdge n rising => Sys2Proof.Machine.execSyncOutEdge n rising s
  | .syncReceiptTimeout => Sys2Proof.Machine.execSyncReceiptTimeout s
  | .holdoverLimitExpiry => Sys2Proof.Machine.execHoldoverLimitExpiry s
  | .pllLockLoss which => Sys2Proof.Machine.execPllLockLoss which s
  | .synthesisDone => Sys2Proof.Machine.execSynthesisDone s
  | .commitApply => Sys2Proof.Machine.execCommitApply s
  | .quarantineExpiry p => Sys2Proof.Machine.execQuarantineExpiry p s
  | .returnHoldExpiry p => Sys2Proof.Machine.execReturnHoldExpiry p s
  | .alphaAdjust => Sys2Proof.Machine.execAlphaAdjust s
  | .surveyRecord => Sys2Proof.Machine.execSurveyRecord s
  | .planApprove q => Sys2Proof.Machine.execPlanApprove q s
  | .planReject q => Sys2Proof.Machine.execPlanReject q s
  | .approveTimeout => Sys2Proof.Machine.execApproveTimeout s
  | .freeze q w => Sys2Proof.Machine.execFreeze q w s
  | .unfreeze q w => Sys2Proof.Machine.execUnfreeze q w s
  | .replan q w => Sys2Proof.Machine.execReplan q w s
  | .ssIndexWrite q h => Sys2Proof.Machine.execSsIndexWrite q h s
  | .trapTokenRefill => Sys2Proof.Machine.execTrapTokenRefill s
  | .exportBlockComplete d0 d1 => Sys2Proof.Machine.execExportBlockComplete d0 d1 s
  | .alu t n rd ra rb func => Sys2Proof.Machine.execAlu t n rd ra rb func s
  | .aluImmediate t n k rd ra imm => Sys2Proof.Machine.execAluImmediate t n k rd ra imm s
  | .shiftImmediate t n k rd ra imm => Sys2Proof.Machine.execShiftImmediate t n k rd ra imm s
  | .lui t n rd ra imm => Sys2Proof.Machine.execLui t n rd ra imm s
  | .orsh t n rd ra imm => Sys2Proof.Machine.execOrsh t n rd ra imm s
  | .slti t n k rd ra imm => Sys2Proof.Machine.execSlti t n k rd ra imm s
  | .load t n k rd ra imm => Sys2Proof.Machine.execLoad t n k rd ra imm s
  | .store t n k rs ra imm => Sys2Proof.Machine.execStore t n k rs ra imm s
  | .branch t n k ra rb off => Sys2Proof.Machine.execBranch t n k ra rb off s
  | .jmp t n off => Sys2Proof.Machine.execJmp t n off s
  | .call t n off => Sys2Proof.Machine.execCall t n off s
  | .jr t n rd ra imm => Sys2Proof.Machine.execJr t n rd ra imm s
  | .amoSwap t n rd ra rb => Sys2Proof.Machine.execAmoSwap t n rd ra rb s
  | .amoCas t n rd ra rb => Sys2Proof.Machine.execAmoCas t n rd ra rb s
  | .amoFadd t n rd ra rb => Sys2Proof.Machine.execAmoFadd t n rd ra rb s
  | .amoFand t n rd ra rb => Sys2Proof.Machine.execAmoFand t n rd ra rb s
  | .amoFor t n rd ra rb => Sys2Proof.Machine.execAmoFor t n rd ra rb s
  | .send t n rd rs close word ch => Sys2Proof.Machine.execSend t n rd rs close word ch s
  | .recv t n rd rs close word ch => Sys2Proof.Machine.execRecv t n rd rs close word ch s
  | .poolRecv t n rd rs => Sys2Proof.Machine.execPoolRecv t n rd rs s
  | .poolSend t n rd rs => Sys2Proof.Machine.execPoolSend t n rd rs s
  | .wfe t n rd ra imm => Sys2Proof.Machine.execWfe t n rd ra imm s
  | .wfeWake t => Sys2Proof.Machine.execWfeWake t s
  | .timer t n rd ra imm => Sys2Proof.Machine.execTimer t n rd ra imm s
  | .threadTimerExpiry t => Sys2Proof.Machine.execThreadTimerExpiry t s
  | .sample t n rd ra imm => Sys2Proof.Machine.execSample t n rd ra imm s
  | .devr t n rd ra imm => Sys2Proof.Machine.execDevr t n rd ra imm s
  | .devrRetire t n => Sys2Proof.Machine.execDevrRetire t n s
  | .devw t n rd ra imm => Sys2Proof.Machine.execDevw t n rd ra imm s
  | .devwTakeEffect c => Sys2Proof.Machine.execDevwTakeEffect c s
  | .devsync t n => Sys2Proof.Machine.execDevsync t n s
  | .supNoteRead q => Sys2Proof.Machine.execSupNoteRead q s
  | .threadStart q t => Sys2Proof.Machine.execThreadStart q t s
  | .threadStop q t => Sys2Proof.Machine.execThreadStop q t s
  | .chanCfgWrite q ch writer reader => Sys2Proof.Machine.execChanCfgWrite q ch writer reader s
  | .deadlockDetect => Sys2Proof.Machine.execDeadlockDetect s
  | .dbgHalt q t => Sys2Proof.Machine.execDbgHalt q t s
  | .dbgStep q t n op => Sys2Proof.Machine.execDbgStep q t n op s
  | .dbgResume q t => Sys2Proof.Machine.execDbgResume q t s
  | .dbgAbort q t => Sys2Proof.Machine.execDbgAbort q t s
  | .rx513TailWrite q v => Sys2Proof.Machine.execRx513TailWrite q v s
  | .tx513HeadWrite q v => Sys2Proof.Machine.execTx513HeadWrite q v s
  | .tx513RecordTake f => Sys2Proof.Machine.execTx513RecordTake f s
  | .meResetEnd bad => Sys2Proof.Machine.execMeResetEnd bad s
  | .ucReload q c => Sys2Proof.Machine.execUcReload q c s
  | .ucReloadDone c ok => Sys2Proof.Machine.execUcReloadDone c ok s
  | .ucScrub q c => Sys2Proof.Machine.execUcScrub q c s
  | .ucScrubWord c bad readBackOk => Sys2Proof.Machine.execUcScrubWord c bad readBackOk s
  | .ucScrubDone c => Sys2Proof.Machine.execUcScrubDone c s
  | .ucRdAddrWrite q c store a => Sys2Proof.Machine.execUcRdAddrWrite q c store a s
  | .pmcWrite q c n hi v => Sys2Proof.Machine.execPmcWrite q c n hi v s
  | .pmcOverflow c n => Sys2Proof.Machine.execPmcOverflow c n s
  | .sampleRecord c => Sys2Proof.Machine.execSampleRecord c s
  | .smpCfgWrite q c w => Sys2Proof.Machine.execSmpCfgWrite q c w s
  | .smpTailWrite q c v => Sys2Proof.Machine.execSmpTailWrite q c v s
  | .interruptDelivery n => Sys2Proof.Machine.execInterruptDelivery n s
  | .claim q j => Sys2Proof.Machine.execClaim q j s
  | .complete q j n => Sys2Proof.Machine.execComplete q j n s
  | .srcMaskWrite q n m => Sys2Proof.Machine.execSrcMaskWrite q n m s
  | .srcEnableWrite q n e => Sys2Proof.Machine.execSrcEnableWrite q n e s
  | .swRaise q => Sys2Proof.Machine.execSwRaise q s
  | .faultCommit => Sys2Proof.Machine.execFaultCommit s
  | .tempSensorRead n deg => Sys2Proof.Machine.execTempSensorRead n deg s
  | .firstClear q => Sys2Proof.Machine.execFirstClear q s
  | .faultNRelease q => Sys2Proof.Machine.execFaultNRelease q s
  | .srcReactWrite q esc n w => Sys2Proof.Machine.execSrcReactWrite q esc n w s
  | .conseqWindowClose u => Sys2Proof.Machine.execConseqWindowClose u s
  | .dieHoldSet q key d => Sys2Proof.Machine.execDieHoldSet q key d s
  | .dieHoldClear q key d => Sys2Proof.Machine.execDieHoldClear q key d s
  | .dieResetEnd d => Sys2Proof.Machine.execDieResetEnd d s
  | .dieReadmit d ok => Sys2Proof.Machine.execDieReadmit d ok s
  | .meReset q key => Sys2Proof.Machine.execMeReset q key s
  | .hifReset q key => Sys2Proof.Machine.execHifReset q key s
  | .hifResetEnd rate width => Sys2Proof.Machine.execHifResetEnd rate width s
  | .dramRequestIssue c ecc parity => Sys2Proof.Machine.execDramRequestIssue c ecc parity s
  | .patrolRead c ecc => Sys2Proof.Machine.execPatrolRead c ecc s
  | .stackTempRead m raw => Sys2Proof.Machine.execStackTempRead m raw s
  | .refreshDue c pc issued => Sys2Proof.Machine.execRefreshDue c pc issued s
  | .catchupEnd c => Sys2Proof.Machine.execCatchupEnd c s
  | .neighbourRefresh c pc bank row => Sys2Proof.Machine.execNeighbourRefresh c pc bank row s
  | .rdWindowEnd c => Sys2Proof.Machine.execRdWindowEnd c s
  | .channelRetrain q c => Sys2Proof.Machine.execChannelRetrain q c s
  | .channelRetrainEnd c ok => Sys2Proof.Machine.execChannelRetrainEnd c ok s
  | .baseTrainingDone failed => Sys2Proof.Machine.execBaseTrainingDone failed s
  | .finalCalibrationDone failed => Sys2Proof.Machine.execFinalCalibrationDone failed s
  | .railSample n uv => Sys2Proof.Machine.execRailSample n uv s
  | .resetNEdge low => Sys2Proof.Machine.execResetNEdge low s
  | .resetHoldExpiry => Sys2Proof.Machine.execResetHoldExpiry s
  | .fuseLoadDone otpOk sidebands => Sys2Proof.Machine.execFuseLoadDone otpOk sidebands s
  | .slotReadComplete noFlash => Sys2Proof.Machine.execSlotReadComplete noFlash s
  | .authDone => Sys2Proof.Machine.execAuthDone s
  | .loadComplete => Sys2Proof.Machine.execLoadComplete s
  | .rollbackDone => Sys2Proof.Machine.execRollbackDone s
  | .trainDone => Sys2Proof.Machine.execTrainDone s
  | .planTimeout => Sys2Proof.Machine.execPlanTimeout s
  | .rcvRead q => Sys2Proof.Machine.execRcvRead q s
  | .rcvProgram q => Sys2Proof.Machine.execRcvProgram q s
  | .rcvErase q => Sys2Proof.Machine.execRcvErase q s
  | .rcvCheck q => Sys2Proof.Machine.execRcvCheck q s
  | .rcvRestart q => Sys2Proof.Machine.execRcvRestart q s
  | .rcvCommandEnd late => Sys2Proof.Machine.execRcvCommandEnd late s
  | .reload q key => Sys2Proof.Machine.execReload q key s
  | .pcieLinkUp rate width => Sys2Proof.Machine.execPcieLinkUp rate width s
  | .pcieLinkDown => Sys2Proof.Machine.execPcieLinkDown s
  | .configurationRequest f r => Sys2Proof.Machine.execConfigurationRequest f r s
  | .bar2Read o n ue => Sys2Proof.Machine.execBar2Read o n ue s
  | .bar2Write o bs => Sys2Proof.Machine.execBar2Write o bs s
  | .pf1WinWrite q v => Sys2Proof.Machine.execPf1WinWrite q v s
  | .receiveDmaComplete r descs => Sys2Proof.Machine.execReceiveDmaComplete r descs s
  | .transmitFrameFetch f descs data ue => Sys2Proof.Machine.execTransmitFrameFetch f descs data ue s
  | .transmitWriteback r => Sys2Proof.Machine.execTransmitWriteback r s
  | .ringTailWrite q r v => Sys2Proof.Machine.execRingTailWrite q r v s
  | .ringEnable q r w => Sys2Proof.Machine.execRingEnable q r w s
  | .ringDisable q r w => Sys2Proof.Machine.execRingDisable q r w s
  | .ringStopped r => Sys2Proof.Machine.execRingStopped r s
  | .moderationTimerExpiry r => Sys2Proof.Machine.execModerationTimerExpiry r s
  | .msixUnmask f v lo hi data mask => Sys2Proof.Machine.execMsixUnmask f v lo hi data mask s
  | .l1Entry => Sys2Proof.Machine.execL1Entry s
  | .l1Exit => Sys2Proof.Machine.execL1Exit s
  | .d3hotEntry f pmeEn clear => Sys2Proof.Machine.execD3hotEntry f pmeEn clear s
  | .d0Entry f pmeEn clear => Sys2Proof.Machine.execD0Entry f pmeEn clear s
  | .pmeRepeat f => Sys2Proof.Machine.execPmeRepeat f s
  | .functionLevelReset f => Sys2Proof.Machine.execFunctionLevelReset f s
  | .flrDone f => Sys2Proof.Machine.execFlrDone f s
  | .mbxSubmit q len => Sys2Proof.Machine.execMbxSubmit q len s
  | .mbxRequestTake channel => Sys2Proof.Machine.execMbxRequestTake channel s
  | .completionTimeout r => Sys2Proof.Machine.execCompletionTimeout r s
  | .completionStatusError r => Sys2Proof.Machine.execCompletionStatusError r s
  | .tlpError f e => Sys2Proof.Machine.execTlpError f e s
  | .smbusReadStart good o => Sys2Proof.Machine.execSmbusReadStart good o s
  | .smbusReadReady => Sys2Proof.Machine.execSmbusReadReady s
  | .smbusBlockRead => Sys2Proof.Machine.execSmbusBlockRead s
  | .smbusWrite good o v => Sys2Proof.Machine.execSmbusWrite good o v s
  | .smbusAlertResponse => Sys2Proof.Machine.execSmbusAlertResponse s
  | .jtagRegisterAccess o data => Sys2Proof.Machine.execJtagRegisterAccess o data s
  | .jtagResponseSubmit q v => Sys2Proof.Machine.execJtagResponseSubmit q v s
  | .jtagUnlockResult => Sys2Proof.Machine.execJtagUnlockResult s
  | .otpRead q key => Sys2Proof.Machine.execOtpRead q key s
  | .otpProgram q key readBack => Sys2Proof.Machine.execOtpProgram q key readBack s
  | .otpCommandEnd => Sys2Proof.Machine.execOtpCommandEnd s
  | .boundaryScanInstruction pins => Sys2Proof.Machine.execBoundaryScanInstruction pins s
  | .trstNAssert => Sys2Proof.Machine.execTrstNAssert s
  | .quadPllLock d r => Sys2Proof.Machine.execQuadPllLock d r s
  | .channelPhyLockLoss c => Sys2Proof.Machine.execChannelPhyLockLoss c s

end Sys2Proof.Machine
end

