-- ==== Sys2Proof/WellFormed.lean ====
section
/-! DEFINITION. The operands that each command may carry: numbers within the ranges of the things they name, fields within their widths. -/

namespace Sys2Proof

/-- The operands of a command name things that exist (ports 0 to 511, port dies 0 to 3, windows 0 and 1, queues, rings, sources, channels, threads
and cores) and values that fit their fields. -/
def wellFormed : Instr → Bool
  | .registerWrite _ o v => decide (o.off < 2 ^ 26) && decide (v < 2 ^ 32)
  | .counterLowWordRead _ o => decide (o.off < 2 ^ 26)
  | .rcFieldRead _ o => decide (o.off < 2 ^ 26)
  | .privViolLastRead _ => true
  | .epochBoundary _ => true
  | .rxFrameStart _ p _ => decide (p < 512)
  | .pipelineEntry _ _ _ _ _ => true
  | .farLookupIssue => true
  | .farLookupResult _ _ _ => true
  | .farLookupTimeout _ => true
  | .rxFrameEnd _ _ _ _ _ => true
  | .pauseFrameReceived p _ quanta => decide (p < 512) && decide (quanta < 65536)
  | .pfcFrameReceived p _ enables quanta => decide (p < 512) && decide (enables < 256) && quanta.length == 8
  | .macControlOther p _ => decide (p < 512)
  | .pauseExpiry p n => decide (p < 512) && decide (n < 8)
  | .ptpFrameReceived _ _ => true
  | .mmFragmentReceived _ _ _ => true
  | .rxPathStatusChange p _ _ lanes _ _ => decide (p < 512) && decide (lanes.lock < 16)
  | .adaptationDone p => decide (p < 512)
  | .anComplete p _ => decide (p < 512)
  | .sgmiiControlWord p _ _ _ => decide (p < 512)
  | .linkUpHoldoffExpiry p => decide (p < 512)
  | .linkDownDebounceExpiry p => decide (p < 512)
  | .adminUpWrite _ p _ => decide (p < 512)
  | .txDrainIdle p => decide (p < 512)
  | .portFlushStart p => decide (p < 512)
  | .portFlushComplete p => decide (p < 512)
  | .pfcFrameTransmit p => decide (p < 512)
  | .pfcRefreshExpiry p n => decide (p < 512) && decide (n < 8)
  | .verifyTimerExpiry p => decide (p < 512)
  | .respondFrameReceived p => decide (p < 512)
  | .holdTakeEffect p => decide (p < 512)
  | .holdRelease p => decide (p < 512)
  | .sdTxEqWrite _ p _ => decide (p < 512)
  | .quadPllLockLoss d r => decide (d < 4) && decide (r < 8)
  | .tcamRead _ d j => decide (d < 4) && decide (j < 2)
  | .tcamWrite _ d j => decide (d < 4) && decide (j < 2)
  | .tcamClear _ d j => decide (d < 4) && decide (j < 2)
  | .tcamMove _ d j => decide (d < 4) && decide (j < 2)
  | .tcamInsert _ d j part => decide (d < 4) && decide (j < 2) && decide (part < 8)
  | .tcamDelete _ d j part => decide (d < 4) && decide (j < 2) && decide (part < 8)
  | .tcamSearch _ d j part => decide (d < 4) && decide (j < 2) && decide (part < 8)
  | .tcamCommandEnd d j => decide (d < 4) && decide (j.n < 2)
  | .tcamScrubSlot d _ => decide (d < 4)
  | .tcamRepairEnd d b _ => decide (d < 4) && decide (b < 16)
  | .emRead _ d j table => decide (d < 4) && decide (j < 2) && decide (table < 2)
  | .emLookup _ d j table => decide (d < 4) && decide (j < 2) && decide (table < 2)
  | .emInsert _ d j table => decide (d < 4) && decide (j < 2) && decide (table < 2)
  | .emDelete _ d j table => decide (d < 4) && decide (j < 2) && decide (table < 2)
  | .emFlush _ d j table => decide (d < 4) && decide (j < 2) && decide (table < 2)
  | .emCommandEnd d j => decide (d < 4) && decide (j.n < 2)
  | .learnQueueHead d => decide (d.n < 4)
  | .learnTokenRefill d => decide (d < 4)
  | .agePassStart d => decide (d.n < 4)
  | .hubInputStage _ _ _ _ => true
  | .mcHoldRetry q => decide (q < 4120)
  | .mcHoldExpiry _ => true
  | .lastCellWritten _ => true
  | .frameEligible _ => true
  | .contextInstall j _ => decide (j < 2)
  | .contextAck d j i _ => decide (d < 4) && decide (j < 2) && decide (i < 4096)
  | .contextInval d j i => decide (d < 4) && decide (j < 2) && decide (i < 4096)
  | .flitCrcError d j _ => decide (d < 4) && decide (j < 2)
  | .retrainEnd d _ => decide (d < 4)
  | .qAvgUpdate => true
  | .bufConfigWrite _ o v => decide (o < 2 ^ 26) && decide (v < 2 ^ 32)
  | .schedulerSelect p _ _ _ => decide (p < 514)
  | .egressCopyArrival _ _ _ => true
  | .txFrameEnd _ => true
  | .rwRead _ j table => decide (j < 2) && decide (table.n < 4)
  | .rwWrite _ j table => decide (j < 2) && decide (table < 4)
  | .rwCommandEnd j => decide (j < 2)
  | .editCfgWrite _ _ v => decide (v < 2 ^ 32)
  | .gclChangeReq _ p gates => decide (p < 512) && decide (gates < 256)
  | .gclCancel _ p gates => decide (p < 512) && decide (gates < 256)
  | .gclChangeApply p => decide (p < 512)
  | .gateEntryBegin p i _ => decide (p < 512) && decide (i < 1024)
  | .deadlineSlotAdvance p => decide (p < 512)
  | .shaperWheelSlot => true
  | .ledEvaluation x => decide (x < 65536)
  | .qDepthSample => true
  | .scRead _ j table => decide (j < 2) && decide (table.n < 7)
  | .scWrite _ j table => decide (j < 2) && decide (table < 7)
  | .scChange _ j table => decide (j < 2) && decide (table < 7)
  | .scCommandEnd j => decide (j < 2)
  | .streamGateChangeApply g => decide (g < 4096)
  | .streamGateEntryBegin g i => decide (g < 4096) && decide (i < 32768)
  | .streamGateRegionRelease g => decide (g < 4096)
  | .timeBeacon d _ => decide (d < 4)
  | .rateAdjWrite _ v => decide (v < 2 ^ 32)
  | .timeStep _ => true
  | .timeSet _ => true
  | .applyInstant => true
  | .ppsInEdge => true
  | .ppsInLossTimeout => true
  | .syncInEdge n _ => decide (n < 4)
  | .syncInTsRead _ n => decide (n < 4)
  | .ptpTxInfoRead _ d => decide (d < 4)
  | .ppsOutEdge _ => true
  | .syncOutEdge n _ => decide (n < 4)
  | .syncReceiptTimeout => true
  | .holdoverLimitExpiry => true
  | .pllLockLoss which => decide (which < 3)
  | .synthesisDone => true
  | .commitApply => true
  | .quarantineExpiry p => decide (p < 512)
  | .returnHoldExpiry p => decide (p < 512)
  | .alphaAdjust => true
  | .surveyRecord => true
  | .planApprove _ => true
  | .planReject _ => true
  | .approveTimeout => true
  | .freeze _ w => decide (w < 2 ^ 32)
  | .unfreeze _ w => decide (w < 2 ^ 32)
  | .replan _ w => decide (w < 2 ^ 32)
  | .ssIndexWrite _ h => decide (h < 65536)
  | .trapTokenRefill => true
  | .exportBlockComplete _ _ => true
  | .alu t _ rd ra rb func => decide (t < 32) && decide (rd < 32) && decide (ra < 32) && decide (rb < 32) && decide (func < 2048)
  | .aluImmediate t _ k rd ra imm => decide (t < 32) && decide (k < 4) && decide (rd < 32) && decide (ra < 32) && decide (imm < 65536)
  | .shiftImmediate t _ k rd ra imm => decide (t < 32) && decide (k < 3) && decide (rd < 32) && decide (ra < 32) && decide (imm < 65536)
  | .lui t _ rd ra imm => decide (t < 32) && decide (rd < 32) && decide (ra < 32) && decide (imm < 65536)
  | .orsh t _ rd ra imm => decide (t < 32) && decide (rd < 32) && decide (ra < 32) && decide (imm < 65536)
  | .slti t _ k rd ra imm => decide (t < 32) && decide (k < 2) && decide (rd < 32) && decide (ra < 32) && decide (imm < 65536)
  | .load t _ k rd ra imm => decide (t < 32) && decide (k < 5) && decide (rd < 32) && decide (ra < 32) && decide (imm < 65536)
  | .store t _ k rs ra imm => decide (t < 32) && decide (k < 4) && decide (rs < 32) && decide (ra < 32) && decide (imm < 65536)
  | .branch t _ k ra rb off => decide (t < 32) && decide (k < 6) && decide (ra < 32) && decide (rb < 32) && decide (off < 65536)
  | .jmp t _ off => decide (t < 32) && decide (off < 2 ^ 26)
  | .call t _ off => decide (t < 32) && decide (off < 2 ^ 26)
  | .jr t _ rd ra imm => decide (t < 32) && decide (rd < 32) && decide (ra < 32) && decide (imm < 65536)
  | .amoSwap t _ rd ra rb => decide (t < 32) && decide (rd < 32) && decide (ra < 32) && decide (rb < 32)
  | .amoCas t _ rd ra rb => decide (t < 32) && decide (rd < 32) && decide (ra < 32) && decide (rb < 32)
  | .amoFadd t _ rd ra rb => decide (t < 32) && decide (rd < 32) && decide (ra < 32) && decide (rb < 32)
  | .amoFand t _ rd ra rb => decide (t < 32) && decide (rd < 32) && decide (ra < 32) && decide (rb < 32)
  | .amoFor t _ rd ra rb => decide (t < 32) && decide (rd < 32) && decide (ra < 32) && decide (rb < 32)
  | .send t _ rd rs _ word ch => decide (t < 32) && decide (rd < 32) && decide (rs < 32) && decide (word < 16) && decide (ch < 256)
  | .recv t _ rd rs _ word ch => decide (t < 32) && decide (rd < 32) && decide (rs < 32) && decide (word < 16) && decide (ch < 256)
  | .poolRecv t _ rd rs => decide (t < 32) && decide (rd < 32) && decide (rs < 32)
  | .poolSend t _ rd rs => decide (t < 32) && decide (rd < 32) && decide (rs < 32)
  | .wfe t _ rd ra imm => decide (t < 32) && decide (rd < 32) && decide (ra < 32) && decide (imm < 65536)
  | .wfeWake t => decide (t.n < 32)
  | .timer t _ rd ra imm => decide (t < 32) && decide (rd < 32) && decide (ra < 32) && decide (imm < 65536)
  | .threadTimerExpiry t => decide (t < 32)
  | .sample t _ rd ra imm => decide (t < 32) && decide (rd < 32) && decide (ra < 32) && decide (imm < 65536)
  | .devr t _ rd ra imm => decide (t < 32) && decide (rd < 32) && decide (ra < 32) && decide (imm < 65536)
  | .devrRetire t _ => decide (t < 32)
  | .devw t _ rd ra imm => decide (t < 32) && decide (rd < 32) && decide (ra < 32) && decide (imm < 65536)
  | .devwTakeEffect c => decide (c < 4)
  | .devsync t _ => decide (t < 32)
  | .supNoteRead _ => true
  | .threadStart _ t => decide (t < 32)
  | .threadStop _ t => decide (t < 32)
  | .chanCfgWrite _ ch writer reader => decide (ch < 256) && decide (writer < 32) && decide (reader < 32)
  | .deadlockDetect => true
  | .dbgHalt _ t => decide (t < 32)
  | .dbgStep _ t _ _ => decide (t < 32)
  | .dbgResume _ t => decide (t < 32)
  | .dbgAbort _ t => decide (t < 32)
  | .rx513TailWrite _ v => decide (v < 4096)
  | .tx513HeadWrite _ v => decide (v < 1024)
  | .tx513RecordTake _ => true
  | .meResetEnd bad => (bad.all (fun c => decide (c < 4)))
  | .ucReload _ c => decide (c < 4)
  | .ucReloadDone c _ => decide (c < 4)
  | .ucScrub _ c => decide (c < 4)
  | .ucScrubWord c _ _ => decide (c < 4)
  | .ucScrubDone c => decide (c < 4)
  | .ucRdAddrWrite _ c store a => decide (c < 4) && decide (store < 4) && decide (a < 16384)
  | .pmcWrite _ c n _ v => decide (c < 4) && decide (n < 8) && decide (v < 2 ^ 32)
  | .pmcOverflow c n => decide (c < 4) && decide (n < 8)
  | .sampleRecord c => decide (c < 4)
  | .smpCfgWrite _ c w => decide (c < 4) && decide (w < 2 ^ 32)
  | .smpTailWrite _ c v => decide (c < 4) && decide (v < 2 ^ 32)
  | .interruptDelivery n => decide (n < 385)
  | .claim _ j => decide (j < 7)
  | .complete _ j _ => decide (j < 7)
  | .srcMaskWrite _ n m => decide (n < 385) && decide (m < 2)
  | .srcEnableWrite _ n e => decide (n < 385) && decide (e < 128)
  | .swRaise _ => true
  | .faultCommit => true
  | .tempSensorRead i _ => decide (i < 5)
  | .firstClear _ => true
  | .faultNRelease _ => true
  | .srcReactWrite _ _ n w => decide (n < 128) && decide (w < 2 ^ 32)
  | .conseqWindowClose u => decide (u < 38)
  | .dieHoldSet _ key d => decide (key < 65536) && decide (d < 4)
  | .dieHoldClear _ key d => decide (key < 65536) && decide (d < 4)
  | .dieResetEnd d => decide (d < 4)
  | .dieReadmit d _ => decide (d < 4)
  | .meReset _ key => decide (key < 65536)
  | .hifReset _ key => decide (key < 65536)
  | .hifResetEnd _ _ => true
  | .dramRequestIssue c _ _ => decide (c < 32)
  | .patrolRead c _ => decide (c < 32)
  | .stackTempRead m _ => decide (m < 2)
  | .refreshDue c pc _ => decide (c < 32) && decide (pc < 2)
  | .catchupEnd c => decide (c < 32)
  | .neighbourRefresh c pc bank _ => decide (c < 32) && decide (pc < 2) && decide (bank < 2 ^ 16)
  | .rdWindowEnd c => decide (c < 32)
  | .channelRetrain _ c => decide (c < 32)
  | .channelRetrainEnd c _ => decide (c < 32)
  | .baseTrainingDone failed => failed.all (fun c => decide (c < 32))
  | .finalCalibrationDone failed => failed.all (fun c => decide (c < 32))
  | .railSample i _ => decide (i < 8)
  | .resetNEdge _ => true
  | .resetHoldExpiry => true
  | .fuseLoadDone _ sidebands => decide (sidebands < 16)
  | .slotReadComplete _ => true
  | .authDone => true
  | .loadComplete => true
  | .rollbackDone => true
  | .trainDone => true
  | .planTimeout => true
  | .rcvRead _ => true
  | .rcvProgram _ => true
  | .rcvErase _ => true
  | .rcvCheck _ => true
  | .rcvRestart _ => true
  | .rcvCommandEnd _ => true
  | .reload _ key => decide (key < 65536)
  | .pcieLinkUp _ _ => true
  | .pcieLinkDown => true
  | .configurationRequest f _ => decide (f < 2)
  | .bar2Read o _ _ => decide (o < 2 ^ 28)
  | .bar2Write o _ => decide (o < 2 ^ 28)
  | .pf1WinWrite _ v => decide (v < 8)
  | .receiveDmaComplete r _ => decide (r < 146)
  | .transmitFrameFetch _ _ _ _ => true
  | .transmitWriteback r => decide (r < 146)
  | .ringTailWrite _ r v => decide (r < 146) && decide (v < 2 ^ 32)
  | .ringEnable _ r w => decide (r < 146) && decide (w < 2 ^ 32)
  | .ringDisable _ r w => decide (r < 146) && decide (w < 2 ^ 32)
  | .ringStopped r => decide (r < 146)
  | .moderationTimerExpiry r => decide (r < 146)
  | .msixUnmask f v lo hi data _ => decide (f < 2) && decide (v < 128) && decide (lo < 2 ^ 32) && decide (hi < 2 ^ 32) && decide (data < 2 ^ 32)
  | .l1Entry => true
  | .l1Exit => true
  | .d3hotEntry f _ _ => decide (f < 2)
  | .d0Entry f _ _ => decide (f < 2)
  | .pmeRepeat f => decide (f < 2)
  | .functionLevelReset f => decide (f < 2)
  | .flrDone f => decide (f < 2)
  | .mbxSubmit _ len => decide (len < 8192)
  | .mbxRequestTake _ => true
  | .completionTimeout r => decide (r < 146)
  | .completionStatusError r => decide (r < 146)
  | .tlpError f _ => decide (f < 2)
  | .smbusReadStart _ o => decide (o < 2 ^ 26)
  | .smbusReadReady => true
  | .smbusBlockRead => true
  | .smbusWrite _ o v => decide (o < 2 ^ 26) && decide (v < 2 ^ 32)
  | .smbusAlertResponse => true
  | .jtagRegisterAccess o _ => decide (o < 2 ^ 26)
  | .jtagResponseSubmit _ v => decide (v < 2 ^ 32)
  | .jtagUnlockResult => true
  | .otpRead _ key => decide (key < 65536)
  | .otpProgram _ key readBack => decide (key < 65536) && decide (readBack < 2 ^ 32)
  | .otpCommandEnd => true
  | .boundaryScanInstruction _ => true
  | .trstNAssert => true
  | .quadPllLock d r => decide (d < 4) && decide (r < 8)
  | .channelPhyLockLoss c => decide (c < 32)

end Sys2Proof
end

