-- ==== Sys2Proof/Safety.lean ====
section
/-! DEFINITION. What counts as a safe run: no step stops, and every memory of the state keeps its canonical form. With it, the words that statements
about commands are written in: what a command needs in order to act, and which register its access names. -/

namespace Sys2Proof.Machine

/-- Every command that waits has operands in range. -/
def State.queueOk (s : State) : Bool := s.pending.all wellFormed

/-- The queue and the four memories that commands write a byte or a word at a time: the ME SRAM, the HBM3 contents, the flash, the fuses. -/
def State.mems (s : State) : List Instr × Tab Byte × Tab Byte × Tab Byte × Tab Nat := (s.pending, s.sram, s.hbm, s.ldr.flash, s.ldr.otp)

/-- A step completes: it answers a next state. -/
def State.completes (s : State) : Prop := ∃ t, step s = .next t

/-- A queue and memories of which every memory is in canonical form. -/
def memsWf (m : List Instr × Tab Byte × Tab Byte × Tab Byte × Tab Nat) : Bool :=
  twf 0 m.2.1 && twf 0 m.2.2.1 && twf 0xFF m.2.2.2.1 && twf 0 m.2.2.2.2

/-- The memories of a state are in canonical form: addresses rise strictly, and no entry holds what an unlisted address reads as. -/
def Memory.wf (s : State) : Bool := memsWf s.mems

/-- What a command needs in order to act: the data path and the management engine, the clock, the supplies, a register access, or nothing but what its
own rule says. -/
inductive RowKind where
  | dataPath | clock | power | write | read | other
deriving DecidableEq, Repr

/-- What each command needs (log 1 to 5; 15_faults.md R386; 17_startup_image.md R420, R441). -/
def rowKind : Instr → RowKind
  | .rxFrameStart .. | .pipelineEntry .. | .farLookupIssue | .farLookupResult .. | .farLookupTimeout .. | .rxFrameEnd ..
  | .pauseFrameReceived .. | .pfcFrameReceived .. | .macControlOther .. | .pauseExpiry .. | .ptpFrameReceived .. | .mmFragmentReceived ..
  | .rxPathStatusChange .. | .adaptationDone .. | .anComplete .. | .sgmiiControlWord .. | .linkUpHoldoffExpiry ..
  | .linkDownDebounceExpiry .. | .txDrainIdle .. | .portFlushStart .. | .portFlushComplete .. | .pfcFrameTransmit .. | .pfcRefreshExpiry ..
  | .verifyTimerExpiry .. | .respondFrameReceived .. | .holdTakeEffect .. | .holdRelease .. | .learnQueueHead .. | .hubInputStage ..
  | .mcHoldRetry .. | .mcHoldExpiry .. | .lastCellWritten .. | .frameEligible .. | .contextInstall .. | .contextAck .. | .contextInval ..
  | .flitCrcError .. | .qAvgUpdate | .schedulerSelect .. | .egressCopyArrival .. | .txFrameEnd .. | .gateEntryBegin ..
  | .deadlineSlotAdvance .. | .shaperWheelSlot | .ledEvaluation .. | .qDepthSample | .synthesisDone | .commitApply | .quarantineExpiry ..
  | .returnHoldExpiry .. | .alphaAdjust | .surveyRecord | .approveTimeout | .trapTokenRefill | .exportBlockComplete ..
  | .threadTimerExpiry .. | .devrRetire .. | .devwTakeEffect .. | .deadlockDetect | .tx513RecordTake .. | .meResetEnd ..
  | .receiveDmaComplete .. | .transmitFrameFetch .. | .transmitWriteback .. | .mbxRequestTake .. => .dataPath
  | .epochBoundary .. | .quadPllLockLoss .. | .tcamCommandEnd .. | .tcamScrubSlot .. | .tcamRepairEnd .. | .emCommandEnd ..
  | .learnTokenRefill .. | .agePassStart .. | .retrainEnd .. | .rwCommandEnd .. | .gclChangeApply .. | .scCommandEnd ..
  | .streamGateChangeApply .. | .streamGateEntryBegin .. | .streamGateRegionRelease .. | .timeBeacon .. | .applyInstant | .ppsInEdge
  | .ppsInLossTimeout | .syncInEdge .. | .ppsOutEdge .. | .syncOutEdge .. | .syncReceiptTimeout | .holdoverLimitExpiry | .ucReloadDone ..
  | .ucScrubWord .. | .ucScrubDone .. | .pmcOverflow .. | .sampleRecord .. | .interruptDelivery .. | .dieResetEnd .. | .dieReadmit ..
  | .dramRequestIssue .. | .patrolRead .. | .stackTempRead .. | .refreshDue .. | .catchupEnd .. | .neighbourRefresh .. | .rdWindowEnd ..
  | .channelRetrainEnd .. | .quadPllLock .. | .channelPhyLockLoss .. => .clock
  | .pllLockLoss .. | .alu .. | .aluImmediate .. | .shiftImmediate .. | .lui .. | .orsh .. | .slti .. | .load .. | .store .. | .branch ..
  | .jmp .. | .call .. | .jr .. | .amoSwap .. | .amoCas .. | .amoFadd .. | .amoFand .. | .amoFor .. | .send .. | .recv .. | .poolRecv ..
  | .poolSend .. | .wfe .. | .wfeWake .. | .timer .. | .sample .. | .devr .. | .devw .. | .devsync .. | .tempSensorRead ..
  | .conseqWindowClose .. | .hifResetEnd .. | .rcvCommandEnd .. | .pcieLinkUp .. | .pcieLinkDown | .configurationRequest .. | .bar2Read ..
  | .bar2Write .. | .ringStopped .. | .moderationTimerExpiry .. | .msixUnmask .. | .l1Entry | .l1Exit | .d3hotEntry .. | .d0Entry ..
  | .pmeRepeat .. | .functionLevelReset .. | .flrDone .. | .completionTimeout .. | .completionStatusError .. | .tlpError ..
  | .jtagUnlockResult | .otpCommandEnd => .power
  | .adminUpWrite .. | .sdTxEqWrite .. | .tcamRead .. | .tcamWrite .. | .tcamClear .. | .tcamMove .. | .tcamInsert .. | .tcamDelete ..
  | .tcamSearch .. | .emRead .. | .emLookup .. | .emInsert .. | .emDelete .. | .emFlush .. | .rwRead .. | .rwWrite .. | .editCfgWrite ..
  | .gclChangeReq .. | .gclCancel .. | .scRead .. | .scWrite .. | .scChange .. | .rateAdjWrite .. | .timeStep .. | .timeSet ..
  | .planApprove .. | .planReject .. | .freeze .. | .unfreeze .. | .replan .. | .ssIndexWrite .. | .threadStart .. | .threadStop ..
  | .chanCfgWrite .. | .dbgHalt .. | .dbgStep .. | .dbgResume .. | .dbgAbort .. | .rx513TailWrite .. | .tx513HeadWrite .. | .ucReload ..
  | .ucScrub .. | .ucRdAddrWrite .. | .pmcWrite .. | .smpCfgWrite .. | .smpTailWrite .. | .complete .. | .srcMaskWrite ..
  | .srcEnableWrite .. | .swRaise .. | .firstClear .. | .faultNRelease .. | .srcReactWrite .. | .dieHoldSet .. | .dieHoldClear ..
  | .meReset .. | .hifReset .. | .channelRetrain .. | .rcvRead .. | .rcvProgram .. | .rcvErase .. | .rcvCheck .. | .rcvRestart ..
  | .reload .. | .pf1WinWrite .. | .ringTailWrite .. | .ringEnable .. | .ringDisable .. | .mbxSubmit .. | .jtagResponseSubmit ..
  | .otpRead .. | .otpProgram .. => .write
  | .privViolLastRead .. | .syncInTsRead .. | .ptpTxInfoRead .. | .supNoteRead .. | .claim .. => .read
  | .registerWrite .. | .counterLowWordRead .. | .rcFieldRead .. | .bufConfigWrite .. | .faultCommit | .baseTrainingDone ..
  | .finalCalibrationDone .. | .railSample .. | .resetNEdge .. | .resetHoldExpiry | .fuseLoadDone .. | .slotReadComplete .. | .authDone
  | .loadComplete | .rollbackDone | .trainDone | .planTimeout | .smbusReadStart .. | .smbusReadReady | .smbusBlockRead | .smbusWrite ..
  | .smbusAlertResponse | .jtagRegisterAccess .. | .boundaryScanInstruction .. | .trstNAssert => .other

/-- The window register `j` of die `d`. -/
def window (q : Requester) (r : Reg) (d j : Nat) : Option (Requester × Reg × Nat) := if j < 2 then some (q, r, d * 2 + j) else none

/-- The register that a row of register access names, with its requester. -/
def accessOf : Instr → Option (Requester × Reg × Nat)
  | .privViolLastRead q => some (q, .PRIV_VIOL_LAST, 0)
  | .adminUpWrite q p _ => some (q, .PORT_CFG, p)
  | .sdTxEqWrite q p _ => some (q, .SD_TX_EQ, p)
  | .tcamRead q d j => window q .TCAM_CMD d j
  | .tcamWrite q d j => window q .TCAM_CMD d j
  | .tcamClear q d j => window q .TCAM_CMD d j
  | .tcamMove q d j => window q .TCAM_CMD d j
  | .tcamInsert q d j _ => window q .TCAM_CMD d j
  | .tcamDelete q d j _ => window q .TCAM_CMD d j
  | .tcamSearch q d j _ => window q .TCAM_CMD d j
  | .emRead q d j _ => window q .EM_CMD d j
  | .emLookup q d j _ => window q .EM_CMD d j
  | .emInsert q d j _ => window q .EM_CMD d j
  | .emDelete q d j _ => window q .EM_CMD d j
  | .emFlush q d j _ => window q .EM_CMD d j
  | .rwRead q j _ => window q .RW_CMD 0 j
  | .rwWrite q j _ => window q .RW_CMD 0 j
  | .editCfgWrite q rtag _ => some (q, (if rtag then .RTAG_CFG else .EDIT_CFG), 0)
  | .gclChangeReq q p _ => some (q, .GCL_CTRL, p)
  | .gclCancel q p _ => some (q, .GCL_CTRL, p)
  | .scRead q j _ => window q .SC_CMD 0 j
  | .scWrite q j _ => window q .SC_CMD 0 j
  | .scChange q j _ => window q .SC_CMD 0 j
  | .rateAdjWrite q _ => some (q, .RATE_ADJ, 0)
  | .timeStep q => some (q, .STEP_CTRL, 0)
  | .timeSet q => some (q, .STEP_CTRL, 0)
  | .syncInTsRead q n => some (q, .SYNC_IN_TS_NS, n)
  | .ptpTxInfoRead q d => some (q, .PTP_TX_INFO, d)
  | .planApprove q => some (q, .APPROVE_CMD, 0)
  | .planReject q => some (q, .APPROVE_CMD, 0)
  | .freeze q _ => some (q, .PLN_CTRL, 0)
  | .unfreeze q _ => some (q, .PLN_CTRL, 0)
  | .replan q _ => some (q, .PLN_CTRL, 0)
  | .ssIndexWrite q _ => some (q, .SS_INDEX, 0)
  | .supNoteRead q => some (q, .SUP_NOTE, 0)
  | .threadStart q t => some (q, .THREAD_CTRL, t)
  | .threadStop q t => some (q, .THREAD_CTRL, t)
  | .chanCfgWrite q ch _ _ => some (q, .CHAN_CFG0, ch)
  | .dbgHalt q _ => some (q, .DBG_CMD, 0)
  | .dbgStep q _ _ _ => some (q, .DBG_CMD, 0)
  | .dbgResume q _ => some (q, .DBG_CMD, 0)
  | .dbgAbort q _ => some (q, .DBG_CMD, 0)
  | .rx513TailWrite q _ => some (q, .RX513_TAIL, 0)
  | .tx513HeadWrite q _ => some (q, .TX513_HEAD, 0)
  | .ucReload q c => some (q, .UC_CMD, c)
  | .ucScrub q c => some (q, .UC_CMD, c)
  | .ucRdAddrWrite q c _ _ => some (q, .UC_RD_ADDR, c)
  | .pmcWrite q c n hi _ => some (q, (if hi then .PMC_HI else .PMC_LO), (c * 8 + n))
  | .smpCfgWrite q c _ => some (q, .SMP_CFG, c)
  | .smpTailWrite q c _ => some (q, .SMP_TAIL, c)
  | .claim q j => some (q, .CLAIM, j)
  | .complete q j _ => some (q, .COMPLETE, j)
  | .srcMaskWrite q n _ => some (q, .SRC_CFG, n)
  | .srcEnableWrite q n _ => some (q, .SRC_CFG, n)
  | .swRaise q => some (q, .SW_RAISE, 0)
  | .firstClear q => some (q, .FLT_CTRL, 0)
  | .faultNRelease q => some (q, .FLT_CTRL, 0)
  | .srcReactWrite q esc n _ => some (q, (if esc then .ESC_REACT else .SRC_REACT), n)
  | .dieHoldSet q _ _ => some (q, .RESET_CTRL, 0)
  | .dieHoldClear q _ _ => some (q, .RESET_CTRL, 0)
  | .meReset q _ => some (q, .RESET_CTRL, 0)
  | .hifReset q _ => some (q, .RESET_CTRL, 0)
  | .channelRetrain q c => some (q, .CH_CTRL, c)
  | .rcvRead q => some (q, .RCV_CMD, 0)
  | .rcvProgram q => some (q, .RCV_CMD, 0)
  | .rcvErase q => some (q, .RCV_CMD, 0)
  | .rcvCheck q => some (q, .RCV_CMD, 0)
  | .rcvRestart q => some (q, .RCV_CMD, 0)
  | .reload q _ => some (q, .LDR_CTRL, 0)
  | .pf1WinWrite q _ => some (q, .PF1_WIN, 0)
  | .ringTailWrite q r _ => some (q, .RING_TAIL, r)
  | .ringEnable q r _ => some (q, .RING_CFG, r)
  | .ringDisable q r _ => some (q, .RING_CFG, r)
  | .mbxSubmit q _ => some (q, .MBX_CMD, 0)
  | .jtagResponseSubmit q _ => some (q, .JTAG_RESPONSE, 3)
  | .otpRead q _ => some (q, .OTP_CMD, 0)
  | .otpProgram q _ _ => some (q, .OTP_CMD, 0)
  | .rxFrameStart .. | .pipelineEntry .. | .farLookupIssue | .farLookupResult .. | .farLookupTimeout .. | .rxFrameEnd ..
  | .pauseFrameReceived .. | .pfcFrameReceived .. | .macControlOther .. | .pauseExpiry .. | .ptpFrameReceived .. | .mmFragmentReceived ..
  | .rxPathStatusChange .. | .adaptationDone .. | .anComplete .. | .sgmiiControlWord .. | .linkUpHoldoffExpiry ..
  | .linkDownDebounceExpiry .. | .txDrainIdle .. | .portFlushStart .. | .portFlushComplete .. | .pfcFrameTransmit .. | .pfcRefreshExpiry ..
  | .verifyTimerExpiry .. | .respondFrameReceived .. | .holdTakeEffect .. | .holdRelease .. | .learnQueueHead .. | .hubInputStage ..
  | .mcHoldRetry .. | .mcHoldExpiry .. | .lastCellWritten .. | .frameEligible .. | .contextInstall .. | .contextAck .. | .contextInval ..
  | .flitCrcError .. | .qAvgUpdate | .schedulerSelect .. | .egressCopyArrival .. | .txFrameEnd .. | .gateEntryBegin ..
  | .deadlineSlotAdvance .. | .shaperWheelSlot | .ledEvaluation .. | .qDepthSample | .synthesisDone | .commitApply | .quarantineExpiry ..
  | .returnHoldExpiry .. | .alphaAdjust | .surveyRecord | .approveTimeout | .trapTokenRefill | .exportBlockComplete ..
  | .threadTimerExpiry .. | .devrRetire .. | .devwTakeEffect .. | .deadlockDetect | .tx513RecordTake .. | .meResetEnd ..
  | .receiveDmaComplete .. | .transmitFrameFetch .. | .transmitWriteback .. | .mbxRequestTake .. | .epochBoundary .. | .quadPllLockLoss ..
  | .tcamCommandEnd .. | .tcamScrubSlot .. | .tcamRepairEnd .. | .emCommandEnd .. | .learnTokenRefill .. | .agePassStart ..
  | .retrainEnd .. | .rwCommandEnd .. | .gclChangeApply .. | .scCommandEnd .. | .streamGateChangeApply .. | .streamGateEntryBegin ..
  | .streamGateRegionRelease .. | .timeBeacon .. | .applyInstant | .ppsInEdge | .ppsInLossTimeout | .syncInEdge .. | .ppsOutEdge ..
  | .syncOutEdge .. | .syncReceiptTimeout | .holdoverLimitExpiry | .ucReloadDone .. | .ucScrubWord .. | .ucScrubDone .. | .pmcOverflow ..
  | .sampleRecord .. | .interruptDelivery .. | .dieResetEnd .. | .dieReadmit .. | .dramRequestIssue .. | .patrolRead .. | .stackTempRead ..
  | .refreshDue .. | .catchupEnd .. | .neighbourRefresh .. | .rdWindowEnd .. | .channelRetrainEnd .. | .quadPllLock ..
  | .channelPhyLockLoss .. | .pllLockLoss .. | .alu .. | .aluImmediate .. | .shiftImmediate .. | .lui .. | .orsh .. | .slti .. | .load ..
  | .store .. | .branch .. | .jmp .. | .call .. | .jr .. | .amoSwap .. | .amoCas .. | .amoFadd .. | .amoFand .. | .amoFor .. | .send ..
  | .recv .. | .poolRecv .. | .poolSend .. | .wfe .. | .wfeWake .. | .timer .. | .sample .. | .devr .. | .devw .. | .devsync ..
  | .tempSensorRead .. | .conseqWindowClose .. | .hifResetEnd .. | .rcvCommandEnd .. | .pcieLinkUp .. | .pcieLinkDown
  | .configurationRequest .. | .bar2Read .. | .bar2Write .. | .ringStopped .. | .moderationTimerExpiry .. | .msixUnmask .. | .l1Entry
  | .l1Exit | .d3hotEntry .. | .d0Entry .. | .pmeRepeat .. | .functionLevelReset .. | .flrDone .. | .completionTimeout ..
  | .completionStatusError .. | .tlpError .. | .jtagUnlockResult | .otpCommandEnd | .registerWrite .. | .counterLowWordRead ..
  | .rcFieldRead .. | .bufConfigWrite .. | .faultCommit | .baseTrainingDone .. | .finalCalibrationDone .. | .railSample .. | .resetNEdge ..
  | .resetHoldExpiry | .fuseLoadDone .. | .slotReadComplete .. | .authDone | .loadComplete | .rollbackDone | .trainDone | .planTimeout
  | .smbusReadStart .. | .smbusReadReady | .smbusBlockRead | .smbusWrite .. | .smbusAlertResponse | .jtagRegisterAccess ..
  | .boundaryScanInstruction .. | .trstNAssert => none

/-- An access of a requester to register `r[i]` comes at once to a register that answers: the requester's bus and map reach it, the part is not
Terminal, its port die is up, and no retraining link stands between (01_architecture.md R17, R18; 07_shared_buffer.md R171; 15_faults.md R386;
17_startup_image.md R441; 18_host_interface.md R448, R449). -/
def answers (q : Requester) (r : Reg) (i : Nat) (s : State) : Bool := lands q r i s && !linkWaits (regOffset r i) s

/-- An access of a requester at its own address `o` comes at once to the register word `r`, at offset `a` of the map. -/
def comesTo (q : Requester) (o a : Nat) (r : RegAt) (s : State) : Bool :=
  busUp q s && reach q o s == some a && !linkWaits a s && !beyondReach a s && !safeHides q a s &&
    (decide (blockOf a < 13) || s.dieUp (blockOf a - 13)) && regAt a == some r && !joinedHidden a r.reg s

/-- The part that a command acts on works, and a write comes from a requester with the privileged view of its block. -/
def works (c : Instr) (s : State) : Bool :=
  match rowKind c with
  | .dataPath => !s.ldr.held && !s.terminal && !s.safe
  | .clock => !s.ldr.held && !s.terminal
  | .power => !s.ldr.held
  | .write => match accessOf c with
    | some (q, r, i) => answers q r i s && privileged q (blockOf (regOffset r i)) s
    | none => false
  | .read => match accessOf c with
    | some (q, r, i) => answers q r i s
    | none => false
  | .other => true

/-- The end `e` of a command of rewrite window `j` is held until RW_COMMAND_END (log 16). -/
def rwPends (j : Nat) (e : CmdEnd) (s : State) : State := { s with tb := { s.tb with rwEnd := tset none s.tb.rwEnd j (some e) } }

/-- The same for a window of the stream tables. -/
def scPends (j : Nat) (e : CmdEnd) (s : State) : State := { s with tb := { s.tb with scEnd := tset none s.tb.scEnd j (some e) } }

/-! ### The management engine (13_me_instruction_set.md) -/

/-- The state in which an instruction of thread `t` takes effect: its words are issued and counted, and have written the temporaries (R348). -/
def issued (t : Nat) (i : Issue) (s : State) : State :=
  routineTemps t (fetched t s) i.words (issueWords t i.words (s.withMe { s.me with bpPass := tset false s.me.bpPass t false }))

/-- Thread `t` runs, and the word at its PC is the legal instruction `op`, whose routine words are sound (R307, R312, R325, R336, R354, R356): no
breakpoint stops it, or it passes this one, or it waits for this very instruction to retire. -/
def issues (t : Nat) (i : Issue) (op : MeOp) (s : State) : Bool :=
  decide (t < 32) && threadState t s == 1 && coreRuns t s && (tget none s.me.devr t).isNone &&
  (!atBreakpoint t s || tget false s.me.bpPass t || tget 0 s.me.held t != 0) && fetchFault t s == 0 && meOpInRange op &&
  fetched t s == encodeMe op && i.found == .ok

/-- The instruction of thread `t` that stood at the PC of `s` retires with effect `u`, and with the counters and samples of a retirement (R361,
R362). -/
def retires (t : Nat) (i : Issue) (op : MeOp) (s u : State) : State := retired t (pcOf t s) (encodeMe op) (pathOf t s) i u

/-- The instruction of thread `t` that stood at the PC of `s` has begun with effect `u` and retires later: its path is kept (R355), and a HALT to
come is carried out where the thread waits (12_management_engine.md R325). -/
def waits (t : Nat) (s u : State) : State :=
  let v := u.withMe { u.me with heldPath := tset 0 u.me.heldPath t (pathOf t s) }
  if threadState t u = 2 ∧ tget false u.me.haltReq t = true then haltThread t v else v

/-- Go on with the next instruction's address. -/
def goesOn (t : Nat) (s : State) : State := setPc t (pcOf t s + 4) s

/-- Go on with a jump's target; BRANCH_TAKEN counts. -/
def jumpsTo (t target : Nat) (s : State) : State := setPc t target (pmcThread t 15 1 s)

/-! ### Views and memories -/

/-- The writes that act in the observer view too, or that R476 gives JTAG alone (00_scope.md R13), and the registers of reserved sources, which ignore
every write (14_interrupts.md R378; 15_faults.md R399). Of PF1 the whole ring and window rows stand here. -/
def observerMay : Instr → Bool
  | .complete .. | .ssIndexWrite .. => true
  | .pf1WinWrite q _ | .ringTailWrite q _ _ | .ringEnable q _ _ | .ringDisable q _ _ => q == .pf1
  | .jtagResponseSubmit q _ => q == .jtag
  | .srcMaskWrite _ n _ | .srcEnableWrite _ n _ => !srcExists n
  | .srcReactWrite _ _ n _ => n == 0
  | _ => false

/-- A 64-bit counter, which two words show (00_scope.md R14); an address of two words is none. -/
def isWide (r : Reg) : Bool :=
  match r with
  | .JOURNAL_ADDR | .HISTORY_ADDR => false
  | r => r.words == 2

/-- The commands that write no byte of the ME SRAM, of HBM3 and of the flash, and no fuse: all but the instructions of the management engine, which
may store; the Planner's journal and export; the host's BAR2 writes and what an uncorrectable read takes back of them; the records of port 513; the
commands that insert, move or delete near entries, whose static ones have shadows in HBM3, or far entries; the recovery mailbox; the fuses; the
microcode and threads that a start or a reset loads; and the writes by offset, which reach any of them. -/
def storesNothing : Instr → Bool
  | .counterLowWordRead .. | .rcFieldRead .. | .privViolLastRead .. | .rxFrameStart .. | .farLookupIssue | .farLookupResult ..
  | .farLookupTimeout .. | .rxFrameEnd .. | .pauseFrameReceived .. | .pfcFrameReceived .. | .macControlOther .. | .pauseExpiry ..
  | .ptpFrameReceived .. | .mmFragmentReceived .. | .rxPathStatusChange .. | .adaptationDone .. | .anComplete .. | .sgmiiControlWord ..
  | .linkUpHoldoffExpiry .. | .txDrainIdle .. | .portFlushStart .. | .portFlushComplete .. | .pfcFrameTransmit .. | .pfcRefreshExpiry ..
  | .verifyTimerExpiry .. | .respondFrameReceived .. | .holdTakeEffect .. | .holdRelease .. | .sdTxEqWrite .. | .quadPllLockLoss .. | .tcamRead ..
  | .tcamWrite .. | .tcamClear .. | .tcamMove .. | .tcamInsert .. | .tcamDelete .. | .tcamSearch .. | .tcamCommandEnd .. | .tcamScrubSlot ..
  | .tcamRepairEnd .. | .emRead .. | .emLookup .. | .emInsert .. | .emDelete .. | .emFlush .. | .learnTokenRefill .. | .hubInputStage ..
  | .mcHoldRetry .. | .mcHoldExpiry .. | .lastCellWritten .. | .frameEligible .. | .contextInstall .. | .contextAck .. | .contextInval ..
  | .flitCrcError .. | .qAvgUpdate | .egressCopyArrival .. | .rwRead .. | .rwWrite .. | .rwCommandEnd .. | .gclChangeReq .. | .gclCancel ..
  | .gclChangeApply .. | .gateEntryBegin .. | .deadlineSlotAdvance .. | .shaperWheelSlot | .ledEvaluation .. | .qDepthSample | .scRead ..
  | .scWrite .. | .scChange .. | .scCommandEnd .. | .streamGateChangeApply .. | .streamGateEntryBegin .. | .streamGateRegionRelease ..
  | .timeBeacon .. | .rateAdjWrite .. | .timeStep .. | .timeSet .. | .ppsInEdge | .ppsInLossTimeout | .syncInEdge .. | .syncInTsRead ..
  | .ptpTxInfoRead .. | .ppsOutEdge .. | .syncOutEdge .. | .syncReceiptTimeout | .holdoverLimitExpiry | .pllLockLoss .. | .returnHoldExpiry ..
  | .ssIndexWrite .. | .trapTokenRefill | .wfeWake .. | .threadTimerExpiry .. | .devrRetire .. | .supNoteRead .. | .threadStart .. | .threadStop ..
  | .chanCfgWrite .. | .deadlockDetect | .dbgHalt .. | .dbgResume .. | .dbgAbort .. | .rx513TailWrite .. | .tx513HeadWrite .. | .meResetEnd ..
  | .ucReload .. | .ucReloadDone .. | .ucScrub .. | .ucScrubWord .. | .ucScrubDone .. | .ucRdAddrWrite .. | .pmcWrite .. | .pmcOverflow ..
  | .sampleRecord .. | .smpCfgWrite .. | .smpTailWrite .. | .interruptDelivery .. | .claim .. | .complete .. | .srcMaskWrite ..
  | .srcEnableWrite .. | .swRaise .. | .tempSensorRead .. | .firstClear .. | .faultNRelease .. | .srcReactWrite .. | .conseqWindowClose ..
  | .dieResetEnd .. | .hifReset .. | .hifResetEnd .. | .patrolRead .. | .stackTempRead .. | .refreshDue .. | .catchupEnd .. | .neighbourRefresh ..
  | .rdWindowEnd .. | .channelRetrain .. | .channelRetrainEnd .. | .baseTrainingDone .. | .finalCalibrationDone .. | .fuseLoadDone ..
  | .slotReadComplete .. | .loadComplete | .trainDone | .planTimeout | .rcvRead .. | .rcvCheck .. | .rcvCommandEnd .. | .pcieLinkUp ..
  | .pcieLinkDown | .configurationRequest .. | .bar2Read .. | .pf1WinWrite .. | .receiveDmaComplete .. | .transmitFrameFetch ..
  | .transmitWriteback .. | .ringTailWrite .. | .ringEnable .. | .ringDisable .. | .ringStopped .. | .moderationTimerExpiry .. | .msixUnmask ..
  | .l1Entry | .l1Exit | .d3hotEntry .. | .d0Entry .. | .pmeRepeat .. | .functionLevelReset .. | .flrDone .. | .mbxSubmit ..
  | .completionTimeout .. | .completionStatusError .. | .tlpError .. | .smbusReadStart .. | .smbusReadReady | .smbusBlockRead | .smbusAlertResponse
  | .jtagResponseSubmit .. | .jtagUnlockResult | .otpRead .. | .otpCommandEnd | .boundaryScanInstruction .. | .trstNAssert | .quadPllLock ..
  | .channelPhyLockLoss .. => true
  | .registerWrite .. | .epochBoundary .. | .pipelineEntry .. | .linkDownDebounceExpiry .. | .adminUpWrite .. | .emCommandEnd ..
  | .learnQueueHead .. | .agePassStart .. | .retrainEnd .. | .bufConfigWrite .. | .schedulerSelect .. | .txFrameEnd .. | .editCfgWrite ..
  | .applyInstant | .synthesisDone | .commitApply | .quarantineExpiry .. | .alphaAdjust | .surveyRecord | .planApprove .. | .planReject ..
  | .approveTimeout | .freeze .. | .unfreeze .. | .replan .. | .exportBlockComplete .. | .alu .. | .aluImmediate .. | .shiftImmediate .. | .lui ..
  | .orsh .. | .slti .. | .load .. | .store .. | .branch .. | .jmp .. | .call .. | .jr .. | .amoSwap .. | .amoCas .. | .amoFadd .. | .amoFand ..
  | .amoFor .. | .send .. | .recv .. | .poolRecv .. | .poolSend .. | .wfe .. | .timer .. | .sample .. | .devr .. | .devw .. | .devwTakeEffect ..
  | .devsync .. | .dbgStep .. | .tx513RecordTake .. | .faultCommit | .dieHoldSet .. | .dieHoldClear .. | .dieReadmit .. | .meReset ..
  | .dramRequestIssue .. | .railSample .. | .resetNEdge .. | .resetHoldExpiry | .authDone | .rollbackDone | .rcvProgram .. | .rcvErase ..
  | .rcvRestart .. | .reload .. | .bar2Write .. | .mbxRequestTake .. | .smbusWrite .. | .jtagRegisterAccess .. | .otpProgram .. => false

end Sys2Proof.Machine
end

