-- ==== Sys2Proof/Certificates/Slice0/Obligations.lean ====
section
/-! DEFINITION. The statements about the block that the provers are given: what each command does, whole-machine rules and invariants. -/

open Sys2Proof Sys2Proof.Machine Host

/-- A step takes the command at the front of the queue and runs it on the state with the rest. For every command at the front, step answers what exec
answers on the state whose queue is the rest. This is how the statements about single commands reach a run. (Rests on 95_what_each_step_holds.md;
notes/assumptions/1.md.) -/
def Obligations.StepTakesFront : Prop :=
  (∀ (c : Instr) (rest : List Instr) (s : State), s.pending = c :: rest → step s = exec c { s with pending := rest })

/-- With no command waiting a step is one tick of the hub clock. The choice of log 2: the clock ticks in place of idling. In RESET_HELD and in the
Terminal state the clock stands still. (Rests on 01_architecture.md R28; notes/assumptions/2.md.) -/
def Obligations.EmptyQueueTicks : Prop :=
  (∀ (s : State), s.pending = [] → step s = .next (if s.ldr.held = true ∨ s.terminal = true then s else tick s))

/-- No command faults and none is refused: each answers a next state and leaves the queue alone. Every error of the part is an effect on its state.
The queue that exec leaves is the queue it was given. (Rests on 95_what_each_step_holds.md; notes/assumptions/89.md.) -/
def Obligations.EveryCommandAnswers : Prop :=
  (∀ (c : Instr) (s : State), ∃ t, exec c s = .next t ∧ t.pending = s.pending)

/-- After reset the part is in FUSE_LOAD with an empty queue, no thread runs, no event is pending and the rotation pointers are at 6. FUSE_LOAD as the
state after reset is the choice of log 14, empty memories are that of log 10. (Rests on 17_startup_image.md R421; 14_interrupts.md R369;
12_management_engine.md R303; notes/assumptions/10.md; notes/assumptions/14.md.) -/
def Obligations.ResetState : Prop :=
  (State.reset.pending = [] ∧ State.reset.fld F.LDR_STATUS_STATE 0 = 2 ∧ State.reset.ldr.held = false ∧ State.reset.terminal = false ∧ (∀ t, t < 32 →
    threadState t State.reset = 0) ∧ (∀ t, tget 0 State.reset.events t = 0) ∧ (∀ n, tget 6 State.reset.intc.rot n = 6) ∧ (∀ p, p < 512 →
    State.reset.fld F.PORT_STATUS_LINK_UP p = 0) ∧ (∀ f, frameAt f State.reset = none) ∧ Memory.wf State.reset = true)

/-- Every step keeps every byte memory in its canonical form. The ME SRAM, HBM3, the flash and the fuses: addresses rise strictly and no entry holds
what an unlisted address reads as. Equal memories are then equal data. (Rests on 12_management_engine.md R311; 16_dram.md R403; 17_startup_image.md
R443; 19_register_map.md R484; notes/assumptions/10.md.) -/
def Obligations.StepKeepsMemoryForm : Prop :=
  (∀ (s t : State), Memory.wf s = true → step s = .next t → Memory.wf t = true)

/-- A step removes the front of the queue and nothing else of it. On an empty queue it stays empty. (Rests on 95_what_each_step_holds.md;
notes/assumptions/1.md.) -/
def Obligations.QueueIsFifo : Prop :=
  (∀ (s t : State), step s = .next t → t.pending = s.pending.drop 1)

/-- In RESET_HELD, in the Terminal state and in SAFE the parts that do not work change nothing. RESET_HELD stops everything but what its own rule
names; the Terminal state stops the data plane, the management engine and the clocked parts; SAFE stops the data plane and the management engine. The
kinds are those of rowKind. (Rests on 15_faults.md R386; 17_startup_image.md R420, R441.) -/
def Obligations.StoppedPartsStandStill : Prop :=
  (∀ (c : Instr) (s : State), (s.ldr.held = true → rowKind c ≠ .other → exec c s = .next s) ∧ (s.terminal = true → (rowKind c = .dataPath ∨ rowKind c
    = .clock) → exec c s = .next s) ∧ (s.safe = true → rowKind c = .dataPath → exec c s = .next s))

/-- An access that does not come to the device is not made; a function that its memory request does not reach refuses it. The requester's bus is down,
or its part of the map does not hold the register, or no register of that index stands there. Where PF0 or PF1 does not answer, its request completes
as unsupported; nothing else changes, and in RESET_HELD nothing does. (Rests on 18_host_interface.md R448, R449, R465; 19_register_map.md R474;
17_startup_image.md R420.) -/
def Obligations.UnreachedAccess : Prop :=
  (∀ (c : Instr) (q : Requester) (r : Reg) (i : Nat) (s : State), accessOf c = some (q, r, i) → arrives q r i s = false → (busUp q s = true ∨
    s.ldr.held = true ∨ (q ≠ .pf0 ∧ q ≠ .pf1) → exec c s = .next s) ∧ (busUp q s = false → s.ldr.held = false → q = .pf0 → exec c s = .next
    (memRefused 0 s)) ∧ (busUp q s = false → s.ldr.held = false → q = .pf1 → exec c s = .next (memRefused 1 s)))

/-- A write of the observer view to a register it may not write only counts as a privilege violation. The exceptions of R13 stand apart, and so do the
registers of reserved sources, which ignore writes: observerMay names both. The write changes nothing but the violation's record, its count and its
fault event. (Rests on 00_scope.md R11, R13; 15_faults.md R386.) -/
def Obligations.ObserverWritesViolate : Prop :=
  (∀ (c : Instr) (q : Requester) (r : Reg) (i : Nat) (s : State), wellFormed c = true → accessOf c = some (q, r, i) → rowKind c = .write → observerMay
    c = false → answers q r i s = true → privileged q (blockOf (regOffset r i)) s = false → exec c s = .next (privViolation q true (regOffset r i) s))

/-- A command that stores nothing leaves every byte of every memory as it was. Every command but those that store by their nature (stores of the
management engine and the instructions and registers through which one may reach a memory, BAR2 writes, port 513 records, recovery and fuse
programming, loads and resets) and those whose effect may journal an event or write a table's shadow in HBM3. storesNothing names the commands; the
four memories read the same at every address. (Rests on 12_management_engine.md R311; 16_dram.md R403; 17_startup_image.md R443; 19_register_map.md
R484; notes/assumptions/111.md.) -/
def Obligations.MemoryFrame : Prop :=
  (∀ (c : Instr) (s t : State), storesNothing c = true → exec c s = .next t → ∀ a, tget 0 t.sram a = tget 0 s.sram a ∧ tget 0 t.hbm a = tget 0 s.hbm a
    ∧ tget 0xFF t.ldr.flash a = tget 0xFF s.ldr.flash a ∧ tget 0 t.ldr.otp a = tget 0 s.ldr.otp a)

/-- A store of the management engine changes only the bytes it names. Where the store retires, every byte of SRAM outside its bytes reads as before
and, for an SRAM address, every byte of HBM3 does; a load of the same bytes then reads the value stored. (Rests on 13_me_instruction_set.md R338;
12_management_engine.md R311.) -/
def Obligations.StoreFrame : Prop :=
  (∀ (s u : State) (t : Nat) (i : Issue) (k rs ra imm : Nat), s.ldr.held = false → issues t i (.store k rs ra imm) s = true → effAddr t ra imm (issued
    t i s) < 0x40000000 → exec (.store t i k rs ra imm) s = .next u → (∀ b, (b < effAddr t ra imm (issued t i s) ∨ effAddr t ra imm (issued t i s) + 2
    ^ (3 - k % 4) ≤ b) → tget 0 u.sram b = tget 0 s.sram b) ∧ u.hbm = s.hbm)

/-- In the SRAM a read after a write gives the bytes written, and a write leaves the bytes around it alone. This holds for every address below the
DRAM region and every length. (Rests on 13_me_instruction_set.md R338; 12_management_engine.md R311.) -/
def Obligations.StoreThenLoad : Prop :=
  (∀ (s : State) (a : Nat) (bs : List Byte), a + bs.length ≤ 0x40000000 → meRead a bs.length (meWrite a bs s) = bs ∧ ∀ b, (b < a ∨ a + bs.length ≤ b)
    → b < 0x40000000 → meRead b 1 (meWrite a bs s) = meRead b 1 s)

/-- An arithmetic instruction changes no register but its destination, and no memory. Whether it retires, faults or stops at a breakpoint, the
registers of other threads, the thread's other registers, the channels, the scratch buffers, the pending events of other threads (the supervisor,
thread 0, may be told of a fault) and every byte of memory stay. (Rests on 13_me_instruction_set.md R334, R336, R337; 12_management_engine.md R319.)
-/
def Obligations.RegisterInsnFrame : Prop :=
  (∀ (s u : State) (t : Nat) (i : Issue) (rd ra rb func x r : Nat), exec (.alu t i rd ra rb func) s = .next u → r < 32 → (x ≠ t ∨ r ≠ rd) → t < 32 →
    rd < 32 → gpr x r u = gpr x r s ∧ u.sram = s.sram ∧ u.hbm = s.hbm ∧ u.me.chans = s.me.chans ∧ u.me.bufHolder = s.me.bufHolder ∧ (x ≠ 0 → tget 0
    u.events x = tget 0 s.events x))

/-- g0 reads 0 and discards writes, a write sets one register of 64 bits, CALL writes g31, START clears g1 to g31. The 32 registers of each thread are
apart from those of every other thread. (States 13_me_instruction_set.md R334.) -/
def Obligations.GeneralRegisters : Prop :=
  (∀ (s : State) (t v : Nat), gpr t 0 s = 0 ∧ setGpr t 0 v s = s ∧ (∀ r, 0 < r → gpr t r (setGpr t r v s) = v % 2 ^ 64) ∧ (∀ x r k, r < 32 → k < 32 →
    (x ≠ t ∨ k ≠ r) → gpr x k (setGpr t r v s) = gpr x k s) ∧ (∀ r, r < 32 → gpr t r (startThread t s) = 0) ∧ (∀ i off, s.ldr.held = false → issues t
    i (.call off) s = true → ∃ u, exec (.call t i off) s = .next u ∧ gpr t 31 u = (pcOf t s + 4) % 2 ^ 64))

/-- A SEND by a stranger, a RECV by another than the reader, and either on a disabled channel are CHANNEL faults. Cause 6 is CHANNEL. (States
12_management_engine.md R318.) -/
def Obligations.ChannelFaults : Prop :=
  (∀ (s : State) (t : Nat) (i : Issue) (rd rs : Nat) (close : Bool) (word ch : Nat) (s1 : State), works (.send t i rd rs close word ch) s = true →
    issues t i (.send rd rs false close word ch) s = true → issued t i s = s1 → s1.fld F.CHAN_CFG0_ENABLE ch = 0 → exec (.send t i rd rs close word
    ch) s = .next (threadFault t 6 s1)) ∧
  (∀ (s : State) (t : Nat) (i : Issue) (rd rs : Nat) (close : Bool) (word ch : Nat) (s1 : State), works (.send t i rd rs close word ch) s = true →
    issues t i (.send rd rs false close word ch) s = true → issued t i s = s1 → (chanAt ch s1).holder ≠ some t → s1.fld F.CHAN_CFG0_WRITER ch ≠ t →
    exec (.send t i rd rs close word ch) s = .next (threadFault t 6 s1)) ∧
  (∀ (s : State) (t : Nat) (i : Issue) (rd rs : Nat) (close : Bool) (word ch : Nat) (s1 : State), works (.recv t i rd rs close word ch) s = true →
    issues t i (.recv rd rs false close word ch) s = true → issued t i s = s1 → s1.fld F.CHAN_CFG0_ENABLE ch = 0 → exec (.recv t i rd rs close word
    ch) s = .next (threadFault t 6 s1)) ∧
  (∀ (s : State) (t : Nat) (i : Issue) (rd rs : Nat) (close : Bool) (word ch : Nat) (s1 : State), works (.recv t i rd rs close word ch) s = true →
    issues t i (.recv rd rs false close word ch) s = true → issued t i s = s1 → s1.fld F.CHAN_CFG0_READER ch ≠ t → exec (.recv t i rd rs close word
    ch) s = .next (threadFault t 6 s1))

/-- A search returns a hit flag, the winner's address and its action: the largest priority or the lowest address. The entries are those of the
partition that match under the global mask in blocks in service. The premise is the canonical form of the TCAM table, which every command keeps.
(States 04_associative_search.md R92.) -/
def Obligations.TcamSearchWinner : Prop :=
  (∀ (s : State) (d key gmask : Nat) (p : Part), tsortedFrom 0 s.tb.tcam = true → ((tcamSearch d p key gmask [] s).2 = none ↔ ∀ x ∈ validEntries d p
    s, (x.2.matchesKey key gmask && !groupOut d p.g x.1 s) = false) ∧ ∀ a act, (tcamSearch d p key gmask [] s).2 = some (a, act) → ∃ e, (a, e) ∈
    validEntries d p s ∧ e.matchesKey key gmask = true ∧ groupOut d p.g a s = false ∧ act = e.action ∧ ∀ x ∈ validEntries d p s, x.2.matchesKey key
    gmask = true → groupOut d p.g x.1 s = false → (if p.ordered then a ≤ x.1 else x.2.prio < e.prio ∨ (x.2.prio = e.prio ∧ a ≤ x.1)))

/-- A route compares the type bits, the top PREFIX_LEN bits of the destination and, with VID_EN, the VID; its priority is its rank. Bit by bit of the
mask that a route of the image takes, for IPv4 in 160 bits and for IPv6 in 320. (States 04_associative_search.md R97.) -/
def Obligations.RouteEntryForm : Prop :=
  (∀ (b : List Byte) (o pl ve : Nat), leNat (slice b (o + 1) 1) = pl → leNat (slice b (o + 3) 1) = ve → ve ≤ 1 → (routeKind b o = 2 → pl ≤ 32 →
    (routeEntry b o).prio = 2 * pl + ve ∧ (routeEntry b o).prio ≤ 65 ∧ ∀ i, (routeEntry b o).mask.testBit i = (decide (156 ≤ i ∧ i < 160) || (decide
    (ve = 1) && decide (144 ≤ i ∧ i < 156)) || decide (32 - pl ≤ i ∧ i < 32))) ∧ (routeKind b o = 3 → pl ≤ 128 → (routeEntry b o).prio = 2 * pl + ve ∧
    (routeEntry b o).prio ≤ 257 ∧ ∀ i, (routeEntry b o).mask.testBit i = (decide (316 ≤ i ∧ i < 320) || (decide (ve = 1) && decide (304 ≤ i ∧ i <
    316)) || decide (128 - pl ≤ i ∧ i < 128))))

/-- The route key is the type, the VID and the destination in the places of Table 4.2. For a VID of 12 bits and a destination of its width, in an IPv4
partition (kind 2) and in an IPv6 one (kind 3). (Rests on 04_associative_search.md R96.) -/
def Obligations.RouteKeyForm : Prop :=
  (∀ (c : Cls), c.vid < 4096 → (c.dst4 < 2 ^ 32 → bitsOf (routeKey 2 c) 156 4 = 5 ∧ bitsOf (routeKey 2 c) 144 12 = c.vid ∧ bitsOf (routeKey 2 c) 32
    112 = 0 ∧ bitsOf (routeKey 2 c) 0 32 = c.dst4) ∧ (c.dst6 < 2 ^ 128 → bitsOf (routeKey 3 c) 316 4 = 6 ∧ bitsOf (routeKey 3 c) 304 12 = c.vid ∧
    bitsOf (routeKey 3 c) 128 176 = 0 ∧ bitsOf (routeKey 3 c) 0 128 = c.dst6))

/-- The low-word read of a 64-bit counter latches its high word for its requester, and that requester's high-word read of it returns the latch. The
latch holds one counter; a high-word read of any other counter shows that counter's live word. JOURNAL_ADDR and HISTORY_ADDR are addresses and no
counters. (States 00_scope.md R14.) -/
def Obligations.WideCounterLatch : Prop :=
  (∀ (s : State) (q : Requester) (r : Reg) (i : Nat), isWide r = true → tget none (readReg q ⟨r, i, 0⟩ s).latch q.code = some (cellKey r 0 i, [regWord
    r i s / 2 ^ 32 % 2 ^ 32]) ∧ (∀ q' : Requester, q'.code ≠ q.code → tget none (readReg q ⟨r, i, 0⟩ s).latch q'.code = tget none s.latch q'.code) ∧
    (∀ hi, tget none s.latch q.code = some (cellKey r 0 i, [hi]) → outOf q (readReg q ⟨r, i, 1⟩ s) = hi &&& shownBits (privileged q (blockOf
    (regOffset r i + 4)) s) ⟨r, i, 1⟩) ∧ ((∀ ws, tget none s.latch q.code ≠ some (cellKey r 0 i, ws)) → outOf q (readReg q ⟨r, i, 1⟩ s) = (regWord r i
    s / 2 ^ 32 % 2 ^ 32) &&& shownBits (privileged q (blockOf (regOffset r i + 4)) s) ⟨r, i, 1⟩)) ∧ [Requester.pf0, .pf1, .smbus, .jtag].Pairwise (fun
    x y => x.code ≠ y.code) ∧ ∀ t u, t < 32 → u < 32 → (t ≠ u → (Requester.thread t).code ≠ (Requester.thread u).code) ∧ ∀ q ∈ [Requester.pf0, .pf1,
    .smbus, .jtag], (Requester.thread t).code ≠ q.code

/-- Port p lies on die p / 128, on pipeline (p mod 128) / 64, at position p mod 64. For each of the 512 ports; a die and a pipeline exist for each.
(Rests on 01_architecture.md R22.) -/
def Obligations.PortNumbers : Prop :=
  (∀ p, p < 512 → dieOf p = p / 128 ∧ pipeOf p = p % 128 / 64 ∧ dieOf p < 4 ∧ pipeOf p < 2 ∧ p = 128 * dieOf p + 64 * pipeOf p + p % 64)

/-- A claim returns the delivered source of the highest priority, the lowest number among equals, and 0 when none is delivered. The request line of
the target is up exactly when a source is delivered to it and not yet claimed. (Rests on 14_interrupts.md R370, R371.) -/
def Obligations.ClaimPicksHighest : Prop :=
  (∀ (j : Nat) (s : State), (claimValue j s = 0 ↔ requestLine j s = false) ∧ (claimValue j s ≠ 0 → srcExists (claimValue j s) = true ∧ deliveredTo j
    (claimValue j s) s = true ∧ ∀ m, srcExists m = true → m < 385 → deliveredTo j m s = true → s.fld F.SRC_CFG_PRIORITY m < s.fld F.SRC_CFG_PRIORITY
    (claimValue j s) ∨ (s.fld F.SRC_CFG_PRIORITY m = s.fld F.SRC_CFG_PRIORITY (claimValue j s) ∧ claimValue j s ≤ m)))

/-- Held fault events come in the order of stamp, class, die and source, none lost and none twice. This is the order in which FAULT_COMMIT takes them.
(Rests on 15_faults.md R387.) -/
def Obligations.FaultOrder : Prop :=
  (∀ (l : List FaultEv), (sortEvs l).Perm l ∧ (sortEvs l).Pairwise (fun a b => a.stamp < b.stamp ∨ (a.stamp = b.stamp ∧ (faultClass b.src < faultClass
    a.src ∨ (faultClass a.src = faultClass b.src ∧ (a.die < b.die ∨ (a.die = b.die ∧ a.src ≤ b.src)))))))

/-- Decode of encode is every instruction of the management engine again, and encode of decode every legal word. For every instruction whose fields
fit its format, at every value of each field, the word holds 32 bits and decodes to it; and every word that R336 calls legal is the word of the
instruction it decodes to, with fields in range. No bit of an instruction is dropped by its word and no bit of a legal word by its instruction. (Rests
on 13_me_instruction_set.md R335, R336.) -/
def Obligations.MeDecodeEncode : Prop :=
  ((∀ x : MeOp, meOpInRange x = true → decodeMe (encodeMe x) = x ∧ encodeMe x < 2 ^ 32) ∧ ∀ w : Nat, w < 2 ^ 32 → legalWord w = true → encodeMe
    (decodeMe w) = w ∧ meOpInRange (decodeMe w) = true)

/-- The words of one instruction of each format, written out from Table 13.1. ADD g3 = g1 + g2; LD g3 from g1 - 8; BNE g1, g2, +5; CALL -1; SEND to
channel 5, word 2, closing. (Rests on 13_me_instruction_set.md R335, R336.) -/
def Obligations.MeEncodingWords : Prop :=
  (encodeMe (.alu 3 1 2 0) = 0b000000_00011_00001_00010_00000000000 ∧ encodeMe (.load 0 3 1 0xFFF8) = 0b010000_00011_00001_1111111111111000 ∧ encodeMe
    (.branch 1 1 2 5) = 0b100001_00001_00010_0000000000000101 ∧ encodeMe (.call 0x3FFFFFF) = 0b101001_11111111111111111111111111 ∧ encodeMe (.send 4 6
    false true 2 5) = 0b110100_00100_00110_0_1_0010_00_00000101)

/-- RESET_HELD is left for FUSE_LOAD as the reset condition ends, and the Terminal state only by a rail that stops being good. The release of RESET_N
and the end of the 2 ms are where the condition ends. In the Terminal state an edge of RESET_N is only remembered. (States 17_startup_image.md R421.)
-/
def Obligations.TerminalLeft : Prop :=
  ((∀ (s : State), s.ldr.held = true → s.terminal = false → resetCondition { s.ldr with resetLow := false } = false → ∃ t, exec (.resetNEdge false) s
    = .next t ∧ t.ldr.held = false ∧ t.fld F.LDR_STATUS_STATE 0 = 2) ∧ (∀ (s : State), s.ldr.held = true → s.terminal = false → resetCondition
    { s.ldr with settling := false } = false → ∃ t, exec .resetHoldExpiry s = .next t ∧ t.ldr.held = false ∧ t.fld F.LDR_STATUS_STATE 0 = 2) ∧ (∀ (s :
    State) (low : Bool), s.terminal = true → exec (.resetNEdge low) s = .next (s.withLdr { s.ldr with resetLow := low })) ∧ ∀ (c : Instr) (s t :
    State), s.terminal = true → exec c s = .next t → t.terminal = false → (∃ i uv, c = .railSample i uv ∧ railReading i uv = .out ∧ tget false
    s.ldr.railBad i = false ∧ t.ldr.held = true))

/-- A register access that reaches a register reads or writes it, latches an upper word, and clears RC fields only in the privileged view. A write
goes to the register at the offset, a read shows its present value masked to the view, and the first word of a wide counter latches the second for the
same requester. An access of another size than a word touches no register (R7); an access across a link that retrains waits (07_shared_buffer.md
R171). (Rests on 00_scope.md R7, R8, R10, R11, R12, R14; 19_register_map.md R474, R476, R482, R475; notes/assumptions/95.md;
notes/assumptions/117.md.) -/
def Obligations.RegisterAccessesComplete : Prop :=
  (∀ (s : State) (q : Requester) (o v a : Nat) (r : RegAt), works (.registerWrite q ⟨4, o⟩ v) s = true → comesTo q o a r s = true → s.terminal = false
    → exec (.registerWrite q ⟨4, o⟩ v) s = .next (writeReg q r (v % 2 ^ 32) s)) ∧
  (∀ (s : State) (q : Requester) (o v a : Nat), works (.registerWrite q ⟨4, o⟩ v) s = true → busUp q s = true → reach q o s = some a → linkWaits a s =
    false → (s.terminal = true ∨ regAt a = none) → exec (.registerWrite q ⟨4, o⟩ v) s = .next (s)) ∧
  (∀ (s : State) (q : Requester) (o v a : Nat), works (.registerWrite q ⟨4, o⟩ v) s = true → busUp q s = true → reach q o s = some a → linkWaits a s =
    true → exec (.registerWrite q ⟨4, o⟩ v) s = .next (sidePut { req := q, off := a, word := some (v % 2 ^ 32) } s)) ∧
  (∀ (s : State) (q : Requester) (n o v : Nat), works (.registerWrite q ⟨n, o⟩ v) s = true → n ≠ 4 → busUp q s = true → exec (.registerWrite q ⟨n, o⟩
    v) s = .next (s)) ∧
  (∀ (s : State) (q : Requester) (o v a i : Nat), works (.bufConfigWrite q o v) s = true → comesTo q o a ⟨.Q_MIN, i, 0⟩ s = true → s.terminal = false
    → privileged q (blockOf (regOffset .Q_MIN i)) s = true → blockOf (regOffset .Q_MIN i) < 13 → exec (.bufConfigWrite q o v) s = .next (qMinChange i
    (v % 2 ^ 20) s)) ∧
  (∀ (s : State) (q : Requester) (o a : Nat) (r : Reg) (i : Nat) (ws : List Nat), works (.counterLowWordRead q ⟨4, o⟩) s = true → comesTo q o a ⟨r, i,
    0⟩ s = true → [Reg.CLAIM, .SUP_NOTE, .SYNC_IN_TS_NS, .PTP_TX_INFO].contains r = false → latchWords q ⟨r, i, 0⟩ s = some ws → privileged q (blockOf
    (regOffset r i)) s = true → exec (.counterLowWordRead q ⟨4, o⟩) s = .next (clearRc ⟨r, i, 0⟩ (setLatch q (cellKey r 0 i) ws (setOut q (liveWord q
    ⟨r, i, 0⟩ s &&& shownBits true ⟨r, i, 0⟩) s)))) ∧
  (∀ (s : State) (q : Requester) (n o : Nat), works (.counterLowWordRead q ⟨n, o⟩) s = true → n ≠ 4 → busUp q s = true → exec (.counterLowWordRead q
    ⟨n, o⟩) s = .next (setOut q 0 s)) ∧
  (∀ (s : State) (q : Requester) (o a : Nat) (r : Reg) (i : Nat), works (.rcFieldRead q ⟨4, o⟩) s = true → comesTo q o a ⟨r, i, 0⟩ s = true →
    [Reg.CLAIM, .SUP_NOTE, .SYNC_IN_TS_NS, .PTP_TX_INFO].contains r = false → latchWords q ⟨r, i, 0⟩ s = none → privileged q (blockOf (regOffset r i))
    s = true → exec (.rcFieldRead q ⟨4, o⟩) s = .next (clearRc ⟨r, i, 0⟩ (setOut q (liveWord q ⟨r, i, 0⟩ s &&& shownBits true ⟨r, i, 0⟩) s))) ∧
  (∀ (s : State) (q : Requester) (o a : Nat) (r : Reg) (i : Nat), works (.rcFieldRead q ⟨4, o⟩) s = true → comesTo q o a ⟨r, i, 0⟩ s = true →
    [Reg.CLAIM, .SUP_NOTE, .SYNC_IN_TS_NS, .PTP_TX_INFO].contains r = false → latchWords q ⟨r, i, 0⟩ s = none → privileged q (blockOf (regOffset r i))
    s = false → r.hasP = false → exec (.rcFieldRead q ⟨4, o⟩) s = .next (setOut q (liveWord q ⟨r, i, 0⟩ s &&& shownBits false ⟨r, i, 0⟩) s)) ∧
  (∀ (s : State) (q : Requester) (n o : Nat), works (.rcFieldRead q ⟨n, o⟩) s = true → n ≠ 4 → busUp q s = true → exec (.rcFieldRead q ⟨n, o⟩) s =
    .next (setOut q 0 s)) ∧
  (∀ (s : State) (q : Requester) (s1 : State), works (.privViolLastRead q) s = true → privileged q 0 s = true → setOut q (liveWord q ⟨.PRIV_VIOL_LAST,
    0, 0⟩ s &&& shownBits true ⟨.PRIV_VIOL_LAST, 0, 0⟩) s = s1 → exec (.privViolLastRead q) s = .next (clearRc ⟨.PRIV_VIOL_LAST, 0, 0⟩ (setLatch q
    (cellKey .PRIV_VIOL_LAST 0 0) [s.fld F.PRIV_VIOL_ADDR 0] s1)))

/-- A received frame starts with its milestone and ends by the checks of its tail. On a part that serves: a frame that starts on a port whose link is
up is entered with its ingress milestone in steps of 0.25 ns; its end counts the FEC codewords and takes the path of its check, a good frame by what
it is and a bad one by what it failed; a fragment is counted and joined, or its frame is lost. (Rests on 01_architecture.md R30; 02_ports.md R43, R44,
R47; 09_time_base.md R250; notes/assumptions/96.md.) -/
def Obligations.ReceivedFramesComplete : Prop :=
  (∀ (s : State) (f p : Nat) (frags : Bool), works (.rxFrameStart f p frags) s = true → s.runs = true → p < 512 → s.fld F.PORT_STATUS_LINK_UP p = 1 →
    frameAt f s = none → (frags = true → s.fld F.MM_CFG_PREEMPT_EN p = 1) → exec (.rxFrameStart f p frags) s = .next (setFrame f
    { port := p, fragments := frags, tIn := followerTime (dieOf p) s / 2 ^ 30 * 2 ^ 30 } s)) ∧
  (∀ (s : State) (f : Nat) (bs : List Byte) (codeErr : Bool) (corr uncorr : Nat) (fr : Frame), works (.rxFrameEnd f bs codeErr corr uncorr) s = true →
    frameAt f s = some fr → fr.port < 512 → fr.len = none → (fr.stage = .receiving ∨ 192 < bs.length) → rxCheck fr.port bs codeErr s = .good →
    isMacControl bs = false → isPtp fr.port bs s = false → exec (.rxFrameEnd f bs codeErr corr uncorr) s = .next (rxGood f fr bs ((s.addSat
    F.FEC_CORRECTED fr.port corr).addSat F.FEC_UNCORRECTABLE fr.port uncorr))) ∧
  (∀ (s : State) (f : Nat) (bs : List Byte) (codeErr : Bool) (corr uncorr : Nat) (fr : Frame), works (.rxFrameEnd f bs codeErr corr uncorr) s = true →
    frameAt f s = some fr → fr.port < 512 → fr.len = none → (fr.stage = .receiving ∨ 192 < bs.length) → rxCheck fr.port bs codeErr s = .good →
    isMacControl bs = true → exec (.rxFrameEnd f bs codeErr corr uncorr) s = .next (macControl fr.port bs (dropFrame f ((s.addSat F.FEC_CORRECTED
    fr.port corr).addSat F.FEC_UNCORRECTABLE fr.port uncorr)))) ∧
  (∀ (s : State) (f : Nat) (bs : List Byte) (codeErr : Bool) (corr uncorr : Nat) (fr : Frame), works (.rxFrameEnd f bs codeErr corr uncorr) s = true →
    frameAt f s = some fr → fr.port < 512 → fr.len = none → (fr.stage = .receiving ∨ 192 < bs.length) → rxCheck fr.port bs codeErr s = .good →
    isMacControl bs = false → isPtp fr.port bs s = true → exec (.rxFrameEnd f bs codeErr corr uncorr) s = .next (ptpReceive f bs ((s.addSat
    F.FEC_CORRECTED fr.port corr).addSat F.FEC_UNCORRECTABLE fr.port uncorr))) ∧
  (∀ (s : State) (f : Nat) (bs : List Byte) (codeErr : Bool) (corr uncorr : Nat) (fr : Frame) (c : RxCheck), works (.rxFrameEnd f bs codeErr corr
    uncorr) s = true → frameAt f s = some fr → fr.port < 512 → fr.len = none → (fr.stage = .receiving ∨ 192 < bs.length) → rxCheck fr.port bs codeErr
    s = c → c ≠ .good → exec (.rxFrameEnd f bs codeErr corr uncorr) s = .next (rxBad f fr bs c ((s.addSat F.FEC_CORRECTED fr.port corr).addSat
    F.FEC_UNCORRECTABLE fr.port uncorr))) ∧
  (∀ (s : State) (f : Nat) (bs : List Byte) (fr : Frame), works (.ptpFrameReceived f bs) s = true → frameAt f s = some fr → fr.len = none → rxCheck
    fr.port bs false s = .good → isPtp fr.port bs s = true → exec (.ptpFrameReceived f bs) s = .next (ptpReceive f bs s)) ∧
  (∀ (s : State) (f : Nat) (bs : List Byte) (fr : Frame), works (.mmFragmentReceived f bs .ok) s = true → frameAt f s = some fr → fr.fragments = true
    → fr.len = none → fr.stage = .receiving → exec (.mmFragmentReceived f bs .ok) s = .next (setFrame f { fr with bytes := fr.bytes ++ bs } (s.bump
    F.MM_RX_FRAG fr.port))) ∧
  (∀ (s : State) (f : Nat) (bs : List Byte) (fr : Frame), works (.mmFragmentReceived f bs .assemblyErr) s = true → frameAt f s = some fr →
    fr.fragments = true → fr.len = none → fr.stage = .receiving → exec (.mmFragmentReceived f bs .assemblyErr) s = .next (dropFrame f ((s.bump
    F.MM_RX_FRAG fr.port).bump F.MM_ASSEMBLY_ERR fr.port))) ∧
  (∀ (s : State) (f : Nat) (bs : List Byte) (fr : Frame), works (.mmFragmentReceived f bs .smdErr) s = true → frameAt f s = some fr → fr.fragments =
    true → fr.len = none → fr.stage = .receiving → exec (.mmFragmentReceived f bs .smdErr) s = .next (dropFrame f ((s.bump F.MM_RX_FRAG fr.port).bump
    F.MM_SMD_ERR fr.port))) ∧
  (∀ (s : State) (f : Nat) (bs : List Byte) (fr : Frame), works (.mmFragmentReceived f bs .ok) s = true → frameAt f s = some fr → fr.fragments = true
    → fr.len = none → fr.stage ≠ .receiving → exec (.mmFragmentReceived f bs .ok) s = .next (s.bump F.MM_RX_FRAG fr.port)) ∧
  (∀ (s : State) (f : Nat) (bs : List Byte) (fr : Frame), works (.mmFragmentReceived f bs .smdErr) s = true → frameAt f s = some fr → fr.fragments =
    true → fr.len = none → fr.stage ≠ .receiving → fr.stage ≠ .dropped → exec (.mmFragmentReceived f bs .smdErr) s = .next (endBad f
    { fr with len := some fr.bytes.length } ((s.bump F.MM_RX_FRAG fr.port).bump F.MM_SMD_ERR fr.port)))

/-- PAUSE, PFC and other MAC control frames are counted, pause their queues, and are sent and refreshed. A PAUSE frame pauses all eight queues of a
port with FLOW_MODE 1, a PFC frame the enabled ones of a port with FLOW_MODE 2; each is counted and nothing else changes. A pause that runs out reads
0. The oldest control frame asked for is sent; while XOFF stands it is asked for again. (Rests on 02_ports.md R44, R45, R46; 07_shared_buffer.md
R188.) -/
def Obligations.MacControlCompletes : Prop :=
  (∀ (s : State) (p l quanta : Nat), works (.pauseFrameReceived p l quanta) s = true → s.fld F.PORT_STATUS_LINK_UP p = 1 → s.fld F.PORT_CFG_FLOW_MODE
    p = 1 → exec (.pauseFrameReceived p l quanta) s = .next ((List.range 8).foldl (fun s n => setPause p n (quanta % 65536) s) ((countRx p l s).bump
    F.RX_PAUSE p))) ∧
  (∀ (s : State) (p l quanta : Nat), works (.pauseFrameReceived p l quanta) s = true → s.fld F.PORT_STATUS_LINK_UP p = 1 → s.fld F.PORT_CFG_FLOW_MODE
    p ≠ 1 → exec (.pauseFrameReceived p l quanta) s = .next ((countRx p l s).bump F.RX_PAUSE p)) ∧
  (∀ (s : State) (p l enables : Nat) (quanta : List Nat), works (.pfcFrameReceived p l enables quanta) s = true → s.fld F.PORT_STATUS_LINK_UP p = 1 →
    s.fld F.PORT_CFG_FLOW_MODE p = 2 → exec (.pfcFrameReceived p l enables quanta) s = .next ((List.range 8).foldl (fun s n => if enables.testBit n
    then setPause p n (quanta.getD n 0 % 65536) (s.bump F.RX_PFC (8 * p + n)) else s) ((countRx p l s).bump F.RX_PAUSE p))) ∧
  (∀ (s : State) (p l enables : Nat) (quanta : List Nat), works (.pfcFrameReceived p l enables quanta) s = true → s.fld F.PORT_STATUS_LINK_UP p = 1 →
    s.fld F.PORT_CFG_FLOW_MODE p ≠ 2 → exec (.pfcFrameReceived p l enables quanta) s = .next ((List.range 8).foldl (fun s n => if enables.testBit n
    then s.bump F.RX_PFC (8 * p + n) else s) ((countRx p l s).bump F.RX_PAUSE p))) ∧
  (∀ (s : State) (p l : Nat), works (.macControlOther p l) s = true → s.fld F.PORT_STATUS_LINK_UP p = 1 → exec (.macControlOther p l) s = .next
    (((s.addWrap F.RX_OCTETS p l).addWrap F.RX_FRAMES p 1).bump F.RX_CTRL_OTHER p)) ∧
  (∀ (s : State) (p n : Nat), works (.pauseExpiry p n) s = true → exec (.pauseExpiry p n) s = .next
    ({ s with dp := { s.dp with pause := tset 0 s.dp.pause (8 * p + n) 0 } })) ∧
  (∀ (s : State) (p mask quanta : Nat) (rest : List (Nat × Nat)), works (.pfcFrameTransmit p) s = true → (portSt p s).ctrl = (mask, quanta) :: rest →
    (portSt p s).tx ≠ .idle → s.fld F.PORT_CFG_FLOW_MODE p ≠ 2 → exec (.pfcFrameTransmit p) s = .next ((((controlOnWire p (setPortSt p
    { portSt p s with ctrl := rest } s)).bump F.TX_PAUSE p).addWrap F.TX_OCTETS p 64).addWrap F.TX_FRAMES p 1)) ∧
  (∀ (s : State) (p mask quanta : Nat) (rest : List (Nat × Nat)), works (.pfcFrameTransmit p) s = true → (portSt p s).ctrl = (mask, quanta) :: rest →
    (portSt p s).tx ≠ .idle → s.fld F.PORT_CFG_FLOW_MODE p = 2 → exec (.pfcFrameTransmit p) s = .next ((List.range 8).foldl (fun s n => if
    mask.testBit n then s.bump F.TX_PFC (8 * p + n) else s) ((((controlOnWire p (setPortSt p { portSt p s with ctrl := rest } s)).bump F.TX_PAUSE
    p).addWrap F.TX_OCTETS p 64).addWrap F.TX_FRAMES p 1))) ∧
  (∀ (s : State) (p n : Nat), works (.pfcRefreshExpiry p n) s = true → s.fld F.PFC_STATUS_XOFF (8 * p + n) = 1 → s.fld F.PORT_CFG_FLOW_MODE p = 2 →
    exec (.pfcRefreshExpiry p n) s = .next (ctrlRequest p (2 ^ n) (s.fld F.PORT_PFC_TIMING_QUANTA p) s)) ∧
  (∀ (s : State) (p : Nat), works (.pfcRefreshExpiry p 0) s = true → s.fld F.PFC_STATUS_XOFF (8 * p) = 1 → s.fld F.PORT_CFG_FLOW_MODE p = 1 → exec
    (.pfcRefreshExpiry p 0) s = .next (ctrlRequest p 0xFF (s.fld F.PORT_PFC_TIMING_QUANTA p) s))

/-- Lane status, negotiation, the two link timers and the administrative state act on the link of a port. For a port of its own lane whose die is up:
the receive path, adaptation and negotiation write their status bits and the faults and HOLD_OFF that follow; the expiry of UP_HOLDOFF declares the
link up and that of DOWN_DEBOUNCE declares it down; ADMIN_UP 0 takes it down. (Rests on 02_ports.md R39, R41, R52, R53, R54, R57, R506;
20_electrical_package.md R497; notes/assumptions/97.md.) -/
def Obligations.LinkStateCompletes : Prop :=
  (∀ (s : State) (p lanes : Nat) (order : List Nat) (skew : Nat) (lfSets rf : Bool) (s1 s2 : State), works (.rxPathStatusChange p true true ⟨lanes,
    order, skew⟩ lfSets rf) s = true → laneOfGroup p s = false → portExists p s = true → 4 ≤ s.fld F.PORT_CFG_MODE p → s.fld F.PORT_CFG_MODE p ≠ 6 →
    laneSignal true p ((setPortSt p { portSt p s with laneOrder := [] } s).setFlds [(F.PORT_STATUS_PCS_LOCK, p, 1), (F.PORT_STATUS_LANE_LOCK, p, lanes
    % 2)]) = s1 → setPortSt p { portSt p s1 with lfSets := lfSets } s1 = s2 → exec (.rxPathStatusChange p true true ⟨lanes, order, skew⟩ lfSets rf) s
    = .next (setFaults p (localFault p s2) rf s2)) ∧
  (∀ (s : State) (p lanes : Nat) (order : List Nat) (skew : Nat) (lfSets rf : Bool) (s1 s2 : State), works (.rxPathStatusChange p true true ⟨lanes,
    order, skew⟩ lfSets rf) s = true → laneOfGroup p s = false → portExists p s = true → (s.fld F.PORT_CFG_MODE p = 2 ∨ s.fld F.PORT_CFG_MODE p = 3) →
    laneSignal true p ((setPortSt p { portSt p s with laneOrder := [] } s).setFlds [(F.PORT_STATUS_PCS_LOCK, p, 1), (F.PORT_STATUS_LANE_LOCK, p, lanes
    % 2)]) = s1 → setPortSt p { portSt p s1 with lfSets := lfSets } s1 = s2 → exec (.rxPathStatusChange p true true ⟨lanes, order, skew⟩ lfSets rf) s
    = .next (setFaults p (localFault p s2) false s2)) ∧
  (∀ (s : State) (p lanes : Nat) (order : List Nat) (skew : Nat) (lfSets rf : Bool) (s1 s2 : State), works (.rxPathStatusChange p true true ⟨lanes,
    order, skew⟩ lfSets rf) s = true → laneOfGroup p s = false → portExists p s = true → s.fld F.PORT_CFG_MODE p = 6 → lanesAlign order skew = true →
    [p, p + 1, p + 2, p + 3].foldl (fun s q => laneSignal true q s) ((setPortSt p { portSt p s with laneOrder := order } s).setFlds
    [(F.PORT_STATUS_PCS_LOCK, p, 1), (F.PORT_STATUS_LANE_LOCK, p, lanes)]) = s1 → setPortSt p { portSt p s1 with lfSets := lfSets } s1 = s2 → exec
    (.rxPathStatusChange p true true ⟨lanes, order, skew⟩ lfSets rf) s = .next (setFaults p (localFault p s2) rf s2)) ∧
  (∀ (s : State) (p : Nat) (signal lock : Bool) (lanes : Nat) (order : List Nat) (skew : Nat) (lfSets rf : Bool), works (.rxPathStatusChange p signal
    lock ⟨lanes, order, skew⟩ lfSets rf) s = true → laneOfGroup p s = true → exec (.rxPathStatusChange p signal lock ⟨lanes, order, skew⟩ lfSets rf) s
    = .next (lanePath p signal s)) ∧
  (∀ (s : State) (p : Nat), works (.adaptationDone p) s = true → laneOfGroup p s = false → portExists p s = true → s.fld F.PORT_CFG_MODE p ≠ 6 → s.fld
    F.SD_RX_STATUS_SIGNAL_DETECT p = 1 → exec (.adaptationDone p) s = .next (holdOff p (s.setFld F.SD_RX_STATUS_ADAPT_DONE p 1))) ∧
  (∀ (s : State) (p : Nat), works (.adaptationDone p) s = true → laneOfGroup p s = true → s.fld F.SD_RX_STATUS_SIGNAL_DETECT p = 1 → exec
    (.adaptationDone p) s = .next (holdOff (p / 4 * 4) (s.setFld F.SD_RX_STATUS_ADAPT_DONE p 1))) ∧
  (∀ (s : State) (p : Nat) (rf : Bool), works (.anComplete p rf) s = true → portExists p s = true → s.fld F.PORT_CFG_MODE p = 1 → s.fld
    F.PORT_CFG_AN_EN p = 1 → s.fld F.PORT_STATUS_PCS_LOCK p = 1 → exec (.anComplete p rf) s = .next ((fun s1 => setFaults p (localFault p s1) rf s1)
    (s.setFld F.PORT_STATUS_AN_DONE p 1))) ∧
  (∀ (s : State) (p : Nat), works (.sgmiiControlWord p true true true) s = true → portExists p s = true → s.fld F.PORT_CFG_MODE p = 2 → exec
    (.sgmiiControlWord p true true true) s = .next (holdOff p (setPortSt p { portSt p s with sgmiiUp := true } (s.setFld F.PORT_STATUS_AN_DONE p 1)))) ∧
  (∀ (s : State) (p : Nat) (up full gig : Bool), works (.sgmiiControlWord p up full gig) s = true → portExists p s = true → s.fld F.PORT_CFG_MODE p =
    2 → (up && full && gig) = false → exec (.sgmiiControlWord p up full gig) s = .next (holdOff p ((setPortSt p { portSt p s with sgmiiUp := false }
    (s.setFld F.PORT_STATUS_AN_DONE p 0)).bump F.RX_CODE_ERR p))) ∧
  (∀ (s : State) (p : Nat), works (.linkUpHoldoffExpiry p) s = true → upConditions p s = true → s.fld F.PORT_STATUS_LINK_UP p = 0 → exec
    (.linkUpHoldoffExpiry p) s = .next ((fun s1 => setActive p (portEvent p F.PORT_EVENT_UP F.PORT_EVENT_EN_UP false (setPortSt p
    { portSt p s with tx := .on, hubUp := true, verifySent := 0, free := s.work, freeBy := none } s1))) (s.setFlds [(F.PORT_STATUS_LINK_UP, p, 1),
    (F.PORT_STATUS_HOLD_OFF, p, 0), (F.MM_STATUS_VERIFY_STATUS, p, if s.fld F.MM_CFG_PREEMPT_EN p = 1 ∧ s.fld F.MM_CFG_VERIFY_EN p = 1 then 2 else
    0)]))) ∧
  (∀ (s : State) (p : Nat), works (.linkDownDebounceExpiry p) s = true → s.fld F.PORT_STATUS_LINK_UP p = 1 → linkConditions p s = false → exec
    (.linkDownDebounceExpiry p) s = .next (portDown p .declared s)) ∧
  (∀ (s : State) (q : Requester) (p : Nat), works (.adminUpWrite q p true) s = true → joinedLane p s = false → exec (.adminUpWrite q p true) s = .next
    (holdOff p (s.setFld F.PORT_CFG_ADMIN_UP p 1))) ∧
  (∀ (s : State) (q : Requester) (p : Nat), works (.adminUpWrite q p false) s = true → joinedLane p s = false → s.fld F.PORT_CFG_ADMIN_UP p = 1 → exec
    (.adminUpWrite q p false) s = .next (portDown p .admin (s.setFld F.PORT_CFG_ADMIN_UP p 0))) ∧
  (∀ (s : State) (d r : Nat), works (.quadPllLockLoss d r) s = true → exec (.quadPllLockLoss d r) s = .next ((List.range 16).foldl (fun s i => (fun (p
    : Nat) (s1 : State) => if p < 512 then setFaults p (localFault p s1) (s.fld F.PORT_STATUS_REMOTE_FAULT p == 1) s1 else s) (d * 128 + 16 * r + i)
    (setPortSt (d * 128 + 16 * r + i) { portSt (d * 128 + 16 * r + i) s with pllLost := true } s)) s)) ∧
  (∀ (s : State) (d r : Nat), works (.quadPllLock d r) s = true → exec (.quadPllLock d r) s = .next ((List.range 16).foldl (fun s i => (fun (p : Nat)
    (s1 : State) => if p < 512 then setFaults p (localFault p s1) (s.fld F.PORT_STATUS_REMOTE_FAULT p == 1) s1 else s) (d * 128 + 16 * r + i)
    (setPortSt (d * 128 + 16 * r + i) { portSt (d * 128 + 16 * r + i) s with pllLost := false } s)) s))

/-- Draining, the flush of a port that went down, verification, hold and release, and the transmit equaliser. A drained transmitter goes to electrical
idle; a flush sets FLUSHING, discards and counts the port's copies and clears its pause, XOFF and averages, and its end clears FLUSHING; verification
counts to VERIFY_LIMIT; a hold ends the fragment of the preemptable frame on the wire at the next point that R49 permits, and its release lets the
rest go; taps that keep R56 are written. (Rests on 02_ports.md R48, R50, R54, R56; 07_shared_buffer.md R193; 08_egress_scheduling.md R211;
notes/assumptions/20.md.) -/
def Obligations.PortFlushAndHoldComplete : Prop :=
  (∀ (s : State) (p : Nat), works (.txDrainIdle p) s = true → (portSt p s).tx = .draining → s.dp.tx.any (fun t => t.copy.port == p) = false → exec
    (.txDrainIdle p) s = .next (setPortSt p { portSt p s with tx := .idle } s)) ∧
  (∀ (s : State) (p : Nat), works (.portFlushStart p) s = true → (portSt p s).downPending = true → exec (.portFlushStart p) s = .next ((List.range
    8).foldl (fun s n => (fun s' : State => { s' with dp := { s'.dp with pause := tset 0 s'.dp.pause (8 * p + n) 0 } }) (s.setFlds
    [(F.PFC_STATUS_XOFF, 8 * p + n, 0), (F.Q_AVG, 8 * p + n, 0)])) (refuseHeld (fun c => c.port == p) false ((s.dp.copies.filter (fun c => c.port ==
    p)).foldl (fun s c => discardCopy c (s.bump F.FLUSHED c.q)) (setPortSt p { portSt p s with downPending := false, hubUp := false } (s.setFld
    F.PORT_STATUS_FLUSHING p 1)))))) ∧
  (∀ (s : State) (p : Nat), works (.portFlushComplete p) s = true → exec (.portFlushComplete p) s = .next (s.setFld F.PORT_STATUS_FLUSHING p 0)) ∧
  (∀ (s : State) (p : Nat), works (.verifyTimerExpiry p) s = true → s.fld F.PORT_STATUS_LINK_UP p = 1 → s.fld F.MM_STATUS_VERIFY_STATUS p = 2 →
    (portSt p s).verifySent < s.fld F.MM_CFG_VERIFY_LIMIT p → exec (.verifyTimerExpiry p) s = .next (setPortSt p
    { portSt p s with verifySent := (portSt p s).verifySent + 1 } s)) ∧
  (∀ (s : State) (p : Nat), works (.verifyTimerExpiry p) s = true → s.fld F.PORT_STATUS_LINK_UP p = 1 → s.fld F.MM_STATUS_VERIFY_STATUS p = 2 → s.fld
    F.MM_CFG_VERIFY_LIMIT p ≤ (portSt p s).verifySent → exec (.verifyTimerExpiry p) s = .next (portEvent p F.PORT_EVENT_VERIFY_FAIL
    F.PORT_EVENT_EN_VERIFY_FAIL true (s.setFld F.MM_STATUS_VERIFY_STATUS p 4))) ∧
  (∀ (s : State) (p : Nat), works (.respondFrameReceived p) s = true → s.fld F.MM_STATUS_VERIFY_STATUS p = 2 → exec (.respondFrameReceived p) s =
    .next (setActive p (s.setFld F.MM_STATUS_VERIFY_STATUS p 3))) ∧
  (∀ (s : State) (p : Nat) (s1 s2 : State), works (.holdTakeEffect p) s = true → ((tget none s.dp.holdAt p).isSome = true ∨ (preemptActive p s = true
    ∧ holdAhead p (nsUp (s.work + blockingOf p s + epsilonOf p s)) s 1024 (s.work / nsUnit) = true)) → s.fld F.MM_STATUS_HOLD p ≠ 1 → (s.setFlds
    [(F.MM_STATUS_HOLD, p, 1), (F.GCL_STATUS_HOLD, p, 1)]).bump F.MM_HOLD p = s1 →
    { s1 with dp := { s1.dp with holdAt := tset none s1.dp.holdAt p none } } = s2 → preemptableOnWire p s2 = none → exec (.holdTakeEffect p) s = .next
    (s2)) ∧
  (∀ (s : State) (p : Nat) (s1 s2 : State) (t : TxCopy) (c : Nat), works (.holdTakeEffect p) s = true → ((tget none s.dp.holdAt p).isSome = true ∨
    (preemptActive p s = true ∧ holdAhead p (nsUp (s.work + blockingOf p s + epsilonOf p s)) s 1024 (s.work / nsUnit) = true)) → s.fld
    F.MM_STATUS_HOLD p ≠ 1 → (s.setFlds [(F.MM_STATUS_HOLD, p, 1), (F.GCL_STATUS_HOLD, p, 1)]).bump F.MM_HOLD p = s1 →
    { s1 with dp := { s1.dp with holdAt := tset none s1.dp.holdAt p none } } = s2 → preemptableOnWire p s2 = some t → t.fragAt < s.work + txLatency p
    s * nsUnit → cutBytes p t (bytesIn p (s.work + txLatency p s * nsUnit - t.fragAt) s) s = some c → exec (.holdTakeEffect p) s = .next (holdFrame p
    t c s2)) ∧
  (∀ (s : State) (p : Nat) (s1 s2 : State) (t : TxCopy), works (.holdTakeEffect p) s = true → ((tget none s.dp.holdAt p).isSome = true ∨
    (preemptActive p s = true ∧ holdAhead p (nsUp (s.work + blockingOf p s + epsilonOf p s)) s 1024 (s.work / nsUnit) = true)) → s.fld
    F.MM_STATUS_HOLD p ≠ 1 → (s.setFlds [(F.MM_STATUS_HOLD, p, 1), (F.GCL_STATUS_HOLD, p, 1)]).bump F.MM_HOLD p = s1 →
    { s1 with dp := { s1.dp with holdAt := tset none s1.dp.holdAt p none } } = s2 → preemptableOnWire p s2 = some t → t.fragAt < s.work + txLatency p
    s * nsUnit → cutBytes p t (bytesIn p (s.work + txLatency p s * nsUnit - t.fragAt) s) s = none → exec (.holdTakeEffect p) s = .next (s2)) ∧
  (∀ (s : State) (p : Nat) (s1 s2 : State) (t : TxCopy), works (.holdTakeEffect p) s = true → ((tget none s.dp.holdAt p).isSome = true ∨
    (preemptActive p s = true ∧ holdAhead p (nsUp (s.work + blockingOf p s + epsilonOf p s)) s 1024 (s.work / nsUnit) = true)) → s.fld
    F.MM_STATUS_HOLD p ≠ 1 → (s.setFlds [(F.MM_STATUS_HOLD, p, 1), (F.GCL_STATUS_HOLD, p, 1)]).bump F.MM_HOLD p = s1 →
    { s1 with dp := { s1.dp with holdAt := tset none s1.dp.holdAt p none } } = s2 → preemptableOnWire p s2 = some t → s.work + txLatency p s * nsUnit
    ≤ t.fragAt → exec (.holdTakeEffect p) s = .next (mapTx t.copy.id (fun t => { t with stage := .held }) (setPortSt p
    { portSt p s2 with free := s.work + txLatency p s * nsUnit, freeBy := none } s2))) ∧
  (∀ (s : State) (p : Nat), works (.holdTakeEffect p) s = true → ((tget none s.dp.holdAt p).isSome = true ∨ (preemptActive p s = true ∧ holdAhead p
    (nsUp (s.work + blockingOf p s + epsilonOf p s)) s 1024 (s.work / nsUnit) = true)) → s.fld F.MM_STATUS_HOLD p = 1 → exec (.holdTakeEffect p) s =
    .next ({ s with dp := { s.dp with holdAt := tset none s.dp.holdAt p none } })) ∧
  (∀ (s : State) (p : Nat), works (.holdRelease p) s = true → exec (.holdRelease p) s = .next (resumeHeld p (s.setFlds [(F.MM_STATUS_HOLD, p, 0),
    (F.GCL_STATUS_HOLD, p, 0)]))) ∧
  (∀ (s : State) (q : Requester) (p : Nat) (w : Word), works (.sdTxEqWrite q p w) s = true → bitsOf w.toNat 0 4 + bitsOf w.toNat 4 6 + bitsOf w.toNat
    10 5 ≤ 63 → bitsOf w.toNat 0 4 + bitsOf w.toNat 10 5 ≤ bitsOf w.toNat 4 6 → exec (.sdTxEqWrite q p w) s = .next (s.setFlds [(F.SD_TX_EQ_PRE, p,
    bitsOf w.toNat 0 4), (F.SD_TX_EQ_MAIN, p, bitsOf w.toNat 4 6), (F.SD_TX_EQ_POST, p, bitsOf w.toNat 10 5), (F.SD_TX_EQ_TX_POL_INV, p, bitsOf
    w.toNat 16 1), (F.SD_TX_EQ_RX_POL_INV, p, bitsOf w.toNat 17 1)]))

/-- The ingress pipeline classifies a received frame once, and a far lookup is issued, answered or abandoned. A frame that is being received passes
the parser and the classification with the bytes of its window; MAC control and gPTP frames leave the path. One far request is issued, the dies in
turn; its answer, an uncorrectable line (a miss) and the time limit (a miss) end the wait. (Rests on 01_architecture.md R31;
03_parsing_classification.md R70; 05_exact_match_learning.md R126, R127; notes/assumptions/35.md.) -/
def Obligations.PipelineAndFarLookupComplete : Prop :=
  (∀ (s : State) (f : Nat) (win : List Byte) (len : Nat) (u : LookupUe) (x : ActUe) (fr : Frame), works (.pipelineEntry f win len u x) s = true →
    frameAt f s = some fr → fr.stage = .receiving → fr.len = none → windowFull fr win len s = true → isMacControl (win.take 192) = false → isPtp
    fr.port (win.take 192) s = false → exec (.pipelineEntry f win len u x) s = .next (parsedFrame f (timeNs32 (followerTime (dieOf fr.port) s)) len
    { fr with bytes := win.take 192 } (parseFrame (fun k i => s.fld F.PARSE_NODE ((dieOf fr.port * 64 + k) * 16 + i))
    { win := (win.take 192).take 192, len := len } fr.port (s.fld F.PORT_PVID fr.port)) u x s)) ∧
  (∀ (s : State) (f : Nat) (win : List Byte) (len : Nat) (u : LookupUe) (x : ActUe) (fr : Frame) (n : Nat), works (.pipelineEntry f win len u x) s =
    true → frameAt f s = some fr → fr.stage = .receiving → fr.len = some n → windowFull fr win len s = true → isMacControl fr.bytes = false → isPtp
    fr.port fr.bytes s = false → exec (.pipelineEntry f win len u x) s = .next (parsedFrame f (timeNs32 (followerTime (dieOf fr.port) s)) n fr
    (parseFrame (fun k i => s.fld F.PARSE_NODE ((dieOf fr.port * 64 + k) * 16 + i)) { win := fr.bytes.take 192, len := n } fr.port (s.fld F.PORT_PVID
    fr.port)) u x s)) ∧
  (∀ (s : State) (k : Nat) (x : Nat × Nat) (fr : Frame), works .farLookupIssue s = true → k < 4 → s.dp.farPending.find? (fun y => y.1 == (s.dp.farLast
    + 1 + k) % 4) = some x → (∀ i, i < k → s.dp.farPending.find? (fun y => y.1 == (s.dp.farLast + 1 + i) % 4) = none) → frameAt x.2 s = some fr → exec
    .farLookupIssue s = .next (dramRequests 0 false (farAddr (4 * (farHash x.1 (bridgeKey fr.cls.vid fr.cls.da) s % 2 ^ 21))) 128
    ({ s with dp := { s.dp with farPending := dropFirst (fun y => y == x) s.dp.farPending, farIssued := s.dp.farIssued ++ [x], farLast := x.1 } }))) ∧
  (∀ (s : State) (f : Nat) (x : ActUe) (fr : Frame), works (.farLookupResult f .ue x) s = true → frameAt f s = some fr → fr.stage = .farWait →
    s.dp.farIssued.any (fun x => x.2 == f) = true → exec (.farLookupResult f .ue x) s = .next (farEnd f none x (raiseFault 13 4 (dieOf fr.port)
    (s.bump F.FAR_UE (dieOf fr.port))))) ∧
  (∀ (s : State) (f : Nat) (ecc : Ecc) (x : ActUe) (fr : Frame) (a : Nat) (e : EmEntry), works (.farLookupResult f ecc x) s = true → frameAt f s =
    some fr → fr.stage = .farWait → s.dp.farIssued.any (fun x => x.2 == f) = true → ecc ≠ .ue → farFind (dieOf fr.port) (bridgeKey fr.cls.vid
    fr.cls.da) s = some (a, e) → exec (.farLookupResult f ecc x) s = .next (farEnd f (some e) x (s.addWrap F.FAR_HITS (dieOf fr.port) 1))) ∧
  (∀ (s : State) (f : Nat) (ecc : Ecc) (x : ActUe) (fr : Frame), works (.farLookupResult f ecc x) s = true → frameAt f s = some fr → fr.stage =
    .farWait → s.dp.farIssued.any (fun x => x.2 == f) = true → ecc ≠ .ue → farFind (dieOf fr.port) (bridgeKey fr.cls.vid fr.cls.da) s = none → exec
    (.farLookupResult f ecc x) s = .next (farEnd f none x s)) ∧
  (∀ (s : State) (f : Nat) (fr : Frame), works (.farLookupTimeout f) s = true → frameAt f s = some fr → fr.stage = .farWait → exec (.farLookupTimeout
    f) s = .next (farEnd f none {} (s.bump F.FAR_TIMEOUT (dieOf fr.port))))

/-- A command of an idle TCAM window sets BUSY and joins the engine of its die, where the oldest acts at its entry or partition and ends. A command of
an idle window sets BUSY and holds what its window's registers hold. At its end, for an address in a partition whose block is in service, READ, WRITE,
CLEAR and MOVE act as Table 4.5 says with RESULT 0; INSERT, DELETE and SEARCH act on the partition. The end clears BUSY and writes the result fields
(that a command acts at its end is log 16). (Rests on 04_associative_search.md R101, R102, R103, R104; notes/assumptions/16.md;
notes/assumptions/101.md; notes/assumptions/102.md; notes/assumptions/103.md; notes/assumptions/104.md; notes/assumptions/113.md.) -/
def Obligations.TcamCommandsComplete : Prop :=
  (∀ (s : State) (q : Requester) (d j : Nat), works (.tcamRead q d j) s = true → windowServes q j = true → s.fld F.TCAM_STATUS_BUSY (d * 2 + j) = 0 →
    exec (.tcamRead q d j) s = .next (tcamJoin d j 1 0 s)) ∧
  (∀ (s : State) (q : Requester) (d j : Nat), works (.tcamWrite q d j) s = true → windowServes q j = true → s.fld F.TCAM_STATUS_BUSY (d * 2 + j) = 0 →
    exec (.tcamWrite q d j) s = .next (tcamJoin d j 2 0 s)) ∧
  (∀ (s : State) (q : Requester) (d j : Nat), works (.tcamClear q d j) s = true → windowServes q j = true → s.fld F.TCAM_STATUS_BUSY (d * 2 + j) = 0 →
    exec (.tcamClear q d j) s = .next (tcamJoin d j 3 0 s)) ∧
  (∀ (s : State) (q : Requester) (d j : Nat), works (.tcamMove q d j) s = true → windowServes q j = true → s.fld F.TCAM_STATUS_BUSY (d * 2 + j) = 0 →
    exec (.tcamMove q d j) s = .next (tcamJoin d j 4 0 s)) ∧
  (∀ (s : State) (q : Requester) (d j part : Nat), works (.tcamInsert q d j part) s = true → windowServes q j = true → s.fld F.TCAM_STATUS_BUSY (d * 2
    + j) = 0 → exec (.tcamInsert q d j part) s = .next (tcamJoin d j 5 part s)) ∧
  (∀ (s : State) (q : Requester) (d j part : Nat), works (.tcamDelete q d j part) s = true → windowServes q j = true → s.fld F.TCAM_STATUS_BUSY (d * 2
    + j) = 0 → exec (.tcamDelete q d j part) s = .next (tcamJoin d j 6 part s)) ∧
  (∀ (s : State) (q : Requester) (d j part : Nat), works (.tcamSearch q d j part) s = true → windowServes q j = true → s.fld F.TCAM_STATUS_BUSY (d * 2
    + j) = 0 → exec (.tcamSearch q d j part) s = .next (tcamJoin d j 7 part s)) ∧
  (∀ (s : State) (d j : Nat) (ue : List (Nat × Bool)) (c : TcamCmd) (s0 : State) (p : Part) (e : Nat), works (.tcamCommandEnd d ⟨j, ue⟩) s = true →
    s.tb.tcamRun.find? (fun c => c.d == d) = some c → c.j = j → { s with tb := { s.tb with tcamRun := s.tb.tcamRun.filter (fun x => x != c) } } = s0 →
    c.op = 1 → partAt c.d c.addr s0 = some (p, e) → groupOut c.d p.g c.addr s0 = false → exec (.tcamCommandEnd d ⟨j, ue⟩) s = .next (putEnd
    F.TCAM_STATUS_BUSY F.TCAM_STATUS_RESULT (some F.TCAM_STATUS_MOVES) (some F.TCAM_STATUS_HIT) (some F.TCAM_STATUS_RESULT_ADDR) (d * 2 + j) (endWith
    0) (tcamTraffic d (tcamDest c s ++ tcamFrom c s) (tcamDataPut c.d c.j (tcamEntry c.d p.g c.addr s0) s0)))) ∧
  (∀ (s : State) (d j : Nat) (ue : List (Nat × Bool)) (c : TcamCmd) (s0 : State) (p : Part) (e : Nat), works (.tcamCommandEnd d ⟨j, ue⟩) s = true →
    s.tb.tcamRun.find? (fun c => c.d == d) = some c → c.j = j → { s with tb := { s.tb with tcamRun := s.tb.tcamRun.filter (fun x => x != c) } } = s0 →
    c.op = 2 → partAt c.d c.addr s0 = some (p, e) → groupOut c.d p.g c.addr s0 = false → (p.routes = true → (c.entry p.g).valid = true → routeForm
    p.kind (c.entry p.g) = true ∧ keepsOrder (validEntries c.d p s0) c.addr (c.entry p.g).prio = true) → exec (.tcamCommandEnd d ⟨j, ue⟩) s = .next
    (putEnd F.TCAM_STATUS_BUSY F.TCAM_STATUS_RESULT (some F.TCAM_STATUS_MOVES) (some F.TCAM_STATUS_HIT) (some F.TCAM_STATUS_RESULT_ADDR) (d * 2 + j)
    (endWith 0) (tcamTraffic d (tcamDest c s ++ tcamFrom c s) (tcamPutEntry c.d p.g c.addr (c.entry p.g) s0)))) ∧
  (∀ (s : State) (d j : Nat) (ue : List (Nat × Bool)) (c : TcamCmd) (s0 : State) (p : Part) (e : Nat), works (.tcamCommandEnd d ⟨j, ue⟩) s = true →
    s.tb.tcamRun.find? (fun c => c.d == d) = some c → c.j = j → { s with tb := { s.tb with tcamRun := s.tb.tcamRun.filter (fun x => x != c) } } = s0 →
    c.op = 3 → partAt c.d c.addr s0 = some (p, e) → groupOut c.d p.g c.addr s0 = false → exec (.tcamCommandEnd d ⟨j, ue⟩) s = .next (putEnd
    F.TCAM_STATUS_BUSY F.TCAM_STATUS_RESULT (some F.TCAM_STATUS_MOVES) (some F.TCAM_STATUS_HIT) (some F.TCAM_STATUS_RESULT_ADDR) (d * 2 + j) (endWith
    0) (tcamTraffic d (tcamDest c s ++ tcamFrom c s) (tcamClearEntry c.d p.g c.addr s0)))) ∧
  (∀ (s : State) (d j : Nat) (ue : List (Nat × Bool)) (c : TcamCmd) (s0 : State) (p : Part) (ea eb : Nat), works (.tcamCommandEnd d ⟨j, ue⟩) s = true
    → s.tb.tcamRun.find? (fun c => c.d == d) = some c → c.j = j → { s with tb := { s.tb with tcamRun := s.tb.tcamRun.filter (fun x => x != c) } } = s0
    → c.op = 4 → partAt c.d c.addr s0 = some (p, ea) → groupOut c.d p.g c.addr s0 = false → (tcamEntry c.d p.g c.addr s0).valid = true → p.entry?
    c.dst = some eb → groupOut c.d p.g c.dst s0 = false → (tcamRow c.d c.dst s0).valid = false → (p.routes = true → keepsOrder (validEntries c.d p s0)
    c.dst (tcamEntry c.d p.g c.addr s0).prio = true) → exec (.tcamCommandEnd d ⟨j, ue⟩) s = .next (putEnd F.TCAM_STATUS_BUSY F.TCAM_STATUS_RESULT
    (some F.TCAM_STATUS_MOVES) (some F.TCAM_STATUS_HIT) (some F.TCAM_STATUS_RESULT_ADDR) (d * 2 + j) (endWith 0) (tcamTraffic d (tcamDest c s ++
    tcamFrom c s) (tcamMoves c.d p [(ea, eb)] s0)))) ∧
  (∀ (s : State) (d j : Nat) (ue : List (Nat × Bool)) (c : TcamCmd) (s0 : State) (p : Part) (s1 : State) (e : CmdEnd), works (.tcamCommandEnd d ⟨j,
    ue⟩) s = true → s.tb.tcamRun.find? (fun c => c.d == d) = some c → c.j = j →
    { s with tb := { s.tb with tcamRun := s.tb.tcamRun.filter (fun x => x != c) } } = s0 → c.op = 5 → tcamPart c.d c.part s0 = some p →
    tcamInsertEntry c.d p (c.entry p.g) s0 = (s1, e) → e.result = 0 → exec (.tcamCommandEnd d ⟨j, ue⟩) s = .next (putEnd F.TCAM_STATUS_BUSY
    F.TCAM_STATUS_RESULT (some F.TCAM_STATUS_MOVES) (some F.TCAM_STATUS_HIT) (some F.TCAM_STATUS_RESULT_ADDR) (d * 2 + j) e (tcamTraffic d (tcamDest c
    s ++ tcamFrom c s) s1))) ∧
  (∀ (s : State) (d j : Nat) (ue : List (Nat × Bool)) (c : TcamCmd) (s0 : State) (p : Part) (s1 : State) (e : CmdEnd), works (.tcamCommandEnd d ⟨j,
    ue⟩) s = true → s.tb.tcamRun.find? (fun c => c.d == d) = some c → c.j = j →
    { s with tb := { s.tb with tcamRun := s.tb.tcamRun.filter (fun x => x != c) } } = s0 → c.op = 6 → tcamPart c.d c.part s0 = some p →
    tcamDeleteEntry c.d p (c.entry p.g) s0 = (s1, e) → e.result = 0 → exec (.tcamCommandEnd d ⟨j, ue⟩) s = .next (putEnd F.TCAM_STATUS_BUSY
    F.TCAM_STATUS_RESULT (some F.TCAM_STATUS_MOVES) (some F.TCAM_STATUS_HIT) (some F.TCAM_STATUS_RESULT_ADDR) (d * 2 + j) e (tcamTraffic d (tcamDest c
    s ++ tcamFrom c s) s1))) ∧
  (∀ (s : State) (d j : Nat) (ue : List (Nat × Bool)) (c : TcamCmd) (s0 : State) (p : Part) (s1 : State) (a : Nat) (act : Word), works
    (.tcamCommandEnd d ⟨j, ue⟩) s = true → s.tb.tcamRun.find? (fun c => c.d == d) = some c → c.j = j →
    { s with tb := { s.tb with tcamRun := s.tb.tcamRun.filter (fun x => x != c) } } = s0 → c.op = 7 → tcamPart c.d c.part s0 = some p → tcamSearchEcc
    c.d p (c.num 0 (5 * p.g)) (c.num 20 (5 * p.g)) ue s0 = (s1, some (a, act)) → exec (.tcamCommandEnd d ⟨j, ue⟩) s = .next (putEnd F.TCAM_STATUS_BUSY
    F.TCAM_STATUS_RESULT (some F.TCAM_STATUS_MOVES) (some F.TCAM_STATUS_HIT) (some F.TCAM_STATUS_RESULT_ADDR) (d * 2 + j)
    { result := 0, hit := some true, addr := some a } (tcamTraffic d (tcamDest c s ++ tcamFrom c s) (s1.setFld F.TCAM_DATA ((c.d * 2 + c.j) * 42 + 41)
    act.toNat)))) ∧
  (∀ (s : State) (d j : Nat) (ue : List (Nat × Bool)) (c : TcamCmd) (s0 : State) (p : Part) (s1 : State), works (.tcamCommandEnd d ⟨j, ue⟩) s = true →
    s.tb.tcamRun.find? (fun c => c.d == d) = some c → c.j = j → { s with tb := { s.tb with tcamRun := s.tb.tcamRun.filter (fun x => x != c) } } = s0 →
    c.op = 7 → tcamPart c.d c.part s0 = some p → tcamSearchEcc c.d p (c.num 0 (5 * p.g)) (c.num 20 (5 * p.g)) ue s0 = (s1, none) → exec
    (.tcamCommandEnd d ⟨j, ue⟩) s = .next (putEnd F.TCAM_STATUS_BUSY F.TCAM_STATUS_RESULT (some F.TCAM_STATUS_MOVES) (some F.TCAM_STATUS_HIT) (some
    F.TCAM_STATUS_RESULT_ADDR) (d * 2 + j) { result := 0, hit := some false } (tcamTraffic d (tcamDest c s ++ tcamFrom c s) s1))) ∧
  (∀ (s : State) (d j : Nat) (ue : List (Nat × Bool)) (c : TcamCmd) (s0 s1 : State) (e : CmdEnd), works (.tcamCommandEnd d ⟨j, ue⟩) s = true →
    s.tb.tcamRun.find? (fun c => c.d == d) = some c → c.j = j → { s with tb := { s.tb with tcamRun := s.tb.tcamRun.filter (fun x => x != c) } } = s0 →
    tcamEffect c ue s0 = (s1, e) → e.result ≠ 0 → exec (.tcamCommandEnd d ⟨j, ue⟩) s = .next (putEnd F.TCAM_STATUS_BUSY F.TCAM_STATUS_RESULT (some
    F.TCAM_STATUS_MOVES) (some F.TCAM_STATUS_HIT) (some F.TCAM_STATUS_RESULT_ADDR) (d * 2 + j) e s1))

/-- The scrubber takes one row a slot and compares it with its shadow; a verify pass returns a block to service or fails it. On a row of a block in
service that no command holds: a match changes the sweep alone, a shadow that does not answer is deferred, an uncorrectable shadow is counted and
raised as fault source 65, and a row that differs is rewritten. A repair that succeeds sets STATE 1 and raises GEN. (Rests on 04_associative_search.md
R105, R106, R107, R109, R111; notes/assumptions/122.md.) -/
def Obligations.TcamScrubAndRepairComplete : Prop :=
  (∀ (s : State) (d : Nat), works (.tcamScrubSlot d .same) s = true → tget 0 s.tb.scrubAt d + 1 < 32768 → s.fld F.TCAM_BLK_STATUS_STATE (d * 16 + tget
    0 s.tb.scrubAt d / 2048) = 1 → rowBusy d (tget 0 s.tb.scrubAt d) s = false → exec (.tcamScrubSlot d .same) s = .next (dramRequest 1 false
    (tcamShadowAddr d (tget 0 s.tb.scrubAt d)) 64 { s with tb := { s.tb with scrubAt := tset 0 s.tb.scrubAt d (tget 0 s.tb.scrubAt d + 1) } })) ∧
  (∀ (s : State) (d : Nat), works (.tcamScrubSlot d .same) s = true → tget 0 s.tb.scrubAt d = 32767 → s.fld F.TCAM_BLK_STATUS_STATE (d * 16 + 15) = 1
    → rowBusy d 32767 s = false → exec (.tcamScrubSlot d .same) s = .next (dramRequest 1 false (tcamShadowAddr d 32767) 64
    ({ s with tb := { s.tb with scrubAt := tset 0 s.tb.scrubAt d 0 } }.bump F.TCAM_SWEEPS d))) ∧
  (∀ (s : State) (d : Nat), works (.tcamScrubSlot d .unacked) s = true → tget 0 s.tb.scrubAt d + 1 < 32768 → s.fld F.TCAM_BLK_STATUS_STATE (d * 16 +
    tget 0 s.tb.scrubAt d / 2048) = 1 → exec (.tcamScrubSlot d .unacked) s = .next
    ({ s with tb := { s.tb with scrubAt := tset 0 s.tb.scrubAt d (tget 0 s.tb.scrubAt d + 1) } }.bump F.TCAM_SCRUB_DEFER d)) ∧
  (∀ (s : State) (d : Nat), works (.tcamScrubSlot d .shadowUe) s = true → tget 0 s.tb.scrubAt d + 1 < 32768 → s.fld F.TCAM_BLK_STATUS_STATE (d * 16 +
    tget 0 s.tb.scrubAt d / 2048) = 1 → rowBusy d (tget 0 s.tb.scrubAt d) s = false → exec (.tcamScrubSlot d .shadowUe) s = .next (raiseFault 65 d
    (tget 0 s.tb.scrubAt d / 2048) ((dramRequest 1 false (tcamShadowAddr d (tget 0 s.tb.scrubAt d)) 64
    { s with tb := { s.tb with scrubAt := tset 0 s.tb.scrubAt d (tget 0 s.tb.scrubAt d + 1) } }).bump F.TCAM_SCRUB_SHADOW_UE d))) ∧
  (∀ (s : State) (d : Nat) (ok : Bool), works (.tcamScrubSlot d (.differs ok)) s = true → tget 0 s.tb.scrubAt d + 1 < 32768 → s.fld
    F.TCAM_BLK_STATUS_STATE (d * 16 + tget 0 s.tb.scrubAt d / 2048) = 1 → rowBusy d (tget 0 s.tb.scrubAt d) s = false → exec (.tcamScrubSlot d
    (.differs ok)) s = .next (tcamRewrite d (tget 0 s.tb.scrubAt d) ok (dramRequest 1 false (tcamShadowAddr d (tget 0 s.tb.scrubAt d)) 64
    { s with tb := { s.tb with scrubAt := tset 0 s.tb.scrubAt d (tget 0 s.tb.scrubAt d + 1) } }))) ∧
  (∀ (s : State) (d b : Nat), works (.tcamRepairEnd d b true) s = true → s.fld F.TCAM_BLK_STATUS_STATE (d * 16 + b) = 2 ∨ s.fld
    F.TCAM_BLK_STATUS_STATE (d * 16 + b) = 3 → exec (.tcamRepairEnd d b true) s = .next ((s.setFld F.TCAM_BLK_STATUS_STATE (d * 16 + b) 1).addWrap
    F.TCAM_BLK_STATUS_GEN (d * 16 + b) 1)) ∧
  (∀ (s : State) (d b : Nat), works (.tcamRepairEnd d b false) s = true → s.fld F.TCAM_BLK_STATUS_STATE (d * 16 + b) = 2 ∨ s.fld
    F.TCAM_BLK_STATUS_STATE (d * 16 + b) = 3 → exec (.tcamRepairEnd d b false) s = .next (raiseFault 67 d b (raiseSrc (256 + 32 * d + 6) (s.setFld
    F.TCAM_BLK_STATUS_STATE (d * 16 + b) 4))))

/-- An exact-match command joins its engine, where the oldest acts and ends; learning takes the head request with a token, and a pass ages the learned
entries. A command of an idle window sets BUSY and holds what its window's registers hold. At its end READ shows a slot, LOOKUP, INSERT and DELETE
take the key of its DATA words, FLUSH removes the learned entries that its filter names, and an uncorrectable entry ends READ and LOOKUP with RESULT
6; the end clears BUSY and writes the result fields (that a command acts at its end is log 16). 64 tokens come back at a refill. (Rests on
05_exact_match_learning.md R131, R132, R138; notes/assumptions/16.md; notes/assumptions/105.md; notes/assumptions/113.md; notes/assumptions/124.md.)
-/
def Obligations.ExactMatchCommandsComplete : Prop :=
  (∀ (s : State) (q : Requester) (d j table : Nat), works (.emRead q d j table) s = true → windowServes q j = true → s.fld F.EM_STATUS_BUSY (d * 2 +
    j) = 0 → exec (.emRead q d j table) s = .next (emJoin d j 1 table s)) ∧
  (∀ (s : State) (q : Requester) (d j table : Nat), works (.emLookup q d j table) s = true → windowServes q j = true → s.fld F.EM_STATUS_BUSY (d * 2 +
    j) = 0 → exec (.emLookup q d j table) s = .next (emJoin d j 2 table s)) ∧
  (∀ (s : State) (q : Requester) (d j table : Nat), works (.emInsert q d j table) s = true → windowServes q j = true → s.fld F.EM_STATUS_BUSY (d * 2 +
    j) = 0 → exec (.emInsert q d j table) s = .next (emJoin d j 3 table s)) ∧
  (∀ (s : State) (q : Requester) (d j table : Nat), works (.emDelete q d j table) s = true → windowServes q j = true → s.fld F.EM_STATUS_BUSY (d * 2 +
    j) = 0 → exec (.emDelete q d j table) s = .next (emJoin d j 4 table s)) ∧
  (∀ (s : State) (q : Requester) (d j table : Nat), works (.emFlush q d j table) s = true → windowServes q j = true → s.fld F.EM_STATUS_BUSY (d * 2 +
    j) = 0 → exec (.emFlush q d j table) s = .next (emJoin d j 5 table s)) ∧
  (∀ (s : State) (d j : Nat) (c : EmCmd) (s0 : State), works (.emCommandEnd d ⟨j, false⟩) s = true → emRunning d j s = some c →
    { s with tb := { s.tb with emRun := s.tb.emRun.filter (fun x => x != c) } } = s0 → c.op = 1 → c.table = 0 → c.addr < 0x81000 → exec (.emCommandEnd
    d ⟨j, false⟩) s = .next (putEnd F.EM_STATUS_BUSY F.EM_STATUS_RESULT none (some F.EM_STATUS_HIT) (some F.EM_STATUS_RESULT_ADDR) (d * 2 + j)
    (endWith 0) (emTraffic c (endWith 0) s (emDataPut c.d c.j (nearAt c.d c.addr s0).key.toNat (nearAt c.d c.addr s0) s0)))) ∧
  (∀ (s : State) (d j : Nat) (c : EmCmd) (s0 : State), works (.emCommandEnd d ⟨j, false⟩) s = true → emRunning d j s = some c →
    { s with tb := { s.tb with emRun := s.tb.emRun.filter (fun x => x != c) } } = s0 → c.op = 1 → c.table = 1 → c.addr < 0x810000 → exec
    (.emCommandEnd d ⟨j, false⟩) s = .next (putEnd F.EM_STATUS_BUSY F.EM_STATUS_RESULT none (some F.EM_STATUS_HIT) (some F.EM_STATUS_RESULT_ADDR) (d *
    2 + j) (endWith 0) (emTraffic c (endWith 0) s (emDataPut c.d c.j (farAt c.addr s0).key.toNat (farAt c.addr s0) s0)))) ∧
  (∀ (s : State) (d j : Nat) (c : EmCmd) (s0 : State), works (.emCommandEnd d ⟨j, true⟩) s = true → emRunning d j s = some c →
    { s with tb := { s.tb with emRun := s.tb.emRun.filter (fun x => x != c) } } = s0 → c.op = 1 → c.table = 0 → c.addr < 0x81000 → exec (.emCommandEnd
    d ⟨j, true⟩) s = .next (putEnd F.EM_STATUS_BUSY F.EM_STATUS_RESULT none (some F.EM_STATUS_HIT) (some F.EM_STATUS_RESULT_ADDR) (d * 2 + j) (endWith
    6) (emTraffic c (endWith 6) s s0))) ∧
  (∀ (s : State) (d j : Nat) (c : EmCmd) (s0 : State) (a : Nat) (e : EmEntry), works (.emCommandEnd d ⟨j, false⟩) s = true → emRunning d j s = some c
    → { s with tb := { s.tb with emRun := s.tb.emRun.filter (fun x => x != c) } } = s0 → c.op = 2 → keyAllowed (c.table == 1) c.key = true → emFind c
    s0 = some (a, e) → exec (.emCommandEnd d ⟨j, false⟩) s = .next (putEnd F.EM_STATUS_BUSY F.EM_STATUS_RESULT none (some F.EM_STATUS_HIT) (some
    F.EM_STATUS_RESULT_ADDR) (d * 2 + j) { result := 0, hit := some true, addr := some a } (emTraffic c
    { result := 0, hit := some true, addr := some a } s (emDataPut c.d c.j c.key e s0)))) ∧
  (∀ (s : State) (d j : Nat) (c : EmCmd) (s0 : State), works (.emCommandEnd d ⟨j, false⟩) s = true → emRunning d j s = some c →
    { s with tb := { s.tb with emRun := s.tb.emRun.filter (fun x => x != c) } } = s0 → c.op = 2 → keyAllowed (c.table == 1) c.key = true → emFind c s0
    = none → exec (.emCommandEnd d ⟨j, false⟩) s = .next (putEnd F.EM_STATUS_BUSY F.EM_STATUS_RESULT none (some F.EM_STATUS_HIT) (some
    F.EM_STATUS_RESULT_ADDR) (d * 2 + j) { result := 3, hit := some false } (emTraffic c { result := 3, hit := some false } s s0))) ∧
  (∀ (s : State) (d j : Nat) (ue : Bool) (c : EmCmd) (s0 : State), works (.emCommandEnd d ⟨j, ue⟩) s = true → emRunning d j s = some c →
    { s with tb := { s.tb with emRun := s.tb.emRun.filter (fun x => x != c) } } = s0 → c.op = 2 → keyAllowed (c.table == 1) c.key = false → exec
    (.emCommandEnd d ⟨j, ue⟩) s = .next (putEnd F.EM_STATUS_BUSY F.EM_STATUS_RESULT none (some F.EM_STATUS_HIT) (some F.EM_STATUS_RESULT_ADDR) (d * 2
    + j) (endWith 5) (emTraffic c (endWith 5) s s0))) ∧
  (∀ (s : State) (d j : Nat) (c : EmCmd) (s0 : State), works (.emCommandEnd d ⟨j, true⟩) s = true → emRunning d j s = some c →
    { s with tb := { s.tb with emRun := s.tb.emRun.filter (fun x => x != c) } } = s0 → c.op = 2 → keyAllowed (c.table == 1) c.key = true → exec
    (.emCommandEnd d ⟨j, true⟩) s = .next (putEnd F.EM_STATUS_BUSY F.EM_STATUS_RESULT none (some F.EM_STATUS_HIT) (some F.EM_STATUS_RESULT_ADDR) (d *
    2 + j) (endWith 6) (emTraffic c (endWith 6) s s0))) ∧
  (∀ (s : State) (d j : Nat) (ue : Bool) (c : EmCmd) (s0 s1 : State) (e : CmdEnd), works (.emCommandEnd d ⟨j, ue⟩) s = true → emRunning d j s = some c
    → { s with tb := { s.tb with emRun := s.tb.emRun.filter (fun x => x != c) } } = s0 → c.op = 3 → entryAllowed (c.table == 1) c.key c.action = true
    → (if c.table = 0 then nearInsert c.d c.key c.action s0 else farInsert c.d c.key c.action s0) = (s1, e) → exec (.emCommandEnd d ⟨j, ue⟩) s = .next
    (putEnd F.EM_STATUS_BUSY F.EM_STATUS_RESULT none (some F.EM_STATUS_HIT) (some F.EM_STATUS_RESULT_ADDR) (d * 2 + j) e (emTraffic c e s s1))) ∧
  (∀ (s : State) (d j : Nat) (ue : Bool) (c : EmCmd) (s0 : State) (a : Nat) (e : EmEntry), works (.emCommandEnd d ⟨j, ue⟩) s = true → emRunning d j s
    = some c → { s with tb := { s.tb with emRun := s.tb.emRun.filter (fun x => x != c) } } = s0 → c.op = 4 → keyAllowed (c.table == 1) c.key = true →
    emFind c s0 = some (a, e) → exec (.emCommandEnd d ⟨j, ue⟩) s = .next (putEnd F.EM_STATUS_BUSY F.EM_STATUS_RESULT none (some F.EM_STATUS_HIT) (some
    F.EM_STATUS_RESULT_ADDR) (d * 2 + j) { result := 0, addr := some a } (emTraffic c { result := 0, addr := some a } s (if c.table = 0 then
    nearDelete c.d a s0 else farPut c.d c.key a {} s0)))) ∧
  (∀ (s : State) (d j : Nat) (ue : Bool) (c : EmCmd) (s0 : State), works (.emCommandEnd d ⟨j, ue⟩) s = true → emRunning d j s = some c →
    { s with tb := { s.tb with emRun := s.tb.emRun.filter (fun x => x != c) } } = s0 → c.op = 5 → c.table = 0 → exec (.emCommandEnd d ⟨j, ue⟩) s =
    .next (putEnd F.EM_STATUS_BUSY F.EM_STATUS_RESULT none (some F.EM_STATUS_HIT) (some F.EM_STATUS_RESULT_ADDR) (d * 2 + j) (endWith 0) (emTraffic c
    (endWith 0) s (deleteLearned c.d (fun e => (!(c.data.getD 0 0).testBit 31 || e.operand == c.data.getD 0 0 % 1024) && (!(c.data.getD 0 0).testBit
    30 || e.key.toNat / 2 ^ 112 % 4096 == c.data.getD 0 0 / 1024 % 4096)) s0)))) ∧
  (∀ (s : State) (d : Nat) (ue : List Nat) (r : LearnReq) (rest : List (Nat × LearnReq)) (s1 : State), works (.learnQueueHead ⟨d, ue⟩) s = true →
    s.dp.learnQ = (d, r) :: rest → tget 0 s.dp.learnSpent d < 64 → s1 = { s with dp := { s.dp with learnQ := rest } } → (learnAct d r ue s1).2 = false
    → exec (.learnQueueHead ⟨d, ue⟩) s = .next ((learnAct d r ue s1).1)) ∧
  (∀ (s : State) (d : Nat) (ue : List Nat) (r : LearnReq) (rest : List (Nat × LearnReq)) (s1 s2 : State), works (.learnQueueHead ⟨d, ue⟩) s = true →
    s.dp.learnQ = (d, r) :: rest → tget 0 s.dp.learnSpent d < 64 → s1 = { s with dp := { s.dp with learnQ := rest } } → (learnAct d r ue s1) = (s2,
    true) → exec (.learnQueueHead ⟨d, ue⟩) s = .next
    ({ s2 with dp := { s2.dp with learnSpent := tset 0 s2.dp.learnSpent d (tget 0 s2.dp.learnSpent d + 1) } })) ∧
  (∀ (s : State) (d : Nat), works (.learnTokenRefill d) s = true → exec (.learnTokenRefill d) s = .next
    ({ s with dp := { s.dp with learnSpent := tset 0 s.dp.learnSpent d 0 } })) ∧
  (∀ (s : State) (d : Nat) (hits : List Nat) (x a : Nat) (e : EmEntry), works (.agePassStart ⟨d, hits⟩) s = true → s.tb.near = [(x, e)] → x / 2 ^ 20 =
    d → x % 2 ^ 20 = a → nearAt d a s = e → e.learned = true → e.lock = 0 → (e.hit || hits.contains a) = true → exec (.agePassStart ⟨d, hits⟩) s =
    .next (nearSet d a { e with hit := hits.contains a, flap := 0 } s)) ∧
  (∀ (s : State) (d : Nat) (hits : List Nat) (x a : Nat) (e : EmEntry), works (.agePassStart ⟨d, hits⟩) s = true → s.tb.near = [(x, e)] → x / 2 ^ 20 =
    d → x % 2 ^ 20 = a → nearAt d a s = e → e.learned = true → e.lock = 0 → (e.hit || hits.contains a) = false → exec (.agePassStart ⟨d, hits⟩) s =
    .next (laybyMove d (if a < 0x80000 then a / 4 else nearBucket d (nearKey d a s) s) 4 ((nearErase d a s).bump F.AGED d)))

/-- The hub input stage polices and replicates a frame once, the multicast hold retries, admits or expires, and the last cell makes copies eligible.
Where the header of a classified frame has reached the hub and no earlier frame of its port is ahead of it, a frame that the policing drops makes no
copy, and any other is replicated and admitted; its copies are bad when the frame was. A held copy that no test refuses any more leaves the hold; the
hold of a frame ends with its time. The last cell waits for the last flit. (Rests on 01_architecture.md R33; 06_rewrite_replication_mirroring.md R148,
R149; 07_shared_buffer.md R181, R183.) -/
def Obligations.HubInputAndHoldComplete : Prop :=
  (∀ (s : State) (f : Nat) (scUe : Bool) (replUe : Option Nat) (ctxUe : Bool) (fr0 : Frame) (s1 s2 : State) (fr : Frame) (s3 : State), works
    (.hubInputStage f scUe replUe ctxUe) s = true → frameAt f s = some fr0 → fr0.stage = .classified → headerUp f ctxUe s = s1 → waitsUp f true s1 =
    false → inputBlocked f fr0 s1 = false → firstCell f { s1 with dp := { s1.dp with arrived := s1.dp.arrived.filter (fun g => g != f) } } = s2 →
    frameAt f s2 = some fr → police fr scUe s2 = (s3, none) → exec (.hubInputStage f scUe replUe ctxUe) s = .next (settle f (setFrame f
    { fr with stage := .buffered, refused := true } s3))) ∧
  (∀ (s : State) (f : Nat) (scUe : Bool) (replUe : Option Nat) (ctxUe : Bool) (fr0 : Frame) (s1 s2 : State) (fr : Frame) (s3 : State) (fr' : Frame)
    (s4 : State), works (.hubInputStage f scUe replUe ctxUe) s = true → frameAt f s = some fr0 → fr0.stage = .classified → headerUp f ctxUe s = s1 →
    waitsUp f true s1 = false → inputBlocked f fr0 s1 = false → firstCell f
    { s1 with dp := { s1.dp with arrived := s1.dp.arrived.filter (fun g => g != f) } } = s2 → frameAt f s2 = some fr → police fr scUe s2 = (s3, some
    fr') → replicate f { fr' with stage := .buffered } replUe (phaseObserve { fr' with stage := .buffered } (setFrame f
    { fr' with stage := .buffered } s3)) = s4 → exec (.hubInputStage f scUe replUe ctxUe) s = .next (if fr.bad = true then badCopies f s4 else settle
    f s4)) ∧
  (∀ (s : State) (q : Nat) (c : Copy) (fr : Frame) (r : AdmitRes), works (.mcHoldRetry q) s = true → s.dp.held.find? (fun c => c.q == q) = some c →
    frameAt c.frame s = some fr → admitCopy c fr.cls.ect s = r → r.wantsHold = false → exec (.mcHoldRetry q) s = .next (settle c.frame (heldCount
    { r.st with dp := { r.st.dp with held := r.st.dp.held.filter (fun x => x.id != c.id) } }))) ∧
  (∀ (s : State) (f : Nat), works (.mcHoldExpiry f) s = true → exec (.mcHoldExpiry f) s = .next (refuseHeld (fun c => c.frame == f) true s)) ∧
  (∀ (s : State) (f : Nat) (fr0 : Frame) (s1 : State) (fr : Frame) (l : Nat), works (.lastCellWritten f) s = true → frameAt f s = some fr0 → fr0.len ≠
    none → fr0.lastCell = false → fr0.cells ≠ 0 → bodyUp f s = s1 → frameAt f s1 = some fr → fr.len = some l → waitsUp f false s1 = false → exec
    (.lastCellWritten f) s = .next ((fun fr1 : Frame => settle f (handDownRest f fr1 (lengthChecks f l fr (setFrame f fr1 (meterCredit fr l
    (trueCharges f l fr s1))))))
    { fr with charge := min fr.charge (cellsOf l), provisional := false, cells := max (cellsOf l) fr.cells, lastCell := true, metered := none })) ∧
  (∀ (s : State) (f : Nat) (fr : Frame), works (.frameEligible f) s = true → frameAt f s = some fr → exec (.frameEligible f) s = .next
    ({ s with dp := { s.dp with copies := s.dp.copies.map (fun c => if c.frame = f ∧ (c.ctEl = true ∨ fr.lastCell = true) then { c with eligible := true } else c) } }))

/-- Header contexts are installed, acknowledged and invalidated, flits are replayed, averages move, and the scheduler takes and sends copies. A frame
whose first 64 bytes have crossed installs its header context, and an ACK goes back; an ACK with the current GEN makes a pending context VALID, an
INVAL makes a context INVALID; a flit that fails its CRC is replayed, and its eighth failure in a row retrains the link; a retrain ends trained with
source 10, and the accesses that waited are made, or failed with a class 5 event. The scheduler takes the copy that its rules select, or a held
remainder; the copy is edited on its die once it has crossed, and counted when it has left. (Rests on 01_architecture.md R21, R32; 02_ports.md R60;
07_shared_buffer.md R171, R177, R185; 08_egress_scheduling.md R197; notes/assumptions/116.md; notes/assumptions/117.md; notes/assumptions/125.md.) -/
def Obligations.JunctionsAndSchedulerComplete : Prop :=
  (∀ (s : State) (x : Nat) (s1 : State) (fr : Frame) (i : Nat), works (.contextInstall 0 x) s = true → bodyUp x s = s1 → frameAt x s1 = some fr →
    fr.coding = some (false, i) → fr.port < 512 → 64 ≤ fr.crossed → exec (.contextInstall 0 x) s = .next (storeContext (dieOf fr.port) 0 fr.port
    (fr.len.getD 0) fr.bytes (setFrame x { fr with coding := none } s1))) ∧
  (∀ (s : State) (x : Nat) (t : TxCopy) (s1 : State) (fr : Frame) (i : Nat), works (.contextInstall 1 x) s = true → s.dp.tx.find? (fun t => t.copy.id
    == x) = some t → linkCarry (dieOf t.copy.port) 1 x false false s = s1 → t.coding = some (false, i) → frameAt t.copy.frame s1 = some fr → 64 ≤
    crossedDown t s1 → exec (.contextInstall 1 x) s = .next (storeContext (dieOf t.copy.port) 1 fr.port (fr.len.getD 0) fr.bytes (mapTx x (fun t =>
    { t with coding := none }) s1))) ∧
  (∀ (s : State) (d j i gen : Nat), works (.contextAck d j i gen) s = true → (linkOf d j s).acks.contains (i, gen) = true → gen = s.fld
    F.RLF_STATUS_GEN d → (tget ({} : Ctx) s.dp.sendCtx (ctxKey d j i)).state = 1 → exec (.contextAck d j i gen) s = .next (setSendCtx d j i 2 (setLink
    d j { linkOf d j s with acks := dropFirst (fun x => x == (i, gen)) (linkOf d j s).acks } s))) ∧
  (∀ (s : State) (d j i gen : Nat), works (.contextAck d j i gen) s = true → (linkOf d j s).acks.contains (i, gen) = true → gen ≠ s.fld
    F.RLF_STATUS_GEN d → exec (.contextAck d j i gen) s = .next (setLink d j
    { linkOf d j s with acks := dropFirst (fun x => x == (i, gen)) (linkOf d j s).acks } s)) ∧
  (∀ (s : State) (d j i : Nat), works (.contextInval d j i) s = true → (linkOf d j s).invals.contains i = true → exec (.contextInval d j i) s = .next
    (setSendCtx d j i 0 (setLink d j { linkOf d j s with invals := dropFirst (fun x => x == i) (linkOf d j s).invals } s))) ∧
  (∀ (s : State) (d j : Nat) (bs : List Byte), works (.flitCrcError d j bs) s = true → tget false s.dp.retraining d = false → bs.length = 32 →
    flitGood (flitOut (linkOf d j s)).2.recvSeq bs = false → tget 0 s.dp.flitFails (d * 2 + j) < 7 → exec (.flitCrcError d j bs) s = .next ((fun s1 :
    State => { s1 with dp := { s1.dp with flitFails := tset 0 s1.dp.flitFails (d * 2 + j) (tget 0 s.dp.flitFails (d * 2 + j) + 1) } }) (setLink d j
    (flitOut (linkOf d j s)).2 (s.bump F.RLF_REPLAY_COUNT (d * 2 + j))))) ∧
  (∀ (s : State) (d j : Nat) (bs : List Byte), works (.flitCrcError d j bs) s = true → tget false s.dp.retraining d = false → bs.length = 32 →
    flitGood (flitOut (linkOf d j s)).2.recvSeq bs = false → 7 ≤ tget 0 s.dp.flitFails (d * 2 + j) → exec (.flitCrcError d j bs) s = .next
    (retrainStart d (setLink d j (flitOut (linkOf d j s)).2 (s.bump F.RLF_REPLAY_COUNT (d * 2 + j))))) ∧
  (∀ (s : State) (d : Nat) (s1 s2 : State), works (.retrainEnd d true) s = true → tget false s.dp.retraining d = true → tget false s.dp.linkDead d =
    false → { s with dp := { s.dp with retraining := tset false s.dp.retraining d false } } = s1 → raiseSrc 10 (s1.setFlds [(F.RLF_STATUS_TRAINED, d,
    1), (F.DIE_STATUS_LINK_UP, 0, setBit (s1.fld F.DIE_STATUS_LINK_UP 0) d true)]) = s2 → exec (.retrainEnd d true) s = .next ((s.dp.sideWait.filter
    (SideAccess.toDie d)).foldl (fun s a => sideAct a s)
    { s2 with dp := { s2.dp with sideWait := s2.dp.sideWait.filter (fun a => !SideAccess.toDie d a) } })) ∧
  (∀ (s : State) (d : Nat) (s1 : State), works (.retrainEnd d false) s = true → tget false s.dp.retraining d = true → tget false s.dp.linkDead d =
    false → raiseFault 4 d 0 { s with dp := { s.dp with linkDead := tset false s.dp.linkDead d true } } = s1 → exec (.retrainEnd d false) s = .next
    ((s.dp.sideWait.filter (SideAccess.toDie d)).foldl (fun s a => sideAct a s)
    { s1 with dp := { s1.dp with sideWait := s1.dp.sideWait.filter (fun a => !SideAccess.toDie d a) } })) ∧
  (∀ (s : State), works .qAvgUpdate s = true → exec .qAvgUpdate s = .next ((List.range 4120).foldl (fun s q => qAvgStep q s) s)) ∧
  (∀ (s : State) (p : Nat) (ecc : Ecc) (cell bufLen : Nat) (c : Copy) (s1 : State), works (.schedulerSelect p ecc cell bufLen) s = true → p = 512 ∨ p
    = 513 → selectFrom p (queuesOf p).reverse false s = (s1, some c) → exec (.schedulerSelect p ecc cell bufLen) s = .next (takeCopy c ecc cell bufLen
    s1)) ∧
  (∀ (s : State) (p : Nat) (ecc : Ecc) (cell bufLen : Nat) (c : Copy) (s1 : State), works (.schedulerSelect p ecc cell bufLen) s = true → p < 512 →
    selectFrom p (queuesOf p).reverse false ((queuesOf p).foldl (fun s q => lateCheck q s) s) = (s1, some c) → exec (.schedulerSelect p ecc cell
    bufLen) s = .next (takeCopy c ecc cell bufLen s1)) ∧
  (∀ (s : State) (p : Nat) (ecc : Ecc) (cell bufLen : Nat) (s1 : State), works (.schedulerSelect p ecc cell bufLen) s = true → p < 512 → selectFrom p
    (queuesOf p).reverse false ((queuesOf p).foldl (fun s q => lateCheck q s) s) = (s1, none) → s1.fld F.PORT_STATUS_LINK_UP p = 1 → tget false
    s1.dp.retraining (dieOf p) = false → exec (.schedulerSelect p ecc cell bufLen) s = .next (resumeHeld p s1)) ∧
  (∀ (s : State) (x : Nat) (ctxUe : Bool) (t0 : TxCopy) (s1 : State) (t : TxCopy) (fr : Frame) (te : Nat), works (.egressCopyArrival x none ctxUe) s =
    true → s.dp.tx.find? (fun t => t.copy.id == x) = some t0 → t0.edited = false → linkCarry (dieOf t0.copy.port) 1 x true ctxUe s = s1 → flitWaits
    (dieOf t0.copy.port) 1 x true s1 = false → s1.dp.tx.find? (fun t => t.copy.id == x) = some t → frameAt t.copy.frame s1 = some fr → (rewriteBody
    t.copy (arrivedBody t.copy fr s1) s1).2.2 = none → ¬ (t.copy.ct = false ∧ s1.fld F.PORT_CFG_MAX_FRAME t.copy.port < (padBody (finalBody
    { t with bytes := (rewriteBody t.copy (arrivedBody t.copy fr s1) s1).1, taken := (arrivedBody t.copy fr s1).length } fr s1)).length + 4) →
    egressMilestone t.copy s1 = te → exec (.egressCopyArrival x none ctxUe) s = .next ((fun y : State × List Byte => setTx
    { t with stage := if t.stage = .held then .held else .sending, edited := true, bytes := y.2, taken := (arrivedBody t.copy fr s1).length, tEgress := some te }
    y.1) (ptpStamp t.copy (te * 2 ^ 30) (rewriteBody t.copy (arrivedBody t.copy fr s1) s1).1 (s1.addSat F.EDIT_NA t.copy.port (rewriteBody t.copy
    (arrivedBody t.copy fr s1) s1).2.1)))) ∧
  (∀ (s : State) (x : Nat) (ctxUe : Bool) (k : Nat) (t0 : TxCopy) (s1 : State) (t : TxCopy) (fr : Frame), works (.egressCopyArrival x (some k) ctxUe)
    s = true → s.dp.tx.find? (fun t => t.copy.id == x) = some t0 → t0.edited = false → linkCarry (dieOf t0.copy.port) 1 x true ctxUe s = s1 →
    flitWaits (dieOf t0.copy.port) 1 x true s1 = false → s1.dp.tx.find? (fun t => t.copy.id == x) = some t → t.copy.id = x → frameAt t.copy.frame s1 =
    some fr → exec (.egressCopyArrival x (some k) ctxUe) s = .next (dropTx x (editUe t.copy k s1))) ∧
  (∀ (s : State) (x : Nat) (t0 : TxCopy) (s1 : State) (t : TxCopy) (fr : Frame), works (.txFrameEnd x) s = true → s.dp.tx.find? (fun t => t.copy.id ==
    x) = some t0 → t0.stage = .sending → t0.ended = true → linkCarry (dieOf t0.copy.port) 1 x false false s = s1 → flitWaits (dieOf t0.copy.port) 1 x
    false s1 = false → s1.dp.tx.find? (fun t => t.copy.id == x) = some t → frameAt t.copy.frame s1 = some fr → fr.len ≠ none → (wireBytes t fr s1).2.1
    = false → (wireBytes t fr s1).2.2 = false → t.frags = 0 → exec (.txFrameEnd x) s = .next (resumeHeld t.copy.port (dropTx t.copy.id (egressLearn
    { t with stomped := false } fr ((s1.addWrap F.TX_OCTETS t.copy.port (wireBytes t fr s1).1.length).addWrap F.TX_FRAMES t.copy.port 1)))))

/-- The rewrite window reads and writes its tables and the edit configuration is written. For an index within its table READ fills the DATA words and
WRITE stores a form that R145, R150 and R151 accept, with RESULT 0; a refused form leaves the table and reports the refusal. The end clears BUSY and
writes RESULT (the split in two rows is log 16). (Rests on 06_rewrite_replication_mirroring.md R145, R163; notes/assumptions/16.md;
notes/assumptions/124.md.) -/
def Obligations.RewriteWindowAndEditCfgComplete : Prop :=
  (∀ (s : State) (q : Requester) (j table : Nat) (s1 : State), works (.rwRead q j ⟨table, false⟩) s = true → windowServes q j = true → s.fld
    F.RW_STATUS_BUSY j = 0 → s.setFld F.RW_STATUS_BUSY j 1 = s1 → s1.fld F.RW_INDEX j < rwCount table → exec (.rwRead q j ⟨table, false⟩) s = .next
    (rwPends j (endWith 0) ((List.range (rwLen table)).foldl (fun s w => s.setFld F.RW_DATA (j * 12 + w) (rwWord table (s1.fld F.RW_INDEX j) w s))
    s1))) ∧
  (∀ (s : State) (q : Requester) (j table : Nat) (ue : Bool) (s1 : State), works (.rwRead q j ⟨table, ue⟩) s = true → windowServes q j = true → s.fld
    F.RW_STATUS_BUSY j = 0 → s.setFld F.RW_STATUS_BUSY j 1 = s1 → rwCount table ≤ s1.fld F.RW_INDEX j → exec (.rwRead q j ⟨table, ue⟩) s = .next
    (rwPends j (endWith 1) s1)) ∧
  (∀ (s : State) (q : Requester) (j table : Nat) (s1 : State), works (.rwRead q j ⟨table, true⟩) s = true → windowServes q j = true → s.fld
    F.RW_STATUS_BUSY j = 0 → s.setFld F.RW_STATUS_BUSY j 1 = s1 → s1.fld F.RW_INDEX j < rwCount table → exec (.rwRead q j ⟨table, true⟩) s = .next
    (rwPends j (endWith 3) s1)) ∧
  (∀ (s : State) (q : Requester) (j table : Nat) (s1 : State), works (.rwWrite q j table) s = true → windowServes q j = true → s.fld F.RW_STATUS_BUSY
    j = 0 → s.setFld F.RW_STATUS_BUSY j 1 = s1 → rwCheck table (s1.fld F.RW_INDEX j) (rwData j table s1) s1 = 0 → exec (.rwWrite q j table) s = .next
    (rwPends j (endWith 0) (rwStore table (s1.fld F.RW_INDEX j) (rwData j table s1) s1))) ∧
  (∀ (s : State) (q : Requester) (j table : Nat) (s1 : State) (r : Nat), works (.rwWrite q j table) s = true → windowServes q j = true → s.fld
    F.RW_STATUS_BUSY j = 0 → s.setFld F.RW_STATUS_BUSY j 1 = s1 → rwCheck table (s1.fld F.RW_INDEX j) (rwData j table s1) s1 = r → r ≠ 0 → exec
    (.rwWrite q j table) s = .next (rwPends j (endWith r) s1)) ∧
  (∀ (s : State) (j : Nat) (e : CmdEnd), works (.rwCommandEnd j) s = true → tget none s.tb.rwEnd j = some e → exec (.rwCommandEnd j) s = .next
    ((({ s with tb := { s.tb with rwEnd := tset none s.tb.rwEnd j none } }.setFld F.RW_STATUS_BUSY j 0).setFld F.RW_STATUS_RESULT j e.result))) ∧
  (∀ (s : State) (q : Requester) (v : Nat), works (.editCfgWrite q false v) s = true → v < 2 ^ 32 → exec (.editCfgWrite q false v) s = .next (s.setFld
    F.EDIT_CFG 0 v)) ∧
  (∀ (s : State) (q : Requester) (v : Nat), works (.editCfgWrite q true v) s = true → v < 2 ^ 32 → bitsOf v 16 10 ≤ 560 → bitsOf v 0 4 ≤ 11 → exec
    (.editCfgWrite q true v) s = .next (s.setFlds [(F.RTAG_CFG_EN, 0, bitsOf v 31 1), (F.RTAG_CFG_SEQ_LSB, 0, bitsOf v 16 10), (F.RTAG_CFG_FLAG_BIT,
    0, bitsOf v 0 4)]))

/-- A gate list change is requested, cancelled and applied, entries begin, and the deadline wheel advances. A request without a pending change writes
INIT_GATES and is accepted as R207 says; with one it is refused in WRITE_REFUSED. A cancel in time drops the change. At the change time the lists
exchange roles, CHANGED sets and source 132 is raised. (Rests on 08_egress_scheduling.md R205, R207, R211, R213, R229.) -/
def Obligations.GateListsComplete : Prop :=
  (∀ (s : State) (q : Requester) (p gates : Nat), works (.gclChangeReq q p gates) s = true → s.fld F.GCL_STATUS_CHANGE_PENDING p = 0 → exec
    (.gclChangeReq q p gates) s = .next (gclRequest p (noteForeign p (s.setFld F.GCL_CTRL_INIT_GATES p gates)))) ∧
  (∀ (s : State) (q : Requester) (p gates : Nat), works (.gclChangeReq q p gates) s = true → s.fld F.GCL_STATUS_CHANGE_PENDING p = 1 → exec
    (.gclChangeReq q p gates) s = .next ((noteForeign p (s.setFld F.GCL_CTRL_INIT_GATES p gates)).setFld F.GCL_STATUS_WRITE_REFUSED p 1)) ∧
  (∀ (s : State) (q : Requester) (p gates : Nat) (r : GateRun), works (.gclCancel q p gates) s = true → tget none s.dp.gclPending p = some r → s.work
    + 1000 * nsUnit ≤ r.base * nsUnit → exec (.gclCancel q p gates) s = .next ((fun s1 : State =>
    { s1 with dp := { s1.dp with gclPending := tset none s1.dp.gclPending p none } }) ((s.setFld F.GCL_CTRL_INIT_GATES p gates).setFld
    F.GCL_STATUS_CHANGE_PENDING p 0))) ∧
  (∀ (s : State) (p : Nat) (r : GateRun), works (.gclChangeApply p) s = true → tget none s.dp.gclPending p = some r → exec (.gclChangeApply p) s =
    .next ((fun s2 : State =>
    { s2 with dp := { s2.dp with gclPending := tset none s2.dp.gclPending p none, gclOper := tset none s2.dp.gclOper p (some r), operList := tset 0 s2.dp.operList p (adminList p s) } })
    (raiseSrc 132 ((s.setFlds [(F.GCL_OPER_BASE_NS, p, s.fld F.GCL_ADMIN_BASE_NS p), (F.GCL_OPER_BASE_SEC_LO, p, s.fld F.GCL_ADMIN_BASE_SEC_LO p),
    (F.GCL_OPER_BASE_SEC_HI, p, s.fld F.GCL_ADMIN_BASE_SEC_HI p), (F.GCL_OPER_CYCLE, p, s.fld F.GCL_ADMIN_CYCLE p), (F.GCL_OPER_LEN, p, s.fld
    F.GCL_ADMIN_LEN p), (F.GCL_STATUS_OPER_VALID, p, 1), (F.GCL_STATUS_CHANGED, p, 1), (F.GCL_STATUS_CHANGE_PENDING, p, 0), (F.GCL_STATUS_OPER_INDEX,
    p, 0)]).bump F.GCL_CHANGES p)))) ∧
  (∀ (s : State) (p x : Nat) (r : GateRun) (k : Nat), works (.gateEntryBegin p x false) s = true → tget none s.dp.gclOper p = some r → x < r.len →
    s.fld F.PORT_SCH_CFG_GATE_EN p = 1 → (p * 2 + tget 0 s.dp.operList p) * 1024 + x = k → preemptActive p s = false → exec (.gateEntryBegin p x
    false) s = .next (s.setFld F.GCL_STATUS_OPER_INDEX p x)) ∧
  (∀ (s : State) (p x : Nat) (r : GateRun) (k : Nat) (s1 : State), works (.gateEntryBegin p x true) s = true → tget none s.dp.gclOper p = some r → x <
    r.len → s.fld F.PORT_SCH_CFG_GATE_EN p = 1 → (p * 2 + tget 0 s.dp.operList p) * 1024 + x = k → preemptActive p s = false → raiseFault 11 4 p
    (raiseSrc 139 ({ s with tb := { s.tb with gcl := tset 0 s.tb.gcl k (tget 0 s.tb.gclShadow k) } }.bump F.SCH_UE 0)) = s1 → exec (.gateEntryBegin p
    x true) s = .next (s1.setFld F.GCL_STATUS_OPER_INDEX p x)) ∧
  (∀ (s : State) (p x : Nat) (r : GateRun) (k : Nat), works (.gateEntryBegin p x false) s = true → tget none s.dp.gclOper p = some r → x < r.len →
    s.fld F.PORT_SCH_CFG_GATE_EN p = 1 → (p * 2 + tget 0 s.dp.operList p) * 1024 + x = k → preemptActive p s = true → bitsOf (tget 0 s.tb.gcl k) 30 2
    = 1 → s.fld F.MM_STATUS_HOLD p = 0 → exec (.gateEntryBegin p x false) s = .next (holdNow p (s.setFld F.GCL_STATUS_OPER_INDEX p x))) ∧
  (∀ (s : State) (p x : Nat) (r : GateRun) (k : Nat), works (.gateEntryBegin p x false) s = true → tget none s.dp.gclOper p = some r → x < r.len →
    s.fld F.PORT_SCH_CFG_GATE_EN p = 1 → (p * 2 + tget 0 s.dp.operList p) * 1024 + x = k → preemptActive p s = true → bitsOf (tget 0 s.tb.gcl k) 30 2
    = 2 → exec (.gateEntryBegin p x false) s = .next (holdRelease p (s.setFld F.GCL_STATUS_OPER_INDEX p x))) ∧
  (∀ (s : State) (p : Nat), works (.deadlineSlotAdvance p) s = true → exec (.deadlineSlotAdvance p) s = .next
    ({ s with dp := { s.dp with overdue := s.dp.overdue ++ (slotOrder (slotDue p s).length (slotDue p s)).map (fun c => c.id) } }))

/-- The stream window reads, writes and changes its tables, stream gates change and step, and shapers, error detection and samples run. READ and WRITE
act on an index within their table; a CHANGE with a list that passes its checks is pending until its time. At that time the pending list runs; ten
microseconds later its region is free. The end of a command clears BUSY and writes RESULT (log 16). (Rests on 08_egress_scheduling.md R218, R223,
R225, R230, R235; notes/assumptions/16.md; notes/assumptions/124.md.) -/
def Obligations.StreamTablesComplete : Prop :=
  (∀ (s : State) (q : Requester) (j table : Nat) (s1 : State), works (.scRead q j ⟨table, false⟩) s = true → windowServes q j = true → table < 7 →
    s.fld F.SC_STATUS_BUSY j = 0 → s.setFld F.SC_STATUS_BUSY j 1 = s1 → s1.fld F.SC_INDEX j < scCount table → exec (.scRead q j ⟨table, false⟩) s =
    .next (scPends j (endWith 0) ((List.range 8).foldl (fun s w => s.setFld F.SC_DATA (j * 8 + w) (scWord table (s1.fld F.SC_INDEX j) w s)) s1))) ∧
  (∀ (s : State) (q : Requester) (j table : Nat) (s1 : State), works (.scRead q j ⟨table, true⟩) s = true → windowServes q j = true → table < 7 →
    s.fld F.SC_STATUS_BUSY j = 0 → s.setFld F.SC_STATUS_BUSY j 1 = s1 → s1.fld F.SC_INDEX j < scCount table → exec (.scRead q j ⟨table, true⟩) s =
    .next (scPends j (endWith 5) s1)) ∧
  (∀ (s : State) (q : Requester) (j table : Nat) (s1 : State), works (.scWrite q j table) s = true → windowServes q j = true → 3 < table → table < 7 →
    s.fld F.SC_STATUS_BUSY j = 0 → s.setFld F.SC_STATUS_BUSY j 1 = s1 → s1.fld F.SC_INDEX j < scCount table → exec (.scWrite q j table) s = .next
    (scPends j (endWith 0) (scPut table (s1.fld F.SC_INDEX j) ((List.range 8).map (fun w => scMerge table w (scWord table (s1.fld F.SC_INDEX j) w s1)
    (s1.fld F.SC_DATA (j * 8 + w)))) s1))) ∧
  (∀ (s : State) (q : Requester) (j : Nat) (s1 : State), works (.scWrite q j 0) s = true → windowServes q j = true → s.fld F.SC_STATUS_BUSY j = 0 →
    s.setFld F.SC_STATUS_BUSY j 1 = s1 → s1.fld F.SC_INDEX j < scCount 0 → ctxOk (fun w => scMerge 0 w (scWord 0 (s1.fld F.SC_INDEX j) w s1) (s1.fld
    F.SC_DATA (j * 8 + w))) = true → bitsOf (scWord 0 (s1.fld F.SC_INDEX j) 4 s1) 22 9 = bitsOf ((fun w => scMerge 0 w (scWord 0 (s1.fld F.SC_INDEX j)
    w s1) (s1.fld F.SC_DATA (j * 8 + w))) 4) 22 9 → exec (.scWrite q j 0) s = .next (scPends j (endWith 0) (scPut 0 (s1.fld F.SC_INDEX j) ((List.range
    8).map (fun w => scMerge 0 w (scWord 0 (s1.fld F.SC_INDEX j) w s1) (s1.fld F.SC_DATA (j * 8 + w)))) s1))) ∧
  (∀ (s : State) (q : Requester) (j : Nat) (s1 : State), works (.scWrite q j 0) s = true → windowServes q j = true → s.fld F.SC_STATUS_BUSY j = 0 →
    s.setFld F.SC_STATUS_BUSY j 1 = s1 → s1.fld F.SC_INDEX j < scCount 0 → ctxOk (fun w => scMerge 0 w (scWord 0 (s1.fld F.SC_INDEX j) w s1) (s1.fld
    F.SC_DATA (j * 8 + w))) = true → bitsOf (scWord 0 (s1.fld F.SC_INDEX j) 4 s1) 22 9 ≠ bitsOf ((fun w => scMerge 0 w (scWord 0 (s1.fld F.SC_INDEX j)
    w s1) (s1.fld F.SC_DATA (j * 8 + w))) 4) 22 9 → exec (.scWrite q j 0) s = .next (scPends j (endWith 0) (recReset (s1.fld F.SC_INDEX j) (scPut 0
    (s1.fld F.SC_INDEX j) ((List.range 8).map (fun w => scMerge 0 w (scWord 0 (s1.fld F.SC_INDEX j) w s1) (s1.fld F.SC_DATA (j * 8 + w)))) s1)))) ∧
  (∀ (s : State) (q : Requester) (j : Nat) (s1 : State), works (.scWrite q j 1) s = true → windowServes q j = true → s.fld F.SC_STATUS_BUSY j = 0 →
    s.setFld F.SC_STATUS_BUSY j 1 = s1 → s1.fld F.SC_INDEX j < scCount 1 → (gateSt (s1.fld F.SC_INDEX j) s1).pending = none → exec (.scWrite q j 1) s
    = .next (scPends j (endWith 0) (scPut 1 (s1.fld F.SC_INDEX j) ((List.range 8).map (fun w => scMerge 1 w (scWord 1 (s1.fld F.SC_INDEX j) w s1)
    (s1.fld F.SC_DATA (j * 8 + w)))) s1))) ∧
  (∀ (s : State) (q : Requester) (j : Nat) (s1 : State), works (.scWrite q j 2) s = true → windowServes q j = true → s.fld F.SC_STATUS_BUSY j = 0 →
    s.setFld F.SC_STATUS_BUSY j 1 = s1 → s1.fld F.SC_INDEX j < scCount 2 → poolLocked (s1.fld F.SC_INDEX j) s1 = false → exec (.scWrite q j 2) s =
    .next (scPends j (endWith 0) (scPut 2 (s1.fld F.SC_INDEX j) ((List.range 8).map (fun w => scMerge 2 w (scWord 2 (s1.fld F.SC_INDEX j) w s1)
    (s1.fld F.SC_DATA (j * 8 + w)))) s1))) ∧
  (∀ (s : State) (q : Requester) (j : Nat) (s1 : State), works (.scWrite q j 3) s = true → windowServes q j = true → s.fld F.SC_STATUS_BUSY j = 0 →
    s.setFld F.SC_STATUS_BUSY j 1 = s1 → s1.fld F.SC_INDEX j < scCount 3 → meterOk (fun w => scMerge 3 w (scWord 3 (s1.fld F.SC_INDEX j) w s1) (s1.fld
    F.SC_DATA (j * 8 + w))) = true → exec (.scWrite q j 3) s = .next (scPends j (endWith 0) (meterFull (s1.fld F.SC_INDEX j) (scPut 3 (s1.fld
    F.SC_INDEX j) ((List.range 8).map (fun w => scMerge 3 w (scWord 3 (s1.fld F.SC_INDEX j) w s1) (s1.fld F.SC_DATA (j * 8 + w)))) s1)))) ∧
  (∀ (s : State) (q : Requester) (j table : Nat) (s1 : State), works (.scWrite q j table) s = true → windowServes q j = true → table < 7 → s.fld
    F.SC_STATUS_BUSY j = 0 → s.setFld F.SC_STATUS_BUSY j 1 = s1 → scCount table ≤ s1.fld F.SC_INDEX j → exec (.scWrite q j table) s = .next (scPends j
    (endWith 1) s1)) ∧
  (∀ (s : State) (q : Requester) (j : Nat) (s1 : State) (g base : Nat), works (.scChange q j 1) s = true → windowServes q j = true → s.fld
    F.SC_STATUS_BUSY j = 0 → s.setFld F.SC_STATUS_BUSY j 1 = s1 → s1.fld F.SC_INDEX j = g → g < 4096 → (gateSt g s1).pending = none → gateListOk g s1
    = true → listStart (baseNs (scWord 1 g 3 s1) (scWord 1 g 4 s1) (scWord 1 g 5 s1)) (scFld 1 g 2 29 0 s1) s1.workNsUp = (base, false) → exec
    (.scChange q j 1) s = .next (scPends j (endWith 0) (setGateSt g
    { gateSt g s1 with pending := some { base := changeTime (gateSt g s1).oper base, cycle := scFld 1 g 2 29 0 s1, first := scFld 1 g 0 14 0 s1, len := scFld 1 g 1 10 0 s1 } }
    (scSetFld 1 g 7 31 31 1 s1)))) ∧
  (∀ (s : State) (j : Nat) (e : CmdEnd), works (.scCommandEnd j) s = true → tget none s.tb.scEnd j = some e → exec (.scCommandEnd j) s = .next
    ((({ s with tb := { s.tb with scEnd := tset none s.tb.scEnd j none } }.setFld F.SC_STATUS_BUSY j 0).setFld F.SC_STATUS_RESULT j e.result))) ∧
  (∀ (s : State) (g : Nat) (r : GateRun), works (.streamGateChangeApply g) s = true → (gateSt g s).pending = some r → exec (.streamGateChangeApply g)
    s = .next (setGateSt g { gateSt g s with oper := some r, pending := none, old := (gateSt g s).oper.map (fun o => (o, r.base)), hadList := true }
    (scSetFld 1 g 7 31 31 0 (scSet 1 g 6 (r.len * 65536 + r.first) s)))) ∧
  (∀ (s : State) (g x : Nat) (r : GateRun), works (.streamGateEntryBegin g x) s = true → (gateSt g s).oper = some r → x < r.len → exec
    (.streamGateEntryBegin g x) s = .next (setGateSt g { gateSt g s with openNow := scFld 2 (r.first + x) 0 31 31 s == 1 } s)) ∧
  (∀ (s : State) (g : Nat), works (.streamGateRegionRelease g) s = true → exec (.streamGateRegionRelease g) s = .next (setGateSt g
    { gateSt g s with old := none } s)) ∧
  (∀ (s : State), works .shaperWheelSlot s = true → s.dp.shapers = [] → exec .shaperWheelSlot s = .next
    ({ s with dp := { s.dp with shaperPos := s.cycle / 48 } })) ∧
  (∀ (s : State) (x : Nat) (e : ShaperSt) (k : Nat) (s0 : State), works .shaperWheelSlot s = true → s.dp.shapers = [(x, e)] → e.wait = some k →
    e.overflow = false → k ≤ s.cycle / 48 → { s with dp := { s.dp with shaperPos := s.cycle / 48 } } = s0 → shaperShort x (shaperNow x s0) s0 = false
    → exec .shaperWheelSlot s = .next (setShaper x { shaperNow x s0 with wait := none } s0)) ∧
  (∀ (s : State) (x : Nat), works (.ledEvaluation x) s = true → scFld 0 x 5 31 31 s = 1 → ¬ ((scFld 0 x 5 27 16 s : Int) < (tget ({} : RecSt)
    s.dp.recov x).ledPassed * ((scFld 0 x 5 30 28 s : Int) - 1) - (tget ({} : RecSt) s.dp.recov x).ledDiscarded) → exec (.ledEvaluation x) s = .next
    ({ s with dp := { s.dp with recov := tset {} s.dp.recov x { tget ({} : RecSt) s.dp.recov x with ledPassed := 0, ledDiscarded := 0 } } })) ∧
  (∀ (s : State) (x : Nat), works (.ledEvaluation x) s = true → scFld 0 x 5 31 31 s = 1 → (scFld 0 x 5 27 16 s : Int) < (tget ({} : RecSt) s.dp.recov
    x).ledPassed * ((scFld 0 x 5 30 28 s : Int) - 1) - (tget ({} : RecSt) s.dp.recov x).ledDiscarded → exec (.ledEvaluation x) s = .next ((fun s1 :
    State =>
    { s1 with dp := { s1.dp with recov := tset {} s1.dp.recov x { tget ({} : RecSt) s.dp.recov x with ledPassed := 0, ledDiscarded := 0 } } })
    (raiseSrc 136 (scBump 5 x 7 1 s)))) ∧
  (∀ (s : State), works .qDepthSample s = true → exec .qDepthSample s = .next ((List.range 4120).foldl (fun s q => if s.fld F.Q_CELLS q = 0 then s
    else
    { s with dp := { s.dp with depthSum := tset 0 s.dp.depthSum q (tget 0 s.dp.depthSum q + s.fld F.Q_CELLS q), depthMax := tset 0 s.dp.depthMax q (max (tget 0 s.dp.depthMax q) (s.fld F.Q_CELLS q)) } })
    s))

/-- Followers, rate changes, steps and the time pins act on the working clock and its registers. A beacon corrects a locked follower or unlocks it
above 2 ns; a rate inside its range and a step wait for their instants and take effect there; edges of PPS_IN and SYNC_IN are stamped in steps of 0.25
ns, and the pins and the servo follow their rules. (Rests on 09_time_base.md R239, R240, R241, R245, R246, R252, R253, R254, R255, R256, R257, R258;
notes/assumptions/107.md; notes/assumptions/109.md.) -/
def Obligations.ClockAndPinsComplete : Prop :=
  (∀ (s : State) (d : Nat) (e : Int), works (.timeBeacon d e) s = true → d < 4 → s.dieUp d = true → tget false s.dp.retraining d = false → (s.fld
    F.TIME_STATUS_FOLLOW_LOCK 0).testBit d = true → e.natAbs ≤ 2 * nsUnit → exec (.timeBeacon d e) s = .next (s.withTime
    { s.time with follow := tset 0 s.time.follow d 0, goodBeacons := tset 0 s.time.goodBeacons d 0 })) ∧
  (∀ (s : State) (d : Nat) (e : Int) (s1 : State), works (.timeBeacon d e) s = true → d < 4 → s.dieUp d = true → tget false s.dp.retraining d = false
    → (s.fld F.TIME_STATUS_FOLLOW_LOCK 0).testBit d = true → 2 * nsUnit < e.natAbs → raiseFault 73 d 0 (raiseSrc 109 ((s.setFld
    F.TIME_STATUS_FOLLOW_LOCK 0 (setBit (s.fld F.TIME_STATUS_FOLLOW_LOCK 0) d false)).bump F.FOLLOW_UNLOCKS 0)) = s1 → exec (.timeBeacon d e) s =
    .next (s1.withTime { s1.time with follow := tset 0 s1.time.follow d e, goodBeacons := tset 0 s1.time.goodBeacons d 0 })) ∧
  (∀ (s : State) (d : Nat) (e : Int) (n : Nat), works (.timeBeacon d e) s = true → d < 4 → s.dieUp d = true → tget false s.dp.retraining d = false →
    (s.fld F.TIME_STATUS_FOLLOW_LOCK 0).testBit d = false → tget 0 s.time.goodBeacons d = n → 0 < n → n < 8 → e.natAbs ≤ nsUnit → exec (.timeBeacon d
    e) s = .next (s.withTime { s.time with follow := tset 0 s.time.follow d 0, goodBeacons := tset 0 s.time.goodBeacons d (n + 1) })) ∧
  (∀ (s : State) (d : Nat) (e : Int) (s1 : State), works (.timeBeacon d e) s = true → d < 4 → s.dieUp d = true → tget false s.dp.retraining d = false
    → (s.fld F.TIME_STATUS_FOLLOW_LOCK 0).testBit d = false → tget 0 s.time.goodBeacons d = 8 → e.natAbs ≤ nsUnit → s.setFld F.TIME_STATUS_FOLLOW_LOCK
    0 (setBit (s.fld F.TIME_STATUS_FOLLOW_LOCK 0) d true) = s1 → exec (.timeBeacon d e) s = .next (s1.withTime
    { s1.time with follow := tset 0 s1.time.follow d 0, goodBeacons := tset 0 s1.time.goodBeacons d 0 })) ∧
  (∀ (s : State) (q : Requester) (v : Nat), works (.rateAdjWrite q v) s = true → (signed32 (v % 2 ^ 32)).natAbs ≤ 2147484 → exec (.rateAdjWrite q v) s
    = .next ((fun s1 : State => s1.withTime { s1.time with ratePend := some (signed32 (v % 2 ^ 32), applyInstant s) }) (s.setFlds [(F.RATE_ADJ, 0, v),
    (F.TIME_STATUS_RATE_PENDING, 0, 1)]))) ∧
  (∀ (s : State) (q : Requester) (v : Nat), works (.rateAdjWrite q v) s = true → 2147484 < (signed32 (v % 2 ^ 32)).natAbs → exec (.rateAdjWrite q v) s
    = .next (s)) ∧
  (∀ (s : State) (q : Requester), works (.timeStep q) s = true → s.fld F.TIME_STATUS_STEP_PENDING 0 = 0 → exec (.timeStep q) s = .next ((fun s1 :
    State => s1.withTime { s1.time with stepPend := some (false, signed64 (s.fld F.STEP_LO 0) (s.fld F.STEP_HI 0), applyInstant s) }) (s.setFld
    F.TIME_STATUS_STEP_PENDING 0 1))) ∧
  (∀ (s : State) (q : Requester), works (.timeSet q) s = true → s.fld F.TIME_STATUS_STEP_PENDING 0 = 0 → s.fld F.SET_NS 0 / 4 ≤ 999999999 → exec
    (.timeSet q) s = .next ((fun s1 : State => s1.withTime
    { s1.time with stepPend := some (true, Int.ofNat (((s.fld F.SET_SEC_LO 0 + s.fld F.SET_SEC_HI 0 * 2 ^ 32) * 1000000000 + s.fld F.SET_NS 0 / 4) * 4 + s.fld F.SET_NS 0 % 4), applyInstant s) })
    (s.setFld F.TIME_STATUS_STEP_PENDING 0 1))) ∧
  (∀ (s : State) (r : Int) (a : Nat), works .applyInstant s = true → s.time.ratePend = some (r, a) → s.time.stepPend = none → exec .applyInstant s =
    .next ((fun s2 : State => s2.withTime { s2.time with ratePend := none }) (applyRate r (s.setFld F.TIME_STATUS_RATE_PENDING 0 0)))) ∧
  (∀ (s : State) (v : Int) (a : Nat) (s2 s3 : State), works .applyInstant s = true → s.time.ratePend = none → s.time.stepPend = some (false, v, a) →
    s.setFld F.TIME_STATUS_STEP_PENDING 0 0 = s2 → applyStep v (s2.withTime { s2.time with stepPend := none }) = s3 → s3.time.stepPend = none → exec
    .applyInstant s = .next (commitAll s3)) ∧
  (∀ (s : State) (t : Nat) (s1 : State), works .ppsInEdge s = true → s.fld F.PPS_IN_CFG 0 = 1 → s.time.ppsLast = none → s.fld
    F.TIME_STATUS_PPS_IN_LOST 0 = 0 → s.work / 2 ^ 30 * 2 ^ 30 = t → s.setFlds [(F.PPS_IN_TS_NS, 0, timeNsWord t), (F.PPS_IN_TS_SEC_LO, 0, timeSecLo
    t), (F.PPS_IN_TS_SEC_HI, 0, timeSecHi t)] = s1 → exec .ppsInEdge s = .next (if s.fld F.TIME_CFG_WORK_SOURCE 0 = 2 then servoUpdate (s1.withTime
    { s1.time with ppsLast := some t }) else s1.withTime { s1.time with ppsLast := some t })) ∧
  (∀ (s : State) (t l : Nat), works .ppsInEdge s = true → s.fld F.PPS_IN_CFG 0 = 1 → s.time.ppsLast = some l → s.work / 2 ^ 30 * 2 ^ 30 = t → l ≤ t →
    t < l + 100 * nsUnit → exec .ppsInEdge s = .next (s)) ∧
  (∀ (s : State), works .ppsInLossTimeout s = true → s.fld F.TIME_CFG_WORK_SOURCE 0 = 2 → exec .ppsInLossTimeout s = .next (enterHoldover (setLevel 97
    true (s.setFld F.TIME_STATUS_PPS_IN_LOST 0 1)))) ∧
  (∀ (s : State), works .ppsInLossTimeout s = true → s.fld F.TIME_CFG_WORK_SOURCE 0 ≠ 2 → exec .ppsInLossTimeout s = .next (setLevel 97 true (s.setFld
    F.TIME_STATUS_PPS_IN_LOST 0 1))) ∧
  (∀ (s : State) (n : Nat) (rising : Bool) (t : Nat), works (.syncInEdge n rising) s = true → n < 4 → (s.fld F.SYNC_IN_CFG n).testBit (if rising then
    0 else 1) = true → tget none s.time.syncLast n = none → (tget [] s.time.syncFifo n).length < 16 → s.work / 2 ^ 30 * 2 ^ 30 = t → exec (.syncInEdge
    n rising) s = .next (raiseSrc (100 + n) (s.withTime
    { s.time with syncLast := tset none s.time.syncLast n (some t), syncFifo := tset [] s.time.syncFifo n (tget [] s.time.syncFifo n ++ [(t, rising)]) }))) ∧
  (∀ (s : State) (n : Nat) (rising : Bool) (t : Nat), works (.syncInEdge n rising) s = true → n < 4 → (s.fld F.SYNC_IN_CFG n).testBit (if rising then
    0 else 1) = true → tget none s.time.syncLast n = none → 16 ≤ (tget [] s.time.syncFifo n).length → s.work / 2 ^ 30 * 2 ^ 30 = t → exec (.syncInEdge
    n rising) s = .next (raiseSrc (104 + n) ((s.withTime { s.time with syncLast := tset none s.time.syncLast n (some t) }).bump F.SYNC_IN_OVERFLOW
    n))) ∧
  (∀ (s : State) (n : Nat) (rising : Bool) (t l : Nat), works (.syncInEdge n rising) s = true → n < 4 → (s.fld F.SYNC_IN_CFG n).testBit (if rising
    then 0 else 1) = true → tget none s.time.syncLast n = some l → s.work / 2 ^ 30 * 2 ^ 30 = t → l ≤ t → t < l + 100 * nsUnit → exec (.syncInEdge n
    rising) s = .next (s.bump F.SYNC_IN_MERGED n)) ∧
  (∀ (s : State) (q : Requester) (n : Nat), works (.syncInTsRead q n) s = true → n < 4 → privileged q 3 s = true → exec (.syncInTsRead q n) s = .next
    ((fun s1 : State => s1.withTime { s1.time with syncFifo := tset [] s1.time.syncFifo n ((tget [] s1.time.syncFifo n).drop 1) }) (setOut q
    ((syncHead n s).getD 0 0) (setLatch q (cellKey .SYNC_IN_TS_NS 0 n) ((syncHead n s).drop 1) s)))) ∧
  (∀ (s : State) (q : Requester) (n : Nat), works (.syncInTsRead q n) s = true → n < 4 → privileged q 3 s = false → exec (.syncInTsRead q n) s = .next
    (setOut q ((syncHead n s).getD 0 0) (setLatch q (cellKey .SYNC_IN_TS_NS 0 n) ((syncHead n s).drop 1) s))) ∧
  (∀ (s : State) (q : Requester) (d : Nat), works (.ptpTxInfoRead q d) s = true → d < 4 → privileged q (13 + d) s = true → exec (.ptpTxInfoRead q d) s
    = .next ((fun s2 : State => s2.withTime { s2.time with txFifo := tset [] s2.time.txFifo d ((tget [] s2.time.txFifo d).drop 1) }) (setLatch q
    (cellKey .PTP_TX_INFO 0 d) ((ptpHead d s).drop 1) (setOut q ((ptpHead d s).getD 0 0) s)))) ∧
  (∀ (s : State) (q : Requester) (d : Nat), works (.ptpTxInfoRead q d) s = true → d < 4 → privileged q (13 + d) s = false → exec (.ptpTxInfoRead q d)
    s = .next (setOut q ((ptpHead d s).getD 0 0) s)) ∧
  (∀ (s : State) (rising : Bool), works (.ppsOutEdge rising) s = true → s.fld F.PPS_OUT_CFG_EN 0 = 1 → exec (.ppsOutEdge rising) s = .next (s.withTime
    { s.time with ppsOut := rising })) ∧
  (∀ (s : State) (n : Nat) (rising : Bool), works (.syncOutEdge n rising) s = true → n < 4 → s.fld F.SYNC_OUT_CFG_MODE n = 2 → exec (.syncOutEdge n
    rising) s = .next (setSyncOut n (s.fld F.SYNC_OUT_CFG_LEVEL n == 1) s)) ∧
  (∀ (s : State) (n : Nat), works (.syncOutEdge n false) s = true → n < 4 → s.fld F.SYNC_OUT_CFG_MODE n = 3 → exec (.syncOutEdge n false) s = .next
    (setSyncOut n false s)) ∧
  (∀ (s : State) (n : Nat) (s1 : State), works (.syncOutEdge n true) s = true → n < 4 → s.fld F.SYNC_OUT_CFG_MODE n = 3 → setSyncOut n true s = s1 →
    exec (.syncOutEdge n true) s = .next (s1.withTime { s1.time with syncSched := tset {} s1.time.syncSched n (syncWritten n s1) })) ∧
  (∀ (s : State), works .syncReceiptTimeout s = true → s.fld F.TIME_CFG_WORK_SOURCE 0 = 1 → exec .syncReceiptTimeout s = .next (enterHoldover s)) ∧
  (∀ (s : State), works .holdoverLimitExpiry s = true → s.fld F.TIME_STATUS_STATE 0 = 3 → exec .holdoverLimitExpiry s = .next (setServo 0 s)) ∧
  (∀ (s : State) (which : Nat), works (.pllLockLoss which) s = true → exec (.pllLockLoss which) s = .next (raiseFault 5 4 which s)) ∧
  (∀ (s : State) (delays : List (Nat × Nat)), works (.epochBoundary delays) s = true → exec (.epochBoundary delays) s = .next (epochWork delays
    (nextCycle (advance (1000000 - s.cycle % 1000000) s))))

/-- The Planner ends a synthesis, carries a commit through, approves or rejects a plan, freezes and survives its timers, and the telemetry block is
exported. A synthesis in RUN offers its plan or rests; a commit whose lists all run becomes the plan in force and one that lost a list asks again; the
plan that APPROVE_ID names is committed or discarded, with its journal record; any other approval counts as stale. (Rests on 10_planner.md R270, R276,
R280, R281, R283, R284, R286, R287, R288, R290; 11_telemetry.md R298; notes/assumptions/86.md; notes/assumptions/118.md; notes/assumptions/120.md.) -/
def Obligations.PlannerRowsComplete : Prop :=
  (∀ (s : State), works .synthesisDone s = true → s.pln.running ≠ 0 → committing s = false → s.pln.waiting = none → s.fld F.LDR_STATUS_STATE 0 ≠ 7 →
    enables 0 s = true → exec .synthesisDone s = .next (offerPlan
    { synthesize (s.pln.running.testBit 0) s with trigger := ((List.range 9).find? (fun b => s.pln.running.testBit b)).getD 0xFF, triggers := s.pln.running }
    (decide (s.fld F.PLN_CTRL_APPROVE_REQ 0 = 1)) (restState (s.withPln { s.pln with running := 0 })))) ∧
  (∀ (s : State), works .synthesisDone s = true → s.pln.running ≠ 0 → committing s = false → s.pln.waiting = none → s.fld F.LDR_STATUS_STATE 0 ≠ 7 →
    enables 0 s = false → exec .synthesisDone s = .next (restState (s.withPln { s.pln with running := 0 }))) ∧
  (∀ (s : State) (c : Commit), works .commitApply s = true → s.pln.commit = some c → planState s = 3 → c.ports.any (fun p => (tget none
    s.dp.gclPending p).isSome) = false → (c.ports.filter (fun p => !listInOper c.plan p s)).isEmpty = false → exec .commitApply s = .next ((fun s1 :
    State => s1.withPln { s1.pln with commit := some { c with isPartial := true } }) ((c.ports.filter (fun p => !listInOper c.plan p s)).foldl (fun s
    p => gclCtrl p false true (writeAdmin p (planList c.plan p) c.tc s)) s))) ∧
  (∀ (s : State) (c : Commit) (s1 : State), works .commitApply s = true → s.pln.commit = some c → planState s = 3 → c.ports.any (fun p => (tget none
    s.dp.gclPending p).isSome) = false → c.ports.filter (fun p => !listInOper c.plan p s) = [] → s.pln.inForce.isSome = true → c.plan.streams.foldl
    (fun s' x => if x.reason = 0 ∧ s.pln.inForce.elim false (fun o => (placedOf o).any (fun y => y.handle == x.handle)) = false then setBlocked
    x.handle false (setEgress x.handle x.egress s') else setEgress x.handle x.egress s') s = s1 → exec .commitApply s = .next (planInForce
    { c with foreign := c.ports.any (fun p => s.pln.foreign.contains p) } (qMinAll c.plan isFall s1))) ∧
  (∀ (s : State) (p : Nat), works (.quarantineExpiry p) s = true → p < 512 → s.fld F.PORT_STATUS_QUARANTINED p = 1 → thawed s = true → exec
    (.quarantineExpiry p) s = .next (holdOff p (journal 7 p [s.fld F.LINK_FLAPS p] (s.setFld F.PORT_STATUS_QUARANTINED p 0)))) ∧
  (∀ (s : State) (p : Nat), works (.quarantineExpiry p) s = true → p < 512 → s.fld F.PORT_STATUS_QUARANTINED p = 1 → thawed s = false → exec
    (.quarantineExpiry p) s = .next (s.withPln { s.pln with quarEnd := s.pln.quarEnd ++ [p] })) ∧
  (∀ (s : State) (p : Nat), works (.returnHoldExpiry p) s = true → isAway p s = true → planUp false p s = true → s.pln.returnOk.contains p = false →
    exec (.returnHoldExpiry p) s = .next (trigger 3 (s.withPln { s.pln with returnOk := s.pln.returnOk ++ [p] }))) ∧
  (∀ (s : State), works .alphaAdjust s = true → enables 4 s = true → thawed s = true → committing s = false → exec .alphaAdjust s = .next
    (beginBufPeriod ((planPorts s).foldl (fun s p => (List.range 8).foldl (fun s n => alphaQueue p n s) s) s))) ∧
  (∀ (s : State), works .alphaAdjust s = true → enables 4 s = true → thawed s = false ∨ committing s = true → exec .alphaAdjust s = .next (trigger 8
    s)) ∧
  (∀ (s : State), works .surveyRecord s = true → exec .surveyRecord s = .next (journal 23 0 [((greatestDieTemp s).emod (2 ^ 32)).toNat,
    ((greatestDramTemp s).emod (2 ^ 32)).toNat, s.pln.steps] s)) ∧
  (∀ (s : State) (q : Requester) (pl : Plan), works (.planApprove q) s = true → waitingPlan s = some pl → pl.quar = [] → s.fld F.LDR_STATUS_STATE 0 ≠
    7 → exec (.planApprove q) s = .next (tryCommit pl true (restState ((journalRec 18 pl.trigger 0 pl.id 0 0 [] s).withPln
    { s.pln with waiting := none })))) ∧
  (∀ (s : State) (q : Requester) (pl : Plan) (p : Nat), works (.planApprove q) s = true → waitingPlan s = some pl → pl.quar = [p] → exec (.planApprove
    q) s = .next (quarantine p (restState ((journalRec 18 pl.trigger 0 pl.id 0 0 [] s).withPln { s.pln with waiting := none })))) ∧
  (∀ (s : State) (q : Requester), works (.planApprove q) s = true → waitingPlan s = none → exec (.planApprove q) s = .next (s.bump F.APPROVE_STALE 0)) ∧
  (∀ (s : State) (q : Requester) (pl : Plan), works (.planReject q) s = true → waitingPlan s = some pl → s.pln.waiting = some pl → exec (.planReject
    q) s = .next (restState ((journalRec 19 pl.trigger 0 pl.id 0 0 [] s).withPln { s.pln with waiting := none }))) ∧
  (∀ (s : State) (q : Requester), works (.planReject q) s = true → waitingPlan s = none → exec (.planReject q) s = .next (s.bump F.APPROVE_STALE 0)) ∧
  (∀ (s : State) (pl : Plan), works .approveTimeout s = true → planState s = 2 → s.pln.waiting = some pl → exec .approveTimeout s = .next (restState
    ((journalRec 19 pl.trigger 0 pl.id 0 0 [] s).withPln { s.pln with waiting := none }))) ∧
  (∀ (s : State) (q : Requester) (w : Nat), works (.freeze q w) s = true → bitsOf w 31 1 = 0 → s.fld F.PLN_CTRL_FREEZE 0 = 0 → exec (.freeze q w) s =
    .next (freeze (s.setFlds [(F.PLN_CTRL_APPROVE_DETOUR, 0, bitsOf w 3 1), (F.PLN_CTRL_APPROVE_REQ, 0, bitsOf w 2 1), (F.PLN_CTRL_FREEZE, 0, 1)]))) ∧
  (∀ (s : State) (q : Requester) (w : Nat), works (.unfreeze q w) s = true → bitsOf w 31 1 = 0 → s.fld F.PLN_CTRL_FREEZE 0 = 1 → exec (.unfreeze q w)
    s = .next (unfreeze (s.setFlds [(F.PLN_CTRL_APPROVE_DETOUR, 0, bitsOf w 3 1), (F.PLN_CTRL_APPROVE_REQ, 0, bitsOf w 2 1), (F.PLN_CTRL_FREEZE, 0,
    0)]))) ∧
  (∀ (s : State) (q : Requester) (w : Nat), works (.replan q w) s = true → bitsOf w 1 1 = s.fld F.PLN_CTRL_FREEZE 0 → exec (.replan q w) s = .next
    (trigger 6 (s.setFlds [(F.PLN_CTRL_APPROVE_DETOUR, 0, bitsOf w 3 1), (F.PLN_CTRL_APPROVE_REQ, 0, bitsOf w 2 1), (F.PLN_CTRL_FREEZE, 0, bitsOf w 1
    1)]))) ∧
  (∀ (s : State) (q : Requester) (h : Nat), works (.ssIndexWrite q h) s = true → exec (.ssIndexWrite q h) s = .next (s.withPln
    { s.pln with ssIndex := tset 0 s.pln.ssIndex q.code (h % 65536) })) ∧
  (∀ (s : State), works .trapTokenRefill s = true → exec .trapTokenRefill s = .next (s.withPln { s.pln with trapSpent := s.pln.trapSpent - 1 })) ∧
  (∀ (s : State) (d0 d1 block : List Byte) (s1 : State), works (.exportBlockComplete d0 d1) s = true → s.tel.building = some block → (dramRequests 3
    true (historyBase + 0x60000 * (s.fld F.EXPORT_SEQ 0 % 4096)) block.length (hbmWrite (historyBase + 0x60000 * (s.fld F.EXPORT_SEQ 0 % 4096)) block
    s)).addWrap F.EXPORT_SEQ 0 1 = s1 → exec (.exportBlockComplete d0 d1) s = .next (offerBlock 1 d1 block (s.fld F.EXPORT_SEQ 0) (offerBlock 0 d0
    block (s.fld F.EXPORT_SEQ 0) { s1 with tel := { s1.tel with building := none }, hif := { s1.hif with hostWrites := [] } })))

/-- The supervisor and the debugger start, stop, halt, step, resume and abort threads, set up channels, and port 513 moves its indices. A START from
OFF or FAULT starts the thread at its ENTRY, from FAULT after releasing what a STOP releases. A debugger's command acts only for the unlocked JTAG. A
record of port 513 that breaks a field rule takes status 3. (Rests on 12_management_engine.md R317, R320, R322, R323, R324, R325, R326, R328, R329;
notes/assumptions/115.md.) -/
def Obligations.ThreadRowsComplete : Prop :=
  (∀ (s : State) (q : Requester), works (.supNoteRead q) s = true → privileged q 6 s = true → exec (.supNoteRead q) s = .next ((setOut q
    (s.me.notes.headD 0) s).withMe { (setOut q (s.me.notes.headD 0) s).me with notes := s.me.notes.drop 1 })) ∧
  (∀ (s : State) (q : Requester), works (.supNoteRead q) s = true → privileged q 6 s = false → exec (.supNoteRead q) s = .next (setOut q
    (s.me.notes.headD 0) s)) ∧
  (∀ (s : State) (q : Requester) (t : Nat), works (.threadStart q t) s = true → t ≠ 0 → t < 32 → threadState t s = 0 → exec (.threadStart q t) s =
    .next (startThread t s)) ∧
  (∀ (s : State) (q : Requester) (t : Nat), works (.threadStart q t) s = true → t ≠ 0 → t < 32 → threadState t s = 4 → exec (.threadStart q t) s =
    .next (startThread t (releaseThread t s))) ∧
  (∀ (s : State) (q : Requester) (t : Nat), works (.threadStop q t) s = true → t ≠ 0 → t < 32 → threadState t s ≠ 0 → exec (.threadStop q t) s = .next
    (setThreadState t 0 (releaseThread t s))) ∧
  (∀ (s : State) (q : Requester) (ch wtr rdr : Nat), works (.chanCfgWrite q ch wtr rdr) s = true → ch < 256 → s.fld F.CHAN_CFG0_ENABLE ch = 1 → exec
    (.chanCfgWrite q ch wtr rdr) s = .next (s.setFlds [(F.CHAN_CFG0_WRITER, ch, wtr), (F.CHAN_CFG0_READER, ch, rdr)])) ∧
  (∀ (s s1 : State), works .deadlockDetect s = true → s.me.quietActed = false → allQuiet s = true → raiseFault 18 4 0 ((raiseSrc 33 (pushNote 3 0 0 0
    s)).bump F.DEADLOCKS 0) = s1 → exec .deadlockDetect s = .next (s1.withMe { s1.me with quietActed := true })) ∧
  (∀ (s : State) (q : Requester) (t : Nat), works (.dbgHalt q t) s = true → t < 32 → debugger q s = true → (threadState t s = 2 ∨ (threadState t s = 1
    ∧ tget 0 s.me.held t = 0)) → exec (.dbgHalt q t) s = .next (haltThread t s)) ∧
  (∀ (s : State) (q : Requester) (t : Nat), works (.dbgHalt q t) s = true → t < 32 → debugger q s = true → threadState t s = 1 → tget 0 s.me.held t ≠
    0 → exec (.dbgHalt q t) s = .next (s.withMe { s.me with haltReq := tset false s.me.haltReq t true })) ∧
  (∀ (s : State) (q : Requester) (t : Nat) (i : Issue) (op : MeOp) (s1 : State), works (.dbgStep q t i op) s = true → t < 32 → debugger q s = true →
    threadState t s = 3 → coreRuns t s = true → namesNext t op s = true → setThreadState t 1 s = s1 → exec (.dbgStep q t i op) s = .next (executeOne t
    i op (s1.withMe { s1.me with haltReq := tset false s1.me.haltReq t true }))) ∧
  (∀ (s : State) (q : Requester) (t : Nat), works (.dbgResume q t) s = true → t < 32 → debugger q s = true → threadState t s = 3 → exec (.dbgResume q
    t) s = .next (setThreadState t (tget 0 s.me.haltFrom t) (s.withMe { s.me with bpPass := tset false s.me.bpPass t true }))) ∧
  (∀ (s : State) (q : Requester) (t : Nat), works (.dbgAbort q t) s = true → t < 32 → t ≠ 0 → debugger q s = true → (threadState t s = 3 ∨ threadState
    t s = 4) → exec (.dbgAbort q t) s = .next ((setThreadState t 0 (releaseThread t s)).setFld F.DBG_RESULT 0 0)) ∧
  (∀ (s : State) (q : Requester) (t : Nat), works (.dbgAbort q t) s = true → t < 32 → debugger q s = true → (t = 0 ∨ (threadState t s ≠ 3 ∧
    threadState t s ≠ 4)) → exec (.dbgAbort q t) s = .next (s.setFld F.DBG_RESULT 0 1)) ∧
  (∀ (s : State) (q : Requester) (v : Nat), works (.rx513TailWrite q v) s = true → ownsRing q (s.fld F.PORT513_CFG_RX_OWNER 0) = true → exec
    (.rx513TailWrite q v) s = .next (s.setFld F.RX513_TAIL 0 v)) ∧
  (∀ (s : State) (q : Requester) (v : Nat), works (.tx513HeadWrite q v) s = true → ownsRing q (s.fld F.PORT513_CFG_TX_OWNER 0) = true → exec
    (.tx513HeadWrite q v) s = .next (s.setFld F.TX513_HEAD 0 v)) ∧
  (∀ (s : State) (f n : Nat), works (.tx513RecordTake f) s = true → s.runs = true → s.fld F.TX513_TAIL 0 = n → n ≠ s.fld F.TX513_HEAD 0 → frameAt f s
    = none → tx513Bad (hbmRead s (0x20000 + 32 * n) 32) s = true → exec (.tx513RecordTake f) s = .next (raiseEvent (s.fld F.PORT513_CFG_TX_OWNER 0) 5
    ((hbmWrite (0x20000 + 32 * n + 28) [BitVec.ofNat 8 3] s).setFld F.TX513_TAIL 0 (n + 1)))) ∧
  (∀ (s : State) (f n : Nat) (d : List Byte) (w : Nat) (x : State × Frame) (m : State × List Copy) (u : State) (refused : Bool), works
    (.tx513RecordTake f) s = true → s.runs = true → s.fld F.TX513_TAIL 0 = n → n ≠ s.fld F.TX513_HEAD 0 → frameAt f s = none → hbmRead s (0x20000 + 32
    * n) 32 = d → tx513Bad d s = false → leNat (slice d 6 2) = w → injectFrame f 513 (hbmRead s (leNat (slice d 0 4)) (leNat (slice d 4 2)))
    { queue := bitsOf w 10 3 } (some 0) s = x → numberCopies
    [{ baseCopy f x.2 with port := bitsOf w 0 10, q := queueOf (bitsOf w 0 10) (bitsOf w 10 3), edit := 0, learn := false, ts := if bitsOf w 13 2 = 0 then none else some (bitsOf w 13 2, leNat (slice d 8 1) % 4, leNat (slice d 10 2), timeOfBytes (slice d 12 12)) }]
    x.1 = m → admitAll false false (m.2.map (fun c => finishCopy x.2 x.2.tIn c m.1)) m.1 = (u, refused) → exec (.tx513RecordTake f) s = .next ((fun
    (status : Nat) (s2 : State) => raiseEvent (s2.fld F.PORT513_CFG_TX_OWNER 0) 5 ((hbmWrite (0x20000 + 32 * n + 28) [BitVec.ofNat 8 status]
    s2).setFld F.TX513_TAIL 0 (n + 1))) (if refused then 2 else 1) (settle f (if refused then u.bump F.TX513_REFUSED 0 else u)))) ∧
  (∀ (s : State) (c : Nat), works (.meResetEnd (some c)) s = true → inUnitReset 0 s = true → exec (.meResetEnd (some c)) s = .next (raiseFault 22 4 c
    s)) ∧
  (∀ (s : State), works (.meResetEnd (none)) s = true → inUnitReset 0 s = true → exec (.meResetEnd (none)) s = .next (unitEnd 0 (trapsLeft
    (startThread 0 s))))

/-- Reloads and scrubs of the microcode stores, their read window, the performance counters and the sample buffers take effect. A command that the
core's mode or its busy command refuses leaves result 1. (Rests on 13_me_instruction_set.md R355, R358, R360, R362, R363, R365;
notes/assumptions/112.md.) -/
def Obligations.MicrocodeRowsComplete : Prop :=
  (∀ (s : State) (q : Requester) (c : Nat), works (.ucReload q c) s = true → c < 4 → s.fld F.UC_STATUS_MODE c = 1 → s.fld F.UC_STATUS_BUSY c = 0 →
    exec (.ucReload q c) s = .next ((s.setFld F.UC_STATUS_BUSY c 1).withMe { s.me with ucCmd := tset 0 s.me.ucCmd c 1 })) ∧
  (∀ (s : State) (q : Requester) (c : Nat), works (.ucReload q c) s = true → c < 4 → (s.fld F.UC_STATUS_MODE c ≠ 1 ∨ s.fld F.UC_STATUS_BUSY c ≠ 0) →
    exec (.ucReload q c) s = .next (s.setFld F.UC_RESULT c 1)) ∧
  (∀ (s : State) (c : Nat) (s1 : State), works (.ucReloadDone c true) s = true → c < 4 → tget 0 s.me.ucCmd c = 1 → copyStore c 2 (copyStore c 1
    (copyStore c 0 s)) = s1 → exec (.ucReloadDone c true) s = .next (ucEnd c 0 (s1.setFlds [(F.UC_STATUS_GEN, c, s.fld F.UC_STATUS_GEN c + 1),
    (F.UC_STATUS_MODE, c, 0)]))) ∧
  (∀ (s : State) (c : Nat), works (.ucReloadDone c false) s = true → c < 4 → tget 0 s.me.ucCmd c = 1 → exec (.ucReloadDone c false) s = .next
    (raiseFault 20 4 c (ucEnd c 2 (copyStore c 2 (copyStore c 1 (copyStore c 0 s)))))) ∧
  (∀ (s : State) (q : Requester) (c : Nat), works (.ucScrub q c) s = true → c < 4 → s.fld F.UC_STATUS_MODE c = 0 → s.fld F.UC_STATUS_BUSY c = 0 → exec
    (.ucScrub q c) s = .next ((s.setFld F.UC_STATUS_BUSY c 1).withMe
    { s.me with ucCmd := tset 0 s.me.ucCmd c 2, scrubAt := tset 0 s.me.scrubAt c 0 })) ∧
  (∀ (s : State) (q : Requester) (c : Nat), works (.ucScrub q c) s = true → c < 4 → (s.fld F.UC_STATUS_MODE c ≠ 0 ∨ s.fld F.UC_STATUS_BUSY c ≠ 0) →
    exec (.ucScrub q c) s = .next (s.setFld F.UC_RESULT c 1)) ∧
  (∀ (s : State) (c : Nat) (back : Bool) (n : Nat), works (.ucScrubWord c false back) s = true → c < 4 → tget 0 s.me.ucCmd c = 2 → tget 0 s.me.scrubAt
    c = n → n < 19712 → ucWord c (scrubWord n).1 (scrubWord n).2 s = copyWord (scrubWord n).1 (scrubWord n).2 s → exec (.ucScrubWord c false back) s =
    .next (s.withMe { s.me with scrubAt := tset 0 s.me.scrubAt c (n + 1) })) ∧
  (∀ (s : State) (c n : Nat), works (.ucScrubWord c true true) s = true → c < 4 → tget 0 s.me.ucCmd c = 2 → tget 0 s.me.scrubAt c = n → n < 19712 →
    exec (.ucScrubWord c true true) s = .next (raiseFault 23 4 c ((setUcWord c (scrubWord n).1 (scrubWord n).2 (copyWord (scrubWord n).1 (scrubWord
    n).2 s) (s.withMe { s.me with scrubAt := tset 0 s.me.scrubAt c (n + 1) })).bump F.UC_SCRUB_FIX c))) ∧
  (∀ (s : State) (c : Nat), works (.ucScrubDone c) s = true → c < 4 → tget 0 s.me.ucCmd c = 2 → 19712 ≤ tget 0 s.me.scrubAt c → exec (.ucScrubDone c)
    s = .next (ucEnd c 0 s)) ∧
  (∀ (s : State) (q : Requester) (c store a v : Nat), works (.ucRdAddrWrite q c store a) s = true → c < 4 → ucWord c (store % 4) (a % 16384) s = v →
    exec (.ucRdAddrWrite q c store a) s = .next ((List.range 7).foldl (fun s w => s.setFld F.UC_RD_DATA (c * 7 + w) (v / 2 ^ (32 * w))) (s.setFlds
    [(F.UC_RD_ADDR_STORE, c, store), (F.UC_RD_ADDR_ADDR, c, a)]))) ∧
  (∀ (s : State) (q : Requester) (c n : Nat) (hi : Bool) (v : Nat), works (.pmcWrite q c n hi v) s = true → c < 4 → n < 8 → exec (.pmcWrite q c n hi
    v) s = .next (s.setFld (if hi then F.PMC_HI else F.PMC_LO) (c * 8 + n) v)) ∧
  (∀ (s : State) (c n : Nat), works (.pmcOverflow c n) s = true → c < 4 → n < 8 → s.fld F.PMC_CTRL c ≠ 0 → s.fld F.PMC_CFG_EN (c * 8 + n) ≠ 0 → s.fld
    F.PMC_LO (c * 8 + n) + s.fld F.PMC_HI (c * 8 + n) * 2 ^ 32 = 2 ^ 48 - 1 → s.fld F.PMC_CFG_EVENT (c * 8 + n) ≠ 0 → s.fld F.PMC_CFG_EVENT (c * 8 +
    n) ≤ 30 → exec (.pmcOverflow c n) s = .next (pmcAdd c n 1 s)) ∧
  (∀ (s : State) (c : Nat) (r : List Nat) (more : List (List Nat)), works (.sampleRecord c) s = true → tget [] s.me.smpDue c = r :: more → c < 4 →
    4096 ≤ smpHeld c s → exec (.sampleRecord c) s = .next ((s.withMe { s.me with smpDue := tset [] s.me.smpDue c more }).bump F.SMP_LOST c)) ∧
  (∀ (s : State) (c : Nat) (r : List Nat) (more : List (List Nat)) (s1 : State), works (.sampleRecord c) s = true → tget [] s.me.smpDue c = r :: more
    → c < 4 → smpHeld c s < 4096 → s.withMe { s.me with smpDue := tset [] s.me.smpDue c more } = s1 → smpHeld c s + 1 ≠ s.fld F.SMP_THRESH c → exec
    (.sampleRecord c) s = .next ((s1.withMe { s1.me with smpBuf := tset [] s1.me.smpBuf (c * 4096 + s.fld F.SMP_HEAD c % 4096) r }).setFld F.SMP_HEAD
    c (s.fld F.SMP_HEAD c + 1))) ∧
  (∀ (s : State) (q : Requester) (c w : Nat), works (.smpCfgWrite q c w) s = true → c < 4 → exec (.smpCfgWrite q c w) s = .next (smpCfgPut c w s)) ∧
  (∀ (s : State) (q : Requester) (c v : Nat), works (.smpTailWrite q c v) s = true → c < 4 → (v % 8192 + 8192 - s.fld F.SMP_TAIL c) % 8192 ≤ smpHeld c
    s → exec (.smpTailWrite q c v) s = .next (s.setFld F.SMP_TAIL c v)) ∧
  (∀ (s : State) (q : Requester) (c v : Nat), works (.smpTailWrite q c v) s = true → c < 4 → smpHeld c s < (v % 8192 + 8192 - s.fld F.SMP_TAIL c) %
    8192 → exec (.smpTailWrite q c v) s = .next (s))

/-- Every arithmetic instruction of the management engine writes its result to rd and goes on. An instruction issues where its thread runs, no
breakpoint holds it, the PC is aligned and fetchable, the word there is that instruction and its routine words are sound. Its operands are read once
its words have issued. Writing g0 discards the value. (Rests on 13_me_instruction_set.md R334, R335, R336, R337, R361; notes/assumptions/114.md.) -/
def Obligations.ArithmeticInsnsComplete : Prop :=
  (∀ (s : State) (t : Nat) (i : Issue) (rd ra rb func : Nat) (s1 : State), works (.alu t i rd ra rb func) s = true → issues t i (.alu rd ra rb func) s
    = true → issued t i s = s1 → exec (.alu t i rd ra rb func) s = .next (retires t i (.alu rd ra rb func) s (goesOn t (setGpr t rd (aluFn func (gpr t
    ra s1) (gpr t rb s1)) s1)))) ∧
  (∀ (s : State) (t : Nat) (i : Issue) (rd ra imm : Nat) (s1 : State), works (.aluImmediate t i 0 rd ra imm) s = true → issues t i (.aluImm 0 rd ra
    imm) s = true → issued t i s = s1 → exec (.aluImmediate t i 0 rd ra imm) s = .next (retires t i (.aluImm 0 rd ra imm) s (goesOn t (setGpr t rd
    (aluFn 0 (gpr t ra s1) (sext 16 imm)) s1)))) ∧
  (∀ (s : State) (t : Nat) (i : Issue) (rd ra imm : Nat) (s1 : State), works (.aluImmediate t i 1 rd ra imm) s = true → issues t i (.aluImm 1 rd ra
    imm) s = true → issued t i s = s1 → exec (.aluImmediate t i 1 rd ra imm) s = .next (retires t i (.aluImm 1 rd ra imm) s (goesOn t (setGpr t rd
    (aluFn 2 (gpr t ra s1) (imm % 65536)) s1)))) ∧
  (∀ (s : State) (t : Nat) (i : Issue) (rd ra imm : Nat) (s1 : State), works (.aluImmediate t i 2 rd ra imm) s = true → issues t i (.aluImm 2 rd ra
    imm) s = true → issued t i s = s1 → exec (.aluImmediate t i 2 rd ra imm) s = .next (retires t i (.aluImm 2 rd ra imm) s (goesOn t (setGpr t rd
    (aluFn 3 (gpr t ra s1) (imm % 65536)) s1)))) ∧
  (∀ (s : State) (t : Nat) (i : Issue) (rd ra imm : Nat) (s1 : State), works (.aluImmediate t i 3 rd ra imm) s = true → issues t i (.aluImm 3 rd ra
    imm) s = true → issued t i s = s1 → exec (.aluImmediate t i 3 rd ra imm) s = .next (retires t i (.aluImm 3 rd ra imm) s (goesOn t (setGpr t rd
    (aluFn 4 (gpr t ra s1) (imm % 65536)) s1)))) ∧
  (∀ (s : State) (t : Nat) (i : Issue) (rd ra imm : Nat) (s1 : State), works (.shiftImmediate t i 0 rd ra imm) s = true → issues t i (.shiftImm 0 rd
    ra imm) s = true → issued t i s = s1 → exec (.shiftImmediate t i 0 rd ra imm) s = .next (retires t i (.shiftImm 0 rd ra imm) s (goesOn t (setGpr t
    rd (aluFn 5 (gpr t ra s1) (imm % 64)) s1)))) ∧
  (∀ (s : State) (t : Nat) (i : Issue) (rd ra imm : Nat) (s1 : State), works (.shiftImmediate t i 1 rd ra imm) s = true → issues t i (.shiftImm 1 rd
    ra imm) s = true → issued t i s = s1 → exec (.shiftImmediate t i 1 rd ra imm) s = .next (retires t i (.shiftImm 1 rd ra imm) s (goesOn t (setGpr t
    rd (aluFn 6 (gpr t ra s1) (imm % 64)) s1)))) ∧
  (∀ (s : State) (t : Nat) (i : Issue) (rd ra imm : Nat) (s1 : State), works (.shiftImmediate t i 2 rd ra imm) s = true → issues t i (.shiftImm 2 rd
    ra imm) s = true → issued t i s = s1 → exec (.shiftImmediate t i 2 rd ra imm) s = .next (retires t i (.shiftImm 2 rd ra imm) s (goesOn t (setGpr t
    rd (aluFn 7 (gpr t ra s1) (imm % 64)) s1)))) ∧
  (∀ (s : State) (t : Nat) (i : Issue) (rd ra imm : Nat) (s1 : State), works (.lui t i rd ra imm) s = true → issues t i (.lui rd ra imm) s = true →
    issued t i s = s1 → exec (.lui t i rd ra imm) s = .next (retires t i (.lui rd ra imm) s (goesOn t (setGpr t rd (sext 16 imm * 2 ^ 16) s1)))) ∧
  (∀ (s : State) (t : Nat) (i : Issue) (rd ra imm : Nat) (s1 : State), works (.orsh t i rd ra imm) s = true → issues t i (.orsh rd ra imm) s = true →
    issued t i s = s1 → exec (.orsh t i rd ra imm) s = .next (retires t i (.orsh rd ra imm) s (goesOn t (setGpr t rd (gpr t ra s1 * 2 ^ 16 % 2 ^ 64
    ||| imm % 65536) s1)))) ∧
  (∀ (s : State) (t : Nat) (i : Issue) (rd ra imm : Nat) (s1 : State), works (.slti t i 0 rd ra imm) s = true → issues t i (.slti 0 rd ra imm) s =
    true → issued t i s = s1 → exec (.slti t i 0 rd ra imm) s = .next (retires t i (.slti 0 rd ra imm) s (goesOn t (setGpr t rd (aluFn 12 (gpr t ra
    s1) (sext 16 imm)) s1)))) ∧
  (∀ (s : State) (t : Nat) (i : Issue) (rd ra imm : Nat) (s1 : State), works (.slti t i 1 rd ra imm) s = true → issues t i (.slti 1 rd ra imm) s =
    true → issued t i s = s1 → exec (.slti t i 1 rd ra imm) s = .next (retires t i (.slti 1 rd ra imm) s (goesOn t (setGpr t rd (aluFn 13 (gpr t ra
    s1) (sext 16 imm)) s1))))

/-- Loads, stores and atomic operations that are aligned and inside the thread's view read and write the bytes named. A load takes its bytes
little-endian, sign-extended for LWS; a store writes the low bytes of its register; an atomic operation returns the old value and writes the new one,
CAS only where the old value equals rd. (Rests on 13_me_instruction_set.md R338, R340, R361; 12_management_engine.md R311.) -/
def Obligations.MemoryInsnsComplete : Prop :=
  (∀ (s : State) (t : Nat) (i : Issue) (k rd ra imm : Nat) (s1 : State) (a : Nat), works (.load t i k rd ra imm) s = true → issues t i (.load k rd ra
    imm) s = true → issued t i s = s1 → effAddr t ra imm s1 = a → a % (loadSize k).1 = 0 → mayLoad t a s1 = true → (loadSize k).2 = false → exec
    (.load t i k rd ra imm) s = .next (retires t i (.load k rd ra imm) s (goesOn t (setGpr t rd (leNat (meRead a (loadSize k).1 s1)) (noteRead t a
    (loadSize k).1 s1))))) ∧
  (∀ (s : State) (t : Nat) (i : Issue) (k rd ra imm : Nat) (s1 : State) (a : Nat), works (.load t i k rd ra imm) s = true → issues t i (.load k rd ra
    imm) s = true → issued t i s = s1 → effAddr t ra imm s1 = a → a % (loadSize k).1 = 0 → mayLoad t a s1 = true → (loadSize k).2 = true → exec (.load
    t i k rd ra imm) s = .next (retires t i (.load k rd ra imm) s (goesOn t (setGpr t rd (sext 32 (leNat (meRead a (loadSize k).1 s1))) (noteRead t a
    (loadSize k).1 s1))))) ∧
  (∀ (s : State) (t : Nat) (i : Issue) (k rs ra imm : Nat) (s1 : State) (a : Nat), works (.store t i k rs ra imm) s = true → issues t i (.store k rs
    ra imm) s = true → issued t i s = s1 → effAddr t ra imm s1 = a → a % 2 ^ (3 - k % 4) = 0 → mayStore t a s1 = true → a < 0x40000000 → exec (.store
    t i k rs ra imm) s = .next (retires t i (.store k rs ra imm) s (goesOn t (meWrite a (toLe (2 ^ (3 - k % 4)) (gpr t rs s1)) s1)))) ∧
  (∀ (s : State) (t : Nat) (i : Issue) (k rs ra imm : Nat) (s1 : State) (a : Nat), works (.store t i k rs ra imm) s = true → issues t i (.store k rs
    ra imm) s = true → issued t i s = s1 → effAddr t ra imm s1 = a → a % 2 ^ (3 - k % 4) = 0 → mayStore t a s1 = true → 0x40000000 ≤ a → exec (.store
    t i k rs ra imm) s = .next (retires t i (.store k rs ra imm) s (goesOn t (meWrite a (toLe (2 ^ (3 - k % 4)) (gpr t rs s1)) (pmcThread t 16 1
    s1))))) ∧
  (∀ (s : State) (t : Nat) (i : Issue) (rd ra rb : Nat) (s1 : State) (a old : Nat), works (.amoSwap t i rd ra rb) s = true → issues t i (.amo 0 rd ra
    rb) s = true → issued t i s = s1 → gpr t ra s1 = a → a % 8 = 0 → mayAmo t a s1 = true → leNat (meRead a 8 s1) = old → exec (.amoSwap t i rd ra rb)
    s = .next (retires t i (.amo 0 rd ra rb) s (goesOn t (setGpr t rd old (meWrite a (toLe 8 (gpr t rb s1)) (noteRead t a 8 s1)))))) ∧
  (∀ (s : State) (t : Nat) (i : Issue) (rd ra rb : Nat) (s1 : State) (a old : Nat), works (.amoFadd t i rd ra rb) s = true → issues t i (.amo 2 rd ra
    rb) s = true → issued t i s = s1 → gpr t ra s1 = a → a % 8 = 0 → mayAmo t a s1 = true → leNat (meRead a 8 s1) = old → exec (.amoFadd t i rd ra rb)
    s = .next (retires t i (.amo 2 rd ra rb) s (goesOn t (setGpr t rd old (meWrite a (toLe 8 ((old + gpr t rb s1) % 2 ^ 64)) (noteRead t a 8 s1)))))) ∧
  (∀ (s : State) (t : Nat) (i : Issue) (rd ra rb : Nat) (s1 : State) (a old : Nat), works (.amoFand t i rd ra rb) s = true → issues t i (.amo 3 rd ra
    rb) s = true → issued t i s = s1 → gpr t ra s1 = a → a % 8 = 0 → mayAmo t a s1 = true → leNat (meRead a 8 s1) = old → exec (.amoFand t i rd ra rb)
    s = .next (retires t i (.amo 3 rd ra rb) s (goesOn t (setGpr t rd old (meWrite a (toLe 8 (old &&& gpr t rb s1)) (noteRead t a 8 s1)))))) ∧
  (∀ (s : State) (t : Nat) (i : Issue) (rd ra rb : Nat) (s1 : State) (a old : Nat), works (.amoFor t i rd ra rb) s = true → issues t i (.amo 4 rd ra
    rb) s = true → issued t i s = s1 → gpr t ra s1 = a → a % 8 = 0 → mayAmo t a s1 = true → leNat (meRead a 8 s1) = old → exec (.amoFor t i rd ra rb)
    s = .next (retires t i (.amo 4 rd ra rb) s (goesOn t (setGpr t rd old (meWrite a (toLe 8 (old ||| gpr t rb s1)) (noteRead t a 8 s1)))))) ∧
  (∀ (s : State) (t : Nat) (i : Issue) (rd ra rb : Nat) (s1 : State) (a : Nat), works (.amoCas t i rd ra rb) s = true → issues t i (.amo 1 rd ra rb) s
    = true → issued t i s = s1 → gpr t ra s1 = a → a % 8 = 0 → mayAmo t a s1 = true → leNat (meRead a 8 s1) = gpr t rd s1 → exec (.amoCas t i rd ra
    rb) s = .next (retires t i (.amo 1 rd ra rb) s (goesOn t (setGpr t rd (leNat (meRead a 8 s1)) (meWrite a (toLe 8 (gpr t rb s1)) (noteRead t a 8
    s1)))))) ∧
  (∀ (s : State) (t : Nat) (i : Issue) (rd ra rb : Nat) (s1 : State) (a : Nat), works (.amoCas t i rd ra rb) s = true → issues t i (.amo 1 rd ra rb) s
    = true → issued t i s = s1 → gpr t ra s1 = a → a % 8 = 0 → mayAmo t a s1 = true → leNat (meRead a 8 s1) ≠ gpr t rd s1 → exec (.amoCas t i rd ra
    rb) s = .next (retires t i (.amo 1 rd ra rb) s (goesOn t (setGpr t rd (leNat (meRead a 8 s1)) (noteRead t a 8 s1)))))

/-- Branches and jumps set the PC at their retirement, relative to their own address, and calls write their link register. A branch that is not taken
goes on; a target that is not a multiple of 4 is a thread fault, stated on its own. (States 13_me_instruction_set.md R341.) -/
def Obligations.JumpInsnsComplete : Prop :=
  (∀ (s : State) (t : Nat) (i : Issue) (k ra rb off : Nat) (s1 : State), works (.branch t i k ra rb off) s = true → issues t i (.branch k ra rb off) s
    = true → issued t i s = s1 → branchTaken k (gpr t ra s1) (gpr t rb s1) = true → (pcOf t s1 + 4 * sext 16 off) % 2 ^ 64 % 4 = 0 → exec (.branch t i
    k ra rb off) s = .next (retires t i (.branch k ra rb off) s (jumpsTo t ((pcOf t s1 + 4 * sext 16 off) % 2 ^ 64) s1))) ∧
  (∀ (s : State) (t : Nat) (i : Issue) (k ra rb off : Nat) (s1 : State), works (.branch t i k ra rb off) s = true → issues t i (.branch k ra rb off) s
    = true → issued t i s = s1 → branchTaken k (gpr t ra s1) (gpr t rb s1) = false → exec (.branch t i k ra rb off) s = .next (retires t i (.branch k
    ra rb off) s (goesOn t s1))) ∧
  (∀ (s : State) (t : Nat) (i : Issue) (off : Nat) (s1 : State), works (.jmp t i off) s = true → issues t i (.jmp off) s = true → issued t i s = s1 →
    (pcOf t s1 + 4 * sext 26 off) % 2 ^ 64 % 4 = 0 → exec (.jmp t i off) s = .next (retires t i (.jmp off) s (jumpsTo t ((pcOf t s1 + 4 * sext 26 off)
    % 2 ^ 64) s1))) ∧
  (∀ (s : State) (t : Nat) (i : Issue) (off : Nat) (s1 : State), works (.call t i off) s = true → issues t i (.call off) s = true → issued t i s = s1
    → (pcOf t s1 + 4 * sext 26 off) % 2 ^ 64 % 4 = 0 → exec (.call t i off) s = .next (retires t i (.call off) s (jumpsTo t ((pcOf t s1 + 4 * sext 26
    off) % 2 ^ 64) (setGpr t 31 (pcOf t s1 + 4) s1)))) ∧
  (∀ (s : State) (t : Nat) (i : Issue) (rd ra imm : Nat) (s1 : State), works (.jr t i rd ra imm) s = true → issues t i (.jr rd ra imm) s = true →
    issued t i s = s1 → effAddr t ra imm s1 % 4 = 0 → exec (.jr t i rd ra imm) s = .next (retires t i (.jr rd ra imm) s (jumpsTo t (effAddr t ra imm
    s1) (setGpr t rd (pcOf t s1 + 4) s1))))

/-- SEND and RECV move words, messages and scratch buffers and answer their result codes. A word is staged (result 0); a closed message joins the
queue; a full queue answers 1, a spent share 2, a busy channel 3; an empty queue answers 4 and the word 0. The buffer number of a refused RECV is a
free value. (Rests on 13_me_instruction_set.md R344; 12_management_engine.md R313, R315, R316, R318; notes/assumptions/24.md.) -/
def Obligations.ChannelInsnsComplete : Prop :=
  (∀ (s : State) (t : Nat) (i : Issue) (rd rs : Nat) (close : Bool) (word ch : Nat) (s1 : State) (u : Nat), works (.send t i rd rs close word ch) s =
    true → issues t i (.send rd rs false close word ch) s = true → issued t i s = s1 → s1.fld F.CHAN_CFG0_ENABLE ch ≠ 0 → s1.fld F.CHAN_CFG0_WRITER ch
    = t → (chanAt ch s1).holder = some u → u ≠ t → exec (.send t i rd rs close word ch) s = .next (retires t i (.send rd rs false close word ch) s
    (goesOn t (setGpr t rd 3 s1)))) ∧
  (∀ (s : State) (t : Nat) (i : Issue) (rd rs word ch : Nat) (s1 s2 : State), works (.send t i rd rs false word ch) s = true → issues t i (.send rd rs
    false false word ch) s = true → issued t i s = s1 → s1.fld F.CHAN_CFG0_ENABLE ch ≠ 0 → s1.fld F.CHAN_CFG0_WRITER ch = t → ((chanAt ch s1).holder =
    none ∨ (chanAt ch s1).holder = some t) → putChan ch
    { chanAt ch s1 with staging := tset 0 (chanAt ch s1).staging word (gpr t rs s1), written := setBit (chanAt ch s1).written word true, holder := some t }
    (max (s1.fld F.CHAN_STATUS_STAGED ch) (word + 1)) s1 = s2 → exec (.send t i rd rs false word ch) s = .next (retires t i (.send rd rs false false
    word ch) s (goesOn t (setGpr t rd 0 s2)))) ∧
  (∀ (s : State) (t : Nat) (i : Issue) (rd rs word ch : Nat) (s1 s2 : State), works (.send t i rd rs true word ch) s = true → issues t i (.send rd rs
    false true word ch) s = true → issued t i s = s1 → s1.fld F.CHAN_CFG0_ENABLE ch ≠ 0 → s1.fld F.CHAN_CFG0_WRITER ch = t → ((chanAt ch s1).holder =
    none ∨ (chanAt ch s1).holder = some t) → putChan ch
    { chanAt ch s1 with staging := tset 0 (chanAt ch s1).staging word (gpr t rs s1), written := setBit (chanAt ch s1).written word true, holder := some t }
    (max (s1.fld F.CHAN_STATUS_STAGED ch) (word + 1)) s1 = s2 → s1.fld F.CHAN_CFG0_DEPTH ch ≤ (chanAt ch s1).queue.length → exec (.send t i rd rs true
    word ch) s = .next (retires t i (.send rd rs false true word ch) s (goesOn t (setGpr t rd 1 (pmcThread t 24 1 s2))))) ∧
  (∀ (s : State) (t : Nat) (i : Issue) (rd rs word ch : Nat) (s1 s2 : State), works (.send t i rd rs true word ch) s = true → issues t i (.send rd rs
    false true word ch) s = true → issued t i s = s1 → s1.fld F.CHAN_CFG0_ENABLE ch ≠ 0 → s1.fld F.CHAN_CFG0_WRITER ch = t → ((chanAt ch s1).holder =
    none ∨ (chanAt ch s1).holder = some t) → putChan ch
    { chanAt ch s1 with staging := tset 0 (chanAt ch s1).staging word (gpr t rs s1), written := setBit (chanAt ch s1).written word true, holder := some t }
    (max (s1.fld F.CHAN_STATUS_STAGED ch) (word + 1)) s1 = s2 → (chanAt ch s1).queue.length < s1.fld F.CHAN_CFG0_DEPTH ch → msgShare t s1 = false →
    exec (.send t i rd rs true word ch) s = .next (retires t i (.send rd rs false true word ch) s (goesOn t (setGpr t rd 2 (pmcThread t 25 1 (s2.bump
    F.SHARE_REFUSED 0)))))) ∧
  (∀ (s : State) (t : Nat) (i : Issue) (rd rs word ch : Nat) (s1 s2 : State), works (.send t i rd rs true word ch) s = true → issues t i (.send rd rs
    false true word ch) s = true → issued t i s = s1 → s1.fld F.CHAN_CFG0_ENABLE ch ≠ 0 → s1.fld F.CHAN_CFG0_WRITER ch = t → ((chanAt ch s1).holder =
    none ∨ (chanAt ch s1).holder = some t) → (chanAt ch s1).queue.length < s1.fld F.CHAN_CFG0_DEPTH ch → msgShare t s1 = true → ch < 224 → takeMsg t
    (putChan ch
    { staging := [], holder := none, queue := (chanAt ch s1).queue ++ [(t, (List.range (word + 1)).map (fun i => tget 0 (tset 0 (chanAt ch s1).staging word (gpr t rs s1)) i))] }
    0 s1) = s2 → exec (.send t i rd rs true word ch) s = .next (retires t i (.send rd rs false true word ch) s (goesOn t (setGpr t rd 0 (raiseEvent
    (s1.fld F.CHAN_CFG0_READER ch) (s1.fld F.CHAN_CFG1_RD_EVENT ch) s2))))) ∧
  (∀ (s : State) (t : Nat) (i : Issue) (rd rs : Nat) (close : Bool) (word ch : Nat) (s1 : State), works (.recv t i rd rs close word ch) s = true →
    issues t i (.recv rd rs false close word ch) s = true → issued t i s = s1 → s1.fld F.CHAN_CFG0_ENABLE ch ≠ 0 → s1.fld F.CHAN_CFG0_READER ch = t →
    (chanAt ch s1).queue = [] → exec (.recv t i rd rs close word ch) s = .next (retires t i (.recv rd rs false close word ch) s (goesOn t (setGpr t rs
    4 (setGpr t rd 0 (pmcThread t 26 1 s1)))))) ∧
  (∀ (s : State) (t : Nat) (i : Issue) (rd rs word ch : Nat) (s1 : State) (u : Nat) (msg : List Nat) (more : List (Nat × List Nat)), works (.recv t i
    rd rs false word ch) s = true → issues t i (.recv rd rs false false word ch) s = true → issued t i s = s1 → s1.fld F.CHAN_CFG0_ENABLE ch ≠ 0 →
    s1.fld F.CHAN_CFG0_READER ch = t → (chanAt ch s1).queue = (u, msg) :: more → exec (.recv t i rd rs false word ch) s = .next (retires t i (.recv rd
    rs false false word ch) s (goesOn t (setGpr t rs 0 (setGpr t rd (msg.getD word 0) s1))))) ∧
  (∀ (s : State) (t : Nat) (i : Issue) (rd rs word ch : Nat) (s1 : State) (u : Nat) (msg : List Nat) (more : List (Nat × List Nat)) (s2 : State),
    works (.recv t i rd rs true word ch) s = true → issues t i (.recv rd rs false true word ch) s = true → issued t i s = s1 → s1.fld
    F.CHAN_CFG0_ENABLE ch ≠ 0 → s1.fld F.CHAN_CFG0_READER ch = t → (chanAt ch s1).queue = (u, msg) :: more → setGpr t rd (msg.getD word 0) s1 = s2 →
    exec (.recv t i rd rs true word ch) s = .next (retires t i (.recv rd rs false true word ch) s (goesOn t (setGpr t rs 0 (raiseEvent (s2.fld
    F.CHAN_CFG0_WRITER ch) (s2.fld F.CHAN_CFG1_WR_EVENT ch) (returnMsg u (putChan ch { chanAt ch s1 with queue := more } (s2.fld F.CHAN_STATUS_STAGED
    ch) s2))))))) ∧
  (∀ (s : State) (t : Nat) (i : Issue) (rd rs : Nat) (s1 : State) (b : Nat), works (.poolRecv t i rd rs) s = true → issues t i (.recv rd rs true true
    0 0) s = true → issued t i s = s1 → bufShare t s1 = true → (List.range 1024).find? (fun b => (tget none s1.me.bufHolder b).isNone) = some b → exec
    (.poolRecv t i rd rs) s = .next (retires t i (.recv rd rs true true 0 0) s (goesOn t (setGpr t rs 0 (setGpr t rd b (takeBuf t b s1)))))) ∧
  (∀ (s : State) (t : Nat) (i : Issue) (rd rs : Nat) (s1 : State), works (.poolRecv t i rd rs) s = true → issues t i (.recv rd rs true true 0 0) s =
    true → issued t i s = s1 → bufShare t s1 = false → exec (.poolRecv t i rd rs) s = .next (retires t i (.recv rd rs true true 0 0) s (goesOn t
    (setGpr t rs 2 (setGpr t rd (Config.refusedBuffer s1.dp.fresh).toNat (pmcThread t 25 1
    ({ s1 with dp := { s1.dp with fresh := s1.dp.fresh + 1 } }.bump F.SHARE_REFUSED 0))))))) ∧
  (∀ (s : State) (t : Nat) (i : Issue) (rd rs : Nat) (s1 : State) (b : Nat), works (.poolSend t i rd rs) s = true → issues t i (.send rd rs true true
    0 0) s = true → issued t i s = s1 → gpr t rs s1 = b → b < 1024 → tget none s1.me.bufHolder b = some t → exec (.poolSend t i rd rs) s = .next
    (retires t i (.send rd rs true true 0 0) s (goesOn t (setGpr t rd 0 (returnBuf t b s1)))))

/-- WFE, the timer, SAMPLE and the device instructions take effect, at once or when what they wait for comes. A WFE with a matching pending event
takes it; otherwise the thread waits with its mask. A device read retires when its data returns; a posted write joins the queue of its core. (Rests on
13_me_instruction_set.md R341, R342, R343, R345; 12_management_engine.md R307, R310.) -/
def Obligations.WaitingInsnsComplete : Prop :=
  (∀ (s : State) (t : Nat) (i : Issue) (rd ra imm : Nat) (s1 : State) (m : Nat), works (.wfe t i rd ra imm) s = true → issues t i (.wfe rd ra imm) s =
    true → issued t i s = s1 → matchedEvents t (gpr t ra s1) s1 = m → m ≠ 0 → exec (.wfe t i rd ra imm) s = .next (retires t i (.wfe rd ra imm) s
    (setPc t (pcOf t s1 + 4) (setGpr t rd m (clearEvents t m s1))))) ∧
  (∀ (s : State) (t : Nat) (i : Issue) (rd ra imm : Nat) (s1 : State) (mask : Nat) (s2 : State), works (.wfe t i rd ra imm) s = true → issues t i
    (.wfe rd ra imm) s = true → issued t i s = s1 → gpr t ra s1 = mask → matchedEvents t mask s1 = 0 → s1.setFlds [(F.WAIT_MASK_LO, t, mask),
    (F.WAIT_MASK_HI, t, mask / 2 ^ 32)] = s2 → exec (.wfe t i rd ra imm) s = .next (waits t s (pmcThread t 20 1 (setThreadState t 2 (s2.withMe
    { s2.me with waitRd := tset 0 s2.me.waitRd t rd }))))) ∧
  (∀ (s : State) (t : Nat) (i : Issue) (m : Nat), works (.wfeWake ⟨t, i⟩) s = true → t < 32 → threadState t s = 2 → coreRuns t s = true →
    matchedEvents t (waitMask t s) s = m → m ≠ 0 → exec (.wfeWake ⟨t, i⟩) s = .next (retired t (pcOf t s) (0x38 * 2 ^ 26) (tget 0 s.me.heldPath t) i
    (wfeComplete t (tget 0 s.me.waitRd t) m (setThreadState t 1 s)))) ∧
  (∀ (s : State) (t : Nat) (i : Issue) (rd ra imm : Nat) (s1 : State), works (.timer t i rd ra imm) s = true → issues t i (.timer rd ra imm) s = true
    → issued t i s = s1 → gpr t ra s1 % 2 ^ 40 = 0 → exec (.timer t i rd ra imm) s = .next (retires t i (.timer rd ra imm) s (goesOn t (s1.withMe
    { s1.me with timer := tset none s1.me.timer t none })))) ∧
  (∀ (s : State) (t : Nat) (i : Issue) (rd ra imm : Nat) (s1 : State), works (.timer t i rd ra imm) s = true → issues t i (.timer rd ra imm) s = true
    → issued t i s = s1 → gpr t ra s1 % 2 ^ 40 ≠ 0 → exec (.timer t i rd ra imm) s = .next (retires t i (.timer rd ra imm) s (goesOn t (s1.withMe
    { s1.me with timer := tset none s1.me.timer t (some (s1.mc + gpr t ra s1 % 2 ^ 40)) })))) ∧
  (∀ (s : State) (t n : Nat), works (.threadTimerExpiry t) s = true → tget none s.me.timer t = some n → exec (.threadTimerExpiry t) s = .next
    (raiseEvent t 1 (s.withMe { s.me with timer := tset none s.me.timer t none }))) ∧
  (∀ (s : State) (t : Nat) (i : Issue) (rd ra imm : Nat) (s1 : State), works (.sample t i rd ra imm) s = true → issues t i (.sample rd ra imm) s =
    true → issued t i s = s1 → exec (.sample t i rd ra imm) s = .next (retires t i (.sample rd ra imm) s (goesOn t (setGpr t rd (sampleValue t imm s1)
    s1)))) ∧
  (∀ (s : State) (t : Nat) (i : Issue) (rd ra imm : Nat) (s1 : State) (a : Nat), works (.devr t i rd ra imm) s = true → issues t i (.devr rd ra imm) s
    = true → issued t i s = s1 → effAddr t ra imm s1 = a → a % 4 = 0 → a < 0x4000000 → exec (.devr t i rd ra imm) s = .next (waits t s (s1.withMe
    { s1.me with devr := tset none s1.me.devr t (some (rd, a)), held := tset 0 s1.me.held t 0x3C }))) ∧
  (∀ (s : State) (t : Nat) (i : Issue) (rd a : Nat), works (.devrRetire t i) s = true → tget none s.me.devr t = some (rd, a) → writeBefore t a s =
    false → linkWaits a s = false → exec (.devrRetire t i) s = .next (devrDone t (outOf (.thread t) (regRead (.thread t) a s)) i (regRead (.thread t)
    a s))) ∧
  (∀ (s : State) (t : Nat) (i : Issue) (rd ra imm : Nat) (s1 : State) (a : Nat), works (.devw t i rd ra imm) s = true → issues t i (.devw rd ra imm) s
    = true → issued t i s = s1 → effAddr t ra imm s1 = a → a % 4 = 0 → a < 0x4000000 → (tget [] s1.me.devw (t / 8)).length < 16 → exec (.devw t i rd
    ra imm) s = .next (retires t i (.devw rd ra imm) s (goesOn t (s1.withMe
    { s1.me with devw := tset [] s1.me.devw (t / 8) (tget [] s1.me.devw (t / 8) ++ [(t, a, gpr t rd s1 % 2 ^ 32)]) })))) ∧
  (∀ (s : State) (t : Nat) (i : Issue) (rd ra imm : Nat) (s1 : State) (a : Nat), works (.devw t i rd ra imm) s = true → issues t i (.devw rd ra imm) s
    = true → issued t i s = s1 → effAddr t ra imm s1 = a → a % 4 = 0 → a < 0x4000000 → 16 ≤ (tget [] s1.me.devw (t / 8)).length → exec (.devw t i rd
    ra imm) s = .next (waits t s (s1.withMe { s1.me with held := tset 0 s1.me.held t 0x3D }))) ∧
  (∀ (s : State) (c t a v : Nat) (more : List (Nat × Nat × Nat)), works (.devwTakeEffect c) s = true → tget [] s.me.devw c = (t, a, v) :: more →
    linkWaits a s = false → exec (.devwTakeEffect c) s = .next (regWrite (.thread t) a v (s.withMe { s.me with devw := tset [] s.me.devw c more }))) ∧
  (∀ (s : State) (t : Nat) (i : Issue) (s1 : State), works (.devsync t i) s = true → issues t i .devsync s = true → issued t i s = s1 → (tget []
    s1.me.devw (t / 8)).any (fun e => e.1 == t) = false → exec (.devsync t i) s = .next (retires t i .devsync s (goesOn t s1))) ∧
  (∀ (s : State) (t : Nat) (i : Issue) (s1 : State), works (.devsync t i) s = true → issues t i .devsync s = true → issued t i s = s1 → (tget []
    s1.me.devw (t / 8)).any (fun e => e.1 == t) = true → exec (.devsync t i) s = .next (waits t s (s1.withMe
    { s1.me with held := tset 0 s1.me.held t 0x3E })))

/-- Every cause of Table 12.5 puts the thread in FAULT with that cause and changes no register of it. Cause 1 is a word that is no instruction, 2 a
fetch outside the view, 3 and 4 a load or store outside it, 5 a misaligned PC, address or target, 6 a channel it may not use, 7 a scratch buffer it
does not hold. Fetch and legality are checked before anything is issued. (Rests on 13_me_instruction_set.md R336, R338, R346, R340, R342;
12_management_engine.md R312, R315, R319, R313.) -/
def Obligations.ThreadFaultsStop : Prop :=
  (∀ (s : State) (t : Nat) (i : Issue) (rd ra rb func : Nat), works (.alu t i rd ra rb func) s = true → t < 32 → threadState t s = 1 → coreRuns t s =
    true → tget none s.me.devr t = none → (atBreakpoint t s = false ∨ tget false s.me.bpPass t = true ∨ tget 0 s.me.held t ≠ 0) → mayFetch t (pcOf t
    s) s = false → exec (.alu t i rd ra rb func) s = .next (threadFault t 2 (s.withMe { s.me with bpPass := tset false s.me.bpPass t false }))) ∧
  (∀ (s : State) (t : Nat) (i : Issue) (rd ra rb func : Nat), works (.alu t i rd ra rb func) s = true → t < 32 → threadState t s = 1 → coreRuns t s =
    true → tget none s.me.devr t = none → (atBreakpoint t s = false ∨ tget false s.me.bpPass t = true ∨ tget 0 s.me.held t ≠ 0) → mayFetch t (pcOf t
    s) s = true → pcOf t s % 4 ≠ 0 → exec (.alu t i rd ra rb func) s = .next (threadFault t 5 (s.withMe
    { s.me with bpPass := tset false s.me.bpPass t false }))) ∧
  (∀ (s : State) (t : Nat) (i : Issue) (rd ra rb func : Nat), works (.alu t i rd ra rb func) s = true → t < 32 → threadState t s = 1 → coreRuns t s =
    true → tget none s.me.devr t = none → (atBreakpoint t s = false ∨ tget false s.me.bpPass t = true ∨ tget 0 s.me.held t ≠ 0) → mayFetch t (pcOf t
    s) s = true → pcOf t s % 4 = 0 → legalWord (fetched t s) = false → exec (.alu t i rd ra rb func) s = .next (threadFault t 1 (s.withMe
    { s.me with bpPass := tset false s.me.bpPass t false }))) ∧
  (∀ (s : State) (t : Nat) (i : Issue) (k rd ra imm : Nat) (s1 : State), works (.load t i k rd ra imm) s = true → issues t i (.load k rd ra imm) s =
    true → issued t i s = s1 → effAddr t ra imm s1 % (loadSize k).1 ≠ 0 → exec (.load t i k rd ra imm) s = .next (threadFault t 5 s1)) ∧
  (∀ (s : State) (t : Nat) (i : Issue) (k rd ra imm : Nat) (s1 : State), works (.load t i k rd ra imm) s = true → issues t i (.load k rd ra imm) s =
    true → issued t i s = s1 → effAddr t ra imm s1 % (loadSize k).1 = 0 → mayLoad t (effAddr t ra imm s1) s1 = false → exec (.load t i k rd ra imm) s
    = .next (threadFault t 3 s1)) ∧
  (∀ (s : State) (t : Nat) (i : Issue) (k rs ra imm : Nat) (s1 : State), works (.store t i k rs ra imm) s = true → issues t i (.store k rs ra imm) s =
    true → issued t i s = s1 → effAddr t ra imm s1 % 2 ^ (3 - k % 4) ≠ 0 → exec (.store t i k rs ra imm) s = .next (threadFault t 5 s1)) ∧
  (∀ (s : State) (t : Nat) (i : Issue) (k rs ra imm : Nat) (s1 : State), works (.store t i k rs ra imm) s = true → issues t i (.store k rs ra imm) s =
    true → issued t i s = s1 → effAddr t ra imm s1 % 2 ^ (3 - k % 4) = 0 → mayStore t (effAddr t ra imm s1) s1 = false → exec (.store t i k rs ra imm)
    s = .next (threadFault t 4 s1)) ∧
  (∀ (s : State) (t : Nat) (i : Issue) (rd ra rb : Nat) (s1 : State), works (.amoSwap t i rd ra rb) s = true → issues t i (.amo 0 rd ra rb) s = true →
    issued t i s = s1 → gpr t ra s1 % 8 = 0 → mayAmo t (gpr t ra s1) s1 = false → exec (.amoSwap t i rd ra rb) s = .next (threadFault t 4 s1)) ∧
  (∀ (s : State) (t : Nat) (i : Issue) (rd ra imm : Nat) (s1 : State), works (.jr t i rd ra imm) s = true → issues t i (.jr rd ra imm) s = true →
    issued t i s = s1 → effAddr t ra imm s1 % 4 ≠ 0 → exec (.jr t i rd ra imm) s = .next (threadFault t 5 s1)) ∧
  (∀ (s : State) (t : Nat) (i : Issue) (rd ra imm : Nat) (s1 : State), works (.devr t i rd ra imm) s = true → issues t i (.devr rd ra imm) s = true →
    issued t i s = s1 → effAddr t ra imm s1 % 4 = 0 → 0x4000000 ≤ effAddr t ra imm s1 → exec (.devr t i rd ra imm) s = .next (threadFault t 3 s1)) ∧
  (∀ (s : State) (t : Nat) (i : Issue) (rd ra imm : Nat) (s1 : State), works (.devw t i rd ra imm) s = true → issues t i (.devw rd ra imm) s = true →
    issued t i s = s1 → effAddr t ra imm s1 % 4 = 0 → 0x4000000 ≤ effAddr t ra imm s1 → exec (.devw t i rd ra imm) s = .next (threadFault t 4 s1)) ∧
  (∀ (s : State) (t : Nat) (i : Issue) (rd rs : Nat) (s1 : State), works (.poolSend t i rd rs) s = true → issues t i (.send rd rs true true 0 0) s =
    true → issued t i s = s1 → tget none s1.me.bufHolder (gpr t rs s1) ≠ some t → exec (.poolSend t i rd rs) s = .next (threadFault t 7 s1))

/-- Deliveries, claims, completions, masks, enables and the software interrupt take effect. A deliverable source goes to the next enabled target in
rotation; a claim by the target's owner takes the highest priority; a completion ends the service of the source it names. (Rests on 14_interrupts.md
R368, R369, R371, R372, R373, R374, R376, R377.) -/
def Obligations.InterruptRowsComplete : Prop :=
  (∀ (s : State) (n j : Nat), works (.interruptDelivery n) s = true → n ≠ 97 → deliverable n s = true → s.fld F.SRC_STATUS_EPOCH_DELIVERIES n < s.fld
    F.SRC_CFG_STORM_LIMIT n → s.fld F.SRC_CFG_MASK n ≠ 1 → nextTarget (s.fld F.SRC_CFG_ENABLE n) (tget 6 s.intc.rot n) 7 = j → requestLine j s = true
    → exec (.interruptDelivery n) s = .next ((fun s1 : State => { s1 with intc := { s1.intc with rot := tset 6 s1.intc.rot n j } }) ((s.setFld
    F.SRC_STATUS_TARGET n j).setFld F.SRC_STATUS_EPOCH_DELIVERIES n (s.fld F.SRC_STATUS_EPOCH_DELIVERIES n + 1)))) ∧
  (∀ (s : State) (n j : Nat), works (.interruptDelivery n) s = true → n ≠ 97 → deliverable n s = true → s.fld F.SRC_STATUS_EPOCH_DELIVERIES n < s.fld
    F.SRC_CFG_STORM_LIMIT n → s.fld F.SRC_CFG_MASK n ≠ 1 → nextTarget (s.fld F.SRC_CFG_ENABLE n) (tget 6 s.intc.rot n) 7 = j → requestLine j s = false
    → exec (.interruptDelivery n) s = .next (assertRequest j ((fun s1 : State => { s1 with intc := { s1.intc with rot := tset 6 s1.intc.rot n j } })
    ((s.setFld F.SRC_STATUS_TARGET n j).setFld F.SRC_STATUS_EPOCH_DELIVERIES n (s.fld F.SRC_STATUS_EPOCH_DELIVERIES n + 1))))) ∧
  (∀ (s : State) (q : Requester) (j n : Nat), works (.claim q j) s = true → j < 7 → ownsTarget q j = true → claimValue j s = n → n ≠ 0 → exec (.claim
    q j) s = .next (((setOut q n s).setFlds [(F.SRC_STATUS_PENDING, n, 0), (F.SRC_STATUS_IN_SERVICE, n, 1), (F.SRC_STATUS_TARGET, n, j)]).bump
    F.TGT_CLAIMS j)) ∧
  (∀ (s : State) (q : Requester) (j : Nat), works (.claim q j) s = true → j < 7 → ownsTarget q j = true → claimValue j s = 0 → exec (.claim q j) s =
    .next (setOut q 0 s)) ∧
  (∀ (s : State) (q : Requester) (j n : Nat), works (.claim q j) s = true → j < 7 → ownsTarget q j = false → claimValue j s = n → exec (.claim q j) s
    = .next (setOut q n s)) ∧
  (∀ (s : State) (q : Requester) (j n m : Nat) (s1 : State), works (.complete q j n) s = true → j < 7 → ownsTarget q j = true → n % 512 = m →
    srcExists m = true → s.fld F.SRC_STATUS_IN_SERVICE m = 1 → s.fld F.SRC_STATUS_TARGET m = j → endService m s = s1 → requestLine j s1 = false → exec
    (.complete q j n) s = .next (s1)) ∧
  (∀ (s : State) (q : Requester) (j n m : Nat), works (.complete q j n) s = true → j < 7 → ownsTarget q j = true → n % 512 = m → s.fld
    F.SRC_STATUS_IN_SERVICE m ≠ 1 → requestLine j (s.bump F.COMPLETE_STRAY 0) = false → exec (.complete q j n) s = .next (s.bump F.COMPLETE_STRAY 0)) ∧
  (∀ (s : State) (q : Requester) (n m : Nat), works (.srcMaskWrite q n m) s = true → srcExists n = true → exec (.srcMaskWrite q n m) s = .next
    (setMask n (m % 2) s)) ∧
  (∀ (s : State) (q : Requester) (n e j : Nat) (s1 : State), works (.srcEnableWrite q n e) s = true → srcExists n = true → s.fld F.SRC_STATUS_TARGET n
    = j → deliveredTo j n s = true → j < 7 → (e % 128).testBit j = false → s.setFld F.SRC_CFG_ENABLE n (e % 128) = s1 → exec (.srcEnableWrite q n e) s
    = .next (deliver n ((s1.setFld F.SRC_STATUS_TARGET n 7).bump F.WITHDRAWALS 0))) ∧
  (∀ (s : State) (q : Requester) (n e j : Nat), works (.srcEnableWrite q n e) s = true → srcExists n = true → s.fld F.SRC_STATUS_TARGET n = j → (j = 7
    ∨ deliveredTo j n s = false ∨ (e % 128).testBit j = true) → exec (.srcEnableWrite q n e) s = .next (s.setFld F.SRC_CFG_ENABLE n (e % 128))) ∧
  (∀ (s : State) (q : Requester), works (.swRaise q) s = true → exec (.swRaise q) s = .next (raiseSrc 384 s))

/-- Faults commit in their order with their reactions, and the resets of blocks and dies begin and end. The earliest stamp is committed first, its
reactions after it. A reset request needs the key B10C. A die that fails its return twice stays in reset. (Rests on 15_faults.md R383, R385, R386,
R387, R388, R389, R393; 05_dies.md R140; 19_register_map.md R480, R481.) -/
def Obligations.FaultAndResetRowsComplete : Prop :=
  (∀ (s : State) (e : FaultEv) (es : List FaultEv) (x : State × List (FaultEv × Nat × Nat)), works .faultCommit s = true → sortEvs s.flt.events = e ::
    es → commitList ((e :: es).filter (fun x => x.stamp == e.stamp))
    { s with flt := { s.flt with events := (e :: es).filter (fun x => x.stamp != e.stamp) } } = x → (takeReactions x.2 x.1).ldr.held = false → exec
    .faultCommit s = .next (takeReactions x.2 x.1)) ∧
  (∀ (s : State) (i : Nat) (deg : Int) (s1 : State), works (.tempSensorRead i deg) s = true → i < 5 → deg ≤ 125 → deg < Int.ofNat (s.fld
    F.FLT_CFG_TJ_WARN 0) - 5 → s.setFld F.FLT_TEMP i (deg % 65536).toNat = s1 → exec (.tempSensorRead i deg) s = .next
    ({ s1 with flt := { s1.flt with tjOver := tset false s1.flt.tjOver i false, tjWarm := tset false s1.flt.tjWarm i false } })) ∧
  (∀ (s : State) (q : Requester), works (.firstClear q) s = true → exec (.firstClear q) s = .next (setWords F.FIRST 0 [0, 0, 0, 0] (s.setFlds
    [(F.FLT_STATUS_FIRST_VALID, 0, 0), (F.FIRST_FOLLOW, 0, 0)]))) ∧
  (∀ (s : State) (q : Requester), works (.faultNRelease q) s = true → exec (.faultNRelease q) s = .next (s.setFld F.FLT_STATUS_FAULT_N 0 0)) ∧
  (∀ (s : State) (q : Requester) (n w : Nat), works (.srcReactWrite q true n w) s = true → 1 ≤ n → n < 5 → exec (.srcReactWrite q true n w) s = .next
    (s.setFld F.ESC_REACT n w)) ∧
  (∀ (s : State) (q : Requester) (n w : Nat), works (.srcReactWrite q false n w) s = true → 1 ≤ n → n < 128 → faultExists n = true → ((w.testBit 2 &&
    !hasUnit n) || (faultClass n == 5 && w % 32 != 0)) = false → w / 2 ^ 16 % 2 ^ 16 ≠ 0 → w / 2 ^ 12 % 16 ≠ 0 → exec (.srcReactWrite q false n w) s =
    .next (((s.setFld F.SRC_REACT_REACT n w).setFld F.SRC_REACT_WINDOW n (w / 2 ^ 16)).setFld F.SRC_REACT_ESC_LIMIT n (w / 2 ^ 12))) ∧
  (∀ (s : State) (q : Requester) (n w : Nat), works (.srcReactWrite q false n w) s = true → 1 ≤ n → n < 128 → ((w.testBit 2 && !hasUnit n) ||
    (faultClass n == 5 && w % 32 != 0)) = true → exec (.srcReactWrite q false n w) s = .next (s)) ∧
  (∀ (s : State) (u : Nat), works (.conseqWindowClose u) s = true → inUnitReset u s = false → exec (.conseqWindowClose u) s = .next (showWindows
    { s with flt := { s.flt with windowOpen := tset false s.flt.windowOpen u false } })) ∧
  (∀ (s : State) (q : Requester) (key d : Nat), works (.dieHoldSet q key d) s = true → key = 0xB10C → d < 4 → s.dieEnabled d = true → dieHeld d s =
    false → exec (.dieHoldSet q key d) s = .next (dieReset d (s.setFld F.RESET_CTRL_DIE_HOLD 0 (setBit (s.fld F.RESET_CTRL_DIE_HOLD 0) d true)))) ∧
  (∀ (s : State) (q : Requester) (key d : Nat), works (.dieHoldSet q key d) s = true → key ≠ 0xB10C → exec (.dieHoldSet q key d) s = .next (s)) ∧
  (∀ (s : State) (q : Requester) (key d : Nat), works (.dieHoldClear q key d) s = true → key = 0xB10C → d < 4 → s.dieEnabled d = true → dieHeld d s =
    true → exec (.dieHoldClear q key d) s = .next (dieResetEnd d (s.setFld F.RESET_CTRL_DIE_HOLD 0 (setBit (s.fld F.RESET_CTRL_DIE_HOLD 0) d false)))) ∧
  (∀ (s : State) (q : Requester) (key d : Nat), works (.dieHoldClear q key d) s = true → key ≠ 0xB10C → exec (.dieHoldClear q key d) s = .next (s)) ∧
  (∀ (s : State) (d : Nat), works (.dieResetEnd d) s = true → d < 4 → inUnitReset (34 + d) s = true → dieHeld d s = false → dieDead d s = false → exec
    (.dieResetEnd d) s = .next (dieRebuild d s)) ∧
  (∀ (s : State) (d : Nat) (s1 s2 : State), works (.dieReadmit d true) s = true → d < 4 → inUnitReset (34 + d) s = true → dieHeld d s = false →
    dieDead d s = false → tget false s.flt.rebuilt d = true → dieVerify d s = true → tcamReturn d (s.setFlds [(F.EM_INFO, d, s.fld F.EM_INFO d + 1),
    (F.DIE_STATUS_IN_RESET, 0, setBit (s.fld F.DIE_STATUS_IN_RESET 0) d false)]) = s1 → unitEnd (34 + d)
    { s1 with flt := { s1.flt with dieFails := tset 0 s1.flt.dieFails d 0, rebuilt := tset false s1.flt.rebuilt d false } } = s2 → exec (.dieReadmit d
    true) s = .next ((portsOfDie d s2).foldl (fun s p => portBringUp p s) s2)) ∧
  (∀ (s : State) (d : Nat) (ok : Bool) (s1 : State), works (.dieReadmit d ok) s = true → d < 4 → inUnitReset (34 + d) s = true → dieHeld d s = false →
    dieDead d s = false → tget false s.flt.rebuilt d = true → (ok && dieVerify d s) = false → tget 0 s.flt.dieFails d = 0 → raiseFault 74 d 0
    { s with flt := { s.flt with dieFails := tset 0 s.flt.dieFails d 1 } } = s1 → exec (.dieReadmit d ok) s = .next (dieReset d (unitEnd (34 + d)
    s1))) ∧
  (∀ (s : State) (d : Nat) (ok : Bool) (n : Nat), works (.dieReadmit d ok) s = true → d < 4 → inUnitReset (34 + d) s = true → dieHeld d s = false →
    dieDead d s = false → tget false s.flt.rebuilt d = true → (ok && dieVerify d s) = false → tget 0 s.flt.dieFails d = n → 1 ≤ n → exec (.dieReadmit
    d ok) s = .next (raiseFault 74 d 0 { s with flt := { s.flt with dieFails := tset 0 s.flt.dieFails d (n + 1) } })) ∧
  (∀ (s : State) (q : Requester) (key : Nat), works (.meReset q key) s = true → key = 0xB10C → exec (.meReset q key) s = .next (meBlockReset s)) ∧
  (∀ (s : State) (q : Requester) (key : Nat), works (.meReset q key) s = true → key ≠ 0xB10C → exec (.meReset q key) s = .next (s)) ∧
  (∀ (s : State) (q : Requester) (key : Nat), works (.hifReset q key) s = true → key = 0xB10C → inUnitReset 1 s = false → exec (.hifReset q key) s =
    .next (pcieLinkDown (unitBegin 1 s))) ∧
  (∀ (s : State) (q : Requester) (key : Nat), works (.hifReset q key) s = true → key ≠ 0xB10C → exec (.hifReset q key) s = .next (s)) ∧
  (∀ (s : State) (rate width : Nat), works (.hifResetEnd rate width) s = true → inUnitReset 1 s = true → exec (.hifResetEnd rate width) s = .next
    (unitEnd 1 (pcieLinkUp rate width s)))

/-- Memory requests, the patrol, temperature, refresh, row tables, retrains and failures of a channel take effect. A request in RUN opens its row,
counts the activate and meets what its read met; a FAILED channel only counts the access. The row of an address is a free value of the configuration.
(Rests on 16_dram.md R406, R407, R408, R409, R410, R411, R412, R415, R416; notes/assumptions/23.md; notes/assumptions/110.md;
notes/assumptions/111.md.) -/
def Obligations.DramRowsComplete : Prop :=
  (∀ (s : State) (c : Nat) (ecc : Ecc) (parity : Bool) (r : DramReq) (s1 : State), works (.dramRequestIssue c ecc parity) s = true → c < 32 → s.fld
    F.CH_STATUS_CATCHUP c = 0 → s.fld F.CH_STATUS_STATE c = 4 → takeRequest c s = some (r, s1) → exec (.dramRequestIssue c ecc parity) s = .next
    (s1.bump F.FAILED_ACCESS c)) ∧
  (∀ (s : State) (c : Nat) (ecc : Ecc) (r : DramReq) (s1 : State), works (.dramRequestIssue c ecc false) s = true → c < 32 → s.fld F.CH_STATUS_CATCHUP
    c = 0 → s.fld F.CH_STATUS_STATE c = 2 → takeRequest c s = some (r, s1) → r.write = true → r.old = [] → exec (.dramRequestIssue c ecc false) s =
    .next (openRowAt c r.addr s1)) ∧
  (∀ (s : State) (c : Nat) (ecc : Ecc) (r : DramReq) (s1 : State), works (.dramRequestIssue c ecc false) s = true → c < 32 → s.fld F.CH_STATUS_CATCHUP
    c = 0 → s.fld F.CH_STATUS_STATE c = 2 → takeRequest c s = some (r, s1) → r.write = false → exec (.dramRequestIssue c ecc false) s = .next
    (eccError r.addr ecc (openRowAt c r.addr s1))) ∧
  (∀ (s : State) (c : Nat) (r : DramReq) (s1 : State), works (.dramRequestIssue c (.ue) false) s = true → c < 32 → s.fld F.CH_STATUS_CATCHUP c = 0 →
    s.fld F.CH_STATUS_STATE c = 2 → takeRequest c s = some (r, s1) → r.write = true → r.old ≠ [] → exec (.dramRequestIssue c (.ue) false) s = .next
    (eccError r.addr .ue (takeBack c r (openRowAt c r.addr s1)))) ∧
  (∀ (s : State) (c : Nat) (ecc : Ecc) (r : DramReq) (s1 : State), works (.dramRequestIssue c ecc true) s = true → c < 32 → s.fld F.CH_STATUS_CATCHUP
    c = 0 → s.fld F.CH_STATUS_STATE c = 2 → takeRequest c s = some (r, s1) → r.write = true → r.old = [] → exec (.dramRequestIssue c ecc true) s =
    .next (runFail c (openRowAt c r.addr s1))) ∧
  (∀ (s : State) (c : Nat) (ecc : Ecc) (i : Nat) (s1 : State), works (.patrolRead c ecc) s = true → c < 32 → s.fld F.MEM_CFG_PATROL_EN 0 ≠ 0 → s.fld
    F.CH_STATUS_STATE c = 2 → s.fld F.CH_STATUS_CATCHUP c = 0 → tget 0 s.dram.patrol c = i → s.withDram
    { s.dram with patrol := tset 0 s.dram.patrol c ((i + 1) % 2 ^ 23) } = s1 → ecc ≠ .ce → exec (.patrolRead c ecc) s = .next (eccError (patrolAddr c
    i) ecc (openRowAt c (patrolAddr c i) s1))) ∧
  (∀ (s : State) (c i : Nat) (s1 : State), works (.patrolRead c (.ce)) s = true → c < 32 → s.fld F.MEM_CFG_PATROL_EN 0 ≠ 0 → s.fld F.CH_STATUS_STATE c
    = 2 → s.fld F.CH_STATUS_CATCHUP c = 0 → tget 0 s.dram.patrol c = i → s.withDram
    { s.dram with patrol := tset 0 s.dram.patrol c ((i + 1) % 2 ^ 23) } = s1 → exec (.patrolRead c (.ce)) s = .next (eccError (patrolAddr c i) .ce
    ((openRowAt c (patrolAddr c i) s1).bump F.PATROL_FIX c))) ∧
  (∀ (s : State) (m : Nat) (raw : Int) (s1 : State), works (.stackTempRead m raw) s = true → m < 2 → signed8 (s.fld F.STACK_TEMP_FILTERED m) - 2 ≤ raw
    → raw ≤ signed8 (s.fld F.STACK_TEMP_FILTERED m) + 2 → raw < 80 → s.fld F.STACK_TEMP_HOT m = 0 → s.setFlds [(F.STACK_TEMP_RAW, m, (raw %
    256).toNat), (F.STACK_TEMP_FILTERED, m, (raw % 256).toNat), (F.STACK_TEMP_LIMIT, m, 8), (F.STACK_TEMP_HOT, m, 0)] = s1 → exec (.stackTempRead m
    raw) s = .next (setLevel (224 + m) false s1)) ∧
  (∀ (s : State) (c pc n : Nat), works (.refreshDue c pc n) s = true → c < 32 → pc < 2 → refreshes c s = true → s.fld F.CH_STATUS_CATCHUP c = 1 → exec
    (.refreshDue c pc n) s = .next (setDebt c pc (debt c pc s + 1 - n) s)) ∧
  (∀ (s : State) (c pc n : Nat), works (.refreshDue c pc n) s = true → c < 32 → pc < 2 → refreshes c s = true → s.fld F.CH_STATUS_CATCHUP c ≠ 1 → exec
    (.refreshDue c pc n) s = .next (setDebt c pc (min (debt c pc s + 1 - n) (s.fld F.STACK_TEMP_LIMIT (c / 16))) s)) ∧
  (∀ (s : State) (c : Nat), works (.catchupEnd c) s = true → c < 32 → s.fld F.CH_STATUS_CATCHUP c ≠ 0 → exec (.catchupEnd c) s = .next ((mapDebt (fun
    v => min v 4) c s).setFld F.CH_STATUS_CATCHUP c 0)) ∧
  (∀ (s : State) (c pc bank row : Nat), works (.neighbourRefresh c pc bank row) s = true → c < 32 → pc < 2 → bank < 2 ^ 16 → s.fld F.CH_STATUS_CATCHUP
    c = 0 → (tget [] s.dram.act ((c * 2 + pc) * 2 ^ 16 + bank)).any (fun e => e.1 == row && decide (rdThreshold c s ≤ e.2)) = true → ∃ t, exec
    (.neighbourRefresh c pc bank row) s = .next t ∧ ∃ n, t = (s.addSat F.RD_REFRESHES c n).withDram
    { (s.addSat F.RD_REFRESHES c n).dram with act := tset [] (s.addSat F.RD_REFRESHES c n).dram.act ((c * 2 + pc) * 2 ^ 16 + bank) ((tget [] s.dram.act ((c * 2 + pc) * 2 ^ 16 + bank)).map (fun e => if e.1 = row then (e.1, tget 0 s.dram.floor ((c * 2 + pc) * 2 ^ 16 + bank)) else e)) }
    ∧ n ≤ 4) ∧
  (∀ (s : State) (c : Nat), works (.rdWindowEnd c) s = true → c < 32 → exec (.rdWindowEnd c) s = .next (s.withDram
    { s.dram with act := s.dram.act.filter (fun e => e.1 / 2 ^ 17 != c), floor := s.dram.floor.filter (fun e => e.1 / 2 ^ 17 != c), thresh := tset 2048 s.dram.thresh c (s.fld F.MEM_CFG_RD_THRESHOLD 0) })) ∧
  (∀ (s : State) (q : Requester) (c : Nat), works (.channelRetrain q c) s = true → c < 32 → (s.fld F.CH_STATUS_STATE c = 2 ∨ s.fld F.CH_STATUS_STATE c
    = 4) → exec (.channelRetrain q c) s = .next (unitBegin (2 + c) (s.setFld F.CH_STATUS_STATE c 3))) ∧
  (∀ (s : State) (c : Nat) (s1 : State), works (.channelRetrainEnd c true) s = true → c < 32 → s.fld F.CH_STATUS_STATE c = 3 → (s.setFlds
    [(F.CH_STATUS_STATE, c, 2), (F.CH_STATUS_GEN, c, s.fld F.CH_STATUS_GEN c + 1)]).bump F.MEM_RETRAINS c = s1 → exec (.channelRetrainEnd c true) s =
    .next (unitEnd (2 + c) (chEvent F.CH_EVENT_RETRAIN_END F.CH_EVENT_EN_RETRAIN_END c s1))) ∧
  (∀ (s : State) (c : Nat), works (.channelRetrainEnd c false) s = true → c < 32 → s.fld F.CH_STATUS_STATE c = 3 → exec (.channelRetrainEnd c false) s
    = .next (channelFail c (windowClose (2 + c) (unitEnd (2 + c) (s.setFld F.CH_STATUS_STATE c 4))))) ∧
  (∀ (s : State) (c : Nat), works (.channelPhyLockLoss c) s = true → c < 32 → s.fld F.LDR_STATUS_STATE 0 = 8 → exec (.channelPhyLockLoss c) s = .next
    (runFail c s))

/-- The rails, RESET_N and the start sequence move the part from RESET_HELD to RUN or to SAFE. A training without a failed channel only marks its end;
a failed one enters SAFE with cause 2. A slot that fails leads to the next slot or to SAFE with cause 1. (Rests on 17_startup_image.md R419, R420,
R421, R422, R424, R425, R428, R432, R438, R439, R441; 16_dram.md R414.) -/
def Obligations.StartSequenceComplete : Prop :=
  (∀ (s s1 : State), works (.baseTrainingDone []) s = true → s.ldr.trained = false → s.ldr.held = false → s.terminal = false → s.fld F.CH_STATUS_STATE
    0 = 1 → (List.range 32).foldl (fun s c => s.setFld F.CH_STATUS_STATE c 2) s = s1 → exec (.baseTrainingDone []) s = .next (s1.withLdr
    { s1.ldr with trained := true })) ∧
  (∀ (s : State) (bad : List Nat) (t : State), works (.baseTrainingDone bad) s = true → s.ldr.trained = false → s.ldr.held = false → s.terminal =
    false → s.fld F.CH_STATUS_STATE 0 = 1 → (bad.filter (fun c => decide (c < 32))).isEmpty = false → (List.range 32).foldl (fun s c => if (bad.filter
    (fun c => decide (c < 32))).contains c then trainFail c s else s.setFld F.CH_STATUS_STATE c 2) s = t → t.safe = false → exec (.baseTrainingDone
    bad) s = .next (enterSafe 2 (t.withLdr { t.ldr with trained := true }))) ∧
  (∀ (s : State), works (.finalCalibrationDone []) s = true → startState s = 6 → s.terminal = false → s.ldr.held = false → exec (.finalCalibrationDone
    []) s = .next (s.withLdr { s.ldr with calibrated := true })) ∧
  (∀ (s : State) (bad : List Nat) (t : State), works (.finalCalibrationDone bad) s = true → startState s = 6 → s.terminal = false → s.ldr.held = false
    → (bad.filter (fun c => decide (c < 32))).isEmpty = false → (List.range 32).foldl (fun s c => if (bad.filter (fun c => decide (c < 32))).contains
    c then trainFail c s else s) s = t → exec (.finalCalibrationDone bad) s = .next (enterSafe 2 (t.withLdr { t.ldr with calibrated := true }))) ∧
  (∀ (s : State) (i : Nat) (uv : Int), works (.railSample i uv) s = true → i < 8 → railReading i uv = .absolute → tget false s.ldr.railBad 7 = false →
    exec (.railSample i uv) s = .next (raiseFault 2 4 i s)) ∧
  (∀ (s : State) (i : Nat) (uv : Int), works (.railSample i uv) s = true → i < 8 → railReading i uv = .out → tget 0 s.ldr.railOut i = 0 → exec
    (.railSample i uv) s = .next (s.withLdr { s.ldr with railOut := tset 0 s.ldr.railOut i 1 })) ∧
  (∀ (s : State) (i : Nat) (uv : Int), works (.railSample i uv) s = true → 1 ≤ i → i < 6 → railReading i uv = .out → tget 0 s.ldr.railOut i = 1 → tget
    false s.ldr.railBad i = false → s.ldr.held = false → exec (.railSample i uv) s = .next (enterHeld (s.withLdr
    { s.ldr with railOut := tset 0 s.ldr.railOut i 2, railBad := tset false s.ldr.railBad i true, powerUp := true }))) ∧
  (∀ (s : State) (i : Nat) (uv : Int) (l : LdrSt), works (.railSample i uv) s = true → i < 8 → railReading i uv = .good → railsGood s.ldr = true →
    { s.ldr with railOut := tset 0 s.ldr.railOut i 0, railBad := tset false s.ldr.railBad i false } = l → exec (.railSample i uv) s = .next
    (settleTerminal (s.withLdr l))) ∧
  (∀ (s : State), works (.resetNEdge true) s = true → s.ldr.held = false → s.terminal = false → exec (.resetNEdge true) s = .next (enterHeld
    (s.withLdr { s.ldr with resetLow := true }))) ∧
  (∀ (s : State), works (.resetNEdge false) s = true → s.ldr.held = false → exec (.resetNEdge false) s = .next (s.withLdr
    { s.ldr with resetLow := false })) ∧
  (∀ (s : State) (l : LdrSt), works (.resetNEdge false) s = true → { s.ldr with resetLow := false } = l → l.held = true → s.terminal = false →
    resetCondition l = false → exec (.resetNEdge false) s = .next (leaveHeld (s.withLdr l))) ∧
  (∀ (s : State) (l : LdrSt), works .resetHoldExpiry s = true → { s.ldr with settling := false } = l → l.held = true → s.terminal = false →
    resetCondition l = false → exec .resetHoldExpiry s = .next (leaveHeld (s.withLdr l))) ∧
  (∀ (s : State) (n : Nat), works (.fuseLoadDone false n) s = true → startState s = 2 → s.terminal = false → s.ldr.held = false → exec (.fuseLoadDone
    false n) s = .next (raiseFault 3 4 0 s)) ∧
  (∀ (s : State) (n : Nat) (s1 : State), works (.fuseLoadDone true n) s = true → startState s = 2 → s.terminal = false → s.ldr.held = false →
    s.setFlds [(F.LDR_STATUS_STATE, 0, 3), (F.SERIAL_LO, 0, otpWord 18 s), (F.SERIAL_HI, 0, otpWord 19 s), (F.SUBSYS_SUBSYS_ID, 0, otpWord 16 s / 2 ^
    16), (F.SUBSYS_SUBSYS_VENDOR, 0, otpWord 16 s), (F.JTAG_STATUS_DISABLED, 0, if (List.range 8).all (fun w => otpWord (8 + w) s == 0) = true ∨
    (otpWord 17 s).testBit 0 = true then 1 else 0), (F.LDR_STATUS_KEY_BLANK, 0, if keyBlank s then 1 else 0), (F.LDR_STATUS_SIDEBAND_UP, 0, n)] = s1 →
    exec (.fuseLoadDone true n) s = .next (drawChallenge ((List.range 32).foldl (fun s c => s.setFld F.CH_STATUS_STATE c 1) s1))) ∧
  (∀ (s : State), works (.slotReadComplete false) s = true → startState s = 3 → s.terminal = false → s.ldr.held = false → exec (.slotReadComplete
    false) s = .next (s.setFld F.LDR_STATUS_STATE 0 4)) ∧
  (∀ (s : State), works (.slotReadComplete true) s = true → startState s = 3 → s.terminal = false → s.ldr.held = false → exec (.slotReadComplete true)
    s = .next (enterSafe 1 (setSlotResult 1 (2, 0, 0) (setSlotResult 0 (2, 0, 0) s)))) ∧
  (∀ (s : State) (e : SlotEnd) (s1 : State), works .authDone s = true → startState s = 4 → s.terminal = false → s.ldr.held = false → authSlot
    s.ldr.trying s = .error e → setSlotResult s.ldr.trying e s = s1 → exec .authDone s = .next (nextSlot
    { s1 with dp := { s1.dp with fresh := s1.dp.fresh + 1 } })) ∧
  (∀ (s : State) (recs : List Rec) (x : State × Option (Nat × Nat)), works .authDone s = true → startState s = 4 → s.terminal = false → s.ldr.held =
    false → authSlot s.ldr.trying s = .ok recs → applyRecords s.ldr.trying recs recTypes (beginLoad s.ldr.trying s) = x → exec .authDone s = .next
    (x.1.withLdr { x.1.ldr with refused := x.2 })) ∧
  (∀ (s : State) (x : Nat × Nat), works .loadComplete s = true → startState s = 5 → s.terminal = false → s.ldr.held = false → s.ldr.trained = true →
    s.fld F.SLOT_RESULT_RESULT s.ldr.trying ≠ 10 → s.ldr.refused = some x → exec .loadComplete s = .next (setSlotResult s.ldr.trying (10, x.1, x.2)
    s)) ∧
  (∀ (s : State), works .loadComplete s = true → startState s = 5 → s.terminal = false → s.ldr.held = false → s.ldr.trained = true → s.fld
    F.SLOT_RESULT_RESULT s.ldr.trying ≠ 10 → s.ldr.refused = none → crossRefusal s.ldr.trying s = none → s.ldr.trying = 0 → exec .loadComplete s =
    .next (endLoad ((setSlotResult s.ldr.trying (1, 0, 0) s).setFld F.LDR_STATUS_STATE 0 6))) ∧
  (∀ (s : State), works .rollbackDone s = true → startState s = 5 → s.terminal = false → s.ldr.held = false → s.fld F.SLOT_RESULT_RESULT s.ldr.trying
    = 10 → exec .rollbackDone s = .next (nextSlot (rollback s))) ∧
  (∀ (s s2 : State), works .trainDone s = true → startState s = 6 → s.terminal = false → s.ldr.held = false → s.ldr.calibrated = true → ((enabledDies
    s).foldl (fun s d => s.setFld F.RLF_STATUS_TRAINED d 1) s).setFlds [(F.DIE_STATUS_LINK_UP, 0, s.fld F.DIE_STATUS_ENABLED 0), (F.LDR_STATUS_STATE,
    0, 7)] = s2 → exec .trainDone s = .next (trigger 0 s2)) ∧
  (∀ (s : State), works .planTimeout s = true → startState s = 7 → s.terminal = false → s.ldr.held = false → exec .planTimeout s = .next (enterRun
    (s.setFld F.LDR_STATUS_PLAN_TIMEOUT 0 1)))

/-- The recovery mailbox reads, programs, erases and checks the flash, restarts the part, and RELOAD resets it. A command out of its range ends with
result 1, a misaligned one with 2; the result shows when the command ends. An operation that exceeds its bound ends with 3 and leaves what it touched
undefined. (Rests on 17_startup_image.md R442, R443, R444; notes/assumptions/132.md.) -/
def Obligations.RecoveryRowsComplete : Prop :=
  (∀ (s : State) (q : Requester), works (.rcvRead q) s = true → s.fld F.RCV_STATUS_BUSY 0 ≠ 1 → s.safe = true → rcvLenOk s = true → s.fld F.RCV_ADDR 0
    + s.fld F.RCV_LEN 0 ≤ 0x8000000 → exec (.rcvRead q) s = .next (rcvBegin 1 0 (rcvShow s))) ∧
  (∀ (s : State) (q : Requester), works (.rcvRead q) s = true → s.fld F.RCV_STATUS_BUSY 0 ≠ 1 → (s.safe = false ∨ rcvLenOk s = false) → exec (.rcvRead
    q) s = .next (rcvBegin 1 1 s)) ∧
  (∀ (s : State) (q : Requester) (a n : Nat), works (.rcvProgram q) s = true → s.fld F.RCV_STATUS_BUSY 0 ≠ 1 → s.fld F.RCV_ADDR 0 = a → s.fld
    F.RCV_LEN 0 = n → rcvLenOk s = true → rcvMay a n s = true → a % 256 = 0 → n % 256 = 0 → exec (.rcvProgram q) s = .next (rcvBegin 2 0 (flashWrite a
    (rcvData n s) s))) ∧
  (∀ (s : State) (q : Requester) (a n : Nat), works (.rcvProgram q) s = true → s.fld F.RCV_STATUS_BUSY 0 ≠ 1 → s.fld F.RCV_ADDR 0 = a → s.fld
    F.RCV_LEN 0 = n → rcvLenOk s = true → rcvMay a n s = true → (a % 256 ≠ 0 ∨ n % 256 ≠ 0) → exec (.rcvProgram q) s = .next (rcvBegin 2 2 s)) ∧
  (∀ (s : State) (q : Requester), works (.rcvProgram q) s = true → s.fld F.RCV_STATUS_BUSY 0 ≠ 1 → (rcvLenOk s = false ∨ rcvMay (s.fld F.RCV_ADDR 0)
    (s.fld F.RCV_LEN 0) s = false) → exec (.rcvProgram q) s = .next (rcvBegin 2 1 s)) ∧
  (∀ (s : State) (q : Requester) (a : Nat), works (.rcvErase q) s = true → s.fld F.RCV_STATUS_BUSY 0 ≠ 1 → rcvLenOk s = true → s.fld F.RCV_ADDR 0 = a
    → rcvMay a 1 s = true → a % 65536 = 0 → exec (.rcvErase q) s = .next (rcvBegin 3 0 (s.withLdr
    { s.ldr with flash := s.ldr.flash.filter (fun e => decide (e.1 < a) || decide (a + 65536 ≤ e.1)), cut := s.ldr.cut.filter (fun c => decide (c.1 < a) || decide (a + 65536 ≤ c.1)) }))) ∧
  (∀ (s : State) (q : Requester) (a : Nat), works (.rcvErase q) s = true → s.fld F.RCV_STATUS_BUSY 0 ≠ 1 → rcvLenOk s = true → s.fld F.RCV_ADDR 0 = a
    → rcvMay a 1 s = true → a % 65536 ≠ 0 → exec (.rcvErase q) s = .next (rcvBegin 3 2 s)) ∧
  (∀ (s : State) (q : Requester), works (.rcvErase q) s = true → s.fld F.RCV_STATUS_BUSY 0 ≠ 1 → (rcvLenOk s = false ∨ rcvMay (s.fld F.RCV_ADDR 0) 1 s
    = false) → exec (.rcvErase q) s = .next (rcvBegin 3 1 s)) ∧
  (∀ (s : State) (q : Requester) (e : SlotEnd), works (.rcvCheck q) s = true → s.fld F.RCV_STATUS_BUSY 0 ≠ 1 → rcvLenOk s = true → s.safe = true →
    s.fld F.RCV_ADDR 0 = 0 → authSlot 0 s = .error e → exec (.rcvCheck q) s = .next (rcvBegin 4 4 (setSlotResult 0 e s))) ∧
  (∀ (s : State) (q : Requester) (recs : List Rec), works (.rcvCheck q) s = true → s.fld F.RCV_STATUS_BUSY 0 ≠ 1 → rcvLenOk s = true → s.safe = true →
    s.fld F.RCV_ADDR 0 = 0x3000000 → authSlot 1 s = .ok recs → exec (.rcvCheck q) s = .next (rcvBegin 4 0 (setSlotResult 1 (1, 0, 0) s))) ∧
  (∀ (s : State) (q : Requester), works (.rcvCheck q) s = true → s.fld F.RCV_STATUS_BUSY 0 ≠ 1 → (rcvLenOk s = false ∨ s.safe = false) → exec
    (.rcvCheck q) s = .next (rcvBegin 4 1 s)) ∧
  (∀ (s : State) (q : Requester), works (.rcvRestart q) s = true → s.fld F.RCV_STATUS_BUSY 0 ≠ 1 → s.safe = true → rcvLenOk s = true → exec
    (.rcvRestart q) s = .next (chipReset 4 s)) ∧
  (∀ (s : State) (q : Requester), works (.rcvRestart q) s = true → s.fld F.RCV_STATUS_BUSY 0 ≠ 1 → (rcvLenOk s = false ∨ s.safe = false) → exec
    (.rcvRestart q) s = .next (rcvBegin 5 1 s)) ∧
  (∀ (s : State) (r : RcvRun), works (.rcvCommandEnd false) s = true → s.ldr.rcvRun = some r → exec (.rcvCommandEnd false) s = .next ((setLevel 70
    false (s.setFlds [(F.RCV_STATUS_BUSY, 0, 0), (F.RCV_STATUS_RESULT, 0, s.ldr.rcvResult)])).withLdr { s.ldr with rcvRun := none, rcvResult := 0 })) ∧
  (∀ (s : State) (r : RcvRun), works (.rcvCommandEnd true) s = true → s.ldr.rcvRun = some r → s.ldr.rcvResult = 0 → r.op = 3 → exec (.rcvCommandEnd
    true) s = .next ((setLevel 70 false (s.setFlds [(F.RCV_STATUS_BUSY, 0, 0), (F.RCV_STATUS_RESULT, 0, 3)])).withLdr
    { cutFlash s.ldr with rcvResult := 0 })) ∧
  (∀ (s : State) (q : Requester) (key : Nat), works (.reload q key) s = true → key = 0xA5C3 → exec (.reload q key) s = .next (chipReset (if s.safe
    then 4 else 3) s)) ∧
  (∀ (s : State) (q : Requester) (key : Nat), works (.reload q key) s = true → key ≠ 0xA5C3 → exec (.reload q key) s = .next (s))

/-- The PCIe link, configuration and BAR2 requests, power states, function resets and link errors take effect. A request before LOAD gets Retry
Status; a request no function answers completes as unsupported; a Function Level Reset ends with interrupt source 69. (Rests on 18_host_interface.md
R446, R448, R449, R451, R463, R464, R465, R466, R471; 17_startup_image.md R426.) -/
def Obligations.HostLinkRowsComplete : Prop :=
  (∀ (s : State) (rate width : Nat), works (.pcieLinkUp rate width) s = true → 1 ≤ rate → rate ≤ 5 → [1, 2, 4, 8, 16].contains width = true → exec
    (.pcieLinkUp rate width) s = .next (raiseSrc 64 (s.setFlds [(F.LINK_STATUS_UP, 0, 1), (F.LINK_STATUS_RATE, 0, rate), (F.LINK_STATUS_WIDTH, 0,
    width), (F.LINK_STATUS_L1, 0, 0)]))) ∧
  (∀ (s s1 : State), works .pcieLinkDown s = true → s.setFlds [(F.LINK_STATUS_UP, 0, 0), (F.LINK_STATUS_RATE, 0, 0), (F.LINK_STATUS_WIDTH, 0, 0),
    (F.LINK_STATUS_L1, 0, 0)] = s1 → exec .pcieLinkDown s = .next (raiseSrc 64 (raiseFault 29 4 0 (flrFunction 1 (flrFunction 0 (s1.withHif
    { s1.hif with tlpWait := [], dmaWait := [] })))))) ∧
  (∀ (s : State) (f d : Nat), works (.configurationRequest f (.read d)) s = true → f < 2 → s.fld F.LINK_STATUS_UP 0 ≠ 0 → s.hif.enumerated = true →
    exec (.configurationRequest f (.read d)) s = .next (setOut (funcReq f) (configRead f d s) (complete 0 false s))) ∧
  (∀ (s : State) (f : Nat) (c : CfgCap) (w : Nat), works (.configurationRequest f (.capability c w)) s = true → f < 2 → s.fld F.LINK_STATUS_UP 0 ≠ 0 →
    s.hif.enumerated = true → exec (.configurationRequest f (.capability c w)) s = .next (setOut (funcReq f) (capRead f c w s) (complete 0 false s))) ∧
  (∀ (s : State) (f n v : Nat), works (.configurationRequest f (.bar n v)) s = true → f < 2 → s.fld F.LINK_STATUS_UP 0 ≠ 0 → s.hif.enumerated = true →
    exec (.configurationRequest f (.bar n v)) s = .next (configWrite f (.bar n v) (complete 0 false s))) ∧
  (∀ (s : State) (f : Nat) (r : CfgReq), works (.configurationRequest f r) s = true → f < 2 → s.fld F.LINK_STATUS_UP 0 ≠ 0 → s.hif.enumerated = false
    → s.safe = false → exec (.configurationRequest f r) s = .next (complete 2 false s)) ∧
  (∀ (s : State) (o n : Nat) (ue : Bool) (a : Nat), works (.bar2Read o n ue) s = true → bar2Up s = true → bar2Addr o s = a → exec (.bar2Read o n ue) s
    = .next (dramRequests 2 false a (min n 8) (setOut .pf0 (leNat (hbmRead s a (min n 8))) (complete 0 (ue || (List.range (min n 8)).any (fun k =>
    s.fld F.CH_STATUS_STATE (dramChan (a + k)) == 4)) s)))) ∧
  (∀ (s : State) (o n : Nat) (ue : Bool), works (.bar2Read o n ue) s = true → bar2Up s = false → exec (.bar2Read o n ue) s = .next (memRefused 0 s)) ∧
  (∀ (s : State) (o : Nat) (bs : List Byte) (a : Nat), works (.bar2Write o bs) s = true → bar2Up s = true → bar2Addr o s = a → exec (.bar2Write o bs)
    s = .next (bar2Put a bs (complete 0 false s))) ∧
  (∀ (s : State) (o : Nat) (bs : List Byte), works (.bar2Write o bs) s = true → bar2Up s = false → exec (.bar2Write o bs) s = .next (memRefused 0 s)) ∧
  (∀ (s : State) (q : Requester) (v : Nat), works (.pf1WinWrite q v) s = true → q ≠ .pf1 → exec (.pf1WinWrite q v) s = .next (s.setFld F.PF1_WIN 0 v)) ∧
  (∀ (s : State) (v : Nat), answers .pf1 .PF1_WIN 0 s = true → exec (.pf1WinWrite .pf1 v) s = .next (s.setFld F.PF1_WIN 0 v)) ∧
  (∀ (s : State) (f v lo hi data : Nat) (mask : Bool) (h : HifSt), works (.msixUnmask f v lo hi data mask) s = true → f < 2 → v < vectorCount f →
    answersMem f s = true → s.safe = false →
    { s.hif with msixWord := tset 0 (tset 0 (tset 0 s.hif.msixWord (4 * (f * 128 + v)) (lo % 2 ^ 32)) (4 * (f * 128 + v) + 1) (hi % 2 ^ 32)) (4 * (f * 128 + v) + 2) (data % 2 ^ 32), msixUnmasked := tset false s.hif.msixUnmasked (f * 128 + v) (!mask) }
    = h → exec (.msixUnmask f v lo hi data mask) s = .next (flushVector f v (s.withHif h))) ∧
  (∀ (s : State), works .l1Entry s = true → s.fld F.LINK_STATUS_UP 0 = 1 → s.fld F.LINK_STATUS_L1 0 = 0 → s.hif.tlpWait = [] → s.hif.aspmL1 = true →
    exec .l1Entry s = .next (s.setFld F.LINK_STATUS_L1 0 1)) ∧
  (∀ (s s1 : State), works .l1Exit s = true → s.fld F.LINK_STATUS_L1 0 ≠ 0 → s.setFld F.LINK_STATUS_L1 0 0 = s1 → exec .l1Exit s = .next
    (s.hif.tlpWait.foldl (fun s k => sendTlp k s) (s1.withHif
    { s1.hif with tlpWait := [], dmaWait := [], hostWrites := if s.hif.dmaWait.isEmpty then s1.hif.hostWrites else s.hif.dmaWait }))) ∧
  (∀ (s : State) (f : Nat) (en clear : Bool), works (.d3hotEntry f en clear) s = true → f < 2 → funcAnswers f s = true → exec (.d3hotEntry f en clear)
    s = .next (setD f 3 (configWrite f (.pme en clear) s))) ∧
  (∀ (s : State) (f : Nat) (en clear : Bool), works (.d0Entry f en clear) s = true → f < 2 → funcAnswers f s = true → exec (.d0Entry f en clear) s =
    .next (flushVectors f (setD f 0 (configWrite f (.pme en clear) s)))) ∧
  (∀ (s : State) (f : Nat), works (.pmeRepeat f) s = true → f < 2 → tget false s.hif.pmeStatus f = true → exec (.pmeRepeat f) s = .next (sendPme s)) ∧
  (∀ (s : State) (f : Nat), works (.functionLevelReset f) s = true → f < 2 → funcAnswers f s = true → exec (.functionLevelReset f) s = .next
    (flrFunction f s)) ∧
  (∀ (s : State) (f : Nat), works (.flrDone f) s = true → f < 2 → tget false s.hif.flr f = true → exec (.flrDone f) s = .next (raiseSrc 69 (s.withHif
    { s.hif with flr := tset false s.hif.flr f false }))) ∧
  (∀ (s : State) (r : Nat), works (.completionTimeout r) s = true → r < 146 → exec (.completionTimeout r) s = .next (ringError r 3 (aerLog (ringFunc r
    s) 4 true s))) ∧
  (∀ (s : State) (r : Nat), works (.completionStatusError r) s = true → r < 146 → exec (.completionStatusError r) s = .next (ringError r 4 s)) ∧
  (∀ (s : State) (f : Nat), works (.tlpError f (.correctable)) s = true → f < 2 → exec (.tlpError f (.correctable)) s = .next (aerLog f 0 false s)) ∧
  (∀ (s : State) (f : Nat), works (.tlpError f (.poisonedWrite)) s = true → f < 2 → exec (.tlpError f (.poisonedWrite)) s = .next (aerLog f 1 true s)) ∧
  (∀ (s : State) (f : Nat), works (.tlpError f (.ecrc)) s = true → f < 2 → exec (.tlpError f (.ecrc)) s = .next (aerLog f 2 true s)) ∧
  (∀ (s : State) (f : Nat), works (.tlpError f (.unsupported)) s = true → f < 2 → exec (.tlpError f (.unsupported)) s = .next (complete 1 false
    (aerLog f 3 true s))) ∧
  (∀ (s : State) (f : Nat), works (.tlpError f (.unexpectedCompletion)) s = true → f < 2 → exec (.tlpError f (.unexpectedCompletion)) s = .next
    (aerLog f 5 true s)) ∧
  (∀ (s : State) (f : Nat), works (.tlpError f (.fatal)) s = true → f < 2 → exec (.tlpError f (.fatal)) s = .next (pcieLinkDown (aerLog f 6 true s)))

/-- Rings take their tails, start, stop, receive and transmit frames, and the mailbox takes requests. A bad receive descriptor stops its ring with
cause 1; a bad transmit frame is written back without being sent; a request of a wrong length is malformed. (Rests on 18_host_interface.md R454, R455,
R456, R457, R458, R459, R462, R467, R469, R470.) -/
def Obligations.HostRingRowsComplete : Prop :=
  (∀ (s : State) (r : Nat) (descs : List (List Byte)) (h : HostRx) (parts : List (Nat × List Byte)) (s1 : State), works (.receiveDmaComplete r descs)
    s = true → s.dp.hostRx.find? (fun h => h.ring == r) = some h → s.fld F.LINK_STATUS_L1 0 ≠ 1 → funcUp (ringFunc r s) s = true → fillDescs
    (descs.take h.need) h.bytes = some parts → (s.setFld F.RING_HEAD r ((s.fld F.RING_HEAD r + parts.length) % ringSize r s)).addWrap F.RING_FRAMES r
    1 = s1 → exec (.receiveDmaComplete r descs) s = .next (ringComplete r (settle h.copy.frame (postWrites (ringFunc r s) (rxWrites r h parts s)
    { s1 with dp := { s1.dp with hostRx := s1.dp.hostRx.filter (fun x => x.copy.id != h.copy.id) } })))) ∧
  (∀ (s : State) (r : Nat) (descs : List (List Byte)) (h : HostRx), works (.receiveDmaComplete r descs) s = true → s.dp.hostRx.find? (fun h => h.ring
    == r) = some h → s.fld F.LINK_STATUS_L1 0 ≠ 1 → funcUp (ringFunc r s) s = true → fillDescs (descs.take h.need) h.bytes = none → exec
    (.receiveDmaComplete r descs) s = .next (ringError r 1 s)) ∧
  (∀ (s : State) (f : Nat) (descs : List (List Byte)) (data : List Byte) (ue : Option Nat) (r : Nat) (h : HostTx) (s0 : State), works
    (.transmitFrameFetch f descs data ue) s = true → txPick s = some r → s.runs = true → s.fld F.LINK_STATUS_L1 0 ≠ 1 → frameAt f s = none →
    descs.isEmpty = false → data.length = descs.foldl (fun a d => a + leNat (slice d 8 2)) 0 → txInFlight r s + descs.length ≤ ringPosted r s →
    { ring := r, descs := (List.range descs.length).map (fun i => ringAddr r (s.fld F.RING_HEAD r + txInFlight r s + i) s), frame := f } = h →
    s.withHif { s.hif with txLast := r - 64 } = s0 → txFrameOk descs data s = false → exec (.transmitFrameFetch f descs data ue) s = .next (s0.withHif
    { s0.hif with txDone := s0.hif.txDone ++ [{ h with bad := true }] })) ∧
  (∀ (s : State) (f : Nat) (descs : List (List Byte)) (data : List Byte) (ue : Option Nat) (r : Nat) (h : HostTx) (s0 : State) (x : State × Frame) (mk
    n : State × List Copy) (a : State × Bool), works (.transmitFrameFetch f descs data ue) s = true → txPick s = some r → s.runs = true → s.fld
    F.LINK_STATUS_L1 0 ≠ 1 → frameAt f s = none → descs.isEmpty = false → data.length = descs.foldl (fun a d => a + leNat (slice d 8 2)) 0 →
    txInFlight r s + descs.length ≤ ringPosted r s →
    { ring := r, descs := (List.range descs.length).map (fun i => ringAddr r (s.fld F.RING_HEAD r + txInFlight r s + i) s), frame := f } = h →
    s.withHif { s.hif with txLast := r - 64 } = s0 → txFrameOk descs data s = true → bitsOf (leNat (slice (descs.headD []) 12 2)) 15 1 = 0 →
    injectFrame f 512 data { queue := leNat (slice (descs.headD []) 11 1), dest := .port (bitsOf (leNat (slice (descs.headD []) 12 2)) 0 14) } (some
    (leNat (slice (descs.headD []) 14 1))) s0 = x → makeCopies f x.2 ue x.1 = mk → numberCopies mk.2 mk.1 = n → admitAll false true (n.2.map (fun c =>
    finishCopy x.2 x.2.tIn c n.1)) n.1 = a → exec (.transmitFrameFetch f descs data ue) s = .next (settle f (countTruncated f (data.length + 4)
    (a.1.withHif { a.1.hif with txDone := a.1.hif.txDone ++ [{ h with refused := a.2 }] })))) ∧
  (∀ (s : State) (r : Nat) (h : HostTx) (s2 : State), works (.transmitWriteback r) s = true → s.hif.txDone.find? (fun t => t.ring == r) = some h →
    s.fld F.LINK_STATUS_L1 0 ≠ 1 → s.dp.held.any (fun c => c.frame == h.frame && !h.bad) = false → h.bad = false → h.refused = false → (s.setFld
    F.RING_HEAD r ((s.fld F.RING_HEAD r + h.descs.length) % ringSize r s)).addWrap F.RING_FRAMES r 1 = s2 → exec (.transmitWriteback r) s = .next
    (ringComplete r (postWrites 0 (h.descs.zipIdx.map (fun x => (x.1 + 10, toLe 1 (if x.2 = h.descs.length - 1 then 0xC0 + 1 else 0x80)))) (s2.withHif
    { s2.hif with txDone := dropFirst (fun x : HostTx => x.ring == r) s2.hif.txDone })))) ∧
  (∀ (s : State) (q : Requester) (r v : Nat), works (.ringTailWrite q r v) s = true → r < 146 → q ≠ .pf1 → exec (.ringTailWrite q r v) s = .next
    (ringTailPut r (v % 65536) s)) ∧
  (∀ (s : State) (r v : Nat), r < 146 → answers .pf1 .RING_TAIL r s = true → pf1Ring r s = true → exec (.ringTailWrite .pf1 r v) s = .next
    (ringTailPut r (v % 65536) s)) ∧
  (∀ (s : State) (q : Requester) (r w : Nat) (s1 s2 : State), works (.ringEnable q r w) s = true → r < 146 → q ≠ .pf1 → s.fld F.RING_CFG_EN r ≠ 1 →
    ringCfgPut r w s = s1 → s1.setFlds [(F.RING_CFG_EN, r, 1), (F.RING_CFG_STOPPED, r, 0), (F.ERR_CAUSE, r, 0), (F.RING_HEAD, r, s1.fld F.RING_TAIL
    r)] = s2 → isEventRing r = false → exec (.ringEnable q r w) s = .next (s2.withHif { s2.hif with stopping := tset false s2.hif.stopping r false })) ∧
  (∀ (s : State) (q : Requester) (r w : Nat) (s1 : State), works (.ringDisable q r w) s = true → r < 146 → q ≠ .pf1 → s.fld F.RING_CFG_EN r = 1 →
    ringCfgPut r w s = s1 → exec (.ringDisable q r w) s = .next ((s1.setFld F.RING_CFG_EN r 0).withHif
    { s1.hif with stopping := tset false s1.hif.stopping r true })) ∧
  (∀ (s : State) (r : Nat), works (.ringStopped r) s = true → tget false s.hif.stopping r = true → ringBusy r s = false → exec (.ringStopped r) s =
    .next ((s.setFld F.RING_CFG_STOPPED r 1).withHif { s.hif with stopping := tset false s.hif.stopping r false })) ∧
  (∀ (s : State) (r : Nat), works (.moderationTimerExpiry r) s = true → tget false s.hif.ringTimer r = true → 0 < tget 0 s.hif.ringPend r → exec
    (.moderationTimerExpiry r) s = .next (ringSignal r s)) ∧
  (∀ (s : State) (q : Requester) (len : Nat), works (.mbxSubmit q len) s = true → s.fld F.MBX_STATUS_STATE 0 ≠ 1 → s.fld F.MBX_STATUS_STATE 0 ≠ 2 → 8
    ≤ len → len ≤ 4096 → len % 8 = 0 → s.safe = false → inUnitReset 0 s = false → exec (.mbxSubmit q len) s = .next (setLevel 68 true ((s.setFlds
    [(F.MBX_STATUS_STATE, 0, 1)]).withHif { s.hif with mbxLen := len, mbxHost := q == .pf0 }))) ∧
  (∀ (s : State) (q : Requester) (len : Nat), works (.mbxSubmit q len) s = true → s.fld F.MBX_STATUS_STATE 0 ≠ 1 → s.fld F.MBX_STATUS_STATE 0 ≠ 2 →
    (len < 8 ∨ 4096 < len ∨ len % 8 ≠ 0) → exec (.mbxSubmit q len) s = .next (mbxDone 2 1 0 s)) ∧
  (∀ (s : State) (x : State × Nat × Nat × Nat), works (.mbxRequestTake false) s = true → mbxUp s = true → s.fld F.MBX_STATUS_STATE 0 = 1 → mbxServe
    ((List.range (s.hif.mbxLen / 4)).flatMap (fun w => toLe 4 (s.fld F.MBX_REQ w))) s = x → exec (.mbxRequestTake false) s = .next (mbxDone x.2.1
    x.2.2.1 x.2.2.2 x.1)) ∧
  (∀ (s : State), works (.mbxRequestTake true) s = true → mbxUp s = true → exec (.mbxRequestTake true) s = .next (mbxTakeChannel s))

/-- SMBus and JTAG access registers, the challenge unlocks JTAG, fuses are read and programmed, and boundary scan takes the pins. The data of an SMBus
read is kept until it is ready; the value returned before that is a free value. Three failed unlock attempts lock out; a fuse word that is not blank
is not programmed. (Rests on 19_register_map.md R475, R476, R483, R484; 20_electrical_package.md R494; notes/assumptions/30.md;
notes/assumptions/132.md.) -/
def Obligations.SidebandAndFuseRowsComplete : Prop :=
  (∀ (s : State) (o a : Nat) (s1 : State), works (.smbusReadStart true o) s = true → s.ldr.held = false → reach .smbus o s = some a → linkWaits a s =
    false → readAt .smbus a s = s1 → exec (.smbusReadStart true o) s = .next (setOut .smbus (outOf .smbus s) (s1.withLdr
    { s1.ldr with smbRead := some (outOf .smbus s1), smbData := none }))) ∧
  (∀ (s : State) (o a : Nat), works (.smbusReadStart true o) s = true → s.ldr.held = false → reach .smbus o s = some a → linkWaits a s = true → exec
    (.smbusReadStart true o) s = .next (sidePut { req := .smbus, off := a } (s.withLdr { s.ldr with smbRead := none, smbData := none }))) ∧
  (∀ (s : State) (o : Nat), works (.smbusReadStart true o) s = true → s.ldr.held = false → reach .smbus o s = none → exec (.smbusReadStart true o) s =
    .next (s.withLdr { s.ldr with smbRead := some 0, smbData := none })) ∧
  (∀ (s : State) (o : Nat), works (.smbusReadStart false o) s = true → exec (.smbusReadStart false o) s = .next (s)) ∧
  (∀ (s : State) (v : Nat), works .smbusReadReady s = true → s.ldr.smbRead = some v → exec .smbusReadReady s = .next (s.withLdr
    { s.ldr with smbRead := none, smbData := some v })) ∧
  (∀ (s : State) (v : Nat), works .smbusBlockRead s = true → s.ldr.held = false → s.ldr.smbData = some v → exec .smbusBlockRead s = .next (setOut
    .smbus (v * 256) s)) ∧
  (∀ (s : State) (n : Nat), works .smbusBlockRead s = true → s.ldr.held = false → s.ldr.smbData = none → s.dp.fresh = n → exec .smbusBlockRead s =
    .next (setOut .smbus (1 + (Config.staleData n).toNat * 256) { s with dp := { s.dp with fresh := n + 1 } })) ∧
  (∀ (s : State) (o v : Nat), works (.smbusWrite true o v) s = true → s.ldr.held = false → exec (.smbusWrite true o v) s = .next (regWrite .smbus o v
    s)) ∧
  (∀ (s : State) (o v : Nat), works (.smbusWrite false o v) s = true → exec (.smbusWrite false o v) s = .next (s)) ∧
  (∀ (s : State), works .smbusAlertResponse s = true → s.ldr.held = false → exec .smbusAlertResponse s = .next (setOut .smbus 0x5C s)) ∧
  (∀ (s : State) (o v : Nat), works (.jtagRegisterAccess o (some v)) s = true → exec (.jtagRegisterAccess o (some v)) s = .next (regWrite .jtag (o % 2
    ^ 26) v s)) ∧
  (∀ (s : State) (o : Nat), works (.jtagRegisterAccess o (none)) s = true → exec (.jtagRegisterAccess o (none)) s = .next (regRead .jtag (o % 2 ^ 26)
    s)) ∧
  (∀ (s : State) (v : Nat) (s1 : State), answers .jtag .JTAG_RESPONSE 3 s = true → s.setFld F.JTAG_RESPONSE 3 v = s1 → exec (.jtagResponseSubmit .jtag
    v) s = .next (s1.withLdr { s1.ldr with jtagTry := true })) ∧
  (∀ (s s1 : State), works .jtagUnlockResult s = true → s.ldr.jtagTry = true → s.fld F.JTAG_STATUS_DISABLED 0 ≠ 1 → s.fld F.JTAG_STATUS_LOCKOUT 0 ≠ 1
    → unlockMatches s = true → s.withLdr { s.ldr with jtagTry := false } = s1 → exec .jtagUnlockResult s = .next (s1.setFld F.JTAG_STATUS_UNLOCKED 0
    1)) ∧
  (∀ (s s1 : State), works .jtagUnlockResult s = true → s.ldr.jtagTry = true → s.fld F.JTAG_STATUS_DISABLED 0 ≠ 1 → s.fld F.JTAG_STATUS_LOCKOUT 0 ≠ 1
    → unlockMatches s = false → s.fld F.JTAG_STATUS_FAILS 0 ≤ 1 → s.withLdr { s.ldr with jtagTry := false } = s1 → exec .jtagUnlockResult s = .next
    (drawChallenge (s1.setFld F.JTAG_STATUS_FAILS 0 (s.fld F.JTAG_STATUS_FAILS 0 + 1)))) ∧
  (∀ (s : State), works .jtagUnlockResult s = true → s.ldr.jtagTry = true → (s.fld F.JTAG_STATUS_DISABLED 0 = 1 ∨ s.fld F.JTAG_STATUS_LOCKOUT 0 = 1) →
    exec .jtagUnlockResult s = .next (s.withLdr { s.ldr with jtagTry := false })) ∧
  (∀ (s : State) (q : Requester) (key n : Nat), works (.otpRead q key) s = true → key = 0xB10C → s.fld F.LDR_STATUS_STATE 0 = 8 → s.fld
    F.OTP_STATUS_BUSY 0 ≠ 1 → s.fld F.OTP_ADDR 0 = n → exec (.otpRead q key) s = .next ((otpBegin 0 s).setFld F.OTP_DATA 0 (if hiddenWord n then 0
    else otpWord n s))) ∧
  (∀ (s : State) (q : Requester) (key : Nat), works (.otpRead q key) s = true → key ≠ 0xB10C → exec (.otpRead q key) s = .next (s)) ∧
  (∀ (s : State) (q : Requester) (key back n : Nat), works (.otpProgram q key back) s = true → key = 0xB10C → s.fld F.LDR_STATUS_STATE 0 = 8 → s.fld
    F.OTP_STATUS_BUSY 0 ≠ 1 → s.fld F.OTP_ADDR 0 = n → otpWord n s = 0 → s.fld F.OTP_DATA 0 ≠ 0 → factoryWord n = false → back % 2 ^ 32 = s.fld
    F.OTP_DATA 0 → exec (.otpProgram q key back) s = .next (otpBegin 0 (s.withLdr { s.ldr with otp := tset 0 s.ldr.otp n (back % 2 ^ 32) }))) ∧
  (∀ (s : State) (q : Requester) (key back n : Nat), works (.otpProgram q key back) s = true → key = 0xB10C → s.fld F.LDR_STATUS_STATE 0 = 8 → s.fld
    F.OTP_STATUS_BUSY 0 ≠ 1 → s.fld F.OTP_ADDR 0 = n → otpWord n s = 0 → s.fld F.OTP_DATA 0 ≠ 0 → factoryWord n = false → back % 2 ^ 32 ≠ s.fld
    F.OTP_DATA 0 → exec (.otpProgram q key back) s = .next (otpBegin 2 (s.withLdr { s.ldr with otp := tset 0 s.ldr.otp n (back % 2 ^ 32) }))) ∧
  (∀ (s : State) (q : Requester) (key back : Nat), works (.otpProgram q key back) s = true → key = 0xB10C → s.fld F.LDR_STATUS_STATE 0 = 8 → s.fld
    F.OTP_STATUS_BUSY 0 ≠ 1 → (otpWord (s.fld F.OTP_ADDR 0) s ≠ 0 ∨ s.fld F.OTP_DATA 0 = 0 ∨ factoryWord (s.fld F.OTP_ADDR 0) = true) → exec
    (.otpProgram q key back) s = .next (otpBegin 1 s)) ∧
  (∀ (s : State) (r : Nat), works .otpCommandEnd s = true → s.ldr.otpRun = some r → exec .otpCommandEnd s = .next ((s.setFlds [(F.OTP_STATUS_BUSY, 0,
    0), (F.OTP_STATUS_RESULT, 0, r)]).withLdr { s.ldr with otpRun := none })) ∧
  (∀ (s : State) (pins : List (Pin × Bool)), works (.boundaryScanInstruction pins) s = true → tapUp s = true → exec (.boundaryScanInstruction pins) s
    = .next (s.withLdr { s.ldr with scan := pins })) ∧
  (∀ (s : State), works .trstNAssert s = true → exec .trstNAssert s = .next (s.withLdr { s.ldr with scan := [] }))
end

