-- ==== Sys2Proof/Laws/State.lean ====
section
/-! SUPPORT. One law per field of State and update of State, each true by rfl: what an update leaves alone and what it sets. -/

namespace Sys2Proof.Machine

/-! ### State.withLdr -/

@[simp] theorem State.withLdr_pending (s : State) (l : LdrSt) : (s.withLdr l).pending = s.pending := by rfl
@[simp] theorem State.withLdr_regs (s : State) (l : LdrSt) : (s.withLdr l).regs = s.regs := by rfl
@[simp] theorem State.withLdr_work (s : State) (l : LdrSt) : (s.withLdr l).work = s.work := by rfl
@[simp] theorem State.withLdr_tb (s : State) (l : LdrSt) : (s.withLdr l).tb = s.tb := by rfl
@[simp] theorem State.withLdr_dp (s : State) (l : LdrSt) : (s.withLdr l).dp = s.dp := by rfl
@[simp] theorem State.withLdr_flt (s : State) (l : LdrSt) : (s.withLdr l).flt = s.flt := by rfl
@[simp] theorem State.withLdr_pln (s : State) (l : LdrSt) : (s.withLdr l).pln = s.pln := by rfl
@[simp] theorem State.withLdr_time (s : State) (l : LdrSt) : (s.withLdr l).time = s.time := by rfl
@[simp] theorem State.withLdr_tel (s : State) (l : LdrSt) : (s.withLdr l).tel = s.tel := by rfl
@[simp] theorem State.withLdr_hbm (s : State) (l : LdrSt) : (s.withLdr l).hbm = s.hbm := by rfl
@[simp] theorem State.withLdr_sram (s : State) (l : LdrSt) : (s.withLdr l).sram = s.sram := by rfl
@[simp] theorem State.withLdr_intc (s : State) (l : LdrSt) : (s.withLdr l).intc = s.intc := by rfl
@[simp] theorem State.withLdr_me (s : State) (l : LdrSt) : (s.withLdr l).me = s.me := by rfl
@[simp] theorem State.withLdr_dram (s : State) (l : LdrSt) : (s.withLdr l).dram = s.dram := by rfl
@[simp] theorem State.withLdr_hif (s : State) (l : LdrSt) : (s.withLdr l).hif = s.hif := by rfl
@[simp] theorem State.withLdr_ldr (s : State) (l : LdrSt) : (s.withLdr l).ldr = l := by rfl
@[simp] theorem State.withLdr_events (s : State) (l : LdrSt) : (s.withLdr l).events = s.events := by rfl
@[simp] theorem State.withLdr_latch (s : State) (l : LdrSt) : (s.withLdr l).latch = s.latch := by rfl
@[simp] theorem State.withLdr_readOut (s : State) (l : LdrSt) : (s.withLdr l).readOut = s.readOut := by rfl

/-! ### State.withDram -/

@[simp] theorem State.withDram_pending (s : State) (d : DramSt) : (s.withDram d).pending = s.pending := by rfl
@[simp] theorem State.withDram_regs (s : State) (d : DramSt) : (s.withDram d).regs = s.regs := by rfl
@[simp] theorem State.withDram_work (s : State) (d : DramSt) : (s.withDram d).work = s.work := by rfl
@[simp] theorem State.withDram_tb (s : State) (d : DramSt) : (s.withDram d).tb = s.tb := by rfl
@[simp] theorem State.withDram_dp (s : State) (d : DramSt) : (s.withDram d).dp = s.dp := by rfl
@[simp] theorem State.withDram_flt (s : State) (d : DramSt) : (s.withDram d).flt = s.flt := by rfl
@[simp] theorem State.withDram_pln (s : State) (d : DramSt) : (s.withDram d).pln = s.pln := by rfl
@[simp] theorem State.withDram_time (s : State) (d : DramSt) : (s.withDram d).time = s.time := by rfl
@[simp] theorem State.withDram_tel (s : State) (d : DramSt) : (s.withDram d).tel = s.tel := by rfl
@[simp] theorem State.withDram_hbm (s : State) (d : DramSt) : (s.withDram d).hbm = s.hbm := by rfl
@[simp] theorem State.withDram_sram (s : State) (d : DramSt) : (s.withDram d).sram = s.sram := by rfl
@[simp] theorem State.withDram_intc (s : State) (d : DramSt) : (s.withDram d).intc = s.intc := by rfl
@[simp] theorem State.withDram_me (s : State) (d : DramSt) : (s.withDram d).me = s.me := by rfl
@[simp] theorem State.withDram_dram (s : State) (d : DramSt) : (s.withDram d).dram = d := by rfl
@[simp] theorem State.withDram_hif (s : State) (d : DramSt) : (s.withDram d).hif = s.hif := by rfl
@[simp] theorem State.withDram_ldr (s : State) (d : DramSt) : (s.withDram d).ldr = s.ldr := by rfl
@[simp] theorem State.withDram_events (s : State) (d : DramSt) : (s.withDram d).events = s.events := by rfl
@[simp] theorem State.withDram_latch (s : State) (d : DramSt) : (s.withDram d).latch = s.latch := by rfl
@[simp] theorem State.withDram_readOut (s : State) (d : DramSt) : (s.withDram d).readOut = s.readOut := by rfl

/-! ### State.withHif -/

@[simp] theorem State.withHif_pending (s : State) (h : HifSt) : (s.withHif h).pending = s.pending := by rfl
@[simp] theorem State.withHif_regs (s : State) (h : HifSt) : (s.withHif h).regs = s.regs := by rfl
@[simp] theorem State.withHif_work (s : State) (h : HifSt) : (s.withHif h).work = s.work := by rfl
@[simp] theorem State.withHif_tb (s : State) (h : HifSt) : (s.withHif h).tb = s.tb := by rfl
@[simp] theorem State.withHif_dp (s : State) (h : HifSt) : (s.withHif h).dp = s.dp := by rfl
@[simp] theorem State.withHif_flt (s : State) (h : HifSt) : (s.withHif h).flt = s.flt := by rfl
@[simp] theorem State.withHif_pln (s : State) (h : HifSt) : (s.withHif h).pln = s.pln := by rfl
@[simp] theorem State.withHif_time (s : State) (h : HifSt) : (s.withHif h).time = s.time := by rfl
@[simp] theorem State.withHif_tel (s : State) (h : HifSt) : (s.withHif h).tel = s.tel := by rfl
@[simp] theorem State.withHif_hbm (s : State) (h : HifSt) : (s.withHif h).hbm = s.hbm := by rfl
@[simp] theorem State.withHif_sram (s : State) (h : HifSt) : (s.withHif h).sram = s.sram := by rfl
@[simp] theorem State.withHif_intc (s : State) (h : HifSt) : (s.withHif h).intc = s.intc := by rfl
@[simp] theorem State.withHif_me (s : State) (h : HifSt) : (s.withHif h).me = s.me := by rfl
@[simp] theorem State.withHif_dram (s : State) (h : HifSt) : (s.withHif h).dram = s.dram := by rfl
@[simp] theorem State.withHif_hif (s : State) (h : HifSt) : (s.withHif h).hif = h := by rfl
@[simp] theorem State.withHif_ldr (s : State) (h : HifSt) : (s.withHif h).ldr = s.ldr := by rfl
@[simp] theorem State.withHif_events (s : State) (h : HifSt) : (s.withHif h).events = s.events := by rfl
@[simp] theorem State.withHif_latch (s : State) (h : HifSt) : (s.withHif h).latch = s.latch := by rfl
@[simp] theorem State.withHif_readOut (s : State) (h : HifSt) : (s.withHif h).readOut = s.readOut := by rfl

/-! ### State.withPln -/

@[simp] theorem State.withPln_pending (s : State) (p : PlnSt) : (s.withPln p).pending = s.pending := by rfl
@[simp] theorem State.withPln_regs (s : State) (p : PlnSt) : (s.withPln p).regs = s.regs := by rfl
@[simp] theorem State.withPln_work (s : State) (p : PlnSt) : (s.withPln p).work = s.work := by rfl
@[simp] theorem State.withPln_tb (s : State) (p : PlnSt) : (s.withPln p).tb = s.tb := by rfl
@[simp] theorem State.withPln_dp (s : State) (p : PlnSt) : (s.withPln p).dp = s.dp := by rfl
@[simp] theorem State.withPln_flt (s : State) (p : PlnSt) : (s.withPln p).flt = s.flt := by rfl
@[simp] theorem State.withPln_pln (s : State) (p : PlnSt) : (s.withPln p).pln = p := by rfl
@[simp] theorem State.withPln_time (s : State) (p : PlnSt) : (s.withPln p).time = s.time := by rfl
@[simp] theorem State.withPln_tel (s : State) (p : PlnSt) : (s.withPln p).tel = s.tel := by rfl
@[simp] theorem State.withPln_hbm (s : State) (p : PlnSt) : (s.withPln p).hbm = s.hbm := by rfl
@[simp] theorem State.withPln_sram (s : State) (p : PlnSt) : (s.withPln p).sram = s.sram := by rfl
@[simp] theorem State.withPln_intc (s : State) (p : PlnSt) : (s.withPln p).intc = s.intc := by rfl
@[simp] theorem State.withPln_me (s : State) (p : PlnSt) : (s.withPln p).me = s.me := by rfl
@[simp] theorem State.withPln_dram (s : State) (p : PlnSt) : (s.withPln p).dram = s.dram := by rfl
@[simp] theorem State.withPln_hif (s : State) (p : PlnSt) : (s.withPln p).hif = s.hif := by rfl
@[simp] theorem State.withPln_ldr (s : State) (p : PlnSt) : (s.withPln p).ldr = s.ldr := by rfl
@[simp] theorem State.withPln_events (s : State) (p : PlnSt) : (s.withPln p).events = s.events := by rfl
@[simp] theorem State.withPln_latch (s : State) (p : PlnSt) : (s.withPln p).latch = s.latch := by rfl
@[simp] theorem State.withPln_readOut (s : State) (p : PlnSt) : (s.withPln p).readOut = s.readOut := by rfl

/-! ### State.withMe -/

@[simp] theorem State.withMe_pending (s : State) (m : MeSt) : (s.withMe m).pending = s.pending := by rfl
@[simp] theorem State.withMe_regs (s : State) (m : MeSt) : (s.withMe m).regs = s.regs := by rfl
@[simp] theorem State.withMe_work (s : State) (m : MeSt) : (s.withMe m).work = s.work := by rfl
@[simp] theorem State.withMe_tb (s : State) (m : MeSt) : (s.withMe m).tb = s.tb := by rfl
@[simp] theorem State.withMe_dp (s : State) (m : MeSt) : (s.withMe m).dp = s.dp := by rfl
@[simp] theorem State.withMe_flt (s : State) (m : MeSt) : (s.withMe m).flt = s.flt := by rfl
@[simp] theorem State.withMe_pln (s : State) (m : MeSt) : (s.withMe m).pln = s.pln := by rfl
@[simp] theorem State.withMe_time (s : State) (m : MeSt) : (s.withMe m).time = s.time := by rfl
@[simp] theorem State.withMe_tel (s : State) (m : MeSt) : (s.withMe m).tel = s.tel := by rfl
@[simp] theorem State.withMe_hbm (s : State) (m : MeSt) : (s.withMe m).hbm = s.hbm := by rfl
@[simp] theorem State.withMe_sram (s : State) (m : MeSt) : (s.withMe m).sram = s.sram := by rfl
@[simp] theorem State.withMe_intc (s : State) (m : MeSt) : (s.withMe m).intc = s.intc := by rfl
@[simp] theorem State.withMe_me (s : State) (m : MeSt) : (s.withMe m).me = m := by rfl
@[simp] theorem State.withMe_dram (s : State) (m : MeSt) : (s.withMe m).dram = s.dram := by rfl
@[simp] theorem State.withMe_hif (s : State) (m : MeSt) : (s.withMe m).hif = s.hif := by rfl
@[simp] theorem State.withMe_ldr (s : State) (m : MeSt) : (s.withMe m).ldr = s.ldr := by rfl
@[simp] theorem State.withMe_events (s : State) (m : MeSt) : (s.withMe m).events = s.events := by rfl
@[simp] theorem State.withMe_latch (s : State) (m : MeSt) : (s.withMe m).latch = s.latch := by rfl
@[simp] theorem State.withMe_readOut (s : State) (m : MeSt) : (s.withMe m).readOut = s.readOut := by rfl

/-! ### State.withTime -/

@[simp] theorem State.withTime_pending (s : State) (x : TimeSt) : (s.withTime x).pending = s.pending := by rfl
@[simp] theorem State.withTime_regs (s : State) (x : TimeSt) : (s.withTime x).regs = s.regs := by rfl
@[simp] theorem State.withTime_work (s : State) (x : TimeSt) : (s.withTime x).work = s.work := by rfl
@[simp] theorem State.withTime_tb (s : State) (x : TimeSt) : (s.withTime x).tb = s.tb := by rfl
@[simp] theorem State.withTime_dp (s : State) (x : TimeSt) : (s.withTime x).dp = s.dp := by rfl
@[simp] theorem State.withTime_flt (s : State) (x : TimeSt) : (s.withTime x).flt = s.flt := by rfl
@[simp] theorem State.withTime_pln (s : State) (x : TimeSt) : (s.withTime x).pln = s.pln := by rfl
@[simp] theorem State.withTime_time (s : State) (x : TimeSt) : (s.withTime x).time = x := by rfl
@[simp] theorem State.withTime_tel (s : State) (x : TimeSt) : (s.withTime x).tel = s.tel := by rfl
@[simp] theorem State.withTime_hbm (s : State) (x : TimeSt) : (s.withTime x).hbm = s.hbm := by rfl
@[simp] theorem State.withTime_sram (s : State) (x : TimeSt) : (s.withTime x).sram = s.sram := by rfl
@[simp] theorem State.withTime_intc (s : State) (x : TimeSt) : (s.withTime x).intc = s.intc := by rfl
@[simp] theorem State.withTime_me (s : State) (x : TimeSt) : (s.withTime x).me = s.me := by rfl
@[simp] theorem State.withTime_dram (s : State) (x : TimeSt) : (s.withTime x).dram = s.dram := by rfl
@[simp] theorem State.withTime_hif (s : State) (x : TimeSt) : (s.withTime x).hif = s.hif := by rfl
@[simp] theorem State.withTime_ldr (s : State) (x : TimeSt) : (s.withTime x).ldr = s.ldr := by rfl
@[simp] theorem State.withTime_events (s : State) (x : TimeSt) : (s.withTime x).events = s.events := by rfl
@[simp] theorem State.withTime_latch (s : State) (x : TimeSt) : (s.withTime x).latch = s.latch := by rfl
@[simp] theorem State.withTime_readOut (s : State) (x : TimeSt) : (s.withTime x).readOut = s.readOut := by rfl

/-! ### State.setCell -/

@[simp] theorem State.setCell_pending (r : Reg) (lo i v : Nat) (s : State) : (s.setCell r lo i v).pending = s.pending := by rfl
@[simp] theorem State.setCell_work (r : Reg) (lo i v : Nat) (s : State) : (s.setCell r lo i v).work = s.work := by rfl
@[simp] theorem State.setCell_tb (r : Reg) (lo i v : Nat) (s : State) : (s.setCell r lo i v).tb = s.tb := by rfl
@[simp] theorem State.setCell_dp (r : Reg) (lo i v : Nat) (s : State) : (s.setCell r lo i v).dp = s.dp := by rfl
@[simp] theorem State.setCell_flt (r : Reg) (lo i v : Nat) (s : State) : (s.setCell r lo i v).flt = s.flt := by rfl
@[simp] theorem State.setCell_pln (r : Reg) (lo i v : Nat) (s : State) : (s.setCell r lo i v).pln = s.pln := by rfl
@[simp] theorem State.setCell_time (r : Reg) (lo i v : Nat) (s : State) : (s.setCell r lo i v).time = s.time := by rfl
@[simp] theorem State.setCell_tel (r : Reg) (lo i v : Nat) (s : State) : (s.setCell r lo i v).tel = s.tel := by rfl
@[simp] theorem State.setCell_hbm (r : Reg) (lo i v : Nat) (s : State) : (s.setCell r lo i v).hbm = s.hbm := by rfl
@[simp] theorem State.setCell_sram (r : Reg) (lo i v : Nat) (s : State) : (s.setCell r lo i v).sram = s.sram := by rfl
@[simp] theorem State.setCell_intc (r : Reg) (lo i v : Nat) (s : State) : (s.setCell r lo i v).intc = s.intc := by rfl
@[simp] theorem State.setCell_me (r : Reg) (lo i v : Nat) (s : State) : (s.setCell r lo i v).me = s.me := by rfl
@[simp] theorem State.setCell_dram (r : Reg) (lo i v : Nat) (s : State) : (s.setCell r lo i v).dram = s.dram := by rfl
@[simp] theorem State.setCell_hif (r : Reg) (lo i v : Nat) (s : State) : (s.setCell r lo i v).hif = s.hif := by rfl
@[simp] theorem State.setCell_ldr (r : Reg) (lo i v : Nat) (s : State) : (s.setCell r lo i v).ldr = s.ldr := by rfl
@[simp] theorem State.setCell_events (r : Reg) (lo i v : Nat) (s : State) : (s.setCell r lo i v).events = s.events := by rfl
@[simp] theorem State.setCell_latch (r : Reg) (lo i v : Nat) (s : State) : (s.setCell r lo i v).latch = s.latch := by rfl
@[simp] theorem State.setCell_readOut (r : Reg) (lo i v : Nat) (s : State) : (s.setCell r lo i v).readOut = s.readOut := by rfl

/-! ### State.setFld -/

@[simp] theorem State.setFld_pending (f : Fld) (i v : Nat) (s : State) : (s.setFld f i v).pending = s.pending := by rfl
@[simp] theorem State.setFld_work (f : Fld) (i v : Nat) (s : State) : (s.setFld f i v).work = s.work := by rfl
@[simp] theorem State.setFld_tb (f : Fld) (i v : Nat) (s : State) : (s.setFld f i v).tb = s.tb := by rfl
@[simp] theorem State.setFld_dp (f : Fld) (i v : Nat) (s : State) : (s.setFld f i v).dp = s.dp := by rfl
@[simp] theorem State.setFld_flt (f : Fld) (i v : Nat) (s : State) : (s.setFld f i v).flt = s.flt := by rfl
@[simp] theorem State.setFld_pln (f : Fld) (i v : Nat) (s : State) : (s.setFld f i v).pln = s.pln := by rfl
@[simp] theorem State.setFld_time (f : Fld) (i v : Nat) (s : State) : (s.setFld f i v).time = s.time := by rfl
@[simp] theorem State.setFld_tel (f : Fld) (i v : Nat) (s : State) : (s.setFld f i v).tel = s.tel := by rfl
@[simp] theorem State.setFld_hbm (f : Fld) (i v : Nat) (s : State) : (s.setFld f i v).hbm = s.hbm := by rfl
@[simp] theorem State.setFld_sram (f : Fld) (i v : Nat) (s : State) : (s.setFld f i v).sram = s.sram := by rfl
@[simp] theorem State.setFld_intc (f : Fld) (i v : Nat) (s : State) : (s.setFld f i v).intc = s.intc := by rfl
@[simp] theorem State.setFld_me (f : Fld) (i v : Nat) (s : State) : (s.setFld f i v).me = s.me := by rfl
@[simp] theorem State.setFld_dram (f : Fld) (i v : Nat) (s : State) : (s.setFld f i v).dram = s.dram := by rfl
@[simp] theorem State.setFld_hif (f : Fld) (i v : Nat) (s : State) : (s.setFld f i v).hif = s.hif := by rfl
@[simp] theorem State.setFld_ldr (f : Fld) (i v : Nat) (s : State) : (s.setFld f i v).ldr = s.ldr := by rfl
@[simp] theorem State.setFld_events (f : Fld) (i v : Nat) (s : State) : (s.setFld f i v).events = s.events := by rfl
@[simp] theorem State.setFld_latch (f : Fld) (i v : Nat) (s : State) : (s.setFld f i v).latch = s.latch := by rfl
@[simp] theorem State.setFld_readOut (f : Fld) (i v : Nat) (s : State) : (s.setFld f i v).readOut = s.readOut := by rfl

/-! ### State.clearFld -/

@[simp] theorem State.clearFld_pending (f : Fld) (s : State) : (s.clearFld f).pending = s.pending := by rfl
@[simp] theorem State.clearFld_work (f : Fld) (s : State) : (s.clearFld f).work = s.work := by rfl
@[simp] theorem State.clearFld_tb (f : Fld) (s : State) : (s.clearFld f).tb = s.tb := by rfl
@[simp] theorem State.clearFld_dp (f : Fld) (s : State) : (s.clearFld f).dp = s.dp := by rfl
@[simp] theorem State.clearFld_flt (f : Fld) (s : State) : (s.clearFld f).flt = s.flt := by rfl
@[simp] theorem State.clearFld_pln (f : Fld) (s : State) : (s.clearFld f).pln = s.pln := by rfl
@[simp] theorem State.clearFld_time (f : Fld) (s : State) : (s.clearFld f).time = s.time := by rfl
@[simp] theorem State.clearFld_tel (f : Fld) (s : State) : (s.clearFld f).tel = s.tel := by rfl
@[simp] theorem State.clearFld_hbm (f : Fld) (s : State) : (s.clearFld f).hbm = s.hbm := by rfl
@[simp] theorem State.clearFld_sram (f : Fld) (s : State) : (s.clearFld f).sram = s.sram := by rfl
@[simp] theorem State.clearFld_intc (f : Fld) (s : State) : (s.clearFld f).intc = s.intc := by rfl
@[simp] theorem State.clearFld_me (f : Fld) (s : State) : (s.clearFld f).me = s.me := by rfl
@[simp] theorem State.clearFld_dram (f : Fld) (s : State) : (s.clearFld f).dram = s.dram := by rfl
@[simp] theorem State.clearFld_hif (f : Fld) (s : State) : (s.clearFld f).hif = s.hif := by rfl
@[simp] theorem State.clearFld_ldr (f : Fld) (s : State) : (s.clearFld f).ldr = s.ldr := by rfl
@[simp] theorem State.clearFld_events (f : Fld) (s : State) : (s.clearFld f).events = s.events := by rfl
@[simp] theorem State.clearFld_latch (f : Fld) (s : State) : (s.clearFld f).latch = s.latch := by rfl
@[simp] theorem State.clearFld_readOut (f : Fld) (s : State) : (s.clearFld f).readOut = s.readOut := by rfl

/-! ### State.addSat -/

@[simp] theorem State.addSat_pending (f : Fld) (i n : Nat) (s : State) : (s.addSat f i n).pending = s.pending := by rfl
@[simp] theorem State.addSat_work (f : Fld) (i n : Nat) (s : State) : (s.addSat f i n).work = s.work := by rfl
@[simp] theorem State.addSat_tb (f : Fld) (i n : Nat) (s : State) : (s.addSat f i n).tb = s.tb := by rfl
@[simp] theorem State.addSat_dp (f : Fld) (i n : Nat) (s : State) : (s.addSat f i n).dp = s.dp := by rfl
@[simp] theorem State.addSat_flt (f : Fld) (i n : Nat) (s : State) : (s.addSat f i n).flt = s.flt := by rfl
@[simp] theorem State.addSat_pln (f : Fld) (i n : Nat) (s : State) : (s.addSat f i n).pln = s.pln := by rfl
@[simp] theorem State.addSat_time (f : Fld) (i n : Nat) (s : State) : (s.addSat f i n).time = s.time := by rfl
@[simp] theorem State.addSat_tel (f : Fld) (i n : Nat) (s : State) : (s.addSat f i n).tel = s.tel := by rfl
@[simp] theorem State.addSat_hbm (f : Fld) (i n : Nat) (s : State) : (s.addSat f i n).hbm = s.hbm := by rfl
@[simp] theorem State.addSat_sram (f : Fld) (i n : Nat) (s : State) : (s.addSat f i n).sram = s.sram := by rfl
@[simp] theorem State.addSat_intc (f : Fld) (i n : Nat) (s : State) : (s.addSat f i n).intc = s.intc := by rfl
@[simp] theorem State.addSat_me (f : Fld) (i n : Nat) (s : State) : (s.addSat f i n).me = s.me := by rfl
@[simp] theorem State.addSat_dram (f : Fld) (i n : Nat) (s : State) : (s.addSat f i n).dram = s.dram := by rfl
@[simp] theorem State.addSat_hif (f : Fld) (i n : Nat) (s : State) : (s.addSat f i n).hif = s.hif := by rfl
@[simp] theorem State.addSat_ldr (f : Fld) (i n : Nat) (s : State) : (s.addSat f i n).ldr = s.ldr := by rfl
@[simp] theorem State.addSat_events (f : Fld) (i n : Nat) (s : State) : (s.addSat f i n).events = s.events := by rfl
@[simp] theorem State.addSat_latch (f : Fld) (i n : Nat) (s : State) : (s.addSat f i n).latch = s.latch := by rfl
@[simp] theorem State.addSat_readOut (f : Fld) (i n : Nat) (s : State) : (s.addSat f i n).readOut = s.readOut := by rfl

/-! ### State.bump -/

@[simp] theorem State.bump_pending (f : Fld) (i : Nat) (s : State) : (s.bump f i).pending = s.pending := by rfl
@[simp] theorem State.bump_work (f : Fld) (i : Nat) (s : State) : (s.bump f i).work = s.work := by rfl
@[simp] theorem State.bump_tb (f : Fld) (i : Nat) (s : State) : (s.bump f i).tb = s.tb := by rfl
@[simp] theorem State.bump_dp (f : Fld) (i : Nat) (s : State) : (s.bump f i).dp = s.dp := by rfl
@[simp] theorem State.bump_flt (f : Fld) (i : Nat) (s : State) : (s.bump f i).flt = s.flt := by rfl
@[simp] theorem State.bump_pln (f : Fld) (i : Nat) (s : State) : (s.bump f i).pln = s.pln := by rfl
@[simp] theorem State.bump_time (f : Fld) (i : Nat) (s : State) : (s.bump f i).time = s.time := by rfl
@[simp] theorem State.bump_tel (f : Fld) (i : Nat) (s : State) : (s.bump f i).tel = s.tel := by rfl
@[simp] theorem State.bump_hbm (f : Fld) (i : Nat) (s : State) : (s.bump f i).hbm = s.hbm := by rfl
@[simp] theorem State.bump_sram (f : Fld) (i : Nat) (s : State) : (s.bump f i).sram = s.sram := by rfl
@[simp] theorem State.bump_intc (f : Fld) (i : Nat) (s : State) : (s.bump f i).intc = s.intc := by rfl
@[simp] theorem State.bump_me (f : Fld) (i : Nat) (s : State) : (s.bump f i).me = s.me := by rfl
@[simp] theorem State.bump_dram (f : Fld) (i : Nat) (s : State) : (s.bump f i).dram = s.dram := by rfl
@[simp] theorem State.bump_hif (f : Fld) (i : Nat) (s : State) : (s.bump f i).hif = s.hif := by rfl
@[simp] theorem State.bump_ldr (f : Fld) (i : Nat) (s : State) : (s.bump f i).ldr = s.ldr := by rfl
@[simp] theorem State.bump_events (f : Fld) (i : Nat) (s : State) : (s.bump f i).events = s.events := by rfl
@[simp] theorem State.bump_latch (f : Fld) (i : Nat) (s : State) : (s.bump f i).latch = s.latch := by rfl
@[simp] theorem State.bump_readOut (f : Fld) (i : Nat) (s : State) : (s.bump f i).readOut = s.readOut := by rfl

/-! ### State.addWrap -/

@[simp] theorem State.addWrap_pending (f : Fld) (i n : Nat) (s : State) : (s.addWrap f i n).pending = s.pending := by rfl
@[simp] theorem State.addWrap_work (f : Fld) (i n : Nat) (s : State) : (s.addWrap f i n).work = s.work := by rfl
@[simp] theorem State.addWrap_tb (f : Fld) (i n : Nat) (s : State) : (s.addWrap f i n).tb = s.tb := by rfl
@[simp] theorem State.addWrap_dp (f : Fld) (i n : Nat) (s : State) : (s.addWrap f i n).dp = s.dp := by rfl
@[simp] theorem State.addWrap_flt (f : Fld) (i n : Nat) (s : State) : (s.addWrap f i n).flt = s.flt := by rfl
@[simp] theorem State.addWrap_pln (f : Fld) (i n : Nat) (s : State) : (s.addWrap f i n).pln = s.pln := by rfl
@[simp] theorem State.addWrap_time (f : Fld) (i n : Nat) (s : State) : (s.addWrap f i n).time = s.time := by rfl
@[simp] theorem State.addWrap_tel (f : Fld) (i n : Nat) (s : State) : (s.addWrap f i n).tel = s.tel := by rfl
@[simp] theorem State.addWrap_hbm (f : Fld) (i n : Nat) (s : State) : (s.addWrap f i n).hbm = s.hbm := by rfl
@[simp] theorem State.addWrap_sram (f : Fld) (i n : Nat) (s : State) : (s.addWrap f i n).sram = s.sram := by rfl
@[simp] theorem State.addWrap_intc (f : Fld) (i n : Nat) (s : State) : (s.addWrap f i n).intc = s.intc := by rfl
@[simp] theorem State.addWrap_me (f : Fld) (i n : Nat) (s : State) : (s.addWrap f i n).me = s.me := by rfl
@[simp] theorem State.addWrap_dram (f : Fld) (i n : Nat) (s : State) : (s.addWrap f i n).dram = s.dram := by rfl
@[simp] theorem State.addWrap_hif (f : Fld) (i n : Nat) (s : State) : (s.addWrap f i n).hif = s.hif := by rfl
@[simp] theorem State.addWrap_ldr (f : Fld) (i n : Nat) (s : State) : (s.addWrap f i n).ldr = s.ldr := by rfl
@[simp] theorem State.addWrap_events (f : Fld) (i n : Nat) (s : State) : (s.addWrap f i n).events = s.events := by rfl
@[simp] theorem State.addWrap_latch (f : Fld) (i n : Nat) (s : State) : (s.addWrap f i n).latch = s.latch := by rfl
@[simp] theorem State.addWrap_readOut (f : Fld) (i n : Nat) (s : State) : (s.addWrap f i n).readOut = s.readOut := by rfl

/-! ### State.lower -/

@[simp] theorem State.lower_pending (f : Fld) (i n : Nat) (s : State) : (s.lower f i n).pending = s.pending := by rfl
@[simp] theorem State.lower_work (f : Fld) (i n : Nat) (s : State) : (s.lower f i n).work = s.work := by rfl
@[simp] theorem State.lower_tb (f : Fld) (i n : Nat) (s : State) : (s.lower f i n).tb = s.tb := by rfl
@[simp] theorem State.lower_dp (f : Fld) (i n : Nat) (s : State) : (s.lower f i n).dp = s.dp := by rfl
@[simp] theorem State.lower_flt (f : Fld) (i n : Nat) (s : State) : (s.lower f i n).flt = s.flt := by rfl
@[simp] theorem State.lower_pln (f : Fld) (i n : Nat) (s : State) : (s.lower f i n).pln = s.pln := by rfl
@[simp] theorem State.lower_time (f : Fld) (i n : Nat) (s : State) : (s.lower f i n).time = s.time := by rfl
@[simp] theorem State.lower_tel (f : Fld) (i n : Nat) (s : State) : (s.lower f i n).tel = s.tel := by rfl
@[simp] theorem State.lower_hbm (f : Fld) (i n : Nat) (s : State) : (s.lower f i n).hbm = s.hbm := by rfl
@[simp] theorem State.lower_sram (f : Fld) (i n : Nat) (s : State) : (s.lower f i n).sram = s.sram := by rfl
@[simp] theorem State.lower_intc (f : Fld) (i n : Nat) (s : State) : (s.lower f i n).intc = s.intc := by rfl
@[simp] theorem State.lower_me (f : Fld) (i n : Nat) (s : State) : (s.lower f i n).me = s.me := by rfl
@[simp] theorem State.lower_dram (f : Fld) (i n : Nat) (s : State) : (s.lower f i n).dram = s.dram := by rfl
@[simp] theorem State.lower_hif (f : Fld) (i n : Nat) (s : State) : (s.lower f i n).hif = s.hif := by rfl
@[simp] theorem State.lower_ldr (f : Fld) (i n : Nat) (s : State) : (s.lower f i n).ldr = s.ldr := by rfl
@[simp] theorem State.lower_events (f : Fld) (i n : Nat) (s : State) : (s.lower f i n).events = s.events := by rfl
@[simp] theorem State.lower_latch (f : Fld) (i n : Nat) (s : State) : (s.lower f i n).latch = s.latch := by rfl
@[simp] theorem State.lower_readOut (f : Fld) (i n : Nat) (s : State) : (s.lower f i n).readOut = s.readOut := by rfl

/-! ### setLatch -/

@[simp] theorem setLatch_pending (q : Requester) (key : Nat) (words : List Nat) (s : State) : (setLatch q key words s).pending = s.pending := by rfl
@[simp] theorem setLatch_regs (q : Requester) (key : Nat) (words : List Nat) (s : State) : (setLatch q key words s).regs = s.regs := by rfl
@[simp] theorem setLatch_work (q : Requester) (key : Nat) (words : List Nat) (s : State) : (setLatch q key words s).work = s.work := by rfl
@[simp] theorem setLatch_tb (q : Requester) (key : Nat) (words : List Nat) (s : State) : (setLatch q key words s).tb = s.tb := by rfl
@[simp] theorem setLatch_dp (q : Requester) (key : Nat) (words : List Nat) (s : State) : (setLatch q key words s).dp = s.dp := by rfl
@[simp] theorem setLatch_flt (q : Requester) (key : Nat) (words : List Nat) (s : State) : (setLatch q key words s).flt = s.flt := by rfl
@[simp] theorem setLatch_pln (q : Requester) (key : Nat) (words : List Nat) (s : State) : (setLatch q key words s).pln = s.pln := by rfl
@[simp] theorem setLatch_time (q : Requester) (key : Nat) (words : List Nat) (s : State) : (setLatch q key words s).time = s.time := by rfl
@[simp] theorem setLatch_tel (q : Requester) (key : Nat) (words : List Nat) (s : State) : (setLatch q key words s).tel = s.tel := by rfl
@[simp] theorem setLatch_hbm (q : Requester) (key : Nat) (words : List Nat) (s : State) : (setLatch q key words s).hbm = s.hbm := by rfl
@[simp] theorem setLatch_sram (q : Requester) (key : Nat) (words : List Nat) (s : State) : (setLatch q key words s).sram = s.sram := by rfl
@[simp] theorem setLatch_intc (q : Requester) (key : Nat) (words : List Nat) (s : State) : (setLatch q key words s).intc = s.intc := by rfl
@[simp] theorem setLatch_me (q : Requester) (key : Nat) (words : List Nat) (s : State) : (setLatch q key words s).me = s.me := by rfl
@[simp] theorem setLatch_dram (q : Requester) (key : Nat) (words : List Nat) (s : State) : (setLatch q key words s).dram = s.dram := by rfl
@[simp] theorem setLatch_hif (q : Requester) (key : Nat) (words : List Nat) (s : State) : (setLatch q key words s).hif = s.hif := by rfl
@[simp] theorem setLatch_ldr (q : Requester) (key : Nat) (words : List Nat) (s : State) : (setLatch q key words s).ldr = s.ldr := by rfl
@[simp] theorem setLatch_events (q : Requester) (key : Nat) (words : List Nat) (s : State) : (setLatch q key words s).events = s.events := by rfl
@[simp] theorem setLatch_readOut (q : Requester) (key : Nat) (words : List Nat) (s : State) : (setLatch q key words s).readOut = s.readOut := by rfl

/-! ### setOut -/

@[simp] theorem setOut_pending (q : Requester) (v : Nat) (s : State) : (setOut q v s).pending = s.pending := by rfl
@[simp] theorem setOut_regs (q : Requester) (v : Nat) (s : State) : (setOut q v s).regs = s.regs := by rfl
@[simp] theorem setOut_work (q : Requester) (v : Nat) (s : State) : (setOut q v s).work = s.work := by rfl
@[simp] theorem setOut_tb (q : Requester) (v : Nat) (s : State) : (setOut q v s).tb = s.tb := by rfl
@[simp] theorem setOut_dp (q : Requester) (v : Nat) (s : State) : (setOut q v s).dp = s.dp := by rfl
@[simp] theorem setOut_flt (q : Requester) (v : Nat) (s : State) : (setOut q v s).flt = s.flt := by rfl
@[simp] theorem setOut_pln (q : Requester) (v : Nat) (s : State) : (setOut q v s).pln = s.pln := by rfl
@[simp] theorem setOut_time (q : Requester) (v : Nat) (s : State) : (setOut q v s).time = s.time := by rfl
@[simp] theorem setOut_tel (q : Requester) (v : Nat) (s : State) : (setOut q v s).tel = s.tel := by rfl
@[simp] theorem setOut_hbm (q : Requester) (v : Nat) (s : State) : (setOut q v s).hbm = s.hbm := by rfl
@[simp] theorem setOut_sram (q : Requester) (v : Nat) (s : State) : (setOut q v s).sram = s.sram := by rfl
@[simp] theorem setOut_intc (q : Requester) (v : Nat) (s : State) : (setOut q v s).intc = s.intc := by rfl
@[simp] theorem setOut_me (q : Requester) (v : Nat) (s : State) : (setOut q v s).me = s.me := by rfl
@[simp] theorem setOut_dram (q : Requester) (v : Nat) (s : State) : (setOut q v s).dram = s.dram := by rfl
@[simp] theorem setOut_hif (q : Requester) (v : Nat) (s : State) : (setOut q v s).hif = s.hif := by rfl
@[simp] theorem setOut_ldr (q : Requester) (v : Nat) (s : State) : (setOut q v s).ldr = s.ldr := by rfl
@[simp] theorem setOut_events (q : Requester) (v : Nat) (s : State) : (setOut q v s).events = s.events := by rfl
@[simp] theorem setOut_latch (q : Requester) (v : Nat) (s : State) : (setOut q v s).latch = s.latch := by rfl

/-! ### hbmWrite -/

@[simp] theorem hbmWrite_pending (a : Nat) (bs : List Byte) (s : State) : (hbmWrite a bs s).pending = s.pending := by rfl
@[simp] theorem hbmWrite_regs (a : Nat) (bs : List Byte) (s : State) : (hbmWrite a bs s).regs = s.regs := by rfl
@[simp] theorem hbmWrite_work (a : Nat) (bs : List Byte) (s : State) : (hbmWrite a bs s).work = s.work := by rfl
@[simp] theorem hbmWrite_tb (a : Nat) (bs : List Byte) (s : State) : (hbmWrite a bs s).tb = s.tb := by rfl
@[simp] theorem hbmWrite_dp (a : Nat) (bs : List Byte) (s : State) : (hbmWrite a bs s).dp = s.dp := by rfl
@[simp] theorem hbmWrite_flt (a : Nat) (bs : List Byte) (s : State) : (hbmWrite a bs s).flt = s.flt := by rfl
@[simp] theorem hbmWrite_pln (a : Nat) (bs : List Byte) (s : State) : (hbmWrite a bs s).pln = s.pln := by rfl
@[simp] theorem hbmWrite_time (a : Nat) (bs : List Byte) (s : State) : (hbmWrite a bs s).time = s.time := by rfl
@[simp] theorem hbmWrite_tel (a : Nat) (bs : List Byte) (s : State) : (hbmWrite a bs s).tel = s.tel := by rfl
@[simp] theorem hbmWrite_sram (a : Nat) (bs : List Byte) (s : State) : (hbmWrite a bs s).sram = s.sram := by rfl
@[simp] theorem hbmWrite_intc (a : Nat) (bs : List Byte) (s : State) : (hbmWrite a bs s).intc = s.intc := by rfl
@[simp] theorem hbmWrite_me (a : Nat) (bs : List Byte) (s : State) : (hbmWrite a bs s).me = s.me := by rfl
@[simp] theorem hbmWrite_dram (a : Nat) (bs : List Byte) (s : State) : (hbmWrite a bs s).dram = s.dram := by rfl
@[simp] theorem hbmWrite_hif (a : Nat) (bs : List Byte) (s : State) : (hbmWrite a bs s).hif = s.hif := by rfl
@[simp] theorem hbmWrite_ldr (a : Nat) (bs : List Byte) (s : State) : (hbmWrite a bs s).ldr = s.ldr := by rfl
@[simp] theorem hbmWrite_events (a : Nat) (bs : List Byte) (s : State) : (hbmWrite a bs s).events = s.events := by rfl
@[simp] theorem hbmWrite_latch (a : Nat) (bs : List Byte) (s : State) : (hbmWrite a bs s).latch = s.latch := by rfl
@[simp] theorem hbmWrite_readOut (a : Nat) (bs : List Byte) (s : State) : (hbmWrite a bs s).readOut = s.readOut := by rfl

/-! ### raiseFault -/

@[simp] theorem raiseFault_pending (src die detail : Nat) (s : State) : (raiseFault src die detail s).pending = s.pending := by rfl
@[simp] theorem raiseFault_regs (src die detail : Nat) (s : State) : (raiseFault src die detail s).regs = s.regs := by rfl
@[simp] theorem raiseFault_work (src die detail : Nat) (s : State) : (raiseFault src die detail s).work = s.work := by rfl
@[simp] theorem raiseFault_tb (src die detail : Nat) (s : State) : (raiseFault src die detail s).tb = s.tb := by rfl
@[simp] theorem raiseFault_dp (src die detail : Nat) (s : State) : (raiseFault src die detail s).dp = s.dp := by rfl
@[simp] theorem raiseFault_pln (src die detail : Nat) (s : State) : (raiseFault src die detail s).pln = s.pln := by rfl
@[simp] theorem raiseFault_time (src die detail : Nat) (s : State) : (raiseFault src die detail s).time = s.time := by rfl
@[simp] theorem raiseFault_tel (src die detail : Nat) (s : State) : (raiseFault src die detail s).tel = s.tel := by rfl
@[simp] theorem raiseFault_hbm (src die detail : Nat) (s : State) : (raiseFault src die detail s).hbm = s.hbm := by rfl
@[simp] theorem raiseFault_sram (src die detail : Nat) (s : State) : (raiseFault src die detail s).sram = s.sram := by rfl
@[simp] theorem raiseFault_intc (src die detail : Nat) (s : State) : (raiseFault src die detail s).intc = s.intc := by rfl
@[simp] theorem raiseFault_me (src die detail : Nat) (s : State) : (raiseFault src die detail s).me = s.me := by rfl
@[simp] theorem raiseFault_dram (src die detail : Nat) (s : State) : (raiseFault src die detail s).dram = s.dram := by rfl
@[simp] theorem raiseFault_hif (src die detail : Nat) (s : State) : (raiseFault src die detail s).hif = s.hif := by rfl
@[simp] theorem raiseFault_ldr (src die detail : Nat) (s : State) : (raiseFault src die detail s).ldr = s.ldr := by rfl
@[simp] theorem raiseFault_events (src die detail : Nat) (s : State) : (raiseFault src die detail s).events = s.events := by rfl
@[simp] theorem raiseFault_latch (src die detail : Nat) (s : State) : (raiseFault src die detail s).latch = s.latch := by rfl
@[simp] theorem raiseFault_readOut (src die detail : Nat) (s : State) : (raiseFault src die detail s).readOut = s.readOut := by rfl

/-! ### raiseFaultMe -/

@[simp] theorem raiseFaultMe_pending (src die detail : Nat) (s : State) : (raiseFaultMe src die detail s).pending = s.pending := by rfl
@[simp] theorem raiseFaultMe_regs (src die detail : Nat) (s : State) : (raiseFaultMe src die detail s).regs = s.regs := by rfl
@[simp] theorem raiseFaultMe_work (src die detail : Nat) (s : State) : (raiseFaultMe src die detail s).work = s.work := by rfl
@[simp] theorem raiseFaultMe_tb (src die detail : Nat) (s : State) : (raiseFaultMe src die detail s).tb = s.tb := by rfl
@[simp] theorem raiseFaultMe_dp (src die detail : Nat) (s : State) : (raiseFaultMe src die detail s).dp = s.dp := by rfl
@[simp] theorem raiseFaultMe_pln (src die detail : Nat) (s : State) : (raiseFaultMe src die detail s).pln = s.pln := by rfl
@[simp] theorem raiseFaultMe_time (src die detail : Nat) (s : State) : (raiseFaultMe src die detail s).time = s.time := by rfl
@[simp] theorem raiseFaultMe_tel (src die detail : Nat) (s : State) : (raiseFaultMe src die detail s).tel = s.tel := by rfl
@[simp] theorem raiseFaultMe_hbm (src die detail : Nat) (s : State) : (raiseFaultMe src die detail s).hbm = s.hbm := by rfl
@[simp] theorem raiseFaultMe_sram (src die detail : Nat) (s : State) : (raiseFaultMe src die detail s).sram = s.sram := by rfl
@[simp] theorem raiseFaultMe_intc (src die detail : Nat) (s : State) : (raiseFaultMe src die detail s).intc = s.intc := by rfl
@[simp] theorem raiseFaultMe_me (src die detail : Nat) (s : State) : (raiseFaultMe src die detail s).me = s.me := by rfl
@[simp] theorem raiseFaultMe_dram (src die detail : Nat) (s : State) : (raiseFaultMe src die detail s).dram = s.dram := by rfl
@[simp] theorem raiseFaultMe_hif (src die detail : Nat) (s : State) : (raiseFaultMe src die detail s).hif = s.hif := by rfl
@[simp] theorem raiseFaultMe_ldr (src die detail : Nat) (s : State) : (raiseFaultMe src die detail s).ldr = s.ldr := by rfl
@[simp] theorem raiseFaultMe_events (src die detail : Nat) (s : State) : (raiseFaultMe src die detail s).events = s.events := by rfl
@[simp] theorem raiseFaultMe_latch (src die detail : Nat) (s : State) : (raiseFaultMe src die detail s).latch = s.latch := by rfl
@[simp] theorem raiseFaultMe_readOut (src die detail : Nat) (s : State) : (raiseFaultMe src die detail s).readOut = s.readOut := by rfl

/-! ### raiseEvent -/

@[simp] theorem raiseEvent_pending (t bit : Nat) (s : State) : (raiseEvent t bit s).pending = s.pending := by rfl
@[simp] theorem raiseEvent_regs (t bit : Nat) (s : State) : (raiseEvent t bit s).regs = s.regs := by rfl
@[simp] theorem raiseEvent_work (t bit : Nat) (s : State) : (raiseEvent t bit s).work = s.work := by rfl
@[simp] theorem raiseEvent_tb (t bit : Nat) (s : State) : (raiseEvent t bit s).tb = s.tb := by rfl
@[simp] theorem raiseEvent_dp (t bit : Nat) (s : State) : (raiseEvent t bit s).dp = s.dp := by rfl
@[simp] theorem raiseEvent_flt (t bit : Nat) (s : State) : (raiseEvent t bit s).flt = s.flt := by rfl
@[simp] theorem raiseEvent_pln (t bit : Nat) (s : State) : (raiseEvent t bit s).pln = s.pln := by rfl
@[simp] theorem raiseEvent_time (t bit : Nat) (s : State) : (raiseEvent t bit s).time = s.time := by rfl
@[simp] theorem raiseEvent_tel (t bit : Nat) (s : State) : (raiseEvent t bit s).tel = s.tel := by rfl
@[simp] theorem raiseEvent_hbm (t bit : Nat) (s : State) : (raiseEvent t bit s).hbm = s.hbm := by rfl
@[simp] theorem raiseEvent_sram (t bit : Nat) (s : State) : (raiseEvent t bit s).sram = s.sram := by rfl
@[simp] theorem raiseEvent_intc (t bit : Nat) (s : State) : (raiseEvent t bit s).intc = s.intc := by rfl
@[simp] theorem raiseEvent_me (t bit : Nat) (s : State) : (raiseEvent t bit s).me = s.me := by rfl
@[simp] theorem raiseEvent_dram (t bit : Nat) (s : State) : (raiseEvent t bit s).dram = s.dram := by rfl
@[simp] theorem raiseEvent_hif (t bit : Nat) (s : State) : (raiseEvent t bit s).hif = s.hif := by rfl
@[simp] theorem raiseEvent_ldr (t bit : Nat) (s : State) : (raiseEvent t bit s).ldr = s.ldr := by rfl
@[simp] theorem raiseEvent_latch (t bit : Nat) (s : State) : (raiseEvent t bit s).latch = s.latch := by rfl
@[simp] theorem raiseEvent_readOut (t bit : Nat) (s : State) : (raiseEvent t bit s).readOut = s.readOut := by rfl

/-! ### Several fields -/

theorem State.setFlds_cons (s : State) (x : Fld × Nat × Nat) (l : List (Fld × Nat × Nat)) :
    s.setFlds (x :: l) = (s.setFld x.1 x.2.1 x.2.2).setFlds l := by rfl

@[simp] theorem State.setFlds_nil (s : State) : s.setFlds [] = s := by rfl

@[simp] theorem State.setFlds_pending (l : List (Fld × Nat × Nat)) (s : State) : (s.setFlds l).pending = s.pending := by
  induction l generalizing s with
  | nil => rfl
  | cons x l ih => rw [State.setFlds_cons, ih]; rfl

@[simp] theorem State.setFlds_work (l : List (Fld × Nat × Nat)) (s : State) : (s.setFlds l).work = s.work := by
  induction l generalizing s with
  | nil => rfl
  | cons x l ih => rw [State.setFlds_cons, ih]; rfl

@[simp] theorem State.setFlds_tb (l : List (Fld × Nat × Nat)) (s : State) : (s.setFlds l).tb = s.tb := by
  induction l generalizing s with
  | nil => rfl
  | cons x l ih => rw [State.setFlds_cons, ih]; rfl

@[simp] theorem State.setFlds_dp (l : List (Fld × Nat × Nat)) (s : State) : (s.setFlds l).dp = s.dp := by
  induction l generalizing s with
  | nil => rfl
  | cons x l ih => rw [State.setFlds_cons, ih]; rfl

@[simp] theorem State.setFlds_flt (l : List (Fld × Nat × Nat)) (s : State) : (s.setFlds l).flt = s.flt := by
  induction l generalizing s with
  | nil => rfl
  | cons x l ih => rw [State.setFlds_cons, ih]; rfl

@[simp] theorem State.setFlds_pln (l : List (Fld × Nat × Nat)) (s : State) : (s.setFlds l).pln = s.pln := by
  induction l generalizing s with
  | nil => rfl
  | cons x l ih => rw [State.setFlds_cons, ih]; rfl

@[simp] theorem State.setFlds_time (l : List (Fld × Nat × Nat)) (s : State) : (s.setFlds l).time = s.time := by
  induction l generalizing s with
  | nil => rfl
  | cons x l ih => rw [State.setFlds_cons, ih]; rfl

@[simp] theorem State.setFlds_tel (l : List (Fld × Nat × Nat)) (s : State) : (s.setFlds l).tel = s.tel := by
  induction l generalizing s with
  | nil => rfl
  | cons x l ih => rw [State.setFlds_cons, ih]; rfl

@[simp] theorem State.setFlds_hbm (l : List (Fld × Nat × Nat)) (s : State) : (s.setFlds l).hbm = s.hbm := by
  induction l generalizing s with
  | nil => rfl
  | cons x l ih => rw [State.setFlds_cons, ih]; rfl

@[simp] theorem State.setFlds_sram (l : List (Fld × Nat × Nat)) (s : State) : (s.setFlds l).sram = s.sram := by
  induction l generalizing s with
  | nil => rfl
  | cons x l ih => rw [State.setFlds_cons, ih]; rfl

@[simp] theorem State.setFlds_intc (l : List (Fld × Nat × Nat)) (s : State) : (s.setFlds l).intc = s.intc := by
  induction l generalizing s with
  | nil => rfl
  | cons x l ih => rw [State.setFlds_cons, ih]; rfl

@[simp] theorem State.setFlds_me (l : List (Fld × Nat × Nat)) (s : State) : (s.setFlds l).me = s.me := by
  induction l generalizing s with
  | nil => rfl
  | cons x l ih => rw [State.setFlds_cons, ih]; rfl

@[simp] theorem State.setFlds_dram (l : List (Fld × Nat × Nat)) (s : State) : (s.setFlds l).dram = s.dram := by
  induction l generalizing s with
  | nil => rfl
  | cons x l ih => rw [State.setFlds_cons, ih]; rfl

@[simp] theorem State.setFlds_hif (l : List (Fld × Nat × Nat)) (s : State) : (s.setFlds l).hif = s.hif := by
  induction l generalizing s with
  | nil => rfl
  | cons x l ih => rw [State.setFlds_cons, ih]; rfl

@[simp] theorem State.setFlds_ldr (l : List (Fld × Nat × Nat)) (s : State) : (s.setFlds l).ldr = s.ldr := by
  induction l generalizing s with
  | nil => rfl
  | cons x l ih => rw [State.setFlds_cons, ih]; rfl

@[simp] theorem State.setFlds_events (l : List (Fld × Nat × Nat)) (s : State) : (s.setFlds l).events = s.events := by
  induction l generalizing s with
  | nil => rfl
  | cons x l ih => rw [State.setFlds_cons, ih]; rfl

@[simp] theorem State.setFlds_latch (l : List (Fld × Nat × Nat)) (s : State) : (s.setFlds l).latch = s.latch := by
  induction l generalizing s with
  | nil => rfl
  | cons x l ih => rw [State.setFlds_cons, ih]; rfl

@[simp] theorem State.setFlds_readOut (l : List (Fld × Nat × Nat)) (s : State) : (s.setFlds l).readOut = s.readOut := by
  induction l generalizing s with
  | nil => rfl
  | cons x l ih => rw [State.setFlds_cons, ih]; rfl

end Sys2Proof.Machine
end

