-- ==== Sys2Proof/Laws/Store.lean ====
section
/-! SUPPORT. Laws of the sparse tables of Machine/Store.lean: a read after a write, and the canonical form that every write keeps. -/

namespace Sys2Proof.Machine

theorem tget_tins_same {α : Type} (d : α) (t : Tab α) (j : Nat) (v : α) : tget d (tins t j v) j = v := by
  induction t with
  | nil => simp [tins, tget]
  | cons e t ih =>
    obtain ⟨k, w⟩ := e
    simp only [tins]
    split
    · simp [tget]
    · split
      · simp [tget]
      · simp [tget, ih]; intro h; omega

theorem tget_tins_other {α : Type} (d : α) (t : Tab α) {i j : Nat} (v : α) (h : j ≠ i) : tget d (tins t j v) i = tget d t i := by
  induction t with
  | nil => simp [tins, tget, h]
  | cons e t ih =>
    obtain ⟨k, w⟩ := e
    simp only [tins]
    split
    · simp [tget, h]
    · split
      · subst_vars; simp [tget, h]
      · simp [tget, ih]

theorem tget_tdel_same {α : Type} (d : α) (t : Tab α) (j : Nat) : tget d (tdel t j) j = d := by
  induction t with
  | nil => rfl
  | cons e t ih =>
    obtain ⟨k, w⟩ := e
    unfold tdel at ih ⊢
    by_cases hk : k = j
    · subst hk; simpa [List.filter_cons] using ih
    · simp [hk, tget, ih]

theorem tget_tdel_other {α : Type} (d : α) (t : Tab α) {i j : Nat} (h : j ≠ i) : tget d (tdel t j) i = tget d t i := by
  induction t with
  | nil => rfl
  | cons e t ih =>
    obtain ⟨k, w⟩ := e
    unfold tdel at ih ⊢
    by_cases hk : k = j
    · subst hk; simpa [List.filter_cons, tget, h] using ih
    · simp [hk, tget, ih]

/-- A read after a write to the same key gives the value written. -/
@[simp] theorem tget_tset_same {α : Type} [DecidableEq α] (d : α) (t : Tab α) (j : Nat) (v : α) : tget d (tset d t j v) j = v := by
  unfold tset
  split
  · rename_i h; rw [tget_tdel_same, h]
  · exact tget_tins_same d t j v

/-- A write leaves every other key alone, whatever the defaults of the two keys. -/
theorem tget_tset_other {α : Type} [DecidableEq α] (d c : α) (t : Tab α) {i j : Nat} (v : α) (h : j ≠ i) : tget d (tset c t j v) i = tget d t i := by
  unfold tset
  split
  · exact tget_tdel_other d t h
  · exact tget_tins_other d t v h

/-- A read after a write, both cases. -/
theorem tget_tset {α : Type} [DecidableEq α] (d : α) (t : Tab α) (i j : Nat) (v : α) :
    tget d (tset d t j v) i = if j = i then v else tget d t i := by
  by_cases h : j = i
  · subst h; simp
  · simp [h, tget_tset_other]

/-! ### The canonical form -/

theorem tsortedFrom_mono {α : Type} {t : Tab α} {a b : Nat} (h : tsortedFrom b t = true) (hab : a ≤ b) : tsortedFrom a t = true := by
  cases t with
  | nil => rfl
  | cons e t => simp [tsortedFrom] at h ⊢; exact ⟨by omega, h.2⟩

theorem tsortedFrom_filter {α : Type} (p : Nat × α → Bool) {t : Tab α} {a : Nat} (h : tsortedFrom a t = true) : tsortedFrom a (t.filter p) = true := by
  induction t generalizing a with
  | nil => rfl
  | cons e t ih =>
    obtain ⟨k, w⟩ := e
    simp only [tsortedFrom, Bool.and_eq_true, decide_eq_true_eq] at h
    simp only [List.filter_cons]
    split
    · simp [tsortedFrom, h.1, ih h.2]
    · exact ih (tsortedFrom_mono h.2 (by omega))

theorem tsortedFrom_tins {α : Type} {t : Tab α} {a j : Nat} (v : α) (h : tsortedFrom a t = true) (haj : a ≤ j) :
    tsortedFrom a (tins t j v) = true := by
  induction t generalizing a with
  | nil => simp [tins, tsortedFrom, haj]
  | cons e t ih =>
    obtain ⟨k, w⟩ := e
    simp only [tsortedFrom, Bool.and_eq_true, decide_eq_true_eq] at h
    simp only [tins]
    split
    · rename_i hj; simp [tsortedFrom, haj, h.2]; omega
    · split
      · rename_i hj; subst hj; simp [tsortedFrom, haj, h.2]
      · rename_i h1 h2; simp [tsortedFrom, h.1]; exact ih h.2 (by omega)

theorem tins_mem {α : Type} {t : Tab α} {j : Nat} {v : α} {e : Nat × α} (h : e ∈ tins t j v) : e = (j, v) ∨ e ∈ t := by
  induction t with
  | nil => simpa [tins] using h
  | cons x t ih =>
    obtain ⟨k, w⟩ := x
    simp only [tins] at h
    split at h
    · simpa using h
    · split at h
      · simp at h; rcases h with h | h <;> simp [h]
      · simp at h
        rcases h with h | h
        · simp [h]
        · rcases ih h with h | h <;> simp [h]

theorem twf_nil {α : Type} [DecidableEq α] (d : α) : twf d ([] : Tab α) = true := rfl

theorem twf_tdel {α : Type} [DecidableEq α] {d : α} {t : Tab α} (j : Nat) (h : twf d t = true) : twf d (tdel t j) = true := by
  simp only [twf, Bool.and_eq_true, List.all_eq_true, decide_eq_true_eq] at h ⊢
  exact ⟨tsortedFrom_filter _ h.1, fun e he => h.2 e ((List.mem_filter.mp he).1)⟩

/-- Writing a value keeps the canonical form. -/
theorem twf_tset {α : Type} [DecidableEq α] {d : α} {t : Tab α} (j : Nat) (v : α) (h : twf d t = true) : twf d (tset d t j v) = true := by
  unfold tset
  split
  · exact twf_tdel j h
  · rename_i hv
    simp only [twf, Bool.and_eq_true, List.all_eq_true, decide_eq_true_eq] at h ⊢
    exact ⟨tsortedFrom_tins v h.1 (by omega), fun e he => by rcases tins_mem he with rfl | he; exact hv; exact h.2 e he⟩

theorem twf_writeBytes {m : Tab Byte} (a : Nat) (bs : List Byte) (h : twf 0 m = true) : twf 0 (writeBytes m a bs) = true := by
  induction bs generalizing m a with
  | nil => exact h
  | cons b bs ih => exact ih _ (twf_tset _ _ h)

/-- A table in canonical form is the only one with its contents: equal memories are equal data. -/
theorem tget_lt_sorted {α : Type} (d : α) {t : Tab α} {a i : Nat} (h : tsortedFrom a t = true) (hi : i < a) : tget d t i = d := by
  induction t generalizing a with
  | nil => rfl
  | cons e t ih =>
    obtain ⟨k, w⟩ := e
    simp only [tsortedFrom, Bool.and_eq_true, decide_eq_true_eq] at h
    have hk : k ≠ i := by omega
    simp only [tget, if_neg hk]
    exact ih h.2 (by omega)

/-! ### Byte memories -/

/-- A read outside the written bytes gives what it gave before. -/
theorem tget_writeBytes_other (m : Tab Byte) (a i : Nat) (bs : List Byte) (h : i < a ∨ a + bs.length ≤ i) :
    tget 0 (writeBytes m a bs) i = tget 0 m i := by
  induction bs generalizing m a with
  | nil => rfl
  | cons b bs ih =>
    simp only [List.length_cons] at h
    rw [writeBytes, ih _ _ (by omega), tget_tset_other]
    omega

/-- A read of a written byte gives the byte written. -/
theorem tget_writeBytes_same (m : Tab Byte) (a k : Nat) (bs : List Byte) (h : k < bs.length) :
    tget 0 (writeBytes m a bs) (a + k) = bs[k] := by
  induction bs generalizing m a k with
  | nil => simp at h
  | cons b bs ih =>
    cases k with
    | zero => rw [writeBytes, tget_writeBytes_other _ _ _ _ (by omega)]; simp
    | succ k =>
      have := ih (tset 0 m a b) (a + 1) k (by simpa using h)
      simpa [writeBytes, Nat.add_assoc, Nat.add_comm 1 k] using this

theorem readBytes_length (m : Tab Byte) (a n : Nat) : (readBytes m a n).length = n := by
  induction n generalizing a with
  | zero => rfl
  | succ n ih => simp [readBytes, ih]

/-- Reading back what was written. -/
theorem readBytes_writeBytes (m : Tab Byte) (a : Nat) (bs : List Byte) : readBytes (writeBytes m a bs) a bs.length = bs := by
  induction bs generalizing m a with
  | nil => rfl
  | cons b bs ih =>
    rw [List.length_cons, readBytes, writeBytes, tget_writeBytes_other _ _ _ _ (by omega), tget_tset_same, ih]

end Sys2Proof.Machine
end

