-- ==== Sys2Proof/Laws/Regs.lean ====
section
/-! SUPPORT. Laws of the register cells: a read of a field after a write of a field. A field is named by its register, its lowest bit and an
index; two fields with different names never share a cell. -/

namespace Sys2Proof.Machine

theorem Reg.code_lt (r : Reg) : r.code < 512 := by cases r <;> decide

theorem Reg.code_inj {a b : Reg} (h : a.code = b.code) : a = b := by
  have h' : a.ctorIdx = b.ctorIdx := h
  have := congrArg Reg.ofNat h'
  rwa [Reg.ofNat_ctorIdx, Reg.ofNat_ctorIdx] at this

/-- Different cells have different keys. -/
theorem cellKey_inj {a b : Reg} {l m i j : Nat} (hl : l < 64) (hm : m < 64) (h : cellKey a l i = cellKey b m j) : a = b ∧ l = m ∧ i = j := by
  have ha := a.code_lt
  have hb := b.code_lt
  unfold cellKey at h
  have h1 : l = m := by omega
  have h2 : a.code = b.code := by omega
  have h3 : i = j := by omega
  exact ⟨Reg.code_inj h2, h1, h3⟩

/-- A field of the register space: its lowest bit lies in the word. -/
def Fld.Ok (f : Fld) : Prop := f.lo < 64

theorem cell_setCell_same (s : State) (r : Reg) (lo i v : Nat) : (s.setCell r lo i v).cell r lo i = v := by
  simp [State.cell, State.setCell]

theorem cell_setCell_other (s : State) {r q : Reg} {lo m i j : Nat} (v : Nat) (hl : lo < 64) (hm : m < 64) (h : (r, lo, i) ≠ (q, m, j)) :
    (s.setCell r lo i v).cell q m j = s.cell q m j := by
  unfold State.cell State.setCell
  apply tget_tset_other
  intro hk
  obtain ⟨h1, h2, h3⟩ := cellKey_inj hl hm hk
  subst h1 h2 h3
  exact h rfl

/-- A field reads as what was written to it, in the bits that fit it. -/
@[simp] theorem fld_setFld_same (s : State) (f : Fld) (i v : Nat) : (s.setFld f i v).fld f i = v % 2 ^ f.width := by
  simp [State.fld, State.setFld, cell_setCell_same]

/-- A write of a field leaves the fields of other registers alone. -/
theorem fld_setFld_reg (s : State) {f g : Fld} (i j v : Nat) (hf : f.lo < 64) (hg : g.lo < 64) (h : f.reg ≠ g.reg) :
    (s.setFld f i v).fld g j = s.fld g j :=
  cell_setCell_other s _ hf hg (by intro hk; exact h (by simpa using congrArg Prod.fst hk))

/-- A write of a field leaves the other fields of its register alone. -/
theorem fld_setFld_lo (s : State) {f g : Fld} (i j v : Nat) (hf : f.lo < 64) (hg : g.lo < 64) (h : f.lo ≠ g.lo) :
    (s.setFld f i v).fld g j = s.fld g j :=
  cell_setCell_other s _ hf hg (by intro hk; exact h (by simpa using congrArg (fun x => x.2.1) hk))

/-- A write of a field leaves it alone at every other index. -/
theorem fld_setFld_idx (s : State) (f : Fld) {i j : Nat} (v : Nat) (hf : f.lo < 64) (h : i ≠ j) :
    (s.setFld f i v).fld f j = s.fld f j :=
  cell_setCell_other s _ hf hf (by intro hk; exact h (by simpa using congrArg (fun x => x.2.2) hk))

/-- A write of a field, at the same field. -/
theorem fld_setFld_self (s : State) (f : Fld) (i j v : Nat) (hf : f.lo < 64) :
    (s.setFld f i v).fld f j = if i = j then v % 2 ^ f.width else s.fld f j := by
  by_cases h : i = j
  · subst h; simp
  · simp [h, fld_setFld_idx s f v hf h]

/-- A read of a field sees the register cells alone. -/
theorem fld_congr {s t : State} (h : t.regs = s.regs) (f : Fld) (i : Nat) : t.fld f i = s.fld f i := by
  unfold State.fld State.cell; rw [h]

theorem fld_addSat (s : State) (f : Fld) (i n : Nat) : s.addSat f i n = s.setFld f i (min (s.fld f i + n) (2 ^ f.width - 1)) := rfl

theorem min_sat (a w : Nat) : min a (2 ^ w - 1) % 2 ^ w = min a (2 ^ w - 1) :=
  Nat.mod_eq_of_lt (by have := Nat.two_pow_pos w; omega)

/-- A saturating counter after an addition. -/
@[simp] theorem fld_addSat_same (s : State) (f : Fld) (i n : Nat) : (s.addSat f i n).fld f i = min (s.fld f i + n) (2 ^ f.width - 1) := by
  rw [fld_addSat, fld_setFld_same, min_sat]

/-- A saturating counter after an increment. -/
@[simp] theorem fld_bump_same (s : State) (f : Fld) (i : Nat) : (s.bump f i).fld f i = min (s.fld f i + 1) (2 ^ f.width - 1) := fld_addSat_same s f i 1

theorem fld_bump (s : State) (f : Fld) (i : Nat) : s.bump f i = s.setFld f i (min (s.fld f i + 1) (2 ^ f.width - 1)) := rfl

theorem fld_addWrap (s : State) (f : Fld) (i n : Nat) : s.addWrap f i n = s.setFld f i (s.fld f i + n) := rfl

theorem fld_lower (s : State) (f : Fld) (i n : Nat) : s.lower f i n = s.setFld f i (s.fld f i - n) := rfl

/-- The fields of a list of writes that name another register. -/
theorem fld_setFlds_reg (l : List (Fld × Nat × Nat)) (s : State) {g : Fld} (j : Nat) (hg : g.lo < 64)
    (h : ∀ x ∈ l, x.1.lo < 64 ∧ x.1.reg ≠ g.reg) : (s.setFlds l).fld g j = s.fld g j := by
  induction l generalizing s with
  | nil => rfl
  | cons x l ih =>
    have hx := h x (by simp)
    rw [State.setFlds_cons, ih _ (fun y hy => h y (by simp [hy])), fld_setFld_reg _ _ _ _ hx.1 hg hx.2]

end Sys2Proof.Machine
end

