-- ==== Sys2Proof/Laws/Mems.lean ====
section
/-! SUPPORT. The queue and the byte memories (`State.mems`): what an update of another part, and each operation of the tables and of the receive path, leaves of them. -/

set_option linter.unusedSimpArgs false

namespace Sys2Proof.Machine

theorem mems_mk (p : List Instr) (r : Tab Nat) (w : Nat) (tb : Tables) (dp : DataPath) (f : FaultSt) (pl : PlnSt) (ti : TimeSt) (te : TelSt)
    (h sr : Tab Byte) (ic : IntcSt) (m : MeSt) (d : DramSt) (hi : HifSt) (l : LdrSt) (ev : Tab Nat) (la : Tab (Option (Nat × List Nat)))
    (ro : Tab Nat) : (State.mk p r w tb dp f pl ti te h sr ic m d hi l ev la ro).mems = (p, sr, h, l.flash, l.otp) := by rfl

/-- An update of any other part of the state leaves the queue and the memories alone. -/
@[simp] theorem mems_same (s : State) (r : Tab Nat) (w : Nat) (tb : Tables) (dp : DataPath) (f : FaultSt) (pl : PlnSt) (ti : TimeSt) (te : TelSt)
    (ic : IntcSt) (m : MeSt) (d : DramSt) (hi : HifSt) (ev : Tab Nat) (la : Tab (Option (Nat × List Nat))) (ro : Tab Nat) :
    (State.mk s.pending r w tb dp f pl ti te s.hbm s.sram ic m d hi s.ldr ev la ro).mems = s.mems := by rfl

@[simp] theorem mems_withDram (s : State) (d : DramSt) : (s.withDram d).mems = s.mems := by rfl

@[simp] theorem mems_withHif (s : State) (h : HifSt) : (s.withHif h).mems = s.mems := by rfl

@[simp] theorem mems_withPln (s : State) (p : PlnSt) : (s.withPln p).mems = s.mems := by rfl

@[simp] theorem mems_withMe (s : State) (m : MeSt) : (s.withMe m).mems = s.mems := by rfl

@[simp] theorem mems_withTime (s : State) (x : TimeSt) : (s.withTime x).mems = s.mems := by rfl

theorem mems_withLdr (s : State) (l : LdrSt) (hf : l.flash = s.ldr.flash) (ho : l.otp = s.ldr.otp) : (s.withLdr l).mems = s.mems := by
  simp [State.mems, hf, ho]

@[simp] theorem mems_setFlds (l : List (Fld × Nat × Nat)) (s : State) : (s.setFlds l).mems = s.mems := by simp [State.mems]

theorem mems_fold {α : Type} (g : State → α → State) (h : ∀ s a, (g s a).mems = s.mems) (l : List α) (s : State) :
    (l.foldl g s).mems = s.mems := by
  induction l generalizing s with
  | nil => rfl
  | cons a l ih => rw [List.foldl_cons, ih, h]

@[simp] theorem mems_ite (c : Prop) [Decidable c] (a b : State) : (if c then a else b).mems = if c then a.mems else b.mems := by split <;> rfl

theorem mems_keep {ok : Bool} {s t : State} (h : keep ok s = some t) : t.mems = s.mems := by
  unfold keep at h
  split at h
  · cases h; rfl
  · cases h

@[simp] theorem mems_setCell (s : State) (r : Reg) (lo : Nat) (i : Nat) (v : Nat) : (State.setCell s r lo i v).mems = s.mems := by
  unfold State.setCell; simp

@[simp] theorem mems_clearFld (s : State) (f : Fld) : (State.clearFld s f).mems = s.mems := by
  unfold State.clearFld; simp

@[simp] theorem mems_setFld (s : State) (f : Fld) (i : Nat) (v : Nat) : (State.setFld s f i v).mems = s.mems := by
  unfold State.setFld; simp

@[simp] theorem mems_addSat (s : State) (f : Fld) (i : Nat) (n : Nat) : (State.addSat s f i n).mems = s.mems := by
  unfold State.addSat; simp

@[simp] theorem mems_bump (s : State) (f : Fld) (i : Nat) : (State.bump s f i).mems = s.mems := by
  unfold State.bump; simp

@[simp] theorem mems_addWrap (s : State) (f : Fld) (i : Nat) (n : Nat) : (State.addWrap s f i n).mems = s.mems := by
  unfold State.addWrap; simp

@[simp] theorem mems_lower (s : State) (f : Fld) (i : Nat) (n : Nat) : (State.lower s f i n).mems = s.mems := by
  unfold State.lower; simp

@[simp] theorem mems_setLatch (q : Requester) (key : Nat) (words : List Nat) (s : State) : (setLatch q key words s).mems = s.mems := by
  unfold setLatch; simp

@[simp] theorem mems_setOut (q : Requester) (v : Nat) (s : State) : (setOut q v s).mems = s.mems := by
  unfold setOut; simp

@[simp] theorem mems_raiseSrc (n : Nat) (s : State) : (raiseSrc n s).mems = s.mems := by
  unfold raiseSrc; simp

@[simp] theorem mems_setLevel (n : Nat) (on : Bool) (s : State) : (setLevel n on s).mems = s.mems := by
  unfold setLevel; simp

@[simp] theorem mems_raiseFault (src : Nat) (die : Nat) (detail : Nat) (s : State) : (raiseFault src die detail s).mems = s.mems := by
  unfold raiseFault; simp

@[simp] theorem mems_raiseFaultMe (src : Nat) (die : Nat) (detail : Nat) (s : State) : (raiseFaultMe src die detail s).mems = s.mems := by
  unfold raiseFaultMe; simp

@[simp] theorem mems_raiseEvent (t : Nat) (bit : Nat) (s : State) : (raiseEvent t bit s).mems = s.mems := by
  unfold raiseEvent; simp

@[simp] theorem mems_pmcAdd (c : Nat) (k : Nat) (n : Nat) (s : State) : (pmcAdd c k n s).mems = s.mems := by
  unfold pmcAdd; simp

@[simp] theorem mems_pmcThread (t : Nat) (ev : Nat) (n : Nat) (s : State) : (pmcThread t ev n s).mems = s.mems := by
  unfold pmcThread; simp [mems_fold]

@[simp] theorem mems_pmcCore (c : Nat) (ev : Nat) (n : Nat) (s : State) : (pmcCore c ev n s).mems = s.mems := by
  unfold pmcCore; simp [mems_fold]

@[simp] theorem mems_privViolation (q : Requester) (write : Bool) (off : Nat) (s : State) : (privViolation q write off s).mems = s.mems := by
  unfold privViolation; split <;> simp

theorem mems_gated (q : Requester) (off : Nat) (act : State → State) (s : State) (h_act : ∀ y0, (act y0).mems = y0.mems) :
    (gated q off act s).mems = s.mems := by
  unfold gated; simp [h_act]

@[simp] theorem mems_dramQueue (r : DramReq) (s : State) : (dramQueue r s).mems = s.mems := by
  unfold dramQueue; simp

@[simp] theorem mems_dramRequest (cls : Nat) (write : Bool) (a : Nat) (n : Nat) (s : State) : (dramRequest cls write a n s).mems = s.mems := by
  unfold dramRequest; simp

@[simp] theorem mems_dramRequests (cls : Nat) (write : Bool) (a : Nat) (n : Nat) (s : State) : (dramRequests cls write a n s).mems = s.mems := by
  unfold dramRequests; simp [mems_fold]

@[simp] theorem mems_showWindows (s : State) : (showWindows s).mems = s.mems := by
  unfold showWindows; simp

@[simp] theorem mems_unitBegin (u : Nat) (s : State) : (unitBegin u s).mems = s.mems := by
  unfold unitBegin; simp

@[simp] theorem mems_unitEnd (u : Nat) (s : State) : (unitEnd u s).mems = s.mems := by
  unfold unitEnd; simp

@[simp] theorem mems_windowClose (u : Nat) (s : State) : (windowClose u s).mems = s.mems := by
  unfold windowClose; simp

@[simp] theorem mems_tcamPut (d : Nat) (a : Nat) (r : TcamRow) (s : State) : (tcamPut d a r s).mems = s.mems := by
  unfold tcamPut; simp

@[simp] theorem mems_tcamPutEntry (d : Nat) (g : Nat) (a : Nat) (e : TcamEntry) (s : State) : (tcamPutEntry d g a e s).mems = s.mems := by
  unfold tcamPutEntry; simp [mems_fold]

@[simp] theorem mems_tcamClearEntry (d : Nat) (g : Nat) (a : Nat) (s : State) : (tcamClearEntry d g a s).mems = s.mems := by
  unfold tcamClearEntry; simp [mems_fold]

@[simp] theorem mems_tcamSearch (d : Nat) (p : Part) (key : Nat) (gmask : Nat) (skip : List Nat) (s : State) :
    (tcamSearch d p key gmask skip s).1.mems = s.mems := by
  unfold tcamSearch; simp only; (repeat' split) <;> simp [mems_fold]

@[simp] theorem mems_tcamDataPut (d : Nat) (j : Nat) (e : TcamEntry) (s : State) : (tcamDataPut d j e s).mems = s.mems := by
  unfold tcamDataPut; simp [mems_fold]

@[simp] theorem mems_tcamMoves (d : Nat) (p : Part) (moves : List (Nat × Nat)) (s : State) : (tcamMoves d p moves s).mems = s.mems := by
  unfold tcamMoves; simp [mems_fold]

@[simp] theorem mems_tcamOpRead (c : TcamCmd) (s : State) : (tcamOpRead c s).1.mems = s.mems := by
  unfold tcamOpRead; (repeat' split) <;> simp

@[simp] theorem mems_tcamOpWrite (c : TcamCmd) (s : State) : (tcamOpWrite c s).1.mems = s.mems := by
  unfold tcamOpWrite; simp only; (repeat' split) <;> simp [mems_fold]

@[simp] theorem mems_tcamOpClear (c : TcamCmd) (s : State) : (tcamOpClear c s).1.mems = s.mems := by
  unfold tcamOpClear; (repeat' split) <;> simp

@[simp] theorem mems_tcamOpMove (c : TcamCmd) (s : State) : (tcamOpMove c s).1.mems = s.mems := by
  unfold tcamOpMove; simp only; (repeat' split) <;> simp [mems_fold]

@[simp] theorem mems_tcamInsertEntry (d : Nat) (p : Part) (e0 : TcamEntry) (s : State) : (tcamInsertEntry d p e0 s).1.mems = s.mems := by
  unfold tcamInsertEntry; simp only; (repeat' split) <;> simp [mems_fold]

@[simp] theorem mems_tcamOpInsert (c : TcamCmd) (s : State) : (tcamOpInsert c s).1.mems = s.mems := by
  unfold tcamOpInsert; split <;> simp

@[simp] theorem mems_tcamDeleteEntry (d : Nat) (p : Part) (e : TcamEntry) (s : State) : (tcamDeleteEntry d p e s).1.mems = s.mems := by
  unfold tcamDeleteEntry; (repeat' split) <;> simp

@[simp] theorem mems_tcamOpDelete (c : TcamCmd) (s : State) : (tcamOpDelete c s).1.mems = s.mems := by
  unfold tcamOpDelete; split <;> simp

@[simp] theorem mems_tcamFromShadow (d : Nat) (a : Nat) (s : State) : (tcamFromShadow d a s).mems = s.mems := by
  unfold tcamFromShadow; simp

@[simp] theorem mems_tcamRepair (d : Nat) (b : Nat) (s : State) : (tcamRepair d b s).mems = s.mems := by
  unfold tcamRepair; simp

@[simp] theorem mems_tcamRewrite (d : Nat) (a : Nat) (readBackOk : Bool) (s : State) : (tcamRewrite d a readBackOk s).mems = s.mems := by
  unfold tcamRewrite; simp

@[simp] theorem mems_tcamActionUe (d : Nat) (a : Nat) (readBackOk : Bool) (s : State) : (tcamActionUe d a readBackOk s).mems = s.mems := by
  unfold tcamActionUe; simp

@[simp] theorem mems_tcamSearchEcc (d : Nat) (p : Part) (key : Nat) (gmask : Nat) (ue : List (Nat × Bool)) (s : State) :
    (tcamSearchEcc d p key gmask ue s).1.mems = s.mems := by
  unfold tcamSearchEcc; simp [mems_fold]

@[simp] theorem mems_tcamOpSearch (c : TcamCmd) (ue : List (Nat × Bool)) (s : State) : (tcamOpSearch c ue s).1.mems = s.mems := by
  unfold tcamOpSearch; (repeat' (first | with_reducible rfl | split | (rename_i hh; have kk := congrArg (fun x => x.1.mems) hh; simp at kk; simp [← kk]; done) | simp [mems_fold]))

@[simp] theorem mems_tcamEffect (c : TcamCmd) (ue : List (Nat × Bool)) (s : State) : (tcamEffect c ue s).1.mems = s.mems := by
  unfold tcamEffect; split <;> simp

@[simp] theorem mems_tcamJoin (d : Nat) (j : Nat) (op : Nat) (part : Nat) (s : State) : (tcamJoin d j op part s).mems = s.mems := by
  unfold tcamJoin; simp

@[simp] theorem mems_tcamStart (q : Requester) (d : Nat) (j : Nat) (op : Nat) (part : Nat) (s : State) :
    (tcamStart q d j op part s).mems = s.mems := by
  unfold tcamStart; refine mems_gated _ _ _ _ ?_; intro s; (repeat' split) <;> simp [mems_fold]

@[simp] theorem mems_putEnd (busy : Fld) (result : Fld) (moves : Option Fld) (hit : Option Fld) (addr : Option Fld) (i : Nat) (e : CmdEnd)
    (s : State) : (putEnd busy result moves hit addr i e s).mems = s.mems := by
  unfold putEnd; (repeat' split) <;> simp

@[simp] theorem mems_tcamTraffic (d : Nat) (rows : List Nat) (s : State) : (tcamTraffic d rows s).mems = s.mems := by
  unfold tcamTraffic; simp [mems_fold]

@[simp] theorem mems_tcamFinish (d : Nat) (j : Nat) (ue : List (Nat × Bool)) (s : State) : (tcamFinish d j ue s).mems = s.mems := by
  unfold tcamFinish; split <;> simp

@[simp] theorem mems_tcamScrub (d : Nat) (find : ScrubFind) (s : State) : (tcamScrub d find s).mems = s.mems := by
  unfold tcamScrub; split <;> simp

@[simp] theorem mems_tcamVerify (s : State) : (tcamVerify s).mems = s.mems := by
  unfold tcamVerify; simp [mems_fold]

@[simp] theorem mems_tcamInService (d : Nat) (s : State) : (tcamInService d s).mems = s.mems := by
  unfold tcamInService; simp [mems_fold]

@[simp] theorem mems_tcamRepairEnd (d : Nat) (b : Nat) (ok : Bool) (s : State) : (tcamRepairEnd d b ok s).mems = s.mems := by
  unfold tcamRepairEnd; simp

@[simp] theorem mems_nearSet (d : Nat) (a : Nat) (e : EmEntry) (s : State) : (nearSet d a e s).mems = s.mems := by
  unfold nearSet; simp

@[simp] theorem mems_learnCommit (d : Nat) (r : LearnReq) (s : State) : (learnCommit d r s).mems = s.mems := by
  unfold learnCommit; simp

@[simp] theorem mems_learnRefill (d : Nat) (s : State) : (learnRefill d s).mems = s.mems := by
  unfold learnRefill; simp

@[simp] theorem mems_emDataPut (d : Nat) (j : Nat) (key : Nat) (e : EmEntry) (s : State) : (emDataPut d j key e s).mems = s.mems := by
  unfold emDataPut; simp [mems_fold]

@[simp] theorem mems_emOpRead (c : EmCmd) (ue : Bool) (s : State) : (emOpRead c ue s).1.mems = s.mems := by
  unfold emOpRead; (repeat' split) <;> simp

@[simp] theorem mems_emOpLookup (c : EmCmd) (ue : Bool) (s : State) : (emOpLookup c ue s).1.mems = s.mems := by
  unfold emOpLookup; (repeat' split) <;> simp

@[simp] theorem mems_emJoin (d : Nat) (j : Nat) (op : Nat) (table : Nat) (s : State) : (emJoin d j op table s).mems = s.mems := by
  unfold emJoin; simp

@[simp] theorem mems_emStart (q : Requester) (d : Nat) (j : Nat) (op : Nat) (table : Nat) (s : State) : (emStart q d j op table s).mems = s.mems := by
  unfold emStart; refine mems_gated _ _ _ _ ?_; intro s; (repeat' split) <;> simp [mems_fold]

@[simp] theorem mems_emTraffic (c : EmCmd) (e : CmdEnd) (before : State) (s : State) : (emTraffic c e before s).mems = s.mems := by
  unfold emTraffic; split <;> simp

@[simp] theorem mems_rwPut (table : Nat) (i : Nat) (ws : List Nat) (s : State) : (rwPut table i ws s).mems = s.mems := by
  unfold rwPut; simp

@[simp] theorem mems_rwFromShadow (table : Nat) (i : Nat) (s : State) : (rwFromShadow table i s).mems = s.mems := by
  unfold rwFromShadow; simp

@[simp] theorem mems_editTableUe (d : Nat) (table : Nat) (i : Nat) (k : Nat) (s : State) : (editTableUe d table i k s).mems = s.mems := by
  unfold editTableUe; simp

@[simp] theorem mems_rwOpRead (j : Nat) (table : Nat) (ue : Bool) (s : State) : (rwOpRead j table ue s).1.mems = s.mems := by
  unfold rwOpRead; simp only; (repeat' split) <;> simp [mems_fold]

@[simp] theorem mems_rwStore (table : Nat) (i : Nat) (ws : List Nat) (s : State) : (rwStore table i ws s).mems = s.mems := by
  unfold rwStore; simp

@[simp] theorem mems_rwOpWrite (j : Nat) (table : Nat) (s : State) : (rwOpWrite j table s).1.mems = s.mems := by
  unfold rwOpWrite; simp only; (repeat' split) <;> simp [mems_fold]

theorem mems_rwStart (q : Requester) (j : Nat) (op : State → State × CmdEnd) (s : State) (h_op : ∀ y, (op y).1.mems = y.mems) :
    (rwStart q j op s).mems = s.mems := by
  unfold rwStart; refine mems_gated _ _ _ _ ?_; intro s; (repeat' split) <;> simp [mems_fold, h_op]

@[simp] theorem mems_rwFinish (j : Nat) (s : State) : (rwFinish j s).mems = s.mems := by
  unfold rwFinish; split <;> simp

@[simp] theorem mems_scSet (table : Nat) (i : Nat) (w : Nat) (v : Nat) (s : State) : (scSet table i w v s).mems = s.mems := by
  unfold scSet; simp

@[simp] theorem mems_scSetFld (table : Nat) (i : Nat) (w : Nat) (hi : Nat) (lo : Nat) (v : Nat) (s : State) :
    (scSetFld table i w hi lo v s).mems = s.mems := by
  unfold scSetFld; simp

@[simp] theorem mems_scBump (table : Nat) (i : Nat) (w : Nat) (n : Nat) (s : State) : (scBump table i w n s).mems = s.mems := by
  unfold scBump; simp

@[simp] theorem mems_scPut (table : Nat) (i : Nat) (ws : List Nat) (s : State) : (scPut table i ws s).mems = s.mems := by
  unfold scPut; simp

@[simp] theorem mems_gclPut (p : Nat) (l : Nat) (i : Nat) (v : Nat) (s : State) : (gclPut p l i v s).mems = s.mems := by
  unfold gclPut; simp

@[simp] theorem mems_gclRequest (p : Nat) (s : State) : (gclRequest p s).mems = s.mems := by
  unfold gclRequest; simp

@[simp] theorem mems_gclDrop (p : Nat) (s : State) : (gclDrop p s).mems = s.mems := by
  unfold gclDrop; simp

@[simp] theorem mems_gclCtrl (p : Nat) (cancel : Bool) (request : Bool) (s : State) : (gclCtrl p cancel request s).mems = s.mems := by
  unfold gclCtrl; simp

@[simp] theorem mems_gclApply (p : Nat) (s : State) : (gclApply p s).mems = s.mems := by
  unfold gclApply; split <;> simp

@[simp] theorem mems_setGateSt (g : Nat) (v : StreamGateSt) (s : State) : (setGateSt g v s).mems = s.mems := by
  unfold setGateSt; simp

@[simp] theorem mems_meterFull (m : Nat) (s : State) : (meterFull m s).mems = s.mems := by
  unfold meterFull; simp

@[simp] theorem mems_recReset (h : Nat) (s : State) : (recReset h s).mems = s.mems := by
  unfold recReset; simp

@[simp] theorem mems_scOpWrite (j : Nat) (table : Nat) (s : State) : (scOpWrite j table s).1.mems = s.mems := by
  unfold scOpWrite; simp only; (repeat' split) <;> simp [mems_fold]

@[simp] theorem mems_scOpRead (j : Nat) (table : Nat) (ue : Bool) (s : State) : (scOpRead j table ue s).1.mems = s.mems := by
  unfold scOpRead; simp only; (repeat' split) <;> simp [mems_fold]

@[simp] theorem mems_scOpChange (j : Nat) (table : Nat) (s : State) : (scOpChange j table s).1.mems = s.mems := by
  unfold scOpChange; simp only; (repeat' split) <;> simp [mems_fold]

theorem mems_scStart (q : Requester) (j : Nat) (table : Nat) (op : State → State × CmdEnd) (s : State) (h_op : ∀ y, (op y).1.mems = y.mems) :
    (scStart q j table op s).mems = s.mems := by
  unfold scStart; refine mems_gated _ _ _ _ ?_; intro s; (repeat' split) <;> simp [mems_fold, h_op]

@[simp] theorem mems_scFinish (j : Nat) (s : State) : (scFinish j s).mems = s.mems := by
  unfold scFinish; split <;> simp

@[simp] theorem mems_streamGateApply (g : Nat) (s : State) : (streamGateApply g s).mems = s.mems := by
  unfold streamGateApply; simp only; (repeat' split) <;> simp [mems_fold]

@[simp] theorem mems_streamGateEntry (g : Nat) (i : Nat) (s : State) : (streamGateEntry g i s).mems = s.mems := by
  unfold streamGateEntry; simp only; (repeat' split) <;> simp [mems_fold]

@[simp] theorem mems_streamGateRelease (g : Nat) (s : State) : (streamGateRelease g s).mems = s.mems := by
  unfold streamGateRelease; simp

@[simp] theorem mems_ctxUe (h : Nat) (s : State) : (ctxUe h s).mems = s.mems := by
  unfold ctxUe; simp

@[simp] theorem mems_setFrame (f : Nat) (fr : Frame) (s : State) : (setFrame f fr s).mems = s.mems := by
  unfold setFrame; simp

@[simp] theorem mems_dropFrame (f : Nat) (s : State) : (dropFrame f s).mems = s.mems := by
  unfold dropFrame; simp

@[simp] theorem mems_setPortSt (p : Nat) (v : PortSt) (s : State) : (setPortSt p v s).mems = s.mems := by
  unfold setPortSt; simp

@[simp] theorem mems_poolLevel (s : State) : (poolLevel s).mems = s.mems := by
  unfold poolLevel; simp

@[simp] theorem mems_queueHwm (q : Nat) (s : State) : (queueHwm q s).mems = s.mems := by
  unfold queueHwm; simp

@[simp] theorem mems_setQCells (q : Nat) (v : Nat) (s : State) : (setQCells q v s).mems = s.mems := by
  unfold setQCells; simp

@[simp] theorem mems_setQMin (q : Nat) (v : Nat) (s : State) : (setQMin q v s).mems = s.mems := by
  unfold setQMin; simp

@[simp] theorem mems_ctrlRequest (p : Nat) (mask : Nat) (quanta : Nat) (s : State) : (ctrlRequest p mask quanta s).mems = s.mems := by
  unfold ctrlRequest; simp

@[simp] theorem mems_pfcAsk (p : Nat) (i : Nat) (mask : Nat) (quanta : Nat) (s : State) : (pfcAsk p i mask quanta s).mems = s.mems := by
  unfold pfcAsk; simp

@[simp] theorem mems_xoffPut (i : Nat) (on : Bool) (s : State) : (xoffPut i on s).mems = s.mems := by
  unfold xoffPut; simp

@[simp] theorem mems_pfcUpdate (p : Nat) (n : Nat) (s : State) : (pfcUpdate p n s).mems = s.mems := by
  unfold pfcUpdate; simp only; (repeat' split) <;> simp [mems_fold]

@[simp] theorem mems_pfcNext (s : State) : (pfcNext s).mems = s.mems := by
  unfold pfcNext; simp [mems_fold]

@[simp] theorem mems_firstCell (f : Nat) (s : State) : (firstCell f s).mems = s.mems := by
  unfold firstCell; split <;> simp

@[simp] theorem mems_leaveTransit (f : Nat) (s : State) : (leaveTransit f s).mems = s.mems := by
  unfold leaveTransit; split <;> simp

@[simp] theorem mems_settle (f : Nat) (s : State) : (settle f s).mems = s.mems := by
  unfold settle; split <;> simp

@[simp] theorem mems_freeDesc (s : State) : (freeDesc s).mems = s.mems := by
  unfold freeDesc; simp

@[simp] theorem mems_uncharge (c : Copy) (s : State) : (uncharge c s).mems = s.mems := by
  unfold uncharge; simp

@[simp] theorem mems_unqueue (c : Copy) (s : State) : (unqueue c s).mems = s.mems := by
  unfold unqueue; simp

@[simp] theorem mems_discardCopy (c : Copy) (s : State) : (discardCopy c s).mems = s.mems := by
  unfold discardCopy; simp

@[simp] theorem mems_heldCount (s : State) : (heldCount s).mems = s.mems := by
  unfold heldCount; simp

@[simp] theorem mems_ctxSend (d : Nat) (j : Nat) (port : Nat) (len : Nat) (bs : List Byte) (s : State) :
    (ctxSend d j port len bs s).1.mems = s.mems := by
  unfold ctxSend; simp only; (repeat' split) <;> simp [mems_fold]

@[simp] theorem mems_ctxInstall (d : Nat) (j : Nat) (port : Nat) (len : Nat) (bs : List Byte) (s : State) :
    (ctxInstall d j port len bs s).mems = s.mems := by
  unfold ctxInstall; simp

@[simp] theorem mems_setLink (d : Nat) (j : Nat) (l : LinkDir) (s : State) : (setLink d j l s).mems = s.mems := by
  unfold setLink; simp

@[simp] theorem mems_sendAck (d : Nat) (j : Nat) (i : Nat) (s : State) : (sendAck d j i s).mems = s.mems := by
  unfold sendAck; simp

@[simp] theorem mems_sendInval (d : Nat) (j : Nat) (i : Nat) (s : State) : (sendInval d j i s).mems = s.mems := by
  unfold sendInval; simp

@[simp] theorem mems_setSendCtx (d : Nat) (j : Nat) (i : Nat) (st : Nat) (s : State) : (setSendCtx d j i st s).mems = s.mems := by
  unfold setSendCtx; simp

@[simp] theorem mems_ctxAck (d : Nat) (j : Nat) (i : Nat) (gen : Nat) (s : State) : (ctxAck d j i gen s).mems = s.mems := by
  unfold ctxAck; simp

@[simp] theorem mems_ctxInval (d : Nat) (j : Nat) (i : Nat) (s : State) : (ctxInval d j i s).mems = s.mems := by
  unfold ctxInval; simp

@[simp] theorem mems_badCopies (f : Nat) (s : State) : (badCopies f s).mems = s.mems := by
  unfold badCopies; simp [mems_fold]

@[simp] theorem mems_badTail (f : Nat) (count : Bool) (s : State) : (badTail f count s).mems = s.mems := by
  unfold badTail; split <;> simp

@[simp] theorem mems_offerFlits (d : Nat) (j : Nat) (fs : List Flit) (s : State) : (offerFlits d j fs s).mems = s.mems := by
  unfold offerFlits; simp

@[simp] theorem mems_handUp (f : Nat) (fr : Frame) (s : State) : (handUp f fr s).1.mems = s.mems := by
  unfold handUp; simp

@[simp] theorem mems_handRest (f : Nat) (fr : Frame) (s : State) : (handRest f fr s).1.mems = s.mems := by
  unfold handRest; split <;> simp

@[simp] theorem mems_handDown (t : TxCopy) (fr : Frame) (s : State) : (handDown t fr s).1.mems = s.mems := by
  unfold handDown; simp

@[simp] theorem mems_handDownRest (f : Nat) (fr : Frame) (s : State) : (handDownRest f fr s).mems = s.mems := by
  unfold handDownRest; simp [mems_fold]

@[simp] theorem mems_ctxReadUe (d : Nat) (j : Nat) (i : Nat) (s : State) : (ctxReadUe d j i s).mems = s.mems := by
  unfold ctxReadUe; simp

@[simp] theorem mems_decodeHead (d : Nat) (j : Nat) (fl : Flit) (ue : Bool) (s : State) : (decodeHead d j fl ue s).1.mems = s.mems := by
  unfold decodeHead; simp only; (repeat' split) <;> simp [mems_fold]

@[simp] theorem mems_arriveUp (d : Nat) (fl : Flit) (ue : Bool) (s : State) : (arriveUp d fl ue s).mems = s.mems := by
  unfold arriveUp; simp only; (repeat' split) <;> simp [mems_fold]

@[simp] theorem mems_arriveDown (d : Nat) (fl : Flit) (ue : Bool) (s : State) : (arriveDown d fl ue s).mems = s.mems := by
  unfold arriveDown; split <;> simp

@[simp] theorem mems_flitCross (d : Nat) (j : Nat) (owner : Nat) (ue : Bool) (s : State) : (flitCross d j owner ue s).mems = s.mems := by
  unfold flitCross; simp

@[simp] theorem mems_linkDrain (d : Nat) (j : Nat) (owner : Nat) (startOnly : Bool) (ue : Bool) (n : Nat) (s : State) :
    (linkDrain d j owner startOnly ue n s).mems = s.mems := by
  induction n generalizing s with
  | zero => rfl
  | succ n ih =>
    simp only [linkDrain]
    split
    · rw [ih]; simp
    · rfl

@[simp] theorem mems_linkCarry (d : Nat) (j : Nat) (owner : Nat) (startOnly : Bool) (ue : Bool) (s : State) :
    (linkCarry d j owner startOnly ue s).mems = s.mems := by
  unfold linkCarry; simp

@[simp] theorem mems_headerUp (f : Nat) (ue : Bool) (s : State) : (headerUp f ue s).mems = s.mems := by
  unfold headerUp; split <;> simp

@[simp] theorem mems_bodyUp (f : Nat) (s : State) : (bodyUp f s).mems = s.mems := by
  unfold bodyUp; split <;> simp

@[simp] theorem mems_sketchAdd (x : Nat) (key : Nat) (n : Nat) (s : State) : (sketchAdd x key n s).mems = s.mems := by
  unfold sketchAdd; simp

@[simp] theorem mems_sketchLatch (s : State) : (sketchLatch s).mems = s.mems := by
  unfold sketchLatch; simp

@[simp] theorem mems_pipeSearch (d : Nat) (kind : Nat) (key : Nat) (ue : List (Nat × Bool)) (s : State) :
    (pipeSearch d kind key ue s).1.mems = s.mems := by
  unfold pipeSearch; split <;> simp

@[simp] theorem mems_addTrap (host : Bool) (code port : Nat) (r : State × Cls) : (addTrap host code port r).1.mems = r.1.mems := by
  unfold addTrap
  simp only
  split <;> split <;> simp

@[simp] theorem mems_frameAction (action : Nat) (reason : Nat) (port : Nat) (q : Nat) (c : Cls) (s : State) :
    (frameAction action reason port q c s).1.mems = s.mems := by
  unfold frameAction
  split <;> simp

@[simp] theorem mems_ruleHit (port : Nat) (act : Word) (c : Cls) (s : State) : (ruleHit port act c s).1.mems = s.mems := by
  unfold ruleHit; simp

@[simp] theorem mems_routeDest (port : Nat) (act : Word) (nhUe : Bool) (s : State) : (routeDest port act nhUe s).1.mems = s.mems := by
  unfold routeDest; simp only; (repeat' split) <;> simp [mems_fold]

@[simp] theorem mems_routedDest (port : Nat) (nhUe : Bool) (r : State × Option (Nat × Word)) : (routedDest port nhUe r).1.mems = r.1.mems := by
  unfold routedDest
  split <;> simp

@[simp] theorem mems_entryTarget (port : Nat) (e : EmEntry) (tcamUe : List (Nat × Bool)) (nhUe : Bool) (c : Cls) (s : State) :
    (entryTarget port e tcamUe nhUe c s).1.mems = s.mems := by
  unfold entryTarget
  split
  · split <;> simp
  · rfl
  · simp only
    generalize (if c.via4 = true ∧ e.operand % 2 = 1 then 2 else if c.via6 = true ∧ e.operand / 2 % 2 = 1 then 3 else 0) = k
    split
    · simp
    · rw [mems_routedDest, mems_pipeSearch]
  · rfl

@[simp] theorem mems_entryDest (port : Nat) (e : EmEntry) (tcamUe : List (Nat × Bool)) (nhUe : Bool) (c : Cls) (s : State) :
    (entryDest port e tcamUe nhUe c s).1.mems = s.mems := by
  unfold entryDest
  simp only
  split <;> simp

@[simp] theorem mems_floodDest (port : Nat) (c : Cls) (s : State) : (floodDest port c s).1.mems = s.mems := by
  unfold floodDest; simp

@[simp] theorem mems_frameLearn (d : Nat) (f : Nat) (fr : Frame) (req : Option LearnReq) (s : State) : (frameLearn d f fr req s).mems = s.mems := by
  unfold frameLearn; split <;> simp

@[simp] theorem mems_postFar (d : Nat) (f : Nat) (fr : Frame) (s : State) : (postFar d f fr s).1.mems = s.mems := by
  unfold postFar; split <;> simp

@[simp] theorem mems_sketchFrame (f : Nat) (port : Nat) (key : Nat) (fr : Frame) (s : State) : (sketchFrame f port key fr s).mems = s.mems := by
  unfold sketchFrame; split <;> simp

@[simp] theorem mems_malformedFrame (f : Nat) (now : Nat) (act : Nat) (fr : Frame) (p : ParseSt) (s : State) :
    (malformedFrame f now act fr p s).mems = s.mems := by
  unfold malformedFrame; simp

@[simp] theorem mems_sketchUnstreamed (f : Nat) (key : Nat) (fr : Frame) (c : Cls) (s : State) : (sketchUnstreamed f key fr c s).mems = s.mems := by
  unfold sketchUnstreamed; simp

@[simp] theorem mems_farIssue (s : State) : (farIssue s).mems = s.mems := by
  unfold farIssue; simp only; (repeat' split) <;> simp [mems_fold]

@[simp] theorem mems_farEnd (f : Nat) (e : Option EmEntry) (x : ActUe) (s : State) :
    (farEnd f e x s).mems = s.mems := by
  unfold farEnd; (repeat' split) <;> simp

@[simp] theorem mems_farResult (f : Nat) (ecc : Ecc) (x : ActUe) (s : State) :
    (farResult f ecc x s).mems = s.mems := by
  unfold farResult; simp only; (repeat' split) <;> simp [mems_fold]

@[simp] theorem mems_farTimeout (f : Nat) (s : State) : (farTimeout f s).mems = s.mems := by
  unfold farTimeout; split <;> simp

end Sys2Proof.Machine
end

