-- ==== Sys2Proof/Laws/MemsPath.lean ====
section
/-! SUPPORT. The queue and the byte memories (`State.mems`) under the operations of the hub, the ports, the schedulers, the plan tables, time, DRAM, threads and microcode that write none of them. -/

set_option linter.unusedSimpArgs false

namespace Sys2Proof.Machine

@[simp] theorem mems_setMeter (m : Nat) (v : MeterSt) (s : State) : (setMeter m v s).mems = s.mems := by
  unfold setMeter; simp

@[simp] theorem mems_meterRun (m : Nat) (l : Nat) (colour : Nat) (s : State) : (meterRun m l colour s).1.mems = s.mems := by
  unfold meterRun; simp only; (repeat' split) <;> simp [mems_fold]

@[simp] theorem mems_sduDrop (x : Nat) (s : State) : (sduDrop x s).mems = s.mems := by
  unfold sduDrop; simp

@[simp] theorem mems_police (fr : Frame) (scUe : Bool) (s : State) : (police fr scUe s).1.mems = s.mems := by
  unfold police; simp only; (repeat' split) <;> simp [mems_fold]

@[simp] theorem mems_meterCredit (fr : Frame) (l : Nat) (s : State) : (meterCredit fr l s).mems = s.mems := by
  unfold meterCredit; split <;> simp

@[simp] theorem mems_phaseObserve (fr : Frame) (s : State) : (phaseObserve fr s).mems = s.mems := by
  unfold phaseObserve; split <;> simp

@[simp] theorem mems_wredTest (q : Nat) (colour : Nat) (ect : Bool) (s : State) : (wredTest q colour ect s).1.mems = s.mems := by
  unfold wredTest; simp only; (repeat' split) <;> simp [mems_fold]

@[simp] theorem mems_enqueue (c : Copy) (mark : Bool) (s : State) : (enqueue c mark s).mems = s.mems := by
  unfold enqueue; simp

@[simp] theorem mems_refuseCopy (c : Copy) (s : State) : (refuseCopy c s).mems = s.mems := by
  unfold refuseCopy; split <;> simp

@[simp] theorem mems_countRefusal (v : Verdict) (c : Copy) (s : State) : (countRefusal v c s).mems = s.mems := by
  unfold countRefusal; (repeat' split) <;> simp

@[simp] theorem mems_admitCopy (c : Copy) (ect : Bool) (s : State) : (admitCopy c ect s).st.mems = s.mems := by
  unfold admitCopy; (repeat' (first | with_reducible rfl | split | (rename_i hh; have kk := congrArg (fun x => x.1.mems) hh; simp at kk; simp [← kk]; done) | simp [mems_fold]))

@[simp] theorem mems_holdCopy (c : Copy) (s : State) : (holdCopy c s).st.mems = s.mems := by
  unfold holdCopy; simp only; (repeat' split) <;> simp [mems_fold]

@[simp] theorem mems_offerCopy (c : Copy) (ect : Bool) (s : State) : (offerCopy c ect s).st.mems = s.mems := by
  unfold offerCopy; simp only; (repeat' split) <;> simp [mems_fold]

@[simp] theorem mems_trapToken (s : State) : (trapToken s).1.mems = s.mems := by
  unfold trapToken; split <;> simp

@[simp] theorem mems_offerAll (ect : Bool) (shaped : Bool) (l : List Copy) (s : State) : (offerAll ect shaped l s).1.mems = s.mems := by
  induction l generalizing s with
  | nil => rfl
  | cons c l ih =>
    have h : (if c.port = 513 ∧ shaped = true then trapToken s else (s, true)).1.mems = s.mems := by split <;> simp
    simp only [offerAll]
    generalize (if c.port = 513 ∧ shaped = true then trapToken s else (s, true)) = x at h ⊢
    split
    · simp only [ih, mems_offerCopy, h]
    · rw [ih, h]

@[simp] theorem mems_admitAll (ect : Bool) (shaped : Bool) (cs : List Copy) (s : State) : (admitAll ect shaped cs s).1.mems = s.mems := by
  unfold admitAll; simp

@[simp] theorem mems_numberCopies (cs : List Copy) (s : State) : (numberCopies cs s).1.mems = s.mems := by
  unfold numberCopies; simp

@[simp] theorem mems_groupCopies (f : Nat) (fr : Frame) (g : Nat) (nh : Option Nat) (ue : Option Nat) (s : State) :
    (groupCopies f fr g nh ue s).1.mems = s.mems := by
  unfold groupCopies; simp only; (repeat' split) <;> simp [mems_fold]

@[simp] theorem mems_forwardCopies (f : Nat) (fr : Frame) (ue : Option Nat) (s : State) : (forwardCopies f fr ue s).1.mems = s.mems := by
  unfold forwardCopies; split <;> simp

@[simp] theorem mems_mirrorCopy (f : Nat) (fr : Frame) (made : List Copy) (m : Nat) (s : State) : (mirrorCopy f fr made m s).1.mems = s.mems := by
  unfold mirrorCopy; simp only; (repeat' split) <;> simp [mems_fold]

@[simp] theorem mems_forwardBy (port : Nat) (tcamUe : List (Nat × Bool)) (nhUe : Bool) (c : Cls) (s : State) (r : State × Option (Nat × EmEntry)) :
    (forwardBy port tcamUe nhUe c s r).1.mems = r.1.mems := by
  unfold forwardBy
  simp only
  split
  · split
    · exact mems_bump _ _ _
    · rfl
  · split
    · exact mems_entryDest _ _ _ _ _ _
    · split
      · rfl
      · exact mems_floodDest _ _ _

@[simp] theorem mems_makeCopies (f : Nat) (fr : Frame) (ue : Option Nat) (s : State) : (makeCopies f fr ue s).1.mems = s.mems := by
  unfold makeCopies
  have h : ∀ (l : List Nat) (made : List Copy) (a : State × List Copy), (l.foldl (fun (a : State × List Copy) m =>
    let x := mirrorCopy f fr made m a.1
    (x.1, a.2 ++ x.2)) a).1.mems = a.1.mems := by
    intro l made
    induction l with
    | nil => intro a; rfl
    | cons m l ih => intro a; rw [List.foldl_cons, ih]; simp
  simp only
  split
  · rw [mems_forwardCopies]
  · simp only [h, mems_forwardCopies]

@[simp] theorem mems_countTruncated (f : Nat) (l : Nat) (s : State) : (countTruncated f l s).mems = s.mems := by
  unfold countTruncated; simp [mems_fold]

@[simp] theorem mems_replicate (f : Nat) (fr : Frame) (replUe : Option Nat) (s : State) : (replicate f fr replUe s).mems = s.mems := by
  unfold replicate; split <;> simp

@[simp] theorem mems_inputStage (f : Nat) (scUe : Bool) (replUe : Option Nat) (s : State) : (inputStage f scUe replUe s).mems = s.mems := by
  unfold inputStage
  split
  · rfl
  · rename_i fr _
    have h := mems_police fr scUe s
    split <;> rename_i hh <;> rw [hh] at h <;> simp only at h
    · rw [mems_settle, mems_setFrame, h]
    · simp only
      split <;> simp [h]

@[simp] theorem mems_hubInput (f : Nat) (scUe : Bool) (replUe : Option Nat) (ctxUe : Bool) (s : State) :
    (hubInput f scUe replUe ctxUe s).mems = s.mems := by
  unfold hubInput
  split
  · rfl
  · split
    · rfl
    · simp only
      split <;> simp

@[simp] theorem mems_holdRetry (q : Nat) (s : State) : (holdRetry q s).mems = s.mems := by
  unfold holdRetry; split <;> simp

@[simp] theorem mems_refuseHeld (sel : Copy → Bool) (expired : Bool) (s : State) : (refuseHeld sel expired s).mems = s.mems := by
  unfold refuseHeld; simp [mems_fold]

@[simp] theorem mems_holdExpiry (f : Nat) (s : State) : (holdExpiry f s).mems = s.mems := by
  unfold holdExpiry; simp

@[simp] theorem mems_frameEligible (f : Nat) (s : State) : (frameEligible f s).mems = s.mems := by
  unfold frameEligible; split <;> simp

@[simp] theorem mems_qAvgStep (q : Nat) (s : State) : (qAvgStep q s).mems = s.mems := by
  unfold qAvgStep; simp

@[simp] theorem mems_qAvgUpdate (s : State) : (qAvgUpdate s).mems = s.mems := by
  unfold qAvgUpdate; simp [mems_fold]

@[simp] theorem mems_setShaper (k : Nat) (v : ShaperSt) (s : State) : (setShaper k v s).mems = s.mems := by
  unfold setShaper; simp

@[simp] theorem mems_shaperPlace (k : Nat) (st : ShaperSt) (s : State) : (shaperPlace k st s).mems = s.mems := by
  unfold shaperPlace; simp

@[simp] theorem mems_shaperCharge (k : Nat) (n : Nat) (s : State) : (shaperCharge k n s).mems = s.mems := by
  unfold shaperCharge; simp

@[simp] theorem mems_shaperCredit (k : Nat) (n : Nat) (s : State) : (shaperCredit k n s).mems = s.mems := by
  unfold shaperCredit; simp

@[simp] theorem mems_shaperWheel (s : State) : (shaperWheel s).mems = s.mems := by
  unfold shaperWheel; refine mems_fold _ ?_ _ _; intro s a; (repeat' split) <;> simp [mems_fold]

@[simp] theorem mems_creditTx (f : Nat) (s : State) : (creditTx f s).mems = s.mems := by
  unfold creditTx; simp [mems_fold]

@[simp] theorem mems_sendTlp (k : Nat) (s : State) : (sendTlp k s).mems = s.mems := by
  unfold sendTlp; simp

@[simp] theorem mems_sendMsix (k : Nat) (s : State) : (sendMsix k s).mems = s.mems := by
  unfold sendMsix; simp

@[simp] theorem mems_sendPme (s : State) : (sendPme s).mems = s.mems := by
  unfold sendPme; simp

@[simp] theorem mems_signalVector (f : Nat) (v : Nat) (s : State) : (signalVector f v s).mems = s.mems := by
  unfold signalVector; simp

@[simp] theorem mems_flushVector (f : Nat) (v : Nat) (s : State) : (flushVector f v s).mems = s.mems := by
  unfold flushVector; simp

@[simp] theorem mems_flushVectors (f : Nat) (s : State) : (flushVectors f s).mems = s.mems := by
  unfold flushVectors; simp [mems_fold]

@[simp] theorem mems_assertRequest (j : Nat) (s : State) : (assertRequest j s).mems = s.mems := by
  unfold assertRequest; simp [mems_fold]

@[simp] theorem mems_sampleLevel (n : Nat) (s : State) : (sampleLevel n s).mems = s.mems := by
  unfold sampleLevel; simp

@[simp] theorem mems_deliver (n : Nat) (s : State) : (deliver n s).mems = s.mems := by
  unfold deliver; simp

@[simp] theorem mems_interruptDelivery (n : Nat) (s : State) : (interruptDelivery n s).mems = s.mems := by
  unfold interruptDelivery; simp

@[simp] theorem mems_claimRead (q : Requester) (j : Nat) (s : State) : (claimRead q j s).mems = s.mems := by
  unfold claimRead; simp

@[simp] theorem mems_endService (n : Nat) (s : State) : (endService n s).mems = s.mems := by
  unfold endService; simp

@[simp] theorem mems_completeWrite (q : Requester) (j : Nat) (n : Nat) (s : State) : (completeWrite q j n s).mems = s.mems := by
  unfold completeWrite; simp

@[simp] theorem mems_setMask (n : Nat) (m : Nat) (s : State) : (setMask n m s).mems = s.mems := by
  unfold setMask; simp

@[simp] theorem mems_setEnable (n : Nat) (e : Nat) (s : State) : (setEnable n e s).mems = s.mems := by
  unfold setEnable; simp

@[simp] theorem mems_srcMaskWrite (q : Requester) (n : Nat) (m : Nat) (s : State) : (srcMaskWrite q n m s).mems = s.mems := by
  unfold srcMaskWrite; (repeat' split) <;> first | rfl | (refine mems_gated _ _ _ _ ?_; intro s; (repeat' split) <;> first | rfl | simp [mems_withLdr]) | simp [mems_withLdr]

@[simp] theorem mems_srcEnableWrite (q : Requester) (n : Nat) (e : Nat) (s : State) : (srcEnableWrite q n e s).mems = s.mems := by
  unfold srcEnableWrite; (repeat' split) <;> first | rfl | (refine mems_gated _ _ _ _ ?_; intro s; (repeat' split) <;> first | rfl | simp [mems_withLdr]) | simp [mems_withLdr]

@[simp] theorem mems_srcCfgWrite (n : Nat) (w : Nat) (s : State) : (srcCfgWrite n w s).mems = s.mems := by
  unfold srcCfgWrite; simp

@[simp] theorem mems_swRaise (q : Requester) (s : State) : (swRaise q s).mems = s.mems := by
  unfold swRaise; refine mems_gated _ _ _ _ ?_; intro s; (repeat' split) <;> simp [mems_fold]

@[simp] theorem mems_intcEpoch (s : State) : (intcEpoch s).mems = s.mems := by
  unfold intcEpoch; simp [mems_fold]

@[simp] theorem mems_intcMeReset (s : State) : (intcMeReset s).mems = s.mems := by
  unfold intcMeReset; simp [mems_fold]

@[simp] theorem mems_moreWrites (f : Nat) (ws : List (Nat × List Byte)) (s : State) : (moreWrites f ws s).mems = s.mems := by
  unfold moreWrites; simp

@[simp] theorem mems_postWrites (f : Nat) (ws : List (Nat × List Byte)) (s : State) : (postWrites f ws s).mems = s.mems := by
  unfold postWrites; simp

@[simp] theorem mems_ringSignal (r : Nat) (s : State) : (ringSignal r s).mems = s.mems := by
  unfold ringSignal; simp

@[simp] theorem mems_ringComplete (r : Nat) (s : State) : (ringComplete r s).mems = s.mems := by
  unfold ringComplete; simp

@[simp] theorem mems_moderationExpiry (r : Nat) (s : State) : (moderationExpiry r s).mems = s.mems := by
  unfold moderationExpiry; simp

@[simp] theorem mems_eventPut (e : Nat) (ty : Nat) (body : List Byte) (s : State) : (eventPut e ty body s).mems = s.mems := by
  unfold eventPut; simp

@[simp] theorem mems_eventLoss (e : Nat) (s : State) : (eventLoss e s).mems = s.mems := by
  unfold eventLoss; simp

@[simp] theorem mems_eventOn (e : Nat) (ty : Nat) (body : List Byte) (s : State) : (eventOn e ty body s).mems = s.mems := by
  unfold eventOn; simp

@[simp] theorem mems_eventRecord (ty : Nat) (body : List Byte) (s : State) : (eventRecord ty body s).mems = s.mems := by
  unfold eventRecord; simp [mems_fold]

@[simp] theorem mems_rateAdjWrite (v : Nat) (s : State) : (rateAdjWrite v s).mems = s.mems := by
  unfold rateAdjWrite; simp

@[simp] theorem mems_timeStep (s : State) : (timeStep s).mems = s.mems := by
  unfold timeStep; simp

@[simp] theorem mems_timeSet (s : State) : (timeSet s).mems = s.mems := by
  unfold timeSet; simp

@[simp] theorem mems_setServo (v : Nat) (s : State) : (setServo v s).mems = s.mems := by
  unfold setServo; simp

@[simp] theorem mems_applyRate (r : Int) (s : State) : (applyRate r s).mems = s.mems := by
  unfold applyRate; simp

@[simp] theorem mems_servoSteer (s : State) : (servoSteer s).mems = s.mems := by
  unfold servoSteer; simp

@[simp] theorem mems_servoUpdate (s : State) : (servoUpdate s).mems = s.mems := by
  unfold servoUpdate; simp

@[simp] theorem mems_enterHoldover (s : State) : (enterHoldover s).mems = s.mems := by
  unfold enterHoldover; simp

@[simp] theorem mems_syncReceiptTimeout (s : State) : (syncReceiptTimeout s).mems = s.mems := by
  unfold syncReceiptTimeout; simp

@[simp] theorem mems_holdoverExpiry (s : State) : (holdoverExpiry s).mems = s.mems := by
  unfold holdoverExpiry; simp

@[simp] theorem mems_workSourceWritten (s : State) : (workSourceWritten s).mems = s.mems := by
  unfold workSourceWritten; simp

@[simp] theorem mems_servoDefaults (s : State) : (servoDefaults s).mems = s.mems := by
  unfold servoDefaults; simp

@[simp] theorem mems_portEvent (p : Nat) (ev : Fld) (en : Fld) (verify : Bool) (s : State) : (portEvent p ev en verify s).mems = s.mems := by
  unfold portEvent; simp

@[simp] theorem mems_setActive (p : Nat) (s : State) : (setActive p s).mems = s.mems := by
  unfold setActive; simp

@[simp] theorem mems_holdOff (p : Nat) (s : State) : (holdOff p s).mems = s.mems := by
  unfold holdOff; simp

@[simp] theorem mems_setFaults (p : Nat) (lf : Bool) (rf : Bool) (s : State) : (setFaults p lf rf s).mems = s.mems := by
  unfold setFaults; simp

@[simp] theorem mems_laneSignal (signal : Bool) (q : Nat) (s : State) : (laneSignal signal q s).mems = s.mems := by
  unfold laneSignal; simp

@[simp] theorem mems_lanePath (q : Nat) (signal : Bool) (s : State) : (lanePath q signal s).mems = s.mems := by
  unfold lanePath; simp

@[simp] theorem mems_rxPathStatus (p : Nat) (signal : Bool) (lock : Bool) (lanes : Nat) (order : List Nat) (skew : Nat) (lfSets : Bool)
    (rf : Bool) (s : State) : (rxPathStatus p signal lock lanes order skew lfSets rf s).mems = s.mems := by
  unfold rxPathStatus; simp [mems_fold]

@[simp] theorem mems_portBringUp (p : Nat) (s : State) : (portBringUp p s).mems = s.mems := by
  unfold portBringUp; simp

@[simp] theorem mems_laneAdapted (q : Nat) (s : State) : (laneAdapted q s).mems = s.mems := by
  unfold laneAdapted; simp

@[simp] theorem mems_adaptationDone (p : Nat) (s : State) : (adaptationDone p s).mems = s.mems := by
  unfold adaptationDone; simp [mems_fold]

@[simp] theorem mems_anComplete (p : Nat) (rf : Bool) (s : State) : (anComplete p rf s).mems = s.mems := by
  unfold anComplete; simp

@[simp] theorem mems_sgmiiWord (p : Nat) (up : Bool) (full : Bool) (gig : Bool) (s : State) : (sgmiiWord p up full gig s).mems = s.mems := by
  unfold sgmiiWord; simp

@[simp] theorem mems_linkUp (p : Nat) (s : State) : (linkUp p s).mems = s.mems := by
  unfold linkUp; simp

@[simp] theorem mems_mapTx (id : Nat) (g : TxCopy → TxCopy) (s : State) : (mapTx id g s).mems = s.mems := by
  unfold mapTx; simp

@[simp] theorem mems_holdFrame (p : Nat) (t : TxCopy) (c : Nat) (s : State) : (holdFrame p t c s).mems = s.mems := by
  unfold holdFrame; simp

@[simp] theorem mems_holdIssue (p : Nat) (q : Nat) (len : Nat) (ts : Nat) (s : State) : (holdIssue p q len ts s).mems = s.mems := by
  unfold holdIssue; (repeat' split) <;> simp

@[simp] theorem mems_resumeHeld (p : Nat) (s : State) : (resumeHeld p s).mems = s.mems := by
  unfold resumeHeld; split <;> simp

@[simp] theorem mems_txDrainIdle (p : Nat) (s : State) : (txDrainIdle p s).mems = s.mems := by
  unfold txDrainIdle; simp

@[simp] theorem mems_flushStart (p : Nat) (s : State) : (flushStart p s).mems = s.mems := by
  unfold flushStart; simp [mems_fold]

@[simp] theorem mems_flushComplete (p : Nat) (s : State) : (flushComplete p s).mems = s.mems := by
  unfold flushComplete; simp

@[simp] theorem mems_countRx (p : Nat) (l : Nat) (s : State) : (countRx p l s).mems = s.mems := by
  unfold countRx; simp

@[simp] theorem mems_setPause (p : Nat) (n : Nat) (quanta : Nat) (s : State) : (setPause p n quanta s).mems = s.mems := by
  unfold setPause; simp

@[simp] theorem mems_pauseReceived (p : Nat) (l : Nat) (quanta : Nat) (s : State) : (pauseReceived p l quanta s).mems = s.mems := by
  unfold pauseReceived; simp [mems_fold]

@[simp] theorem mems_pfcReceived (p : Nat) (l : Nat) (enables : Nat) (quanta : List Nat) (s : State) :
    (pfcReceived p l enables quanta s).mems = s.mems := by
  unfold pfcReceived; simp [mems_fold]

@[simp] theorem mems_controlOther (p : Nat) (l : Nat) (s : State) : (controlOther p l s).mems = s.mems := by
  unfold controlOther; simp

@[simp] theorem mems_macControl (p : Nat) (bs : List Byte) (s : State) : (macControl p bs s).mems = s.mems := by
  unfold macControl; split <;> simp

@[simp] theorem mems_pauseExpiry (p : Nat) (n : Nat) (s : State) : (pauseExpiry p n s).mems = s.mems := by
  unfold pauseExpiry; simp

@[simp] theorem mems_controlAt (p : Nat) (x : Nat) (whole : Nat) (s : State) : (controlAt p x whole s).mems = s.mems := by
  unfold controlAt
  simp only
  split
  · exact mems_setPortSt _ _ _
  · split
    · exact mems_setPortSt _ _ _
    · rw [mems_setPortSt, mems_mapTx, mems_bump]

@[simp] theorem mems_controlOnWire (p : Nat) (s : State) : (controlOnWire p s).mems = s.mems := by
  unfold controlOnWire; exact mems_controlAt _ _ _ _

@[simp] theorem mems_pfcTransmit (p : Nat) (s : State) : (pfcTransmit p s).mems = s.mems := by
  unfold pfcTransmit; (repeat' split) <;> simp [mems_fold]

@[simp] theorem mems_pfcRefresh (p : Nat) (n : Nat) (s : State) : (pfcRefresh p n s).mems = s.mems := by
  unfold pfcRefresh; (repeat' split) <;> simp

@[simp] theorem mems_rxStart (f : Nat) (p : Nat) (frags : Bool) (s : State) : (rxStart f p frags s).mems = s.mems := by
  unfold rxStart; simp

@[simp] theorem mems_countCheck (p : Nat) (c : RxCheck) (s : State) : (countCheck p c s).mems = s.mems := by
  unfold countCheck; split <;> simp

@[simp] theorem mems_ptpReceive (f : Nat) (bs : List Byte) (s : State) : (ptpReceive f bs s).mems = s.mems := by
  unfold ptpReceive; split <;> simp

@[simp] theorem mems_rxGood (f : Nat) (fr : Frame) (bs : List Byte) (s : State) : (rxGood f fr bs s).mems = s.mems := by
  unfold rxGood; (repeat' split) <;> simp

@[simp] theorem mems_endBad (f : Nat) (fr : Frame) (s : State) : (endBad f fr s).mems = s.mems := by
  unfold endBad; simp

@[simp] theorem mems_rxBad (f : Nat) (fr : Frame) (bs : List Byte) (c : RxCheck) (s : State) : (rxBad f fr bs c s).mems = s.mems := by
  unfold rxBad; (repeat' split) <;> simp

@[simp] theorem mems_rxEnd (f : Nat) (bs : List Byte) (codeErr : Bool) (corr : Nat) (uncorr : Nat) (s : State) :
    (rxEnd f bs codeErr corr uncorr s).mems = s.mems := by
  unfold rxEnd; (repeat' split) <;> simp

@[simp] theorem mems_ptpReceived (f : Nat) (bs : List Byte) (s : State) : (ptpReceived f bs s).mems = s.mems := by
  unfold ptpReceived; split <;> simp

@[simp] theorem mems_fragmentReceived (f : Nat) (bs : List Byte) (res : FragRes) (s : State) : (fragmentReceived f bs res s).mems = s.mems := by
  unfold fragmentReceived; (repeat' split) <;> simp

@[simp] theorem mems_trueCharges (f : Nat) (l : Nat) (fr : Frame) (s : State) : (trueCharges f l fr s).mems = s.mems := by
  unfold trueCharges; simp [mems_fold]

@[simp] theorem mems_lengthChecks (f : Nat) (l : Nat) (fr : Frame) (s : State) : (lengthChecks f l fr s).mems = s.mems := by
  unfold lengthChecks; simp

@[simp] theorem mems_lastCell (f : Nat) (s : State) : (lastCell f s).mems = s.mems := by
  unfold lastCell; simp only; (repeat' split) <;> simp [mems_fold]

@[simp] theorem mems_verifyTimer (p : Nat) (s : State) : (verifyTimer p s).mems = s.mems := by
  unfold verifyTimer; simp

@[simp] theorem mems_respondReceived (p : Nat) (s : State) : (respondReceived p s).mems = s.mems := by
  unfold respondReceived; simp

@[simp] theorem mems_holdNow (p : Nat) (s : State) : (holdNow p s).mems = s.mems := by
  unfold holdNow; simp only; (repeat' split) <;> simp [mems_fold]

@[simp] theorem mems_holdTake (p : Nat) (s : State) : (holdTake p s).mems = s.mems := by
  unfold holdTake; simp

@[simp] theorem mems_holdRelease (p : Nat) (s : State) : (holdRelease p s).mems = s.mems := by
  unfold holdRelease; simp

@[simp] theorem mems_sdTxEqWrite (q : Requester) (p : Nat) (w : Word) (s : State) : (sdTxEqWrite q p w s).mems = s.mems := by
  unfold sdTxEqWrite; refine mems_gated _ _ _ _ ?_; intro s; (repeat' split) <;> simp [mems_fold]

@[simp] theorem mems_quadPll (d : Nat) (r : Nat) (lost : Bool) (s : State) : (quadPll d r lost s).mems = s.mems := by
  unfold quadPll; simp [mems_fold]

@[simp] theorem mems_setDeficit (q : Nat) (v : Nat) (s : State) : (setDeficit q v s).mems = s.mems := by
  unfold setDeficit; simp

@[simp] theorem mems_dwrrSelect (p : Nat) (s : State) : (dwrrSelect p s).1.mems = s.mems := by
  unfold dwrrSelect; simp only; (repeat' split) <;> simp [mems_fold]

@[simp] theorem mems_selectFrom (p : Nat) (l : List Nat) (b : Bool) (s : State) : (selectFrom p l b s).1.mems = s.mems := by
  induction l generalizing b s with
  | nil => rfl
  | cons q l ih =>
    simp only [selectFrom]
    split
    · split
      · exact ih b s
      · have h := mems_dwrrSelect p s
        split <;> rename_i hh <;> rw [hh] at h
        · exact h
        · rw [ih]; exact h
    · split
      · rfl
      · exact ih b s

@[simp] theorem mems_lateCheck (q : Nat) (s : State) : (lateCheck q s).mems = s.mems := by
  unfold lateCheck; (repeat' split) <;> simp

@[simp] theorem mems_recover (x : Nat) (seq : Option Nat) (s : State) : (recover x seq s).1.mems = s.mems := by
  unfold recover; simp only; (repeat' split) <;> simp [mems_fold]

@[simp] theorem mems_firstDequeue (c : Copy) (s : State) : (firstDequeue c s).1.mems = s.mems := by
  unfold firstDequeue; simp only; (repeat' split) <;> simp [mems_fold]

@[simp] theorem mems_eliminate (f : Nat) (s : State) : (eliminate f s).mems = s.mems := by
  unfold eliminate; simp [mems_fold]

@[simp] theorem mems_recordDelay (c : Copy) (tIn : Nat) (ts : Nat) (ctx : Nat) (s : State) : (recordDelay c tIn ts ctx s).mems = s.mems := by
  unfold recordDelay; simp

@[simp] theorem mems_receive512 (c : Copy) (fr : Frame) (bs : List Byte) (bufLen : Nat) (s : State) :
    (receive512 c fr bs bufLen s).mems = s.mems := by
  unfold receive512; simp

@[simp] theorem mems_cellRead (ecc : Ecc) (bank : Nat) (s : State) : (cellRead ecc bank s).mems = s.mems := by
  unfold cellRead; split <;> simp

@[simp] theorem mems_preemptFor (p : Nat) (c : Copy) (ts : Nat) (s : State) : (preemptFor p c ts s).mems = s.mems := by
  unfold preemptFor; (repeat' split) <;> simp

@[simp] theorem mems_dequeueEth (c : Copy) (fr : Frame) (ecc : Ecc) (s : State) : (dequeueEth c fr ecc s).mems = s.mems := by
  unfold dequeueEth; simp

@[simp] theorem mems_slotAdvance (p : Nat) (s : State) : (slotAdvance p s).mems = s.mems := by
  unfold slotAdvance; simp

@[simp] theorem mems_gateEntryBegin (p : Nat) (i : Nat) (ue : Bool) (s : State) : (gateEntryBegin p i ue s).mems = s.mems := by
  unfold gateEntryBegin; simp only; (repeat' split) <;> simp [mems_fold]

@[simp] theorem mems_depthSample (s : State) : (depthSample s).mems = s.mems := by
  unfold depthSample; simp [mems_fold]

@[simp] theorem mems_depthLatch (s : State) : (depthLatch s).mems = s.mems := by
  unfold depthLatch; simp [mems_fold]

@[simp] theorem mems_ledEvaluate (x : Nat) (s : State) : (ledEvaluate x s).mems = s.mems := by
  unfold ledEvaluate; simp

@[simp] theorem mems_setTx (t : TxCopy) (s : State) : (setTx t s).mems = s.mems := by
  unfold setTx; simp

@[simp] theorem mems_dropTx (id : Nat) (s : State) : (dropTx id s).mems = s.mems := by
  unfold dropTx; split <;> simp

@[simp] theorem mems_editUe (c : Copy) (ue : Nat) (s : State) : (editUe c ue s).mems = s.mems := by
  unfold editUe; split <;> simp

@[simp] theorem mems_ptpStamp (c : Copy) (t : Nat) (bs : List Byte) (s : State) : (ptpStamp c t bs s).1.mems = s.mems := by
  unfold ptpStamp; simp only; (repeat' split) <;> simp [mems_fold]

@[simp] theorem mems_editArrived (t : TxCopy) (fr : Frame) (ue : Option Nat) (s : State) : (editArrived t fr ue s).mems = s.mems := by
  unfold editArrived; simp only; (repeat' split) <;> simp [mems_fold]

@[simp] theorem mems_egressArrival (id : Nat) (ue : Option Nat) (ctxUe : Bool) (s : State) : (egressArrival id ue ctxUe s).mems = s.mems := by
  unfold egressArrival; simp only; (repeat' split) <;> simp [mems_fold]

@[simp] theorem mems_storeContext (d : Nat) (j : Nat) (port : Nat) (len : Nat) (bs : List Byte) (s : State) :
    (storeContext d j port len bs s).mems = s.mems := by
  unfold storeContext; simp

@[simp] theorem mems_contextInstall (j : Nat) (x : Nat) (s : State) : (contextInstall j x s).mems = s.mems := by
  unfold contextInstall; simp only; (repeat' split) <;> simp [mems_fold]

@[simp] theorem mems_clearContexts (d : Nat) (s : State) : (clearContexts d s).mems = s.mems := by
  unfold clearContexts; simp

@[simp] theorem mems_linkLost (d : Nat) (s : State) : (linkLost d s).mems = s.mems := by
  unfold linkLost; simp

@[simp] theorem mems_retrainUp (d : Nat) (s : State) : (retrainUp d s).mems = s.mems := by
  unfold retrainUp
  simp only
  rw [mems_fold _ (by intro s f; split <;> simp), mems_fold _ (by intro s e; simp), mems_fold _ (by intro s e; simp), mems_setLink]

@[simp] theorem mems_retrainDown (d : Nat) (s : State) : (retrainDown d s).mems = s.mems := by
  unfold retrainDown; refine mems_fold _ ?_ _ _; intro s a; (repeat' split) <;> simp [mems_fold]

@[simp] theorem mems_retrainStart (d : Nat) (s : State) : (retrainStart d s).mems = s.mems := by
  unfold retrainStart; simp

@[simp] theorem mems_flitCrcError (d : Nat) (j : Nat) (bs : List Byte) (s : State) : (flitCrcError d j bs s).mems = s.mems := by
  unfold flitCrcError; simp

@[simp] theorem mems_linkRetrained (d : Nat) (ok : Bool) (s : State) : (linkRetrained d ok s).mems = s.mems := by
  unfold linkRetrained; simp

@[simp] theorem mems_chEvent (f : Fld) (en : Fld) (c : Nat) (s : State) : (chEvent f en c s).mems = s.mems := by
  unfold chEvent; simp

@[simp] theorem mems_channelFail (c : Nat) (s : State) : (channelFail c s).mems = s.mems := by
  unfold channelFail; simp

@[simp] theorem mems_memCe (c : Nat) (s : State) : (memCe c s).mems = s.mems := by
  unfold memCe; simp

@[simp] theorem mems_runFail (c : Nat) (s : State) : (runFail c s).mems = s.mems := by
  unfold runFail; simp

@[simp] theorem mems_memUe (a : Nat) (s : State) : (memUe a s).mems = s.mems := by
  unfold memUe; simp

@[simp] theorem mems_eccError (a : Nat) (e : Ecc) (s : State) : (eccError a e s).mems = s.mems := by
  unfold eccError; split <;> simp

@[simp] theorem mems_activate (c : Nat) (k : Nat) (r : Nat) (s : State) : (activate c k r s).mems = s.mems := by
  unfold activate; simp only; (repeat' split) <;> simp [mems_fold]

@[simp] theorem mems_openRowAt (c : Nat) (a : Nat) (s : State) : (openRowAt c a s).mems = s.mems := by
  unfold openRowAt; simp

@[simp] theorem mems_patrolRead (c : Nat) (ecc : Ecc) (s : State) : (patrolRead c ecc s).mems = s.mems := by
  unfold patrolRead; simp

@[simp] theorem mems_setDebt (c : Nat) (pc : Nat) (v : Nat) (s : State) : (setDebt c pc v s).mems = s.mems := by
  unfold setDebt; simp

@[simp] theorem mems_mapDebt (f : Nat → Nat) (c : Nat) (s : State) : (mapDebt f c s).mems = s.mems := by
  unfold mapDebt; simp

@[simp] theorem mems_catchupStart (c : Nat) (s : State) : (catchupStart c s).mems = s.mems := by
  unfold catchupStart; simp

@[simp] theorem mems_stackTempRead (m : Nat) (raw : Int) (s : State) : (stackTempRead m raw s).mems = s.mems := by
  unfold stackTempRead; simp [mems_fold]

@[simp] theorem mems_refreshDue (c : Nat) (pc : Nat) (issued : Nat) (s : State) : (refreshDue c pc issued s).mems = s.mems := by
  unfold refreshDue; simp

@[simp] theorem mems_catchupEnd (c : Nat) (s : State) : (catchupEnd c s).mems = s.mems := by
  unfold catchupEnd; simp

@[simp] theorem mems_neighbourRefresh (c : Nat) (pc : Nat) (bank : Nat) (row : Nat) (s : State) :
    (neighbourRefresh c pc bank row s).mems = s.mems := by
  unfold neighbourRefresh; simp

@[simp] theorem mems_rdWindowEnd (c : Nat) (s : State) : (rdWindowEnd c s).mems = s.mems := by
  unfold rdWindowEnd; simp

@[simp] theorem mems_retrainChannel (c : Nat) (s : State) : (retrainChannel c s).mems = s.mems := by
  unfold retrainChannel; simp

@[simp] theorem mems_channelRetrain (q : Requester) (c : Nat) (s : State) : (channelRetrain q c s).mems = s.mems := by
  unfold channelRetrain; (repeat' split) <;> first | rfl | (refine mems_gated _ _ _ _ ?_; intro s; (repeat' split) <;> first | rfl | simp [mems_withLdr]) | simp [mems_withLdr]

@[simp] theorem mems_channelRetrainEnd (c : Nat) (ok : Bool) (s : State) : (channelRetrainEnd c ok s).mems = s.mems := by
  unfold channelRetrainEnd; simp

@[simp] theorem mems_channelPhyLoss (c : Nat) (s : State) : (channelPhyLoss c s).mems = s.mems := by
  unfold channelPhyLoss; simp

@[simp] theorem mems_setDramModes (s : State) : (setDramModes s).mems = s.mems := by
  unfold setDramModes; simp [mems_fold]

@[simp] theorem mems_setGpr (t : Nat) (r : Nat) (v : Nat) (s : State) : (setGpr t r v s).mems = s.mems := by
  unfold setGpr; simp

@[simp] theorem mems_setPc (t : Nat) (v : Nat) (s : State) : (setPc t v s).mems = s.mems := by
  unfold setPc; simp

@[simp] theorem mems_setThreadState (t : Nat) (v : Nat) (s : State) : (setThreadState t v s).mems = s.mems := by
  unfold setThreadState; simp

@[simp] theorem mems_pushNote (ty : Nat) (t : Nat) (ch : Nat) (detail : Nat) (s : State) : (pushNote ty t ch detail s).mems = s.mems := by
  unfold pushNote; simp

@[simp] theorem mems_supNoteRead (q : Requester) (s : State) : (supNoteRead q s).mems = s.mems := by
  unfold supNoteRead; simp

@[simp] theorem mems_threadFault (t : Nat) (cause : Nat) (s : State) : (threadFault t cause s).mems = s.mems := by
  unfold threadFault; simp

@[simp] theorem mems_takeMsg (t : Nat) (s : State) : (takeMsg t s).mems = s.mems := by
  unfold takeMsg; simp

@[simp] theorem mems_returnMsg (t : Nat) (s : State) : (returnMsg t s).mems = s.mems := by
  unfold returnMsg; simp

@[simp] theorem mems_takeBuf (t : Nat) (b : Nat) (s : State) : (takeBuf t b s).mems = s.mems := by
  unfold takeBuf; simp

@[simp] theorem mems_returnBuf (t : Nat) (b : Nat) (s : State) : (returnBuf t b s).mems = s.mems := by
  unfold returnBuf; simp

@[simp] theorem mems_putChan (ch : Nat) (c : Chan) (staged : Nat) (s : State) : (putChan ch c staged s).mems = s.mems := by
  unfold putChan; simp

@[simp] theorem mems_abandonStaging (t : Nat) (ch : Nat) (s : State) : (abandonStaging t ch s).mems = s.mems := by
  unfold abandonStaging; simp

@[simp] theorem mems_releaseThread (t : Nat) (s : State) : (releaseThread t s).mems = s.mems := by
  unfold releaseThread; simp [mems_fold]

@[simp] theorem mems_clearEvents (t : Nat) (m : Nat) (s : State) : (clearEvents t m s).mems = s.mems := by
  unfold clearEvents; simp

@[simp] theorem mems_startThread (t : Nat) (s : State) : (startThread t s).mems = s.mems := by
  unfold startThread; simp

@[simp] theorem mems_threadStart (q : Requester) (t : Nat) (s : State) : (threadStart q t s).mems = s.mems := by
  unfold threadStart; (repeat' split) <;> first | rfl | (refine mems_gated _ _ _ _ ?_; intro s; (repeat' split) <;> first | rfl | simp [mems_withLdr]) | simp [mems_withLdr]

@[simp] theorem mems_threadStop (q : Requester) (t : Nat) (s : State) : (threadStop q t s).mems = s.mems := by
  unfold threadStop; (repeat' split) <;> first | rfl | (refine mems_gated _ _ _ _ ?_; intro s; (repeat' split) <;> first | rfl | simp [mems_withLdr]) | simp [mems_withLdr]

@[simp] theorem mems_chanCfgWrite (q : Requester) (ch : Nat) (writer : Nat) (reader : Nat) (s : State) :
    (chanCfgWrite q ch writer reader s).mems = s.mems := by
  unfold chanCfgWrite; (repeat' split) <;> first | rfl | (refine mems_gated _ _ _ _ ?_; intro s; (repeat' split) <;> first | rfl | simp [mems_withLdr]) | simp [mems_withLdr]

@[simp] theorem mems_deadlockDetect (s : State) : (deadlockDetect s).mems = s.mems := by
  unfold deadlockDetect; simp

theorem mems_debugWrite (q : Requester) (act : State → State) (s : State) (h_act : ∀ y0, (act y0).mems = y0.mems) :
    (debugWrite q act s).mems = s.mems := by
  unfold debugWrite; simp [h_act]

@[simp] theorem mems_haltThread (t : Nat) (s : State) : (haltThread t s).mems = s.mems := by
  unfold haltThread; simp

@[simp] theorem mems_haltDue (t : Nat) (s : State) : (haltDue t s).mems = s.mems := by
  unfold haltDue; simp

@[simp] theorem mems_haltAtBoundary (t : Nat) (s : State) : (haltAtBoundary t s).mems = s.mems := by
  unfold haltAtBoundary; simp

@[simp] theorem mems_dbgHalt (q : Requester) (t : Nat) (s : State) : (dbgHalt q t s).mems = s.mems := by
  unfold dbgHalt; (repeat' split) <;> first | rfl | (refine mems_debugWrite _ _ _ ?_; intro s; (repeat' split) <;> first | rfl | simp [mems_withLdr]) | simp

@[simp] theorem mems_dbgResume (q : Requester) (t : Nat) (s : State) : (dbgResume q t s).mems = s.mems := by
  unfold dbgResume; (repeat' split) <;> first | rfl | (refine mems_debugWrite _ _ _ ?_; intro s; (repeat' split) <;> first | rfl | simp [mems_withLdr]) | simp

@[simp] theorem mems_dbgAbort (q : Requester) (t : Nat) (s : State) : (dbgAbort q t s).mems = s.mems := by
  unfold dbgAbort; (repeat' split) <;> first | rfl | (refine mems_debugWrite _ _ _ ?_; intro s; (repeat' split) <;> first | rfl | simp [mems_withLdr]) | simp

@[simp] theorem mems_timerExpiry (t : Nat) (s : State) : (timerExpiry t s).mems = s.mems := by
  unfold timerExpiry; split <;> simp

@[simp] theorem mems_rx513TailWrite (q : Requester) (v : Nat) (s : State) : (rx513TailWrite q v s).mems = s.mems := by
  unfold rx513TailWrite; refine mems_gated _ _ _ _ ?_; intro s; (repeat' split) <;> simp [mems_fold]

@[simp] theorem mems_tx513HeadWrite (q : Requester) (v : Nat) (s : State) : (tx513HeadWrite q v s).mems = s.mems := by
  unfold tx513HeadWrite; refine mems_gated _ _ _ _ ?_; intro s; (repeat' split) <;> simp [mems_fold]

@[simp] theorem mems_noteRead (t : Nat) (a : Nat) (n : Nat) (s : State) : (noteRead t a n s).mems = s.mems := by
  unfold noteRead; simp

@[simp] theorem mems_routineTemps (t : Nat) (w : Nat) (n : Nat) (s : State) : (routineTemps t w n s).mems = s.mems := by
  unfold routineTemps; simp

@[simp] theorem mems_recordMchk (c : Nat) (t : Nat) (store : Nat) (addr : Nat) (s : State) : (recordMchk c t store addr s).mems = s.mems := by
  unfold recordMchk; simp

@[simp] theorem mems_ucEnd (c : Nat) (result : Nat) (s : State) : (ucEnd c result s).mems = s.mems := by
  unfold ucEnd; simp

@[simp] theorem mems_enterFallback (c : Nat) (t : Nat) (store : Nat) (addr : Nat) (s : State) : (enterFallback c t store addr s).mems = s.mems := by
  unfold enterFallback; simp

@[simp] theorem mems_machineCheck (t : Nat) (store : Nat) (addr : Nat) (s : State) : (machineCheck t store addr s).mems = s.mems := by
  unfold machineCheck; simp

@[simp] theorem mems_abandoned (t : Nat) (s : State) : (abandoned t s).mems = s.mems := by
  unfold abandoned; simp

@[simp] theorem mems_abandonCore (c : Nat) (t : Nat) (s : State) : (abandonCore c t s).mems = s.mems := by
  unfold abandonCore; simp [mems_fold]

@[simp] theorem mems_microHalt (t : Nat) (store : Nat) (addr : Nat) (s : State) : (microHalt t store addr s).mems = s.mems := by
  unfold microHalt; simp

@[simp] theorem mems_wfeComplete (t : Nat) (rd : Nat) (m : Nat) (s : State) : (wfeComplete t rd m s).mems = s.mems := by
  unfold wfeComplete; simp

@[simp] theorem mems_issueWord (mc : Nat) (t : Nat) (s : State) : (issueWord mc t s).mems = s.mems := by
  unfold issueWord; simp

@[simp] theorem mems_issueMcOf (c : Nat) (s : State) : (issueMcOf c s).mems = s.mems := by
  unfold issueMcOf; simp [mems_fold]

@[simp] theorem mems_issueUntil (t : Nat) (n : Nat) (n1 : Nat) (s : State) : (issueUntil t n n1 s).mems = s.mems := by
  induction n1 generalizing s with
  | zero => rfl
  | succ f ih =>
    simp only [issueUntil]
    split
    · rfl
    · rw [ih]; simp

@[simp] theorem mems_issueWords (t : Nat) (n : Nat) (s : State) : (issueWords t n s).mems = s.mems := by
  unfold issueWords; simp

@[simp] theorem mems_retireCounts (t : Nat) (pc : Nat) (w : Nat) (path : Nat) (i : Issue) (s : State) :
    (retireCounts t pc w path i s).mems = s.mems := by
  unfold retireCounts; simp

@[simp] theorem mems_retired (t : Nat) (pc : Nat) (w : Nat) (path : Nat) (i : Issue) (s : State) : (retired t pc w path i s).mems = s.mems := by
  unfold retired; simp

@[simp] theorem mems_wfeWake (t : Nat) (i : Issue) (s : State) : (wfeWake t i s).mems = s.mems := by
  unfold wfeWake; simp

@[simp] theorem mems_devrDone (t : Nat) (v : Nat) (i : Issue) (s : State) : (devrDone t v i s).mems = s.mems := by
  unfold devrDone; split <;> simp

@[simp] theorem mems_setUcWord (c : Nat) (store : Nat) (a : Nat) (v : Nat) (s : State) : (setUcWord c store a v s).mems = s.mems := by
  unfold setUcWord; simp

@[simp] theorem mems_copyStore (c : Nat) (store : Nat) (s : State) : (copyStore c store s).mems = s.mems := by
  unfold copyStore; simp [mems_fold]

@[simp] theorem mems_ucReload (q : Requester) (c : Nat) (s : State) : (ucReload q c s).mems = s.mems := by
  unfold ucReload; (repeat' split) <;> first | rfl | (refine mems_gated _ _ _ _ ?_; intro s; (repeat' split) <;> first | rfl | simp [mems_withLdr]) | simp [mems_withLdr]

@[simp] theorem mems_ucReloadDone (c : Nat) (ok : Bool) (s : State) : (ucReloadDone c ok s).mems = s.mems := by
  unfold ucReloadDone; simp

@[simp] theorem mems_ucScrub (q : Requester) (c : Nat) (s : State) : (ucScrub q c s).mems = s.mems := by
  unfold ucScrub; (repeat' split) <;> first | rfl | (refine mems_gated _ _ _ _ ?_; intro s; (repeat' split) <;> first | rfl | simp [mems_withLdr]) | simp [mems_withLdr]

@[simp] theorem mems_ucScrubWord (c : Nat) (bad : Bool) (readBackOk : Bool) (s : State) : (ucScrubWord c bad readBackOk s).mems = s.mems := by
  unfold ucScrubWord; simp

@[simp] theorem mems_ucScrubDone (c : Nat) (s : State) : (ucScrubDone c s).mems = s.mems := by
  unfold ucScrubDone; simp

@[simp] theorem mems_ucRdAddrWrite (q : Requester) (c : Nat) (store : Nat) (a : Nat) (s : State) : (ucRdAddrWrite q c store a s).mems = s.mems := by
  unfold ucRdAddrWrite; (repeat' split) <;> first | rfl | (refine mems_gated _ _ _ _ ?_; intro s; (repeat' split) <;> first | rfl | simp [mems_withLdr]) | simp [mems_withLdr]

@[simp] theorem mems_pmcWrite (q : Requester) (c : Nat) (n : Nat) (hi : Bool) (v : Nat) (s : State) : (pmcWrite q c n hi v s).mems = s.mems := by
  unfold pmcWrite; (repeat' split) <;> first | rfl | (refine mems_gated _ _ _ _ ?_; intro s; (repeat' split) <;> first | rfl | simp [mems_withLdr]) | simp [mems_withLdr]

@[simp] theorem mems_pmcOverflow (c : Nat) (n : Nat) (s : State) : (pmcOverflow c n s).mems = s.mems := by
  unfold pmcOverflow; simp

@[simp] theorem mems_pmcTick (s : State) : (pmcTick s).mems = s.mems := by
  unfold pmcTick
  refine mems_fold _ ?_ _ _
  intro s c
  split
  · rfl
  · rw [mems_fold]
    · split <;> simp
    · intro s k
      simp only
      split
      · split <;> simp
      · simp
      · rfl

@[simp] theorem mems_sampleRecord (c : Nat) (s : State) : (sampleRecord c s).mems = s.mems := by
  unfold sampleRecord; split <;> simp

@[simp] theorem mems_smpCfgPut (c : Nat) (w : Nat) (s : State) : (smpCfgPut c w s).mems = s.mems := by
  unfold smpCfgPut; simp

@[simp] theorem mems_smpCfgWrite (q : Requester) (c : Nat) (w : Nat) (s : State) : (smpCfgWrite q c w s).mems = s.mems := by
  unfold smpCfgWrite; (repeat' split) <;> first | rfl | (refine mems_gated _ _ _ _ ?_; intro s; (repeat' split) <;> first | rfl | simp [mems_withLdr]) | simp [mems_withLdr]

@[simp] theorem mems_smpTailPut (c : Nat) (v : Nat) (s : State) : (smpTailPut c v s).mems = s.mems := by
  unfold smpTailPut; simp

@[simp] theorem mems_smpTailWrite (q : Requester) (c : Nat) (v : Nat) (s : State) : (smpTailWrite q c v s).mems = s.mems := by
  unfold smpTailWrite; (repeat' split) <;> first | rfl | (refine mems_gated _ _ _ _ ?_; intro s; (repeat' split) <;> first | rfl | simp [mems_withLdr]) | simp [mems_withLdr]

@[simp] theorem mems_loadThread (t : Nat) (w : Nat → Nat) (s : State) : (loadThread t w s).mems = s.mems := by
  unfold loadThread; simp

@[simp] theorem mems_loadChannel (ch : Nat) (w0 : Nat) (w1 : Nat) (s : State) : (loadChannel ch w0 w1 s).mems = s.mems := by
  unfold loadChannel; simp

@[simp] theorem mems_setPools (s : State) : (setPools s).mems = s.mems := by
  unfold setPools; simp

@[simp] theorem mems_trapsLeft (s : State) : (trapsLeft s).mems = s.mems := by
  unfold trapsLeft; simp

@[simp] theorem mems_meResetEnd (bad : Option Nat) (s : State) : (meResetEnd bad s).mems = s.mems := by
  unfold meResetEnd; (repeat' split) <;> simp

end Sys2Proof.Machine
end

