-- ==== Sys2Proof/Laws/MemsFault.lean ====
section
/-! SUPPORT. The queue and the byte memories (`State.mems`) under the operations of the planner, the host interface, the fault unit, telemetry, the fuses, recovery and the registers that write none of them. -/

set_option linter.unusedSimpArgs false

namespace Sys2Proof.Machine

@[simp] theorem mems_restState (s : State) : (restState s).mems = s.mems := by
  unfold restState; simp

@[simp] theorem mems_trigger (b : Nat) (s : State) : (trigger b s).mems = s.mems := by
  unfold trigger; simp

@[simp] theorem mems_qMinChange (q : Nat) (v : Nat) (s : State) : (qMinChange q v s).mems = s.mems := by
  unfold qMinChange; simp

@[simp] theorem mems_hdrmChange (i : Nat) (v : Nat) (s : State) : (hdrmChange i v s).mems = s.mems := by
  unfold hdrmChange; simp

@[simp] theorem mems_setBlocked (h : Nat) (on : Bool) (s : State) : (setBlocked h on s).mems = s.mems := by
  unfold setBlocked; simp

@[simp] theorem mems_setEgress (h : Nat) (w : Nat) (s : State) : (setEgress h w s).mems = s.mems := by
  unfold setEgress; simp [mems_fold]

@[simp] theorem mems_showRefused (pl : Plan) (s : State) : (showRefused pl s).mems = s.mems := by
  unfold showRefused; simp

@[simp] theorem mems_writeAdmin (p : Nat) (l : List Nat) (baseNs : Nat) (s : State) : (writeAdmin p l baseNs s).mems = s.mems := by
  unfold writeAdmin; simp [mems_fold]

@[simp] theorem mems_undoPrepare (c : Commit) (s : State) : (undoPrepare c s).mems = s.mems := by
  unfold undoPrepare; simp [mems_fold]

@[simp] theorem mems_again (pl : Plan) (s : State) : (again pl s).mems = s.mems := by
  unfold again; simp

@[simp] theorem mems_enterRun (s : State) : (enterRun s).mems = s.mems := by
  unfold enterRun; simp [mems_fold]

@[simp] theorem mems_ssIndexWrite (q : Requester) (h : Nat) (s : State) : (ssIndexWrite q h s).mems = s.mems := by
  unfold ssIndexWrite; simp

@[simp] theorem mems_returnHoldExpiry (p : Nat) (s : State) : (returnHoldExpiry p s).mems = s.mems := by
  unfold returnHoldExpiry; simp

@[simp] theorem mems_beginBufPeriod (s : State) : (beginBufPeriod s).mems = s.mems := by
  unfold beginBufPeriod; simp

@[simp] theorem mems_trapTokenRefill (s : State) : (trapTokenRefill s).mems = s.mems := by
  unfold trapTokenRefill; simp

@[simp] theorem mems_surveyPhases (s : State) : (surveyPhases s).mems = s.mems := by
  unfold surveyPhases; simp

@[simp] theorem mems_phaseTrigger (s : State) : (phaseTrigger s).mems = s.mems := by
  unfold phaseTrigger; (repeat' (first | with_reducible rfl | split | (intros; refine mems_fold _ ?_ _ _; intros) | simp [mems_fold]))

@[simp] theorem mems_surveyDelays (l : List (Nat × Nat)) (s : State) : (surveyDelays l s).mems = s.mems := by
  unfold surveyDelays; simp [mems_fold]

@[simp] theorem mems_surveyBuffer (s : State) : (surveyBuffer s).mems = s.mems := by
  unfold surveyBuffer; simp

@[simp] theorem mems_showLimits (s : State) : (showLimits s).mems = s.mems := by
  unfold showLimits; simp

@[simp] theorem mems_hhSurvey (s : State) : (hhSurvey s).mems = s.mems := by
  unfold hhSurvey; simp

@[simp] theorem mems_beginSynthesis (s : State) : (beginSynthesis s).mems = s.mems := by
  unfold beginSynthesis; simp

@[simp] theorem mems_complete (status : Nat) (poison : Bool) (s : State) : (complete status poison s).mems = s.mems := by
  unfold complete; simp

@[simp] theorem mems_pcieLinkUp (rate : Nat) (width : Nat) (s : State) : (pcieLinkUp rate width s).mems = s.mems := by
  unfold pcieLinkUp; simp

@[simp] theorem mems_aerLog (f : Nat) (b : Nat) (uncorr : Bool) (s : State) : (aerLog f b uncorr s).mems = s.mems := by
  unfold aerLog; simp

@[simp] theorem mems_memRefused (f : Nat) (s : State) : (memRefused f s).mems = s.mems := by
  unfold memRefused; simp

@[simp] theorem mems_configWrite (f : Nat) (r : CfgReq) (s : State) : (configWrite f r s).mems = s.mems := by
  unfold configWrite; split <;> simp

@[simp] theorem mems_configurationRequest (f : Nat) (r : CfgReq) (s : State) : (configurationRequest f r s).mems = s.mems := by
  unfold configurationRequest; (repeat' split) <;> simp

@[simp] theorem mems_bar2Read (o : Nat) (n : Nat) (ue : Bool) (s : State) : (bar2Read o n ue s).mems = s.mems := by
  unfold bar2Read; simp

@[simp] theorem mems_pf1WinWrite (q : Requester) (v : Nat) (s : State) : (pf1WinWrite q v s).mems = s.mems := by
  unfold pf1WinWrite; (repeat' split) <;> first | rfl | (refine mems_gated _ _ _ _ ?_; intro s; (repeat' split) <;> first | rfl | simp [mems_withLdr]) | simp [mems_withLdr]

theorem mems_ringGate (q : Requester) (reg : Reg) (r : Nat) (act : State → State) (s : State) (h_act : ∀ y0, (act y0).mems = y0.mems) :
    (ringGate q reg r act s).mems = s.mems := by
  unfold ringGate; (repeat' split) <;> first | rfl | (refine mems_gated _ _ _ _ ?_; intro s; (repeat' split) <;> first | rfl | simp [mems_withLdr, h_act]) | simp [mems_withLdr, h_act]

@[simp] theorem mems_ringTailPut (r : Nat) (v : Nat) (s : State) : (ringTailPut r v s).mems = s.mems := by
  unfold ringTailPut; simp

@[simp] theorem mems_ringTailWrite (q : Requester) (r : Nat) (v : Nat) (s : State) : (ringTailWrite q r v s).mems = s.mems := by
  unfold ringTailWrite; refine mems_ringGate _ _ _ _ _ ?_; intro s; (repeat' split) <;> simp [mems_fold]

@[simp] theorem mems_ringCfgPut (r : Nat) (w : Nat) (s : State) : (ringCfgPut r w s).mems = s.mems := by
  unfold ringCfgPut; simp

@[simp] theorem mems_ringEnable (q : Requester) (r : Nat) (w : Nat) (s : State) : (ringEnable q r w s).mems = s.mems := by
  unfold ringEnable; refine mems_ringGate _ _ _ _ _ ?_; intro s; (repeat' split) <;> simp [mems_fold]

@[simp] theorem mems_ringDisable (q : Requester) (r : Nat) (w : Nat) (s : State) : (ringDisable q r w s).mems = s.mems := by
  unfold ringDisable; refine mems_ringGate _ _ _ _ _ ?_; intro s; (repeat' split) <;> simp [mems_fold]

@[simp] theorem mems_ringStopped (r : Nat) (s : State) : (ringStopped r s).mems = s.mems := by
  unfold ringStopped; simp

@[simp] theorem mems_dropStaged (sel : HostRx → Bool) (s : State) : (dropStaged sel s).mems = s.mems := by
  unfold dropStaged; simp [mems_fold]

@[simp] theorem mems_ringError (r : Nat) (cause : Nat) (s : State) : (ringError r cause s).mems = s.mems := by
  unfold ringError; simp

@[simp] theorem mems_receiveDmaComplete (r : Nat) (descs : List (List Byte)) (s : State) : (receiveDmaComplete r descs s).mems = s.mems := by
  unfold receiveDmaComplete; (repeat' split) <;> simp

@[simp] theorem mems_injectFrame (f : Nat) (port : Nat) (body : List Byte) (cls : Cls) (edit : Option Nat) (s : State) :
    (injectFrame f port body cls edit s).1.mems = s.mems := by
  unfold injectFrame; simp

@[simp] theorem mems_transmitFrameFetch (f : Nat) (descs : List (List Byte)) (data : List Byte) (ue : Option Nat) (s : State) :
    (transmitFrameFetch f descs data ue s).mems = s.mems := by
  unfold transmitFrameFetch; split <;> simp

@[simp] theorem mems_transmitWriteback (r : Nat) (s : State) : (transmitWriteback r s).mems = s.mems := by
  unfold transmitWriteback; split <;> simp

@[simp] theorem mems_msixUnmask (f : Nat) (v : Nat) (lo : Nat) (hi : Nat) (data : Nat) (mask : Bool) (s : State) :
    (msixUnmask f v lo hi data mask s).mems = s.mems := by
  unfold msixUnmask; simp

@[simp] theorem mems_l1Entry (s : State) : (l1Entry s).mems = s.mems := by
  unfold l1Entry; simp

@[simp] theorem mems_l1Exit (s : State) : (l1Exit s).mems = s.mems := by
  unfold l1Exit; simp [mems_fold]

@[simp] theorem mems_setD (f : Nat) (v : Nat) (s : State) : (setD f v s).mems = s.mems := by
  unfold setD; simp

@[simp] theorem mems_pmcsr (f : Nat) (d : Nat) (pmeEn : Bool) (clear : Bool) (s : State) : (pmcsr f d pmeEn clear s).mems = s.mems := by
  unfold pmcsr; simp

@[simp] theorem mems_d3hotEntry (f : Nat) (pmeEn : Bool) (clear : Bool) (s : State) : (d3hotEntry f pmeEn clear s).mems = s.mems := by
  unfold d3hotEntry; simp

@[simp] theorem mems_d0Entry (f : Nat) (pmeEn : Bool) (clear : Bool) (s : State) : (d0Entry f pmeEn clear s).mems = s.mems := by
  unfold d0Entry; simp

@[simp] theorem mems_pmeRepeat (f : Nat) (s : State) : (pmeRepeat f s).mems = s.mems := by
  unfold pmeRepeat; simp

@[simp] theorem mems_clearRing (r : Nat) (s : State) : (clearRing r s).mems = s.mems := by
  unfold clearRing; simp

@[simp] theorem mems_flrFunction (f : Nat) (s : State) : (flrFunction f s).mems = s.mems := by
  unfold flrFunction; simp [mems_fold]

@[simp] theorem mems_functionLevelReset (f : Nat) (s : State) : (functionLevelReset f s).mems = s.mems := by
  unfold functionLevelReset; simp

@[simp] theorem mems_flrDone (f : Nat) (s : State) : (flrDone f s).mems = s.mems := by
  unfold flrDone; simp

@[simp] theorem mems_pcieLinkDown (s : State) : (pcieLinkDown s).mems = s.mems := by
  unfold pcieLinkDown; simp

@[simp] theorem mems_completionTimeout (r : Nat) (s : State) : (completionTimeout r s).mems = s.mems := by
  unfold completionTimeout; simp

@[simp] theorem mems_completionStatusError (r : Nat) (s : State) : (completionStatusError r s).mems = s.mems := by
  unfold completionStatusError; simp

@[simp] theorem mems_tlpError (f : Nat) (e : TlpErr) (s : State) : (tlpError f e s).mems = s.mems := by
  unfold tlpError; (repeat' split) <;> simp

@[simp] theorem mems_setWords (f : Fld) (i : Nat) (ws : List Nat) (s : State) : (setWords f i ws s).mems = s.mems := by
  unfold setWords; simp [mems_fold]

@[simp] theorem mems_recordEvent (e : FaultEv) (cls : Nat) (conseq : Bool) (esc : Bool) (s : State) :
    (recordEvent e cls conseq esc s).mems = s.mems := by
  unfold recordEvent; simp

@[simp] theorem mems_captureFirst (e : FaultEv) (cls : Nat) (esc : Bool) (s : State) : (captureFirst e cls esc s).mems = s.mems := by
  unfold captureFirst; simp

@[simp] theorem mems_escalate (e : FaultEv) (s : State) : (escalate e s).1.mems = s.mems := by
  unfold escalate; simp only; (repeat' split) <;> simp [mems_fold]

@[simp] theorem mems_clearDieRegs (rs : List Reg) (d : Nat) (s : State) : (clearDieRegs rs d s).mems = s.mems := by
  unfold clearDieRegs; simp

@[simp] theorem mems_dieFrames (d : Nat) (s : State) : (dieFrames d s).mems = s.mems := by
  unfold dieFrames; simp [mems_fold]

@[simp] theorem mems_dieMemories (d : Nat) (s : State) : (dieMemories d s).mems = s.mems := by
  unfold dieMemories; simp

@[simp] theorem mems_dieLink (d : Nat) (s : State) : (dieLink d s).mems = s.mems := by
  unfold dieLink; simp

@[simp] theorem mems_tcamHeld (d : Nat) (s : State) : (tcamHeld d s).mems = s.mems := by
  unfold tcamHeld; simp [mems_fold]

@[simp] theorem mems_tcamReturn (d : Nat) (s : State) : (tcamReturn d s).mems = s.mems := by
  unfold tcamReturn; simp [mems_fold]

@[simp] theorem mems_dieRebuild (d : Nat) (s : State) : (dieRebuild d s).mems = s.mems := by
  unfold dieRebuild; simp [mems_fold]

@[simp] theorem mems_dieResetEnd (d : Nat) (s : State) : (dieResetEnd d s).mems = s.mems := by
  unfold dieResetEnd; simp

@[simp] theorem mems_hifBlockReset (s : State) : (hifBlockReset s).mems = s.mems := by
  unfold hifBlockReset; simp

@[simp] theorem mems_hifReset (q : Requester) (key : Nat) (s : State) : (hifReset q key s).mems = s.mems := by
  unfold hifReset; refine mems_gated _ _ _ _ ?_; intro s; (repeat' split) <;> simp [mems_fold]

@[simp] theorem mems_hifResetEnd (rate : Nat) (width : Nat) (s : State) : (hifResetEnd rate width s).mems = s.mems := by
  unfold hifResetEnd; simp

@[simp] theorem mems_commitEvent (e : FaultEv) (s : State) : (commitEvent e s).1.mems = s.mems := by
  unfold commitEvent; simp only; (repeat' split) <;> simp [mems_fold]

@[simp] theorem mems_commitList (l : List FaultEv) (s : State) : (commitList l s).1.mems = s.mems := by
  induction l generalizing s with
  | nil => rfl
  | cons e l ih => simp only [commitList]; rw [ih, mems_commitEvent]

@[simp] theorem mems_tempSensorRead (i : Nat) (deg : Int) (s : State) : (tempSensorRead i deg s).mems = s.mems := by
  unfold tempSensorRead; simp

@[simp] theorem mems_firstClearPut (s : State) : (firstClearPut s).mems = s.mems := by
  unfold firstClearPut; simp

@[simp] theorem mems_firstClear (q : Requester) (s : State) : (firstClear q s).mems = s.mems := by
  unfold firstClear; refine mems_gated _ _ _ _ ?_; intro s; (repeat' split) <;> simp [mems_fold]

@[simp] theorem mems_faultNRelease (q : Requester) (s : State) : (faultNRelease q s).mems = s.mems := by
  unfold faultNRelease; refine mems_gated _ _ _ _ ?_; intro s; (repeat' split) <;> simp [mems_fold]

@[simp] theorem mems_srcReactPut (n : Nat) (w : Nat) (s : State) : (srcReactPut n w s).mems = s.mems := by
  unfold srcReactPut; simp

@[simp] theorem mems_srcReactWrite (q : Requester) (esc : Bool) (n : Nat) (w : Nat) (s : State) : (srcReactWrite q esc n w s).mems = s.mems := by
  unfold srcReactWrite; (repeat' split) <;> first | rfl | (refine mems_gated _ _ _ _ ?_; intro s; (repeat' split) <;> first | rfl | simp [mems_withLdr]) | simp [mems_withLdr]

@[simp] theorem mems_conseqWindowClose (u : Nat) (s : State) : (conseqWindowClose u s).mems = s.mems := by
  unfold conseqWindowClose; simp

@[simp] theorem mems_drawChallenge (s : State) : (drawChallenge s).mems = s.mems := by
  unfold drawChallenge; simp [mems_fold]

@[simp] theorem mems_jtagResponse (q : Requester) (w : Nat) (v : Nat) (s : State) : (jtagResponse q w v s).mems = s.mems := by
  unfold jtagResponse; (repeat' split) <;> first | rfl | simp [mems_withLdr]

@[simp] theorem mems_jtagUnlockResult (s : State) : (jtagUnlockResult s).mems = s.mems := by
  unfold jtagUnlockResult; (repeat' split) <;> first | rfl | simp [mems_withLdr]

theorem mems_otpGate (q : Requester) (key : Nat) (act : State → State) (s : State) (h_act : ∀ y0, (act y0).mems = y0.mems) :
    (otpGate q key act s).mems = s.mems := by
  unfold otpGate; refine mems_gated _ _ _ _ ?_; intro s; (repeat' split) <;> simp [mems_fold, h_act]

@[simp] theorem mems_otpBegin (result : Nat) (s : State) : (otpBegin result s).mems = s.mems := by
  unfold otpBegin; (repeat' split) <;> first | rfl | simp [mems_withLdr]

@[simp] theorem mems_otpRead (q : Requester) (key : Nat) (s : State) : (otpRead q key s).mems = s.mems := by
  unfold otpRead; refine mems_gated _ _ _ _ ?_; intro s; (repeat' split) <;> simp [mems_fold]

@[simp] theorem mems_otpFinish (s : State) : (otpFinish s).mems = s.mems := by
  unfold otpFinish; (repeat' (first | with_reducible rfl | split | (intros; refine mems_fold _ ?_ _ _; intros) | simp [mems_fold]))

@[simp] theorem mems_setSlotResult (slot : Nat) (e : SlotEnd) (s : State) : (setSlotResult slot e s).mems = s.mems := by
  unfold setSlotResult; simp

@[simp] theorem mems_rcvBegin (op : Nat) (result : Nat) (s : State) : (rcvBegin op result s).mems = s.mems := by
  unfold rcvBegin
  have h : ((setLevel 70 s.safe (s.setFld F.RCV_STATUS_BUSY 0 1))).mems = s.mems := by simp
  simp only [State.mems, Prod.mk.injEq] at h ⊢
  exact ⟨h.1, h.2.1, h.2.2.1, rfl, rfl⟩

theorem mems_rcvStart (q : Requester) (op : Nat) (act : State → State × Nat) (s : State) (h_act : ∀ y, (act y).1.mems = y.mems) :
    (rcvStart q op act s).mems = s.mems := by
  unfold rcvStart
  refine mems_gated _ _ _ _ ?_
  intro s
  split
  · rfl
  · simp [h_act]

@[simp] theorem mems_rcvShow (s : State) : (rcvShow s).mems = s.mems := by
  unfold rcvShow; simp [mems_fold]

@[simp] theorem mems_rcvRead (q : Requester) (s : State) : (rcvRead q s).mems = s.mems := by
  unfold rcvRead; (repeat' (first | with_reducible rfl | split | (refine mems_gated _ _ _ _ ?_; intro _) | (refine mems_debugWrite _ _ _ ?_; intro _) | simp [mems_withLdr]))

@[simp] theorem mems_rcvCheck (q : Requester) (s : State) : (rcvCheck q s).mems = s.mems := by
  unfold rcvCheck; (repeat' (first | with_reducible rfl | split | (refine mems_gated _ _ _ _ ?_; intro _) | (refine mems_debugWrite _ _ _ ?_; intro _) | simp [mems_withLdr]))

@[simp] theorem cutFlash_flash (l : LdrSt) : (cutFlash l).flash = l.flash := by unfold cutFlash; (repeat' split) <;> rfl

@[simp] theorem cutFlash_otp (l : LdrSt) : (cutFlash l).otp = l.otp := by unfold cutFlash; (repeat' split) <;> rfl

@[simp] theorem mems_rcvFinish (late : Bool) (s : State) : (rcvFinish late s).mems = s.mems := by
  unfold rcvFinish
  split
  · rfl
  · simp only
    have k : ∀ (l : Nat) (u : State) (x : LdrSt), x.flash = u.ldr.flash → x.otp = u.ldr.otp → ((setLevel 70 false (u.setFlds [(F.RCV_STATUS_BUSY, 0, 0),
        (F.RCV_STATUS_RESULT, 0, l)])).withLdr x).mems = u.mems := by
      intro l u x h1 h2
      have h : (setLevel 70 false (u.setFlds [(F.RCV_STATUS_BUSY, 0, 0), (F.RCV_STATUS_RESULT, 0, l)])).mems = u.mems := by simp
      simp only [State.mems, Prod.mk.injEq] at h ⊢
      exact ⟨h.1, h.2.1, h.2.2.1, h1, h2⟩
    apply k
    · split <;> simp
    · split <;> simp

@[simp] theorem mems_mbxEnd (result : Nat) (reason : Nat) (entry : Nat) (s : State) : (mbxEnd result reason entry s).mems = s.mems := by
  unfold mbxEnd; simp

@[simp] theorem mems_mbxDone (result : Nat) (reason : Nat) (entry : Nat) (s : State) : (mbxDone result reason entry s).mems = s.mems := by
  unfold mbxDone; simp

@[simp] theorem mems_mbxSubmit (q : Requester) (len : Nat) (s : State) : (mbxSubmit q len s).mems = s.mems := by
  unfold mbxSubmit; refine mems_gated _ _ _ _ ?_; intro s; (repeat' split) <;> simp [mems_fold]

@[simp] theorem mems_advance (n : Nat) (s : State) : (advance n s).mems = s.mems := by
  unfold advance; simp

@[simp] theorem mems_slotsLatch (s : State) : (slotsLatch s).mems = s.mems := by
  unfold slotsLatch; simp [mems_fold]

@[simp] theorem mems_epochEvent (s : State) : (epochEvent s).mems = s.mems := by
  unfold epochEvent; simp [mems_fold]

@[simp] theorem mems_exportStart (e : Nat) (start : Nat) (s : State) : (exportStart e start s).mems = s.mems := by
  unfold exportStart; simp

@[simp] theorem mems_nextCycle (s : State) : (nextCycle s).mems = s.mems := by
  unfold nextCycle; simp

@[simp] theorem mems_offerBlock (f : Nat) (d : List Byte) (block : List Byte) (seq : Nat) (s : State) :
    (offerBlock f d block seq s).mems = s.mems := by
  unfold offerBlock; simp

@[simp] theorem mems_timeBeacon (d : Nat) (e : Int) (s : State) : (timeBeacon d e s).mems = s.mems := by
  unfold timeBeacon; simp

@[simp] theorem mems_stepWheels (old : State) (forward : Bool) (adv : Nat) (s : State) : (stepWheels old forward adv s).mems = s.mems := by
  unfold stepWheels; simp

@[simp] theorem mems_stepPortGates (s : State) : (stepPortGates s).mems = s.mems := by
  unfold stepPortGates
  simp only
  rw [mems_fold]
  · refine mems_fold _ ?_ _ _
    intro s e; split <;> simp
  · intro s e; (repeat' split) <;> simp

@[simp] theorem mems_stepStreamGates (s : State) : (stepStreamGates s).mems = s.mems := by
  unfold stepStreamGates; simp [mems_fold]

@[simp] theorem mems_setSyncOut (n : Nat) (v : Bool) (s : State) : (setSyncOut n v s).mems = s.mems := by
  unfold setSyncOut; simp

@[simp] theorem mems_syncNow (n : Nat) (s : State) : (syncNow n s).mems = s.mems := by
  unfold syncNow; split <;> simp

@[simp] theorem mems_stepPins (s : State) : (stepPins s).mems = s.mems := by
  unfold stepPins; simp [mems_fold]

@[simp] theorem mems_syncCfgWrite (n : Nat) (mode : Nat) (level : Nat) (s : State) : (syncCfgWrite n mode level s).mems = s.mems := by
  unfold syncCfgWrite; simp

@[simp] theorem mems_stepProjections (delta : Int) (s : State) : (stepProjections delta s).mems = s.mems := by
  unfold stepProjections; simp

@[simp] theorem mems_applyStep (delta : Int) (s : State) : (applyStep delta s).mems = s.mems := by
  unfold applyStep; simp

@[simp] theorem mems_applyInstantReached (s : State) : (applyInstantReached s).mems = s.mems := by
  unfold applyInstantReached; simp only; (repeat' split) <;> simp [mems_fold]

@[simp] theorem mems_pllLockLoss (which : Nat) (s : State) : (pllLockLoss which s).mems = s.mems := by
  unfold pllLockLoss; simp

@[simp] theorem mems_ppsInEdge (s : State) : (ppsInEdge s).mems = s.mems := by
  unfold ppsInEdge; simp

@[simp] theorem mems_ppsInLoss (s : State) : (ppsInLoss s).mems = s.mems := by
  unfold ppsInLoss; simp

@[simp] theorem mems_syncInEdge (n : Nat) (rising : Bool) (s : State) : (syncInEdge n rising s).mems = s.mems := by
  unfold syncInEdge; simp

@[simp] theorem mems_syncInRead (q : Requester) (n : Nat) (s : State) : (syncInRead q n s).mems = s.mems := by
  unfold syncInRead; simp

@[simp] theorem mems_ptpInfoRead (q : Requester) (d : Nat) (s : State) : (ptpInfoRead q d s).mems = s.mems := by
  unfold ptpInfoRead; simp

@[simp] theorem mems_ppsOutEdge (rising : Bool) (s : State) : (ppsOutEdge rising s).mems = s.mems := by
  unfold ppsOutEdge; simp

@[simp] theorem mems_syncOutEdge (n : Nat) (rising : Bool) (s : State) : (syncOutEdge n rising s).mems = s.mems := by
  unfold syncOutEdge; (repeat' split) <;> simp

@[simp] theorem mems_clearRc (a : RegAt) (s : State) : (clearRc a s).mems = s.mems := by
  unfold clearRc; simp [mems_fold]

@[simp] theorem mems_readReg (q : Requester) (a : RegAt) (s : State) : (readReg q a s).mems = s.mems := by
  unfold readReg; (repeat' split) <;> simp

@[simp] theorem mems_readAt (q : Requester) (o : Nat) (s : State) : (readAt q o s).mems = s.mems := by
  unfold readAt; (repeat' split) <;> simp

@[simp] theorem mems_sidePut (a : SideAccess) (s : State) : (sidePut a s).mems = s.mems := by
  unfold sidePut; simp

@[simp] theorem mems_unanswered (q : Requester) (s : State) : (unanswered q s).mems = s.mems := by
  unfold unanswered; (repeat' split) <;> simp

@[simp] theorem mems_regRead (q : Requester) (o : Nat) (s : State) : (regRead q o s).mems = s.mems := by
  unfold regRead; (repeat' split) <;> simp

@[simp] theorem mems_putField (r : Reg) (i : Nat) (w : Nat) (f : FieldSpec) (s : State) : (putField r i w f s).mems = s.mems := by
  unfold putField; split <;> simp

@[simp] theorem mems_putFields (r : Reg) (i : Nat) (w : Nat) (s : State) : (putFields r i w s).mems = s.mems := by
  unfold putFields; simp [mems_fold]

@[simp] theorem mems_gclRefused (p : Nat) (s : State) : (gclRefused p s).mems = s.mems := by
  unfold gclRefused; simp

@[simp] theorem mems_noteForeign (p : Nat) (s : State) : (noteForeign p s).mems = s.mems := by
  unfold noteForeign; simp

@[simp] theorem mems_adminPut (r : Reg) (p : Nat) (w : Nat) (s : State) : (adminPut r p w s).mems = s.mems := by
  unfold adminPut; simp

@[simp] theorem mems_gclEntryPut (i : Nat) (w : Nat) (s : State) : (gclEntryPut i w s).mems = s.mems := by
  unfold gclEntryPut; simp

theorem mems_bufferPut (r : Reg) (i : Nat) (w : Nat) (s : State) : ∀ t, bufferPut r i w s = some t → t.mems = s.mems := by
  unfold bufferPut; split <;> simp

@[simp] theorem mems_burstPut (i : Nat) (w : Nat) (s : State) : (burstPut i w s).mems = s.mems := by
  unfold burstPut; simp

theorem mems_egressPut (r : Reg) (i : Nat) (w : Nat) (s : State) : ∀ t, egressPut r i w s = some t → t.mems = s.mems := by
  unfold egressPut; split <;> simp

theorem mems_windowPut (q : Requester) (r : Reg) (i : Nat) (w : Nat) (s : State) : ∀ t, windowPut q r i w s = some t → t.mems = s.mems := by
  unfold windowPut
  intro t h
  have key : ∀ (l : List (State → State × CmdEnd)) (n : Nat) (op : State → State × CmdEnd), (∀ f ∈ l, ∀ y, (f y).1.mems = y.mems) →
      opOf l n = some op → ∀ y, (op y).1.mems = y.mems := by
    intro l n op hl ho
    unfold opOf at ho
    split at ho
    · cases ho
    · exact hl op (List.mem_of_getElem? ho)
  have kid : ∀ (o : Nat) (y : State), (gated q o id y).mems = y.mems := fun o y => mems_gated _ _ _ _ (fun _ => rfl)
  split at h
  · cases h; exact mems_tcamStart _ _ _ _ _ _
  · cases h; exact mems_emStart _ _ _ _ _ _
  · cases h; split
    · rename_i ho; exact mems_rwStart _ _ _ _ (key _ _ _ (by simp) ho)
    · exact kid _ _
  · cases h; split
    · rename_i ho; exact mems_scStart _ _ _ _ _ (key _ _ _ (by simp) ho)
    · exact kid _ _
  · cases h

end Sys2Proof.Machine
end

