-- ==== Sys2Proof/Laws/MemsStart.lean ====
section
/-! SUPPORT. The queue and the byte memories (`State.mems`) under the operations of the image loader, the mailbox, the sideband and the row wrappers that write none of them. -/

set_option linter.unusedSimpArgs false

namespace Sys2Proof.Machine

@[simp] theorem mems_putImage (r : Reg) (i : Nat) (w : Nat) (s : State) : (putImage r i w s).mems = s.mems := by
  unfold putImage; simp [mems_fold]

theorem mems_loadIdentity (b : List Byte) (s : State) : ∀ t, loadIdentity b s = some t → t.mems = s.mems := by
  unfold loadIdentity
  intro t h
  rw [mems_keep h]; simp [mems_fold]

@[simp] theorem mems_putPort (b : List Byte) (p : Nat) (s : State) : (putPort b p s).mems = s.mems := by
  unfold putPort; simp [mems_fold]

theorem mems_loadPorts (b : List Byte) (s : State) : ∀ t, loadPorts b s = some t → t.mems = s.mems := by
  unfold loadPorts
  intro t h
  simp only [Option.map_eq_some_iff, Option.bind_eq_some_iff] at h
  repeat' split at h
  all_goals first
    | (cases h; done)
    | (rw [mems_keep h]; simp [mems_fold])
    | (rw [mems_loadEach _ _ _ (by intro y0 y1 t h; skip) _ h]; simp [mems_fold])

@[simp] theorem mems_putSrc (n : Nat) (w : Nat) (s : State) : (putSrc n w s).mems = s.mems := by
  unfold putSrc; simp

@[simp] theorem mems_putReact (n : Nat) (w : Nat) (s : State) : (putReact n w s).mems = s.mems := by
  unfold putReact; simp

theorem mems_loadRouting (b : List Byte) (s : State) : ∀ t, loadRouting b s = some t → t.mems = s.mems := by
  unfold loadRouting
  intro t h
  simp only [Option.map_eq_some_iff, Option.bind_eq_some_iff] at h
  repeat' split at h
  all_goals first
    | (cases h; done)
    | (rw [mems_keep h]; simp [mems_fold])
    | (rw [mems_loadEach _ _ _ (by intro y0 y1 t h; skip) _ h]; simp [mems_fold])

theorem mems_loadHost (b : List Byte) (s : State) : ∀ t, loadHost b s = some t → t.mems = s.mems := by
  unfold loadHost
  intro t h
  simp only [Option.map_eq_some_iff, Option.bind_eq_some_iff] at h
  repeat' split at h
  all_goals first
    | (cases h; done)
    | (rw [mems_keep h]; simp [mems_fold])
    | (rw [mems_loadEach _ _ _ (by intro y0 y1 t h; skip) _ h]; simp [mems_fold])

theorem mems_loadRw (i : Nat) (table : Nat) (s : State) : ∀ t, loadRw i table s = some t → t.mems = s.mems := by
  unfold loadRw; simp only; (repeat' split) <;> simp [mems_fold]

theorem mems_loadEach {α : Type} (f : α → State → Option State) (l : List α) (s : State)
    (h_f : ∀ y0 y1 t, f y0 y1 = some t → t.mems = y1.mems) : ∀ t, loadEach f l s = some t → t.mems = s.mems := by
  induction l generalizing s with
  | nil => intro t h; simp only [loadEach, Option.some.injEq] at h; rw [h]
  | cons x l ih =>
    intro t h
    simp only [loadEach, Option.bind_eq_some_iff] at h
    obtain ⟨a, ha, hb⟩ := h
    rw [ih a t hb, h_f _ _ _ ha]

theorem mems_loadParse (b : List Byte) (s : State) : ∀ t, loadParse b s = some t → t.mems = s.mems := by
  unfold loadParse
  intro t h
  simp only [Option.map_eq_some_iff, Option.bind_eq_some_iff] at h
  repeat' split at h
  all_goals first
    | (cases h; done)
    | (rw [mems_keep h]; simp [mems_fold])
    | (rw [mems_loadEach _ _ _ (by intro y0 y1 t h; skip) _ h]; simp [mems_fold])

theorem mems_fillPart (d : Nat) (kind : Nat) (es : List TcamEntry) (s : State) : ∀ t, fillPart d kind es s = some t → t.mems = s.mems := by
  unfold fillPart
  intro t h
  repeat' split at h
  · cases h; rfl
  · cases h
  · rw [mems_keep h]; simp [mems_fold]

theorem mems_loadDieTcam (b : List Byte) (rules : List Nat) (routes : List Nat) (d : Nat)
    (s : State) : ∀ t, loadDieTcam b rules routes d s = some t → t.mems = s.mems := by
  unfold loadDieTcam
  intro t h
  simp only at h
  split at h
  · obtain ⟨a, ha, ht⟩ := Option.bind_eq_some_iff.1 h
    obtain ⟨b, hb, ha⟩ := Option.bind_eq_some_iff.1 ha
    rw [mems_fillPart _ _ _ _ _ ht, mems_fillPart _ _ _ _ _ ha, mems_fillPart _ _ _ _ _ hb]
  · cases h

theorem mems_loadClass (b : List Byte) (s : State) : ∀ t, loadClass b s = some t → t.mems = s.mems := by
  unfold loadClass
  intro t h
  simp only [Option.map_eq_some_iff, Option.bind_eq_some_iff] at h
  repeat' split at h
  all_goals first
    | (cases h; done)
    | (rw [mems_keep h]; simp [mems_fold])
    | (rw [mems_loadEach _ _ _ (by intro y0 y1 t h; exact mems_loadDieTcam _ _ _ _ _ _ h) _ h]; simp [mems_fold])

@[simp] theorem mems_putDecl (b : List Byte) (s : State) : (putDecl b s).mems = s.mems := by
  unfold putDecl; simp

theorem mems_loadBuffer (b : List Byte) (s : State) : ∀ t, loadBuffer b s = some t → t.mems = s.mems := by
  unfold loadBuffer
  intro t h
  simp only [Option.map_eq_some_iff, Option.bind_eq_some_iff] at h
  repeat' split at h
  all_goals first
    | (cases h; done)
    | (rw [mems_keep h]; simp [mems_fold])
    | (rw [mems_loadEach _ _ _ (by intro y0 y1 t h; skip) _ h]; simp [mems_fold])

theorem mems_loadStr (w : Nat → Nat) (s : State) : ∀ t, loadStr w s = some t → t.mems = s.mems := by
  unfold loadStr
  intro t h
  simp only at h
  split at h
  · cases h
  · rw [mems_keep h]
    (repeat' split) <;> simp [mems_fold]

@[simp] theorem mems_putSchedPort (b : List Byte) (p : Nat) (s : State) : (putSchedPort b p s).mems = s.mems := by
  unfold putSchedPort; simp

theorem mems_loadSched (b : List Byte) (s : State) : ∀ t, loadSched b s = some t → t.mems = s.mems := by
  unfold loadSched
  intro t h
  simp only at h
  split at h
  · rw [mems_loadEach _ _ _ (by intro y0 y1 t h; exact mems_loadStr _ _ _ h) _ h]
    rw [mems_fold _ (by intro s a; exact mems_gclPut _ _ _ _ _), mems_fold _ (by intro s a; exact mems_setFlds _ _), mems_fold _ (by intro s a; simp),
      mems_fold _ (by intro s a; exact mems_putSchedPort _ _ _)]
  · cases h

@[simp] theorem mems_setPolicy (i : Nat) (w : Nat) (s : State) : (setPolicy i w s).mems = s.mems := by
  unfold setPolicy; simp

theorem mems_loadPolicy (b : List Byte) (s : State) : ∀ t, loadPolicy b s = some t → t.mems = s.mems := by
  unfold loadPolicy
  intro t h
  simp only [Option.map_eq_some_iff, Option.bind_eq_some_iff] at h
  repeat' split at h
  all_goals first
    | (cases h; done)
    | (rw [mems_keep h]; simp [mems_fold])
    | (rw [mems_loadEach _ _ _ (by intro y0 y1 t h; skip) _ h]; simp [mems_fold])

@[simp] theorem mems_mbxContext (h : Nat) (new : Nat → Nat) (s : State) : (mbxContext h new s).mems = s.mems := by
  unfold mbxContext; simp

theorem mems_mbxPolicy (b : List Byte) (s : State) : ∀ t, mbxPolicy b s = .ok t → t.mems = s.mems := by
  unfold mbxPolicy; simp only; (repeat' split) <;> simp [mems_fold]

@[simp] theorem mems_mbxReply (ch : Nat) (v : Nat) (s : State) : (mbxReply ch v s).mems = s.mems := by
  unfold mbxReply; simp

@[simp] theorem mems_smbusFetch (o : Nat) (s : State) : (smbusFetch o s).mems = s.mems := by
  unfold smbusFetch; (repeat' split) <;> first | rfl | simp [mems_withLdr]

@[simp] theorem mems_smbusReadStart (good : Bool) (o : Nat) (s : State) : (smbusReadStart good o s).mems = s.mems := by
  unfold smbusReadStart; (repeat' split) <;> first | rfl | simp [mems_withLdr]

@[simp] theorem mems_smbusReadReady (s : State) : (smbusReadReady s).mems = s.mems := by
  unfold smbusReadReady; (repeat' split) <;> first | rfl | simp [mems_withLdr]

@[simp] theorem mems_smbusBlockRead (s : State) : (smbusBlockRead s).mems = s.mems := by
  unfold smbusBlockRead; (repeat' split) <;> simp

@[simp] theorem mems_smbusAlert (s : State) : (smbusAlert s).mems = s.mems := by
  unfold smbusAlert; simp

@[simp] theorem mems_boundaryScan (pins : List (Pin × Bool)) (s : State) : (boundaryScan pins s).mems = s.mems := by
  unfold boundaryScan; (repeat' split) <;> first | rfl | simp [mems_withLdr]

@[simp] theorem mems_trstAssert (s : State) : (trstAssert s).mems = s.mems := by
  unfold trstAssert; (repeat' split) <;> first | rfl | simp [mems_withLdr]

@[simp] theorem mems_settleTerminal (s : State) : (settleTerminal s).mems = s.mems := by
  unfold settleTerminal; (repeat' split) <;> first | rfl | simp [mems_withLdr]

theorem mems_inStart (n : Nat) (act : State → State) (s : State) (h_act : ∀ y0, (act y0).mems = y0.mems) : (inStart n act s).mems = s.mems := by
  unfold inStart; simp [h_act]

@[simp] theorem mems_enterSafe (cause : Nat) (s : State) : (enterSafe cause s).mems = s.mems := by
  unfold enterSafe; simp

@[simp] theorem mems_fuseLoadDone (otpOk : Bool) (sidebands : Nat) (s : State) : (fuseLoadDone otpOk sidebands s).mems = s.mems := by
  unfold fuseLoadDone
  refine mems_inStart _ _ _ ?_
  intro s
  (repeat' split) <;> simp [mems_fold]

@[simp] theorem mems_slotReadComplete (noFlash : Bool) (s : State) : (slotReadComplete noFlash s).mems = s.mems := by
  unfold slotReadComplete
  refine mems_inStart _ _ _ ?_
  intro s
  (repeat' split) <;> simp [mems_fold]

@[simp] theorem mems_nextSlot (s : State) : (nextSlot s).mems = s.mems := by
  unfold nextSlot; (repeat' split) <;> first | rfl | simp [mems_withLdr]

@[simp] theorem mems_sidebandCheck (s : State) : (sidebandCheck s).mems = s.mems := by
  unfold sidebandCheck; simp [mems_fold]

@[simp] theorem mems_presetSeeds (slot : Nat) (recs : List Rec) (s : State) : (presetSeeds slot recs s).mems = s.mems := by
  unfold presetSeeds; (repeat' split) <;> simp [mems_fold]

@[simp] theorem mems_endLoad (s : State) : (endLoad s).mems = s.mems := by
  unfold endLoad; simp [mems_fold]

@[simp] theorem mems_loadComplete (s : State) : (loadComplete s).mems = s.mems := by
  unfold loadComplete
  refine mems_inStart _ _ _ ?_
  intro s
  simp only
  split
  · rfl
  · split
    · simp
    · split <;> simp

@[simp] theorem mems_trainFail (c : Nat) (s : State) : (trainFail c s).mems = s.mems := by
  unfold trainFail; simp

@[simp] theorem mems_baseTrainingDone (failed : List Nat) (s : State) : (baseTrainingDone failed s).mems = s.mems := by
  unfold baseTrainingDone; (repeat' (first | with_reducible rfl | split | (intros; refine mems_fold _ ?_ _ _; intros) | simp [mems_fold]))

@[simp] theorem mems_finalCalibrationDone (failed : List Nat) (s : State) : (finalCalibrationDone failed s).mems = s.mems := by
  unfold finalCalibrationDone
  refine mems_inStart _ _ _ ?_
  intro s
  have h : ∀ (bad l : List Nat) (s : State), (l.foldl (fun s c => if bad.contains c then trainFail c s else s) s).mems = s.mems :=
    fun bad l s => mems_fold _ (by intro s a; split <;> simp) l s
  simp only
  split
  · exact (mems_withLdr _ _ rfl rfl).trans (h _ _ _)
  · exact (mems_enterSafe _ _).trans ((mems_withLdr _ _ rfl rfl).trans (h _ _ _))

@[simp] theorem mems_trainDone (s : State) : (trainDone s).mems = s.mems := by
  unfold trainDone
  refine mems_inStart _ _ _ ?_
  intro s
  simp only
  split
  · rfl
  · simp [mems_fold]

@[simp] theorem mems_planTimeout (s : State) : (planTimeout s).mems = s.mems := by
  unfold planTimeout
  refine mems_inStart _ _ _ ?_
  intro s
  (repeat' split) <;> simp [mems_fold]

theorem mems_powered (act : State → State) (s : State) (h_act : ∀ y0, (act y0).mems = y0.mems) : (powered act s).mems = s.mems := by
  unfold powered; simp [h_act]

theorem mems_clocked (act : State → State) (s : State) (h_act : ∀ y0, (act y0).mems = y0.mems) : (clocked act s).mems = s.mems := by
  unfold clocked; simp [h_act]

theorem mems_engine (act : State → State) (s : State) (h_act : ∀ y0, (act y0).mems = y0.mems) : (engine act s).mems = s.mems := by
  unfold engine; simp [h_act]

theorem mems_writeRow (q : Requester) (r : Reg) (i : Nat) (act : State → State) (s : State) (h_act : ∀ y0, (act y0).mems = y0.mems) :
    (writeRow q r i act s).mems = s.mems := by
  unfold writeRow; simp [h_act]

theorem mems_pdRow (q : Requester) (r : Reg) (i : Nat) (w : Nat) (act : State → State) (s : State) (h_act : ∀ y0, (act y0).mems = y0.mems) :
    (pdRow q r i w act s).mems = s.mems := by
  unfold pdRow; simp [h_act]

@[simp] theorem mems_readRow (q : Requester) (r : Reg) (i : Nat) (s : State) : (readRow q r i s).mems = s.mems := by
  unfold readRow; simp

theorem mems_windowRow (q : Requester) (r : Reg) (j : Nat) (act : State → State) (s : State) (h_act : ∀ y0, (act y0).mems = y0.mems) :
    (windowRow q r j act s).mems = s.mems := by
  unfold windowRow; split
  · exact mems_writeRow _ _ _ _ _ h_act
  · rfl

theorem mems_pdWindow (q : Requester) (r : Reg) (d : Nat) (j : Nat) (w : Nat) (act : State → State) (s : State) (h_act : ∀ y0,
    (act y0).mems = y0.mems) : (pdWindow q r d j w act s).mems = s.mems := by
  unfold pdWindow; split
  · exact mems_pdRow _ _ _ _ _ _ h_act
  · rfl

@[simp] theorem mems_sizedRead (q : Requester) (n : Nat) (o : Nat) (s : State) : (sizedRead q n o s).mems = s.mems := by
  unfold sizedRead; simp

@[simp] theorem mems_gclCommand (q : Requester) (p : Nat) (gates : Nat) (cancel : Bool) (s : State) :
    (gclCommand q p gates cancel s).mems = s.mems := by
  unfold gclCommand; refine mems_gated _ _ _ _ ?_; intro s; (repeat' split) <;> simp [mems_fold]

@[simp] theorem mems_devrRetire (t : Nat) (i : Issue) (s : State) : (devrRetire t i s).mems = s.mems := by
  unfold devrRetire; split <;> simp

end Sys2Proof.Machine
end

