-- ==== Sys2Proof/Laws/Rows.lean ====
section
/-! SUPPORT. What the gates of the rows do: a row whose part works acts, a register access that reaches its register reads or writes it, and an
instruction of the management engine that issues ends in a fault, a wait or its retirement. -/

namespace Sys2Proof.Machine

/-- A data-path row of a part that works acts. -/
theorem engine_runs {f : State → State} {s : State} (h : (!s.ldr.held && !s.terminal && !s.safe) = true) : engine f s = f s := by
  simp at h; simp [engine, h]

/-- A clocked row of a part that is neither held nor Terminal acts. -/
theorem clocked_runs {f : State → State} {s : State} (h : (!s.ldr.held && !s.terminal) = true) : clocked f s = f s := by
  simp at h; simp [clocked, h]

/-- A row of a part that is not held acts. -/
theorem powered_runs {f : State → State} {s : State} (h : (!s.ldr.held) = true) : powered f s = f s := by
  simp at h; simp [powered, h]

/-- A write that comes at once to a register that answers, in the privileged view, acts. -/
theorem answers_gated {q r i} {s : State} (h : (answers q r i s && privileged q (blockOf (regOffset r i)) s) = true) :
   lands q r i s = true ∧ linkWaits (regOffset r i) s = false ∧ ∀ g, gated q (regOffset r i) g s = g s := by
  simp only [answers, Bool.and_eq_true, Bool.not_eq_true'] at h
  obtain ⟨⟨h1, h2⟩, h3⟩ := h
  refine ⟨h1, h2, fun g => ?_⟩
  simp only [lands, Bool.and_eq_true, Bool.not_eq_true', Bool.or_eq_true, decide_eq_true_eq] at h1
  obtain ⟨⟨⟨⟨⟨_, ht⟩, _⟩, _⟩, hd⟩, _⟩ := h1
  rcases hd with hd | hd
  · simp [gated, ht, h3]; intro h; omega
  · simp [gated, ht, hd, h3]

/-- A write of a hub register that comes to it in the privileged view acts, and so does every gated write of that register. -/
theorem writeRow_runs {q r i f} {s : State} (h : (answers q r i s && privileged q (blockOf (regOffset r i)) s) = true) :
   writeRow q r i f s = f s ∧ ∀ g, gated q (regOffset r i) g s = g s := by
  have k := answers_gated h
  exact ⟨by simp [writeRow, k.1], k.2.2⟩

/-- The same for a register of a port die. -/
theorem pdRow_runs {q r i w f} {s : State} (h : (answers q r i s && privileged q (blockOf (regOffset r i)) s) = true) :
   pdRow q r i w f s = f s ∧ ∀ g, gated q (regOffset r i) g s = g s := by
  have k := answers_gated h
  exact ⟨by simp [pdRow, k.1, k.2.1], k.2.2⟩

/-- The same for a command of a window of STR. -/
theorem windowRow_runs {q r j f} {s : State} (h : (match window q r 0 j with | some (q, r, i) => answers q r i s && privileged q (blockOf (regOffset r i)) s | none => false) = true) :
   windowRow q r j f s = f s ∧ ∀ g, gated q (regOffset r j) g s = g s := by
  unfold window at h
  split at h
  · rename_i hj
    split at hj
    · simp at hj; obtain ⟨rfl, rfl, rfl⟩ := hj
      have := writeRow_runs (f := f) h
      simp [windowRow, *]
    · simp at hj
  · simp at h

/-- The same for a command of a window of a port die. -/
theorem pdWindow_runs {q r d j w f} {s : State} (h : (match window q r d j with | some (q, r, i) => answers q r i s && privileged q (blockOf (regOffset r i)) s | none => false) = true) :
   pdWindow q r d j w f s = f s ∧ ∀ g, gated q (regOffset r (d * 2 + j)) g s = g s := by
  unfold window at h
  split at h
  · rename_i hj
    split at hj
    · simp at hj; obtain ⟨rfl, rfl, rfl⟩ := hj
      have := pdRow_runs (f := f) (w := w) h
      simp [pdWindow, *]
    · simp at hj
  · simp at h

/-- A command of an idle TCAM window joins the die's engine. -/
theorem tcamStart_runs {q d j op part} {s : State} (h : (match window q .TCAM_CMD d j with | some (q, r, i) => answers q r i s && privileged q (blockOf (regOffset r i)) s | none => false) = true)
   (h2 : s.fld F.TCAM_STATUS_BUSY (d * 2 + j) = 0) (h3 : windowServes q j = true) (h4 : op ≠ 0) : tcamStart q d j op part s = tcamJoin d j op part s := by
  unfold tcamStart; rw [(pdWindow_runs h (f := id) (w := 0)).2]; simp [h2, h3, h4]

/-- A command of an idle exact-match window joins the die's engine. -/
theorem emStart_runs {q d j op table} {s : State} (h : (match window q .EM_CMD d j with | some (q, r, i) => answers q r i s && privileged q (blockOf (regOffset r i)) s | none => false) = true)
   (h2 : s.fld F.EM_STATUS_BUSY (d * 2 + j) = 0) (h3 : windowServes q j = true) (h4 : op ≠ 0 ∧ op < 6) : emStart q d j op table s = emJoin d j op table s := by
  unfold emStart; rw [(pdWindow_runs h (f := id) (w := 0)).2]; simp [h2, h3, h4] <;> omega

/-- A command of an idle rewrite window sets BUSY, acts, and holds its end. -/
theorem rwStart_runs {q j op} {s : State} (h : (match window q .RW_CMD 0 j with | some (q, r, i) => answers q r i s && privileged q (blockOf (regOffset r i)) s | none => false) = true)
   (h2 : s.fld F.RW_STATUS_BUSY j = 0) (h3 : windowServes q j = true) : rwStart q j op s = rwPends j (op (s.setFld F.RW_STATUS_BUSY j 1)).2 (op (s.setFld F.RW_STATUS_BUSY j 1)).1 := by
  unfold rwStart; rw [(windowRow_runs h (f := id)).2]; simp [h2, h3, rwPends]

/-- The same for a stream window. -/
theorem scStart_runs {q j t op} {s : State} (h : (match window q .SC_CMD 0 j with | some (q, r, i) => answers q r i s && privileged q (blockOf (regOffset r i)) s | none => false) = true)
   (h2 : s.fld F.SC_STATUS_BUSY j = 0) (h3 : t ≠ 7) (h4 : windowServes q j = true) : scStart q j t op s = scPends j (op (s.setFld F.SC_STATUS_BUSY j 1)).2 (op (s.setFld F.SC_STATUS_BUSY j 1)).1 := by
  unfold scStart; rw [(windowRow_runs h (f := id)).2]; simp [h2, h3, h4, scPends]

/-- Noting a foreign list change writes no register. -/
theorem noteForeign_fld (p : Nat) (s : State) (f : Fld) (i : Nat) : (noteForeign p s).fld f i = s.fld f i := by
  unfold noteForeign; split <;> rfl

/-- A write at an offset of a register goes to that register. -/
theorem writeAt_reaches {q a v r} {s : State} (h3 : s.terminal = false) (h4 : safeHides q a s = false) (h5 : blockOf a < 13 ∨ s.dieUp (blockOf a - 13) = true)
    (h6 : regAt a = some r) (h7 : joinedHidden a r.reg s = false) (h8 : beyondReach a s = false) : writeAt q a v s = writeReg q r (v % 2 ^ 32) s := by
  have hd : ¬ (13 ≤ blockOf a ∧ s.dieUp (blockOf a - 13) = false) := by
    rintro ⟨x, y⟩; rcases h5 with h5 | h5
    · omega
    · simp [y] at h5
  rw [writeAt, if_neg (by simp [h3, h4, h8]), if_neg hd, h6]
  simp [h7]

/-- A read at an aligned offset of a register reads that register. -/
theorem readAt_reaches {q a r} {s : State} (h4 : safeHides q a s = false) (h5 : blockOf a < 13 ∨ s.dieUp (blockOf a - 13) = true)
    (h6 : regAt a = some r) (h7 : joinedHidden a r.reg s = false) (h8 : beyondReach a s = false) (h9 : a % 4 = 0) : readAt q a s = readReg q r s := by
  have hd : ¬ (13 ≤ blockOf a ∧ s.dieUp (blockOf a - 13) = false) := by
    rintro ⟨x, y⟩; rcases h5 with h5 | h5
    · omega
    · simp [y] at h5
  rw [readAt, if_neg (by simp [h9]), h8, if_neg (by simp), h4, if_neg (by simp), if_neg hd, h6]
  simp [h7]

/-- A misaligned offset is no register's. -/
theorem regAt_aligned {a r} (h : regAt a = some r) : a % 4 = 0 := by
  unfold regAt at h
  split at h
  · cases h
  · omega

/-- A write that comes at once to a register writes it. -/
theorem regWrite_reaches {q o a v r} {s : State} (h : comesTo q o a r s = true) (ht : s.terminal = false) : regWrite q o v s = writeReg q r (v % 2 ^ 32) s := by
  simp only [comesTo, Bool.and_eq_true, Bool.not_eq_true', Bool.or_eq_true, decide_eq_true_eq, beq_iff_eq] at h
  obtain ⟨⟨⟨⟨⟨⟨⟨h1, h2⟩, h3⟩, h4⟩, h5⟩, h6⟩, h7⟩, h8⟩ := h
  rw [regWrite, if_neg (by simp [h1]), h2]
  dsimp only
  rw [if_neg (by simp [h3]), writeAt_reaches ht h5 h6 h7 h8 h4]

/-- A read that comes at once to a register reads it. -/
theorem regRead_reaches {q o a r} {s : State} (h : comesTo q o a r s = true) : regRead q o s = readReg q r s := by
  simp only [comesTo, Bool.and_eq_true, Bool.not_eq_true', Bool.or_eq_true, decide_eq_true_eq, beq_iff_eq] at h
  obtain ⟨⟨⟨⟨⟨⟨⟨h1, h2⟩, h3⟩, h4⟩, h5⟩, h6⟩, h7⟩, h8⟩ := h
  rw [regRead, if_neg (by simp [h1]), h2]
  dsimp only
  rw [if_neg (by simp [h3]), readAt_reaches h5 h6 h7 h8 h4 (regAt_aligned h7)]

/-- A write of a register that no special rule takes puts its fields. -/
theorem writeAt_plain {q r i v} {s : State} (h : (answers q r i s && privileged q (blockOf (regOffset r i)) s) = true)
   (hr : regAt (regOffset r i) = some ⟨r, i, 0⟩) (hw : r.writable = true) (hv : v < 2 ^ 32)
   (h1 : windowPut q r i v s = none) (h2 : mePut q r i v s = none) (h3 : hubPut q r i v s = none)
   (h4 : bufferPut r i v s = none) (h5 : egressPut r i v s = none) :
   writeRow q r i (writeAt q (regOffset r i) v) s = putFields r i v s := by
  obtain ⟨hl, _, hg⟩ := answers_gated h
  have hl' := hl
  simp only [lands, Bool.and_eq_true, Bool.not_eq_true', Bool.or_eq_true, decide_eq_true_eq] at hl'
  obtain ⟨⟨⟨⟨⟨_, ht⟩, hb⟩, hs⟩, hd⟩, hj⟩ := hl'
  rw [writeRow, if_pos hl, writeAt_reaches ht hs hd hr hj hb, Nat.mod_eq_of_lt hv]
  unfold writeReg
  dsimp only
  rw [h1, h2, h3]
  dsimp only
  rw [hw]
  simp only [Bool.true_eq_false, if_false, Nat.mul_zero, Nat.add_zero]
  rw [hg, h4, h5]
  simp

/-- A read that comes at once to a register that answers reads it. -/
theorem readRow_runs {q r i} {s : State} (h : answers q r i s = true) (hr : regAt (regOffset r i) = some ⟨r, i, 0⟩) (ha : regOffset r i % 4 = 0) :
    readRow q r i s = readReg q ⟨r, i, 0⟩ s := by
  simp only [answers, lands, Bool.and_eq_true, Bool.not_eq_true', Bool.or_eq_true, decide_eq_true_eq] at h
  obtain ⟨⟨⟨⟨⟨⟨h1, _⟩, hb⟩, hs⟩, hd⟩, hj⟩, hw⟩ := h
  rw [readRow, if_neg (by simp [h1]), if_neg (by simp [hw]), readAt_reaches hs hd hr hj hb ha]

/-- An instruction that issues ends in a fault, a wait or its retirement (13 R336, R346). -/
theorem runInsn_issues {t : Nat} {i : Issue} {op : MeOp} {s : State} (h : issues t i op s = true) : runInsn t i op s =
    (match effOf t op (issued t i s) with
      | .fault cause => threadFault t cause (issued t i s)
      | .hold s2 => waits t s s2
      | .retire s2 => retires t i op s s2) := by
  simp only [issues, Bool.and_eq_true, decide_eq_true_eq, beq_iff_eq, Bool.or_eq_true, Bool.not_eq_true', bne_iff_ne, ne_eq] at h
  obtain ⟨⟨⟨⟨⟨⟨⟨⟨h1, h2⟩, h3⟩, h4⟩, h5⟩, h6⟩, h7⟩, h8⟩, h9⟩ := h
  have ha : ¬ (32 ≤ t ∨ threadState t s ≠ 1 ∨ coreRuns t s = false ∨ (tget none s.me.devr t).isSome = true) := by
    simp [h2, h3, Option.isNone_iff_eq_none.mp h4]; omega
  have hb : ¬ (atBreakpoint t s = true ∧ tget false s.me.bpPass t = false ∧ tget 0 s.me.held t = 0) := by
    rintro ⟨x, y, z⟩; rcases h5 with (h5 | h5) | h5 <;> simp_all
  rw [runInsn, if_neg ha, if_neg hb]
  have e1 : fetchFault t (s.withMe { s.me with bpPass := tset false s.me.bpPass t false }) = 0 := h6
  have e2 : fetched t (s.withMe { s.me with bpPass := tset false s.me.bpPass t false }) = encodeMe op := h8
  have e3 : namesNext t op (s.withMe { s.me with bpPass := tset false s.me.bpPass t false }) = true := by
    simp [namesNext, e2, h7]
  rw [executeOne]
  simp only [e1, e2, e3, h9, ne_eq, not_true, if_false, Bool.true_eq_false, issued, h8]
  rfl

/-- A thread that runs and that no breakpoint holds executes the word at its PC. -/
theorem runInsn_fetches {t : Nat} {i : Issue} {op : MeOp} {s : State} (h1 : t < 32) (h2 : threadState t s = 1) (h3 : coreRuns t s = true)
    (h4 : tget none s.me.devr t = none) (h5 : atBreakpoint t s = false ∨ tget false s.me.bpPass t = true ∨ tget 0 s.me.held t ≠ 0) :
    runInsn t i op s = executeOne t i op (s.withMe { s.me with bpPass := tset false s.me.bpPass t false }) := by
  have ha : ¬ (32 ≤ t ∨ threadState t s ≠ 1 ∨ coreRuns t s = false ∨ (tget none s.me.devr t).isSome = true) := by
    simp [h2, h3, h4]; omega
  have hb : ¬ (atBreakpoint t s = true ∧ tget false s.me.bpPass t = false ∧ tget 0 s.me.held t = 0) := by
    rintro ⟨x, y, z⟩; rcases h5 with h5 | h5 | h5 <;> simp_all
  rw [runInsn, if_neg ha, if_neg hb]

/-- One bit of a number. -/
theorem bitsOf_one (v lo : Nat) : bitsOf v lo 1 = (v.testBit lo).toNat := by
  rw [Nat.toNat_testBit]; rfl

/-- One bit after a bit was set. -/
theorem bitsOf_setBit (v b lo : Nat) : bitsOf (setBit v b true) lo 1 = if lo = b then 1 else bitsOf v lo 1 := by
  rw [bitsOf_one, bitsOf_one, setBit, if_pos rfl, Nat.testBit_or, Nat.testBit_two_pow]
  by_cases h : lo = b
  · simp [h]
  · have : ¬ b = lo := fun e => h e.symm
    simp [h, this]

/-- The conjunction with one bit. -/
theorem and_two_pow_bit (v b : Nat) : v &&& 2 ^ b = v / 2 ^ b % 2 * 2 ^ b := by
  apply Nat.eq_of_testBit_eq
  intro i
  rw [Nat.testBit_and, Nat.testBit_two_pow, ← Nat.toNat_testBit]
  by_cases h : b = i
  · subst h; cases v.testBit b <;> simp
  · cases v.testBit b <;> simp [h]

/-- The bits of PLN_CTRL after its FREEZE bit was cleared. -/
theorem bitsOf_clear_one (v : Nat) : bitsOf (setBit v 1 false) 3 1 = bitsOf v 3 1 ∧ bitsOf (setBit v 1 false) 2 1 = bitsOf v 2 1 ∧
    bitsOf (setBit v 1 false) 31 1 = bitsOf v 31 1 ∧ bitsOf (setBit v 1 false) 1 1 = 0 := by
  have : v &&& 2 ^ 1 = v / 2 ^ 1 % 2 * 2 ^ 1 := and_two_pow_bit v 1
  simp only [setBit, bitsOf, Bool.false_eq_true, if_false, this]
  omega

/-- A read of a register without a read of its own shows its word, latches and clears. -/
theorem readReg_plain {q i} {r : Reg} {s : State} (h : [Reg.CLAIM, .SUP_NOTE, .SYNC_IN_TS_NS, .PTP_TX_INFO].contains r = false) :
    readReg q ⟨r, i, 0⟩ s = (
      let s1 := setOut q (liveWord q ⟨r, i, 0⟩ s &&& shownBits (privileged q (blockOf (regOffset r i)) s) ⟨r, i, 0⟩) s
      let s2 := match latchWords q ⟨r, i, 0⟩ s with | some ws => setLatch q (cellKey r 0 i) ws s1 | none => s1
      if privileged q (blockOf (regOffset r i)) s then clearRc ⟨r, i, 0⟩ s2
      else if r.hasP then privViolation q false (regOffset r i) s2 else s2) := by
  unfold readReg
  split <;> first | (simp_all; done) | rfl

end Sys2Proof.Machine
end

