-- ==== Sys2Proof/Machine/Balls.lean ====
section
/-! DEFINITION. The balls of the package: their names and what each carries (20_electrical_package.md R490 to R492, Tables 20.4 and 20.5). No
command reads or changes them. -/

namespace Sys2Proof.Machine

/-- The row letters, in order (R491). -/
def rowLetters : List Char := "ABCDEFGHJKLMNPTUVWY".toList

/-- The letters of row `i`, from 1 to 72 (R491). -/
def rowName (i : Nat) : List Char :=
  let last := rowLetters.getD ((i - 1) % 19) 'A'
  match (i - 1) / 19 with
  | 0 => [last]
  | n + 1 => [rowLetters.getD n 'A', last]

/-- What a ball carries: a pin the part drives or an input, the negative leg of a pair marked; a rail of Table 20.1; ground; or no connection. -/
inductive BallUse where
  | out (p : Pin) (neg : Bool)
  | inp (p : InPin) (neg : Bool)
  | power (rail : Nat)
  | vss | reserved
deriving DecidableEq, Repr

/-- Both legs of a pair. -/
def pairOf {α : Type} (use : α → Bool → BallUse) (p : α) : List BallUse := [use p false, use p true]

/-- The balls of core rows 13 to 18 with i + c even, in order (Table 20.5). -/
def signalBalls : List BallUse :=
  (List.range 16).flatMap (fun l => pairOf .out (.pcieTx l)) ++ (List.range 16).flatMap (fun l => pairOf .inp (.pcieRx l)) ++
  pairOf .inp .pcieRefclk ++ pairOf .inp .sysClk ++
  [Pin.nvmClk, Pin.nvmCsN, Pin.nvmDq 8].map (fun p => .out p false) ++ (List.range 8).map (fun i => .out (.nvmDq i) false) ++ [.out .nvmRstN false] ++
  [Pin.smbScl, Pin.smbSda, Pin.smbAlertN].map (fun p => .out p false) ++
  [InPin.tck, InPin.tms, InPin.tdi, InPin.tdo, InPin.trstN].map (fun p => .inp p false) ++
  [.inp .ppsIn false, .out .ppsOut false] ++ (List.range 4).map (fun n => .inp (.syncIn n) false) ++ (List.range 4).map (fun n => .out (.syncOut n) false) ++
  [.inp .resetN false, .out .ready false, .out .faultN false, .out .intN false, .inp .testEn false] ++
  List.replicate 25 .reserved ++ List.replicate 16 (.power 6)

/-- A ball of the SerDes band of die `d`, at place `k` along it and depth `t` (R492). -/
def bandBall (d k t : Nat) : BallUse :=
  let p := 128 * d + 64 * ((t - 1) / 4) + k
  match (t - 1) % 4 with
  | 0 => .out (.sdTx p) false
  | 1 => .out (.sdTx p) true
  | 2 => .inp (.sdRx p) false
  | _ => .inp (.sdRx p) true

/-- A ball of the ring side of die `d`, at position `m` and depth `u` (R492). -/
def ringBall (d m u : Nat) : BallUse :=
  if (m + u) % 2 = 0 then .vss
  else if u = 1 ∧ m % 6 = 2 ∧ m / 6 < 8 then .inp (.sdRefclk d (m / 6)) false
  else if u = 2 ∧ m % 6 = 3 ∧ m / 6 < 8 then .inp (.sdRefclk d (m / 6)) true
  else if u ≤ 2 ∧ m < 36 then .power 3
  else .power 2

/-- A ball of the core (R492). -/
def coreBall (i c : Nat) : BallUse :=
  if (i + c) % 2 = 1 then .vss
  else if i ≤ 18 then signalBalls.getD ((i - 13) * 24 + (c - 13) / 2) .vss
  else if i ≤ 22 then .power 1
  else if i ≤ 56 then
    if (i = 23 ∧ (c = 13 ∨ c = 15)) ∨ (i = 24 ∧ (c = 14 ∨ c = 16)) then .power 7 else .power 0
  else if i ≤ 58 then .power 4
  else if c ≤ 44 then .power 5
  else .vss

/-- What the ball at row `i`, column `c` carries (Table 20.5), both from 1 to 72. -/
def ballAt (i c : Nat) : BallUse :=
  if i ≤ 8 ∧ c ≤ 64 then bandBall 0 (c - 1) i
  else if 65 ≤ c ∧ i ≤ 64 then bandBall 1 (i - 1) (73 - c)
  else if 65 ≤ i ∧ 9 ≤ c then bandBall 2 (72 - c) (73 - i)
  else if c ≤ 8 then bandBall 3 (72 - i) c
  else if i ≤ 12 ∧ c ≤ 60 then ringBall 0 (c - 9) (i - 8)
  else if 61 ≤ c ∧ i ≤ 60 then ringBall 1 (i - 9) (65 - c)
  else if 61 ≤ i ∧ 13 ≤ c then ringBall 2 (64 - c) (65 - i)
  else if c ≤ 12 then ringBall 3 (64 - i) (c - 8)
  else coreBall i c

end Sys2Proof.Machine
end

