-- ==== Sys2Proof/Tests/Slice0.lean ====
section
/-! SUPPORT. Tests: operands that the checks refuse and accept, small steps with results of the spec's own examples, and for every statement with
hypotheses a state and operands that meet them. -/

namespace Sys2Proof.Tests

open Sys2Proof Sys2Proof.Machine Host

set_option maxRecDepth 4000
set_option Elab.async false

/-! ### Well-formed operands -/

theorem test_ill_formed_access : (
  [.registerWrite .jtag ⟨0, 67108864⟩ 0, .registerWrite .jtag ⟨0, 0⟩ 4294967296, .counterLowWordRead .jtag ⟨0, 67108864⟩,
   .rcFieldRead .jtag ⟨0, 67108864⟩] : List Instr).all (fun c => !wellFormed c) = true := by decide

theorem test_well_formed_access : (
  [.registerWrite .jtag ⟨0, 67108863⟩ 4294967295, .counterLowWordRead .jtag ⟨0, 67108863⟩, .rcFieldRead .jtag ⟨0, 67108863⟩,
   .privViolLastRead .jtag, .epochBoundary []] : List Instr).all wellFormed = true := by decide

theorem test_ill_formed_ports : (
  [.rxFrameStart 0 512 false, .pauseFrameReceived 512 0 0, .pauseFrameReceived 0 0 65536, .pfcFrameReceived 512 0 0 [0, 0, 0, 0, 0, 0, 0, 0],
   .pfcFrameReceived 0 0 256 [0, 0, 0, 0, 0, 0, 0, 0], .pfcFrameReceived 0 0 0 [], .macControlOther 512 0, .pauseExpiry 512 0, .pauseExpiry 0 8,
   .rxPathStatusChange 512 false false ⟨0, [], 0⟩ false false, .rxPathStatusChange 0 false false ⟨16, [], 0⟩ false false, .adaptationDone 512,
   .anComplete 512 false, .sgmiiControlWord 512 false false false, .linkUpHoldoffExpiry 512, .linkDownDebounceExpiry 512,
   .adminUpWrite .jtag 512 false, .txDrainIdle 512, .portFlushStart 512, .portFlushComplete 512, .pfcFrameTransmit 512, .pfcRefreshExpiry 512 0,
   .pfcRefreshExpiry 0 8, .verifyTimerExpiry 512, .respondFrameReceived 512, .holdTakeEffect 512, .holdRelease 512, .sdTxEqWrite .jtag 512 0,
   .quadPllLockLoss 4 0, .quadPllLockLoss 0 8, .quadPllLock 4 0, .quadPllLock 0 8] : List Instr).all (fun c => !wellFormed c) = true := by decide

theorem test_well_formed_ports : (
  [.rxFrameStart 0 511 false, .rxFrameEnd 0 [] false 0 0, .pauseFrameReceived 511 0 65535, .pfcFrameReceived 511 0 255 [0, 0, 0, 0, 0, 0, 0, 0],
   .macControlOther 511 0, .pauseExpiry 511 7, .ptpFrameReceived 0 [], .mmFragmentReceived 0 [] .ok,
   .rxPathStatusChange 511 false false ⟨15, [], 0⟩ false false, .adaptationDone 511, .anComplete 511 false, .sgmiiControlWord 511 false false false,
   .linkUpHoldoffExpiry 511, .linkDownDebounceExpiry 511, .adminUpWrite .jtag 511 false, .txDrainIdle 511, .portFlushStart 511,
   .portFlushComplete 511, .pfcFrameTransmit 511, .pfcRefreshExpiry 511 7, .verifyTimerExpiry 511, .respondFrameReceived 511, .holdTakeEffect 511,
   .holdRelease 511, .sdTxEqWrite .jtag 511 0, .quadPllLockLoss 3 7, .quadPllLock 3 7] : List Instr).all wellFormed = true := by decide

theorem test_well_formed_lookup : (
  [.pipelineEntry 0 [] 0 {} {}, .farLookupIssue, .farLookupResult 0 .ok {}, .farLookupTimeout 0] : List Instr).all wellFormed = true := by decide

theorem test_ill_formed_search : (
  [.tcamRead .jtag 4 0, .tcamRead .jtag 0 2, .tcamWrite .jtag 4 0, .tcamWrite .jtag 0 2, .tcamClear .jtag 4 0, .tcamClear .jtag 0 2,
   .tcamMove .jtag 4 0, .tcamMove .jtag 0 2, .tcamInsert .jtag 4 0 0, .tcamInsert .jtag 0 2 0, .tcamInsert .jtag 0 0 8, .tcamDelete .jtag 4 0 0,
   .tcamDelete .jtag 0 2 0, .tcamDelete .jtag 0 0 8, .tcamSearch .jtag 4 0 0, .tcamSearch .jtag 0 2 0, .tcamSearch .jtag 0 0 8,
   .tcamCommandEnd 4 ⟨0, []⟩, .tcamCommandEnd 0 ⟨2, []⟩, .tcamScrubSlot 4 .same, .tcamRepairEnd 4 0 false, .tcamRepairEnd 0 16 false,
   .emRead .jtag 4 0 0, .emRead .jtag 0 2 0, .emRead .jtag 0 0 2, .emLookup .jtag 4 0 0, .emLookup .jtag 0 2 0, .emLookup .jtag 0 0 2,
   .emInsert .jtag 4 0 0, .emInsert .jtag 0 2 0, .emInsert .jtag 0 0 2, .emDelete .jtag 4 0 0, .emDelete .jtag 0 2 0, .emDelete .jtag 0 0 2,
   .emFlush .jtag 4 0 0, .emFlush .jtag 0 2 0, .emFlush .jtag 0 0 2, .emCommandEnd 4 ⟨0, false⟩, .emCommandEnd 0 ⟨2, false⟩,
   .learnQueueHead ⟨4, []⟩, .learnTokenRefill 4, .agePassStart ⟨4, []⟩] : List Instr).all (fun c => !wellFormed c) = true := by decide

theorem test_well_formed_search : (
  [.tcamRead .jtag 3 1, .tcamWrite .jtag 3 1, .tcamClear .jtag 3 1, .tcamMove .jtag 3 1, .tcamInsert .jtag 3 1 7, .tcamDelete .jtag 3 1 7,
   .tcamSearch .jtag 3 1 7, .tcamCommandEnd 3 ⟨1, []⟩, .tcamScrubSlot 3 .same, .tcamRepairEnd 3 15 false, .emRead .jtag 3 1 1,
   .emLookup .jtag 3 1 1, .emInsert .jtag 3 1 1, .emDelete .jtag 3 1 1, .emFlush .jtag 3 1 1, .emCommandEnd 3 ⟨1, false⟩, .learnQueueHead ⟨3, []⟩,
   .learnTokenRefill 3, .agePassStart ⟨3, []⟩] : List Instr).all wellFormed = true := by decide

theorem test_ill_formed_hub : (
  [.mcHoldRetry 4120, .contextInstall 2 0, .contextAck 4 0 0 0, .contextAck 0 2 0 0, .contextAck 0 0 4096 0, .contextInval 4 0 0,
   .contextInval 0 2 0, .contextInval 0 0 4096, .flitCrcError 4 0 [], .flitCrcError 0 2 [], .retrainEnd 4 false, .bufConfigWrite .jtag 67108864 0,
   .bufConfigWrite .jtag 0 4294967296, .schedulerSelect 514 .ok 0 0] : List Instr).all (fun c => !wellFormed c) = true := by decide

theorem test_well_formed_hub : (
  [.hubInputStage 0 false none false, .mcHoldRetry 4119, .mcHoldExpiry 0, .lastCellWritten 0, .frameEligible 0, .contextInstall 1 0,
   .contextAck 3 1 4095 0, .contextInval 3 1 4095, .flitCrcError 3 1 [], .retrainEnd 3 false, .qAvgUpdate,
   .bufConfigWrite .jtag 67108863 4294967295, .schedulerSelect 513 .ok 0 0, .egressCopyArrival 0 none false, .txFrameEnd 0] : List Instr).all wellFormed = true := by decide

theorem test_ill_formed_tables : (
  [.rwRead .jtag 2 ⟨0, false⟩, .rwRead .jtag 0 ⟨4, false⟩, .rwWrite .jtag 2 0, .rwWrite .jtag 0 4, .rwCommandEnd 2,
   .editCfgWrite .jtag false 4294967296, .gclChangeReq .jtag 512 0, .gclChangeReq .jtag 0 256, .gclCancel .jtag 512 0, .gclCancel .jtag 0 256,
   .gclChangeApply 512, .gateEntryBegin 512 0 false, .gateEntryBegin 0 1024 false, .deadlineSlotAdvance 512, .ledEvaluation 65536,
   .scRead .jtag 2 ⟨0, false⟩, .scRead .jtag 0 ⟨7, false⟩, .scWrite .jtag 2 0, .scWrite .jtag 0 7, .scChange .jtag 2 0, .scChange .jtag 0 7,
   .scCommandEnd 2, .streamGateChangeApply 4096, .streamGateEntryBegin 4096 0, .streamGateEntryBegin 0 32768, .streamGateRegionRelease 4096] : List Instr).all (fun c => !wellFormed c) = true := by decide

theorem test_well_formed_tables : (
  [.rwRead .jtag 1 ⟨3, false⟩, .rwWrite .jtag 1 3, .rwCommandEnd 1, .editCfgWrite .jtag false 4294967295, .gclChangeReq .jtag 511 255,
   .gclCancel .jtag 511 255, .gclChangeApply 511, .gateEntryBegin 511 1023 false, .deadlineSlotAdvance 511, .shaperWheelSlot, .ledEvaluation 65535,
   .qDepthSample, .scRead .jtag 1 ⟨6, false⟩, .scWrite .jtag 1 6, .scChange .jtag 1 6, .scCommandEnd 1, .streamGateChangeApply 4095,
   .streamGateEntryBegin 4095 32767, .streamGateRegionRelease 4095] : List Instr).all wellFormed = true := by decide

theorem test_ill_formed_time : (
  [.timeBeacon 4 0, .rateAdjWrite .jtag 4294967296, .syncInEdge 4 false, .syncInTsRead .jtag 4, .ptpTxInfoRead .jtag 4, .syncOutEdge 4 false,
   .pllLockLoss 3] : List Instr).all (fun c => !wellFormed c) = true := by decide

theorem test_well_formed_time : (
  [.timeBeacon 3 0, .rateAdjWrite .jtag 4294967295, .timeStep .jtag, .timeSet .jtag, .applyInstant, .ppsInEdge, .ppsInLossTimeout,
   .syncInEdge 3 false, .syncInTsRead .jtag 3, .ptpTxInfoRead .jtag 3, .ppsOutEdge false, .syncOutEdge 3 false, .syncReceiptTimeout,
   .holdoverLimitExpiry, .pllLockLoss 2] : List Instr).all wellFormed = true := by decide

theorem test_ill_formed_plans : (
  [.quarantineExpiry 512, .returnHoldExpiry 512, .freeze .jtag 4294967296, .unfreeze .jtag 4294967296, .replan .jtag 4294967296,
   .ssIndexWrite .jtag 65536] : List Instr).all (fun c => !wellFormed c) = true := by decide

theorem test_well_formed_plans : (
  [.synthesisDone, .commitApply, .quarantineExpiry 511, .returnHoldExpiry 511, .alphaAdjust, .surveyRecord, .planApprove .jtag, .planReject .jtag,
   .approveTimeout, .freeze .jtag 4294967295, .unfreeze .jtag 4294967295, .replan .jtag 4294967295, .ssIndexWrite .jtag 65535, .trapTokenRefill,
   .exportBlockComplete [] []] : List Instr).all wellFormed = true := by decide

theorem test_ill_formed_insn : (
  [.alu 32 {} 0 0 0 0, .alu 0 {} 32 0 0 0, .alu 0 {} 0 32 0 0, .alu 0 {} 0 0 32 0, .alu 0 {} 0 0 0 2048, .aluImmediate 32 {} 0 0 0 0,
   .aluImmediate 0 {} 4 0 0 0, .aluImmediate 0 {} 0 32 0 0, .aluImmediate 0 {} 0 0 32 0, .aluImmediate 0 {} 0 0 0 65536,
   .shiftImmediate 32 {} 0 0 0 0, .shiftImmediate 0 {} 3 0 0 0, .shiftImmediate 0 {} 0 32 0 0, .shiftImmediate 0 {} 0 0 32 0,
   .shiftImmediate 0 {} 0 0 0 65536, .lui 32 {} 0 0 0, .lui 0 {} 32 0 0, .lui 0 {} 0 32 0, .lui 0 {} 0 0 65536, .orsh 32 {} 0 0 0,
   .orsh 0 {} 32 0 0, .orsh 0 {} 0 32 0, .orsh 0 {} 0 0 65536, .slti 32 {} 0 0 0 0, .slti 0 {} 2 0 0 0, .slti 0 {} 0 32 0 0, .slti 0 {} 0 0 32 0,
   .slti 0 {} 0 0 0 65536, .load 32 {} 0 0 0 0, .load 0 {} 5 0 0 0, .load 0 {} 0 32 0 0, .load 0 {} 0 0 32 0, .load 0 {} 0 0 0 65536,
   .store 32 {} 0 0 0 0, .store 0 {} 4 0 0 0, .store 0 {} 0 32 0 0, .store 0 {} 0 0 32 0, .store 0 {} 0 0 0 65536, .branch 32 {} 0 0 0 0,
   .branch 0 {} 6 0 0 0, .branch 0 {} 0 32 0 0, .branch 0 {} 0 0 32 0, .branch 0 {} 0 0 0 65536, .jmp 32 {} 0, .jmp 0 {} 67108864, .call 32 {} 0,
   .call 0 {} 67108864, .jr 32 {} 0 0 0, .jr 0 {} 32 0 0, .jr 0 {} 0 32 0, .jr 0 {} 0 0 65536, .amoSwap 32 {} 0 0 0, .amoSwap 0 {} 32 0 0,
   .amoSwap 0 {} 0 32 0, .amoSwap 0 {} 0 0 32, .amoCas 32 {} 0 0 0, .amoCas 0 {} 32 0 0, .amoCas 0 {} 0 32 0, .amoCas 0 {} 0 0 32,
   .amoFadd 32 {} 0 0 0] : List Instr).all (fun c => !wellFormed c) = true := by decide

theorem test_ill_formed_insn2 : (
  [.amoFadd 0 {} 32 0 0, .amoFadd 0 {} 0 32 0, .amoFadd 0 {} 0 0 32, .amoFand 32 {} 0 0 0, .amoFand 0 {} 32 0 0, .amoFand 0 {} 0 32 0,
   .amoFand 0 {} 0 0 32, .amoFor 32 {} 0 0 0, .amoFor 0 {} 32 0 0, .amoFor 0 {} 0 32 0, .amoFor 0 {} 0 0 32, .send 32 {} 0 0 false 0 0,
   .send 0 {} 32 0 false 0 0, .send 0 {} 0 32 false 0 0, .send 0 {} 0 0 false 16 0, .send 0 {} 0 0 false 0 256, .recv 32 {} 0 0 false 0 0,
   .recv 0 {} 32 0 false 0 0, .recv 0 {} 0 32 false 0 0, .recv 0 {} 0 0 false 16 0, .recv 0 {} 0 0 false 0 256, .poolRecv 32 {} 0 0,
   .poolRecv 0 {} 32 0, .poolRecv 0 {} 0 32, .poolSend 32 {} 0 0, .poolSend 0 {} 32 0, .poolSend 0 {} 0 32, .wfe 32 {} 0 0 0, .wfe 0 {} 32 0 0,
   .wfe 0 {} 0 32 0, .wfe 0 {} 0 0 65536, .wfeWake ⟨32, {}⟩, .timer 32 {} 0 0 0, .timer 0 {} 32 0 0, .timer 0 {} 0 32 0, .timer 0 {} 0 0 65536,
   .threadTimerExpiry 32, .sample 32 {} 0 0 0, .sample 0 {} 32 0 0, .sample 0 {} 0 32 0, .sample 0 {} 0 0 65536, .devr 32 {} 0 0 0,
   .devr 0 {} 32 0 0, .devr 0 {} 0 32 0, .devr 0 {} 0 0 65536, .devrRetire 32 {}, .devw 32 {} 0 0 0, .devw 0 {} 32 0 0, .devw 0 {} 0 32 0,
   .devw 0 {} 0 0 65536, .devwTakeEffect 4, .devsync 32 {}] : List Instr).all (fun c => !wellFormed c) = true := by decide

theorem test_well_formed_insn : (
  [.alu 31 {} 31 31 31 2047, .aluImmediate 31 {} 3 31 31 65535, .shiftImmediate 31 {} 2 31 31 65535, .lui 31 {} 31 31 65535,
   .orsh 31 {} 31 31 65535, .slti 31 {} 1 31 31 65535, .load 31 {} 4 31 31 65535, .store 31 {} 3 31 31 65535, .branch 31 {} 5 31 31 65535,
   .jmp 31 {} 67108863, .call 31 {} 67108863, .jr 31 {} 31 31 65535, .amoSwap 31 {} 31 31 31, .amoCas 31 {} 31 31 31, .amoFadd 31 {} 31 31 31,
   .amoFand 31 {} 31 31 31, .amoFor 31 {} 31 31 31, .send 31 {} 31 31 false 15 255, .recv 31 {} 31 31 false 15 255, .poolRecv 31 {} 31 31,
   .poolSend 31 {} 31 31, .wfe 31 {} 31 31 65535, .wfeWake ⟨31, {}⟩, .timer 31 {} 31 31 65535, .threadTimerExpiry 31, .sample 31 {} 31 31 65535,
   .devr 31 {} 31 31 65535, .devrRetire 31 {}, .devw 31 {} 31 31 65535, .devwTakeEffect 3, .devsync 31 {}] : List Instr).all wellFormed = true := by decide

theorem test_ill_formed_threads : (
  [.threadStart .jtag 32, .threadStop .jtag 32, .chanCfgWrite .jtag 256 0 0, .chanCfgWrite .jtag 0 32 0, .chanCfgWrite .jtag 0 0 32,
   .dbgHalt .jtag 32, .dbgStep .jtag 32 {} .devsync, .dbgResume .jtag 32, .dbgAbort .jtag 32, .rx513TailWrite .jtag 4096,
   .tx513HeadWrite .jtag 1024, .meResetEnd (some 4)] : List Instr).all (fun c => !wellFormed c) = true := by decide

theorem test_well_formed_threads : (
  [.supNoteRead .jtag, .threadStart .jtag 31, .threadStop .jtag 31, .chanCfgWrite .jtag 255 31 31, .deadlockDetect, .dbgHalt .jtag 31,
   .dbgStep .jtag 31 {} .devsync, .dbgResume .jtag 31, .dbgAbort .jtag 31, .rx513TailWrite .jtag 4095, .tx513HeadWrite .jtag 1023,
   .tx513RecordTake 0, .meResetEnd (some 3)] : List Instr).all wellFormed = true := by decide

theorem test_ill_formed_microcode : (
  [.ucReload .jtag 4, .ucReloadDone 4 false, .ucScrub .jtag 4, .ucScrubWord 4 false false, .ucScrubDone 4, .ucRdAddrWrite .jtag 4 0 0,
   .ucRdAddrWrite .jtag 0 4 0, .ucRdAddrWrite .jtag 0 0 16384, .pmcWrite .jtag 4 0 false 0, .pmcWrite .jtag 0 8 false 0,
   .pmcWrite .jtag 0 0 false 4294967296, .pmcOverflow 4 0, .pmcOverflow 0 8, .sampleRecord 4, .smpCfgWrite .jtag 4 0,
   .smpCfgWrite .jtag 0 4294967296, .smpTailWrite .jtag 4 0, .smpTailWrite .jtag 0 4294967296] : List Instr).all (fun c => !wellFormed c) = true := by decide

theorem test_well_formed_microcode : (
  [.ucReload .jtag 3, .ucReloadDone 3 false, .ucScrub .jtag 3, .ucScrubWord 3 false false, .ucScrubDone 3, .ucRdAddrWrite .jtag 3 3 16383,
   .pmcWrite .jtag 3 7 false 4294967295, .pmcOverflow 3 7, .sampleRecord 3, .smpCfgWrite .jtag 3 4294967295, .smpTailWrite .jtag 3 4294967295] : List Instr).all wellFormed = true := by decide

theorem test_ill_formed_interrupts : (
  [.interruptDelivery 385, .claim .jtag 7, .complete .jtag 7 0, .srcMaskWrite .jtag 385 0, .srcMaskWrite .jtag 0 2, .srcEnableWrite .jtag 385 0,
   .srcEnableWrite .jtag 0 128] : List Instr).all (fun c => !wellFormed c) = true := by decide

theorem test_well_formed_interrupts : (
  [.interruptDelivery 384, .claim .jtag 6, .complete .jtag 6 0, .srcMaskWrite .jtag 384 1, .srcEnableWrite .jtag 384 127, .swRaise .jtag] : List Instr).all wellFormed = true := by decide

theorem test_ill_formed_fault_unit : (
  [.tempSensorRead 5 0, .srcReactWrite .jtag false 128 0, .srcReactWrite .jtag false 0 4294967296, .conseqWindowClose 38, .dieHoldSet .jtag 65536 0,
   .dieHoldSet .jtag 0 4, .dieHoldClear .jtag 65536 0, .dieHoldClear .jtag 0 4, .dieResetEnd 4, .dieReadmit 4 false, .meReset .jtag 65536,
   .hifReset .jtag 65536] : List Instr).all (fun c => !wellFormed c) = true := by decide

theorem test_well_formed_fault_unit : (
  [.faultCommit, .tempSensorRead 4 0, .firstClear .jtag, .faultNRelease .jtag, .srcReactWrite .jtag false 127 4294967295, .conseqWindowClose 37,
   .dieHoldSet .jtag 65535 3, .dieHoldClear .jtag 65535 3, .dieResetEnd 3, .dieReadmit 3 false, .meReset .jtag 65535, .hifReset .jtag 65535,
   .hifResetEnd 0 0] : List Instr).all wellFormed = true := by decide

theorem test_ill_formed_dram : (
  [.dramRequestIssue 32 .ok false, .patrolRead 32 .ok, .stackTempRead 2 0, .refreshDue 32 0 0, .refreshDue 0 2 0, .catchupEnd 32,
   .neighbourRefresh 32 0 0 0, .neighbourRefresh 0 2 0 0, .neighbourRefresh 0 0 65536 0, .rdWindowEnd 32, .channelRetrain .jtag 32,
   .channelRetrainEnd 32 false, .channelPhyLockLoss 32] : List Instr).all (fun c => !wellFormed c) = true := by decide

theorem test_well_formed_dram : (
  [.dramRequestIssue 31 .ok false, .patrolRead 31 .ok, .stackTempRead 1 0, .refreshDue 31 1 0, .catchupEnd 31, .neighbourRefresh 31 1 65535 0,
   .rdWindowEnd 31, .channelRetrain .jtag 31, .channelRetrainEnd 31 false, .channelPhyLockLoss 31] : List Instr).all wellFormed = true := by decide

theorem test_ill_formed_starting : (
  [.baseTrainingDone [32], .finalCalibrationDone [32], .railSample 8 0, .fuseLoadDone false 16] : List Instr).all (fun c => !wellFormed c) = true := by decide

theorem test_well_formed_starting : (
  [.baseTrainingDone [31], .finalCalibrationDone [31], .railSample 7 0, .resetNEdge false, .resetHoldExpiry, .fuseLoadDone false 15,
   .slotReadComplete false, .authDone, .loadComplete, .rollbackDone, .trainDone, .planTimeout] : List Instr).all wellFormed = true := by decide

theorem test_ill_formed_recovering : (
  [.reload .jtag 65536] : List Instr).all (fun c => !wellFormed c) = true := by decide

theorem test_well_formed_recovering : (
  [.rcvRead .jtag, .rcvProgram .jtag, .rcvErase .jtag, .rcvCheck .jtag, .rcvRestart .jtag, .rcvCommandEnd false, .reload .jtag 65535] : List Instr).all wellFormed = true := by decide

theorem test_ill_formed_host : (
  [.configurationRequest 2 (.read 0), .bar2Read 268435456 0 false, .bar2Write 268435456 [], .pf1WinWrite .jtag 8, .receiveDmaComplete 146 [],
   .transmitWriteback 146, .ringTailWrite .jtag 146 0, .ringTailWrite .jtag 0 4294967296, .ringEnable .jtag 146 0, .ringEnable .jtag 0 4294967296,
   .ringDisable .jtag 146 0, .ringDisable .jtag 0 4294967296, .ringStopped 146, .moderationTimerExpiry 146, .msixUnmask 2 0 0 0 0 false,
   .msixUnmask 0 128 0 0 0 false, .msixUnmask 0 0 4294967296 0 0 false, .msixUnmask 0 0 0 4294967296 0 false, .msixUnmask 0 0 0 0 4294967296 false,
   .d3hotEntry 2 false false, .d0Entry 2 false false, .pmeRepeat 2, .functionLevelReset 2, .flrDone 2, .mbxSubmit .jtag 8192,
   .completionTimeout 146, .completionStatusError 146, .tlpError 2 .ecrc] : List Instr).all (fun c => !wellFormed c) = true := by decide

theorem test_well_formed_host : (
  [.pcieLinkUp 0 0, .pcieLinkDown, .configurationRequest 1 (.read 0), .bar2Read 268435455 0 false, .bar2Write 268435455 [], .pf1WinWrite .jtag 7,
   .receiveDmaComplete 145 [], .transmitFrameFetch 0 [] [] none, .transmitWriteback 145, .ringTailWrite .jtag 145 4294967295,
   .ringEnable .jtag 145 4294967295, .ringDisable .jtag 145 4294967295, .ringStopped 145, .moderationTimerExpiry 145,
   .msixUnmask 1 127 4294967295 4294967295 4294967295 false, .l1Entry, .l1Exit, .d3hotEntry 1 false false, .d0Entry 1 false false, .pmeRepeat 1,
   .functionLevelReset 1, .flrDone 1, .mbxSubmit .jtag 8191, .mbxRequestTake false, .completionTimeout 145, .completionStatusError 145,
   .tlpError 1 .ecrc] : List Instr).all wellFormed = true := by decide

theorem test_ill_formed_debug : (
  [.smbusReadStart false 67108864, .smbusWrite false 67108864 0, .smbusWrite false 0 4294967296, .jtagRegisterAccess 67108864 none,
   .jtagResponseSubmit .jtag 4294967296, .otpRead .jtag 65536, .otpProgram .jtag 65536 0, .otpProgram .jtag 0 4294967296] : List Instr).all (fun c => !wellFormed c) = true := by decide

theorem test_well_formed_debug : (
  [.smbusReadStart false 67108863, .smbusReadReady, .smbusBlockRead, .smbusWrite false 67108863 4294967295, .smbusAlertResponse,
   .jtagRegisterAccess 67108863 none, .jtagResponseSubmit .jtag 4294967295, .jtagUnlockResult, .otpRead .jtag 65535,
   .otpProgram .jtag 65535 4294967295, .otpCommandEnd, .boundaryScanInstruction [], .trstNAssert] : List Instr).all wellFormed = true := by decide

/-! ### States -/

theorem ok_of {x : Except SlotEnd (List Rec)} {a : List Rec} (h : (match x with | .ok b => decide (b = a) | .error _ => false) = true) : x = .ok a := by
  cases x with
  | ok b => simpa using h
  | error e => cases h

theorem error_of {x : Except SlotEnd (List Rec)} {e : SlotEnd} (h : (match x with | .ok _ => false | .error b => decide (b = e)) = true) :
    x = .error e := by
  cases x with
  | ok b => cases h
  | error b => simpa using h

/-- A part in RUN with its four dies up, the links of ports 0 and 5 up, and JTAG unlocked. -/
def up0 : State := State.reset.setFlds [(F.LDR_STATUS_STATE, 0, 8), (F.JTAG_STATUS_UNLOCKED, 0, 1), (F.DIE_STATUS_ENABLED, 0, 15), (F.DIE_STATUS_IN_RESET, 0, 0),
  (F.PORT_STATUS_LINK_UP, 0, 1), (F.PORT_STATUS_LINK_UP, 5, 1)]

/-- A frame of 64 bytes with a good check sequence, from its first bytes. -/
def framed (head : List Byte) : List Byte :=
  let body := head ++ List.replicate (60 - head.length) 0
  body ++ fcsOf body

def goodFrame : List Byte := framed []
def pauseFrame : List Byte := framed [0x01, 0x80, 0xC2, 0, 0, 1, 2, 0, 0, 0, 0, 1, 0x88, 0x08, 0, 1, 0, 7]
def ptpFrame : List Byte := framed [0x01, 0x80, 0xC2, 0, 0, 0x0E, 2, 0, 0, 0, 0, 1, 0x88, 0xF7]

/-- Frame 5 is being received on port 0, whose MAX_FRAME is 1518 and which takes gPTP frames. -/
def received : State := setFrame 5 { port := 0 } (up0.setFlds [(F.PORT_PTP_CFG, 0, 1), (F.PORT_CFG_MAX_FRAME, 0, 1518)])

/-- Frame 5 is being received in fragments. -/
def fragmented : State := setFrame 5 { port := 0, fragments := true } up0

/-- Ports 0 to 3 are one joined group. -/
def quad0 : State := up0.setFld F.PORT_CFG_MODE 0 6

/-- Port 0 keeps every condition of its link but is not up. -/
def ready0 : State := (up0.setFld F.PORT_STATUS_LINK_UP 0 0).setFlds [(F.PORT_CFG_MODE, 0, 3), (F.PORT_CFG_ADMIN_UP, 0, 1), (F.PORT_STATUS_PCS_LOCK, 0, 1),
  (F.SD_RX_STATUS_ADAPT_DONE, 0, 1), (F.SD_RX_STATUS_SIGNAL_DETECT, 0, 1), (F.PORT_STATUS_LOCAL_FAULT, 0, 0)]

/-- A preemptable copy on the wire of port 0. -/
def sendingCopy : TxCopy := { copy := { id := 9, frame := 5, port := 0, q := 0 }, stage := .sending, projLen := 1000 }
def lateCopy : TxCopy := { sendingCopy with projLen := 100 }
def soonCopy : TxCopy := { sendingCopy with fragAt := 10 ^ 6 * nsUnit }

/-- Port 0 preempts, and a hold is on its way to it. -/
def preemptWith (t : TxCopy) : State :=
  (setPortSt 0 { freeBy := some 9 } { up0 with work := 100 * nsUnit, dp := { up0.dp with tx := [t], holdAt := [(0, some 4)] } }).setFlds
    [(F.PORT_CFG_MODE, 0, 4), (F.MM_CFG_PREEMPT_EN, 0, 1), (F.MM_CFG_EXPRESS_MASK, 0, 0), (F.MM_CFG_VERIFY_EN, 0, 0)]
def preempting : State := preemptWith sendingCopy
def preemptLate : State := preemptWith lateCopy
def preemptSoon : State := preemptWith soonCopy

/-- Frame 5, whole and good, is classified for port 5 under handle 3. -/
def classFrame : Frame := { port := 0, bytes := goodFrame, len := some 64, stage := .classified, cls := { handle := 3, dest := .port 5 } }
def classified5 : State := setFrame 5 classFrame up0
def atHub (s : State) : State := firstCell 5 { headerUp 5 false s with dp := { (headerUp 5 false s).dp with arrived := (headerUp 5 false s).dp.arrived.filter (fun g => g != 5) } }
def classIn : State := atHub classified5
def classIn5 : Frame := (frameAt 5 classIn).getD classFrame
def classPol : State := (police classIn5 false classIn).1
def classPol5 : Frame := ((police classIn5 false classIn).2).getD classFrame

/-- The same frame is longer than its stream allows. -/
def overSdu : State := scSetFld 0 3 0 29 16 10 classified5
def sduIn : State := atHub overSdu
def sduIn5 : Frame := (frameAt 5 sduIn).getD classFrame
def sduOut : State := (police sduIn5 false sduIn).1

/-- A copy of frame 5 to queue 0 is held. -/
def heldCopy : Copy := { id := 4, frame := 5, port := 0, q := 0 }
def holding : State := setFrame 5 { port := 0 } { up0 with dp := { up0.dp with held := [heldCopy] } }
def holdAdmit : AdmitRes := admitCopy heldCopy false holding

/-- A copy crosses the junction with a header context of its own. -/
def codedCopy : TxCopy := { copy := { id := 9, frame := 5, port := 0, q := 0 }, coding := some (false, 3), handed := 64 }
def installFrame : Frame := { port := 0, coding := some (false, 3), crossed := 64 }
def installing : State := setFrame 5 { port := 0 } { up0 with dp := { up0.dp with tx := [codedCopy] } }

/-- A copy waits in a queue of port 513, and one in a queue of port 0. -/
def meCopy : Copy := { id := 7, frame := 5, port := 513, q := 4112, eligible := true }
def selecting : State := setFrame 5 { port := 0, len := some 64 } { up0 with dp := { up0.dp with copies := [meCopy] } }
def selected : State := (selectFrom 513 (queuesOf 513).reverse false selecting).1
def waitCopy : Copy := { id := 7, frame := 5, port := 0, q := 0, eligible := true }
def selectingPort : State :=
  setPortSt 0 { tx := .on, hubUp := true } (setFrame 5 { port := 0, len := some 64 } { up0 with dp := { up0.dp with copies := [waitCopy] } })
def selectedPort : State :=
  (selectFrom 0 (queuesOf 0).reverse false ((queuesOf 0).foldl (fun s q => lateCheck q s) selectingPort)).1

/-- An ACK of context 7 is on its way up, which waits for it; the link of die 0 retrains. -/
def acked : State := setLink 0 0 { acks := [(7, 0), (7, 1)] } { up0 with dp := { up0.dp with sendCtx := [(ctxKey 0 0 7, { state := 1 })] } }
def retraining0 : State := { up0 with dp := { up0.dp with retraining := [(0, true)] } }

/-- A copy has reached its port die; a copy is on the wire; the port is under a hold. -/
def arrivedCopy : TxCopy := { copy := { id := 9, frame := 5, port := 0, q := 0 } }
def arriving : State := setFrame 5 { port := 0 } ({ up0 with dp := { up0.dp with tx := [arrivedCopy] } }.setFld F.PORT_CFG_MAX_FRAME 0 1518)
def leavingCopy : TxCopy := { copy := { id := 9, frame := 5, port := 0, q := 0 }, stage := .sending, ended := true }
def leaving : State := setFrame 5 { port := 0, len := some 0 }
  ({ up0 with dp := { up0.dp with tx := [leavingCopy] } }.setFlds [(F.PORT_CFG_MAX_FRAME, 0, 1518), (F.MM_STATUS_HOLD, 0, 1)])

/-- A frame waits for the far lookup; its station is known there. -/
def farWaiting : State := setFrame 5 { port := 0, stage := .farWait } { up0 with dp := { up0.dp with farIssued := [(0, 5)] } }
def farSlot : Nat := (farPlaces 0 (bridgeKey 0 0) farWaiting).headD 0
def farEntry : EmEntry := { key := BitVec.ofNat 128 (bridgeKey 0 0), valid := true }
def farKnown : State := farPut 0 (bridgeKey 0 0) farSlot farEntry farWaiting
def farQueued : State := setFrame 5 { port := 256 } { up0 with dp := { up0.dp with farPending := [(2, 5)] } }

/-- Partition 0 of die 0 is block 0, in service. -/
def tcam0 : State := up0.setFlds [(F.TCAM_PART_ENABLE, 0, 1), (F.TCAM_BLK_STATUS_STATE, 0, 1), (F.TCAM_BLK_STATUS_STATE, 15, 1)]
def part0 : Part := (tcamPart 0 0 tcam0).getD ⟨0, 0, 0, 1, false, 0⟩

/-- Its row 0 is valid; a move goes to row 1. -/
def tcamFull : State := { tcam0 with tb := { tcam0.tb with tcam := [(0, { valid := true })] } }.setFld F.TCAM_ADDR_DST_ADDR 1 1
def tcamJob (op : Nat) (s : State) : TcamCmd := (tcamJoin 0 1 op 0 s).tb.tcamRun.headD ⟨0, 0, 0, 0, 0, 0, []⟩
def tcamRuns (s : State) : State := s.setFld F.TCAM_STATUS_BUSY 1 1
def tcamFound : State := (tcamSearchEcc 0 part0 ((tcamJob 7 tcamFull).num 0 5) ((tcamJob 7 tcamFull).num 20 5) [] (tcamRuns tcamFull)).1
def tcamMissed : State := (tcamSearchEcc 0 part0 ((tcamJob 7 tcam0).num 0 5) ((tcamJob 7 tcam0).num 20 5) [] (tcamRuns tcam0)).1
def tcamInserted : State × CmdEnd := tcamInsertEntry 0 part0 ((tcamJob 5 tcam0).entry part0.g) (tcamRuns tcam0)
def tcamDeleted : State × CmdEnd := tcamDeleteEntry 0 part0 ((tcamJob 6 tcamFull).entry part0.g) (tcamRuns tcamFull)

/-- A bridge key stands in the DATA of exact-match window 1 of die 0; its entry is in the near table, or is not. -/
def emKeyed : State := up0.setFlds [(F.EM_DATA, 13, 0x70000000), (F.EM_DATA, 18, 5), (F.EM_DATA, 19, 0x2000)]
def emJob (op table : Nat) (s : State) : EmCmd := (emJoin 0 1 op table s).tb.emRun.headD ⟨0, 0, 0, 0, 0, []⟩
def knownEntry : EmEntry := { key := BitVec.ofNat 128 (emJob 2 0 emKeyed).key, valid := true }
def knownAddr : Nat := 4 * nearBucket 0 (emJob 2 0 emKeyed).key emKeyed
def emKnown : State := { emKeyed with tb := { emKeyed.tb with near := [(knownAddr, knownEntry)] } }
def emInserted : State × CmdEnd :=
  nearInsert 0 (emJob 3 0 emKeyed).key (emJob 3 0 emKeyed).action (emKeyed.setFld F.EM_STATUS_BUSY 1 1)

/-- A learn request waits: its station is new, or (below) known on its port. -/
def station1 : LearnReq := { vid := 1, sa := 3, port := 0, ingress := true }
def learning1 : State := { up0 with dp := { up0.dp with learnQ := [(0, station1)] } }
def learnt1 : State := { learning1 with dp := { learning1.dp with learnQ := [] } }
def learnt2 : State := (learnAct 0 station1 [] learnt1).1
def learning : State := { learnt2 with dp := { learnt2.dp with learnQ := [(0, station1)] } }

/-- A learned entry at near address 5 of die 0 was hit since the last pass. -/
def hitEntry : EmEntry := { key := 1, valid := true, hit := true }
def aged1 : State := { up0 with tb := { up0.tb with near := [(5, hitEntry)] } }
def idleEntry : EmEntry := { key := 1, valid := true }
def aged2 : State := { up0 with tb := { up0.tb with near := [(5, idleEntry)] } }

/-- A list change of port 0 waits; port 0 runs a gate list, whose entry holds preemptable frames. -/
def changing : State := { up0 with dp := { up0.dp with gclPending := [(0, some { base := 5000, len := 1 })] } }
def gateRunning : State := { up0 with dp := { up0.dp with gclOper := [(0, some { base := 5000, len := 1 })] } }.setFld F.PORT_SCH_CFG_GATE_EN 0 1
def gateHold : State := { gateRunning with tb := { gateRunning.tb with gcl := [(0, 2 ^ 30)] } }.setFlds
  [(F.MM_CFG_PREEMPT_EN, 0, 1), (F.MM_CFG_EXPRESS_MASK, 0, 0), (F.MM_CFG_VERIFY_EN, 0, 0)]
def gateFree : State := { gateHold with tb := { gateHold.tb with gcl := [(0, 2 ^ 31)] } }

/-- A copy with a deadline is filed in a slot that has passed. -/
def late1 : State :=
  { up0 with work := 10 ^ 9 * nsUnit, dp := { up0.dp with copies := [{ id := 1, frame := 5, port := 0, q := 0, slot := some 0, deadline := some 0 }] } }

/-- The window names a stream whose recovery is on; a meter within its ranges; a gate with a list of one entry. -/
def recoverNew : State := up0.setFlds [(F.SC_DATA, 12, 2 ^ 30 + 2 * 2 ^ 22 + 1)]
def metering : State := up0.setFlds [(F.SC_DATA, 8, 100), (F.SC_DATA, 9, 200)]
def gateChange : State :=
  scSetFld 2 0 0 21 0 1000 (scSetFld 1 0 2 29 0 1000 (scSetFld 1 0 1 10 0 1 (scSetFld 1 0 3 31 0 10000 up0)))

/-- A shaper waits on the wheel; a stream with error detection has passed its test, or failed it. -/
def shaping : State := { up0 with dp := { up0.dp with shapers := [(7, { wait := some 0 })] } }
def ledding : State := scSetFld 0 4 5 31 31 1 up0
def ledFound : State :=
  { scSetFld 0 4 5 30 28 3 ledding with dp := { ledding.dp with recov := [(4, { ledPassed := 10 })] } }

/-- A step of 4 quarter nanoseconds waits for its instant. -/
def stepping : State := { up0 with time := { up0.time with stepPend := some (false, 4, 9) } }

/-- Thread 0 runs at address 0, where the word of an operation stands. -/
def runs (op : MeOp) : State := setThreadState 0 1 { up0 with sram := writeBytes up0.sram 0 (toLe 4 (encodeMe op)) }

/-- Thread 0 runs and another word, or an odd PC, stops it; thread 5 runs and may fetch nothing. -/
def illegalWord : State := setThreadState 0 1 { up0 with sram := writeBytes up0.sram 0 [0xFF, 0xFF, 0xFF, 0xFF] }
def oddPc : State := setThreadState 0 1 { up0 with me := { up0.me with pc := [(0, 2)] } }
def badFetch : State := setThreadState 5 1 up0

/-- Thread 0 is halted, and would run; at an odd PC its step faults. -/
def haltedThread : State := setThreadState 0 3 ((runs (.alu 3 1 2 0)).withMe { (runs (.alu 3 1 2 0)).me with haltFrom := [(0, 1)] })
def haltedOdd : State := haltedThread.withMe { haltedThread.me with pc := [(0, 2)] }

/-- Channel 5 belongs to thread 0 at both ends. -/
def channel5 (depth : Nat) (s : State) : State := s.setFlds [(F.CHAN_CFG0_ENABLE, 5, 1), (F.CHAN_CFG0_DEPTH, 5, depth)]
def chanBusy : State :=
  (channel5 4 (runs (.send 3 2 false false 0 5))).withMe { (runs (.send 3 2 false false 0 5)).me with chans := [(5, { holder := some 1 })] }
def chanFree (close : Bool) : State := (channel5 4 (runs (.send 3 2 false close 0 5))).setFld F.SHARE_MSG_MIN 0 2
def chanFull : State := channel5 0 (runs (.send 3 2 false true 0 5))
def noShare : State := channel5 4 (runs (.send 3 2 false true 0 5))
def chanEmpty : State := channel5 4 (runs (.recv 3 2 false true 0 5))
def chanWaiting (close : Bool) : State :=
  (channel5 4 (runs (.recv 3 2 false close 0 5))).withMe { (runs (.recv 3 2 false close 0 5)).me with chans := [(5, { queue := [(1, [7])] })] }
def poolFree : State := (runs (.recv 3 2 true true 0 0)).setFld F.SHARE_BUF_MIN 0 1
def poolHeld : State := (runs (.send 3 2 true true 0 0)).withMe { (runs (.send 3 2 true true 0 0)).me with bufHolder := [(0, some 0)] }

/-- An event is pending for a thread that asks, or waits, for it. -/
def eventPending : State := { setGpr 0 1 2 (runs (.wfe 3 1 0)) with events := [(0, 2)] }
def waitingThread : State := setThreadState 0 2 ({ up0 with events := [(0, 2)] }.setFld F.WAIT_MASK_LO 0 2)
def timerRuns : State := { up0 with me := { up0.me with timer := [(4, some 100)] } }
def readingThread : State := { up0 with me := { up0.me with devr := [(0, some (3, 0x100))] } }
def postedWrite : State := { up0 with me := { up0.me with devw := [(0, [(0, 0x100, 5)])] } }
def fullQueue : State := (runs (.devw 3 1 0x100)).withMe { (runs (.devw 3 1 0x100)).me with devw := [(0, List.replicate 16 (0, 0x100, 5))] }
def postedSync : State := (runs .devsync).withMe { (runs .devsync).me with devw := [(0, [(0, 0x100, 5)])] }

/-- The supervisor queue holds an entry; every thread waits for what cannot come; port 513 has a record of no length; the engine is in reset. -/
def noted : State := { up0 with me := { up0.me with notes := [5] } }
def allWait : State := setThreadState 0 2 up0
def badRecord : State := up0.setFld F.TX513_HEAD 0 1
def beginning : State := (setThreadState 5 1 up0).withMe { (setThreadState 5 1 up0).me with held := [(5, 0x38)] }
def goodRecord : State := hbmWrite 0x20000 [64, 0, 0, 0, 60] badRecord
def goodDesc : List Byte := hbmRead goodRecord 0x20000 32
def takenFrame : State × Frame := injectFrame 9 513 (hbmRead goodRecord 64 60) { queue := 0 } (some 0) goodRecord
def takenCopies : State × List Copy :=
  numberCopies [{ baseCopy 9 takenFrame.2 with port := 0, q := queueOf 0 0, edit := 0, learn := false, ts := none }] takenFrame.1
def takenEnd : State × Bool := admitAll false false (takenCopies.2.map (fun c => finishCopy takenFrame.2 takenFrame.2.tIn c takenCopies.1)) takenCopies.1
def meInReset : State := { up0 with flt := { up0.flt with unitReset := [(0, true)] } }

/-- Core 1 reloads or scrubs its microcode; its counter 2 is about to overflow; a sample waits for its buffer, which is full or not. -/
def reloading : State := { up0 with me := { up0.me with ucCmd := [(1, 1)] } }
def scrubbing : State := { up0 with me := { up0.me with ucCmd := [(1, 2)] } }
def scrubDone : State := { scrubbing with me := { scrubbing.me with scrubAt := [(1, 19712)] } }
def pmcFull : State := up0.setFlds
  [(F.PMC_CTRL, 1, 1), (F.PMC_CFG_EN, 10, 1), (F.PMC_CFG_EVENT, 10, 1), (F.PMC_LO, 10, 0xFFFFFFFF), (F.PMC_HI, 10, 0xFFFF)]
def sampleKept : State := { up0 with me := { up0.me with smpDue := [(1, [[1, 2, 3, 4]])] } }
def sampleLost : State := sampleKept.setFld F.SMP_HEAD 1 4096

/-- Source 33 is delivered to target 0 and not claimed, or is pending beside it, or pending alone, or in service. -/
def claimable : State := up0.setFld F.SRC_STATUS_TARGET 33 0
def raisedSource : State := up0.setFlds [(F.SRC_STATUS_PENDING, 33, 1), (F.SRC_CFG_ENABLE, 33, 1), (F.SRC_CFG_MASK, 33, 0)]
def secondSource : State := raisedSource.setFld F.SRC_STATUS_TARGET 35 0
def inService : State := up0.setFlds [(F.SRC_STATUS_TARGET, 33, 0), (F.SRC_STATUS_IN_SERVICE, 33, 1)]

/-- A fault event is stamped; die 2 is held in reset, or is returning; the host interface is in reset. -/
def faulted : State := { up0 with flt := { up0.flt with events := [{ src := 24, die := 4, detail := 0, stamp := 0 }] } }
def heldDie : State := up0.setFld F.RESET_CTRL_DIE_HOLD 0 4
def endingDie : State := { up0 with flt := { up0.flt with unitReset := [(36, true)] } }
def rebuiltDie : State := { endingDie with flt := { endingDie.flt with rebuilt := [(2, true)] } }
def failedDie : State := { rebuiltDie with flt := { rebuiltDie.flt with dieFails := [(2, 1)] } }
def hifInReset : State := { up0 with flt := { up0.flt with unitReset := [(1, true)] } }

/-- Channel 3 is in RUN, catches up, has a hammered row, or trains; a request waits there, or at the failed channel. -/
def channelRuns : State := up0.setFlds [(F.CYCLE_COUNT, 0, 10000), (F.CH_STATUS_STATE, 3, 2), (F.MEM_CFG_PATROL_EN, 0, 1)]
def catchingUp : State := channelRuns.setFld F.CH_STATUS_CATCHUP 3 1
def hammered : State := { channelRuns with dram := { channelRuns.dram with act := [((3 * 2 + 1) * 2 ^ 16 + 2, [(7, 5000)])] } }
def channelTrains : State := up0.setFld F.CH_STATUS_STATE 3 3
def waitsAt3 : DramReq := { cls := 1, addr := 192, write := true, since := 0 }
def channelAsked : State := { channelRuns with dram := { channelRuns.dram with queue := [(3, [waitsAt3])] } }
def readsAt3 : DramReq := { waitsAt3 with write := false }
def channelRead : State := { channelRuns with dram := { channelRuns.dram with queue := [(3, [readsAt3])] } }
def mergesAt3 : DramReq := { waitsAt3 with len := 4, old := [(192, 0)] }
def channelMerge : State := { channelRuns with dram := { channelRuns.dram with queue := [(3, [mergesAt3])] } }

/-- A request that waits alone, and more than 2 µs, is the one its channel issues. -/
theorem takeRequest_alone {c : Nat} {r : DramReq} {s : State} (hq : tget [] s.dram.queue c = [r]) (hm : s.fld F.CH_STATUS_ACTIVE_MODE c ≠ 2)
    (ha : r.since + 6000 < s.cycle) :
    takeRequest c s = some (r, s.withDram { s.dram with
      queue := tset [] s.dram.queue c (removeFirst r [r])
      bankPtr := tset 0 s.dram.bankPtr c (bankInChannel r.addr + 1) }) := by
  simp [takeRequest, pickRequest, passer, hq, hm, ha]

/-- An SMBus read has started, or its data is ready; an unlock attempt has the right response, or a wrong one; a fuse word is to be programmed. -/
def readStarted : State := { up0 with ldr := { up0.ldr with smbRead := some 7 } }
def readReady : State := { up0 with ldr := { up0.ldr with smbData := some 7 } }
def badTry : State := { up0 with ldr := { up0.ldr with jtagTry := true } }
def goodTry : State :=
  let h := (hmac384 (otpBytes 8 8 badTry) (words4 F.JTAG_CHALLENGE badTry ++ toLe 4 (badTry.fld F.SERIAL_LO 0) ++ toLe 4 (badTry.fld F.SERIAL_HI 0))).take 16
  (List.range 4).foldl (fun s w => s.setFld F.JTAG_RESPONSE w (leNat (slice h (4 * w) 4))) badTry
def fuseData : State := up0.setFld F.OTP_DATA 0 5

/-- The link is up and both functions answer; the host asks before LOAD; ASPM L1 is on; a function holds its PME status. -/
def hostUp : State := { up0.setFlds [(F.LINK_STATUS_UP, 0, 1), (F.FUNC_STATUS_BME, 0, 3)] with
  hif := { up0.hif with enumerated := true, memEnable := [(0, true), (1, true)] } }
def hostEarly : State := up0.setFld F.LINK_STATUS_UP 0 1
def aspmOn : State := { hostUp with hif := { hostUp.hif with aspmL1 := true } }
def pmeWaits : State := { hostUp with hif := { hostUp.hif with pmeStatus := [(1, true)] } }

/-- A copy of 64 bytes is staged for receive ring 3; a frame is posted on transmit ring 67, or waits for its write-back. -/
def rxDesc : List Byte := toLe 8 0x1000 ++ toLe 2 64 ++ List.replicate 6 0
def stagedRx : HostRx := { copy := { id := 9, frame := 5, port := 512, q := 4096 }, ring := 3, need := 1, bytes := List.replicate 64 7 }
def receiving : State := setFrame 5 { port := 0 } { hostUp with dp := { hostUp.dp with hostRx := [stagedRx] } }
def txDesc (len : Nat) : List Byte := toLe 8 0x1000 ++ toLe 2 len ++ List.replicate 6 0
def transmitting : State := hostUp.setFlds [(F.RING_CFG_EN, 67, 1), (F.RING_CFG_STOPPED, 67, 0), (F.RING_CFG_SIZE_LOG2, 67, 6), (F.RING_TAIL, 67, 1)]
def writingBack : State := { hostUp with hif := { hostUp.hif with txDone := [{ ring := 67, descs := [0x2000], frame := 5 }] } }
def stoppingRing : State := { hostUp with hif := { hostUp.hif with stopping := [(3, true)] } }
def moderated : State := { hostUp with hif := { hostUp.hif with ringTimer := [(3, true)], ringPend := [(3, 1)] } }
def requested : State := setThreadState 2 1 (({ hostUp with hif := { hostUp.hif with mbxLen := 8 } }).setFld F.MBX_STATUS_STATE 0 1)

/-- The start sequence stands in a state; base training runs; a rail has slipped once; the part is held by nothing but RESET_HELD. -/
def startsAt (n : Nat) : State := State.reset.setFld F.LDR_STATUS_STATE 0 n |>.withLdr { State.reset.ldr with held := false, resetLow := false, settling := false }
def baseTrains : State := (startsAt 3).setFld F.CH_STATUS_STATE 0 1
def railSlips : State := { up0 with ldr := { up0.ldr with railOut := [(3, 1)] } }
def heldPart : State := State.reset.withLdr { State.reset.ldr with held := true, resetLow := false, settling := false }

/-- An image with the eight records that R432 requires, all empty, in slot A or B. -/
def imageHeader : List Byte := toLe 4 0x4C4D5449 ++ [2, 0, 1, 0] ++ toLe 4 384 ++ toLe 4 8 ++ List.replicate 236 0
def imageTypes : List (Nat × Nat) := [(0x0001, 4), (0x0010, 6), (0x0011, 6), (0x0012, 6), (0x0020, 6), (0x0030, 13), (0x00B0, 1), (0x0040, 13)]
def imageBytes : List Byte :=
  imageHeader ++ toLe 4 (crc32c imageHeader) ++ imageTypes.flatMap (fun t => toLe 4 t.1 ++ toLe 4 0 ++ toLe 4 t.2 ++ toLe 4 (crc32c []))
def slotRecords : List Rec := imageTypes.zipIdx.map (fun x => ⟨x.1.1, 0, x.1.2, crc32c [], 272 + 16 * x.2, x.2 + 1⟩)
def withImage (base : Nat) (s : State) : State := s.withLdr { s.ldr with flash := imageBytes.zipIdx.map (fun x => (base + x.2, x.1)) }
def slotWritten : State := withImage 0 (startsAt 4)
def loadRefused : State := (startsAt 5).withLdr { (startsAt 5).ldr with trained := true, refused := some (0x40, 2) }
def loadSound : State := (startsAt 5).withLdr { (startsAt 5).ldr with trained := true }
def calibratedPart : State := (startsAt 6).withLdr { (startsAt 6).ldr with calibrated := true }

/-- The part is in SAFE with RCV_LEN set; slot B holds a sound image; an erase runs. -/
def inSafe (len : Nat) : State := (startsAt 9).setFlds [(F.RCV_LEN, 0, len), (F.JTAG_STATUS_UNLOCKED, 0, 1)]
def slotBWritten : State := withImage 0x3000000 ((inSafe 1).setFld F.RCV_ADDR 0 0x3000000)
def erasing : State := (inSafe 1).withLdr { (inSafe 1).ldr with rcvRun := some { op := 3, addr := 0, len := 1 } }

/-- The Planner synthesises; a commit is prepared; a plan waits; a stream is away from port 3; the buffer tuner runs or is frozen. -/
def planning : State := (up0.setFld F.PLN_STATUS_STATE 0 1).withPln { up0.pln with policy := [(1, 1)], running := 1 }
def planningOff : State := (up0.setFld F.PLN_STATUS_STATE 0 1).withPln { up0.pln with policy := [(1, 0)], running := 1 }
def commitMade : State := (up0.setFld F.PLN_STATUS_STATE 0 3).withPln { up0.pln with commit := some { ports := [3] } }
def committed : State := (up0.setFld F.PLN_STATUS_STATE 0 3).withPln { up0.pln with commit := some { ports := [] }, inForce := some {} }
def waiting1 : State := (up0.setFld F.PLN_STATUS_STATE 0 2).withPln { up0.pln with waiting := some {} }
def waitingQuar : State := (up0.setFld F.PLN_STATUS_STATE 0 2).withPln { up0.pln with waiting := some { quar := [3] } }
def detoured : State := (up0.setFld F.PORT_STATUS_LINK_UP 3 1).withPln
  { up0.pln with inForce := some { streams := [{ handle := 1, detoured := true }] }, decls := [(1, some { egress := 3 })] }
def alphaOn : State := up0.withPln { up0.pln with policy := [(1, 16)] }
def alphaFrozen : State := alphaOn.setFld F.PLN_CTRL_FREEZE 0 1
def exporting : State := { up0 with tel := { up0.tel with building := some [1] } }

/-- Row 3 of block 0 holds the value 5 and the action 7. -/
def tcamHit : State := { tcam0 with tb := { tcam0.tb with tcam := [(3, { value := 5, mask := 0xFFFFFFFF, valid := true, action := 7 })] } }

/-- The part is Terminal, and a rail has slipped once. -/
def terminalSlips : State := railSlips.setFld F.FLT_STATUS_TERMINAL 0 1

/-! ### Small tests -/

/-- 01 R22's example: port 200 lies on die 1, pipeline 1, position 8; 02's example: its block begins at 0x0291_2000. -/
theorem test_port_200 : dieOf 200 = 1 ∧ pipeOf 200 = 1 ∧ 200 % 64 = 8 ∧ regOffset .PORT_CFG 200 / 1024 * 1024 = 0x02912000 := by decide +kernel

/-- The check value of the Ethernet FCS, the standard CRC-32: the nine digits give CBF43926, sent lowest byte first. -/
theorem test_fcs_check : fcsOf [0x31, 0x32, 0x33, 0x34, 0x35, 0x36, 0x37, 0x38, 0x39] = [0x26, 0x39, 0xF4, 0xCB] := by decide +kernel

/-- The check value of the standard reflected CRC-32C (17 R430). -/
theorem test_crc32c_check : crc32c [0x31, 0x32, 0x33, 0x34, 0x35, 0x36, 0x37, 0x38, 0x39] = 0xE3069283 := by decide +kernel

/-- The check values of the CRC-16 of polynomial 0x1021, most significant bit first, from 0 and from 0xFFFF (07 R169). -/
theorem test_crc16_check : crcBits 16 0x1021 (beNat [0x31, 0x32, 0x33, 0x34, 0x35, 0x36, 0x37, 0x38, 0x39]) 72 0 = 0x31C3 ∧
    crcBits 16 0x1021 (beNat [0x31, 0x32, 0x33, 0x34, 0x35, 0x36, 0x37, 0x38, 0x39]) 72 0xFFFF = 0x29B1 := by decide +kernel

/-- SHA-384 (17 R437) of the empty message begins 38 B0 60 A7, by its standard. -/
theorem test_sha384_empty : (sha384 []).take 4 = [0x38, 0xB0, 0x60, 0xA7] := by decide +kernel

/-- The example of 11_telemetry.md (08 R231): d = 1,739 ns at HIST_UNIT 4 falls in bucket 44. -/
theorem test_hist_bucket : histBucket (1739 / 16) = 44 := by decide +kernel

/-- ADD wraps, SUB borrows, SRA keeps the sign, SLT is signed where SLTU is not, and a division by zero gives all ones and the dividend (13 R337). -/
theorem test_alu_corners : aluFn 0 (2 ^ 64 - 1) 1 = 0 ∧ aluFn 1 0 1 = 2 ^ 64 - 1 ∧ aluFn 7 (2 ^ 63) 63 = 2 ^ 64 - 1 ∧ aluFn 12 (2 ^ 64 - 1) 0 = 1 ∧
    aluFn 13 (2 ^ 64 - 1) 0 = 0 ∧ aluFn 10 7 0 = 2 ^ 64 - 1 ∧ aluFn 11 7 0 = 7 := by decide +kernel

/-- What a step leaves, where it answers a next state. -/
def after (c : Instr) (s : State) (f : State → Nat) : Option Nat :=
  match step { s with pending := [c] } with
  | .next t => some (f t)
  | _ => none

/-- LUI sign-extends its immediate before it shifts it (13 R337). -/
theorem test_lui_sign : after (.lui 0 {} 3 0 0x8000) (runs (.lui 3 0 0x8000)) (gpr 0 3) = some (2 ^ 64 - 2 ^ 31) := by decide +kernel

/-- CALL writes the address after it to g31 and jumps back by one word (13 R334, R341). -/
theorem test_call : after (.call 0 {} 2) (runs (.call 2)) (gpr 0 31) = some 4 ∧ after (.call 0 {} 2) (runs (.call 2)) (pcOf 0) = some 8 := by
  decide +kernel

/-- LWS extends the sign of its word, LW does not (13 R338). -/
theorem test_lws_sign :
    after (.load 0 {} 2 3 0 0) (runs (.load 2 3 0 0)) (gpr 0 3) = some (encodeMe (.load 2 3 0 0)) ∧
    after (.load 0 {} 2 3 0 0x100) { runs (.load 2 3 0 0x100) with sram := writeBytes (runs (.load 2 3 0 0x100)).sram 0x103 [0x80] } (gpr 0 3) =
      some (2 ^ 64 - 2 ^ 31) := by decide +kernel

/-- A store writes the low bytes of its register, least significant first (13 R338). -/
theorem test_store_bytes :
    after (.store 0 {} 1 2 0 0x100) (setGpr 0 2 0x1122334455667788 (runs (.store 1 2 0 0x100))) (fun t => tget 0 t.sram 0x100 |>.toNat) = some 0x88 ∧
    after (.store 0 {} 1 2 0 0x100) (setGpr 0 2 0x1122334455667788 (runs (.store 1 2 0 0x100))) (fun t => tget 0 t.sram 0x104 |>.toNat) = some 0 := by
  decide +kernel

/-- 14's example: source 128 with ENABLE 0x11 and ROT 4 goes to target 0, and ROT follows; on the way back it goes to target 4. -/
theorem test_rotation :
    after (.interruptDelivery 128) ({ up0 with intc := { up0.intc with rot := [(128, 4)] } }.setFlds
      [(F.SRC_STATUS_PENDING, 128, 1), (F.SRC_CFG_ENABLE, 128, 0x11), (F.SRC_CFG_MASK, 128, 0)]) (fun t => t.fld F.SRC_STATUS_TARGET 128) = some 0 ∧
    after (.interruptDelivery 128) ({ up0 with intc := { up0.intc with rot := [(128, 0)] } }.setFlds
      [(F.SRC_STATUS_PENDING, 128, 1), (F.SRC_CFG_ENABLE, 128, 0x11), (F.SRC_CFG_MASK, 128, 0)]) (fun t => t.fld F.SRC_STATUS_TARGET 128) = some 4 := by
  decide +kernel

/-- A claim takes the higher priority, and among equals the lower number (14 R371). -/
theorem test_claim_order :
    after (.claim (.thread 0) 0) (up0.setFlds [(F.SRC_STATUS_TARGET, 33, 0), (F.SRC_STATUS_TARGET, 35, 0)]) (fun t => outOf (.thread 0) t) = some 33 ∧
    after (.claim (.thread 0) 0) (up0.setFlds [(F.SRC_STATUS_TARGET, 33, 0), (F.SRC_STATUS_TARGET, 35, 0), (F.SRC_CFG_PRIORITY, 35, 9)])
      (fun t => outOf (.thread 0) t) = some 35 := by decide +kernel

/-- 04's example: inserting the route 10.2.4.0/22 of rank 44 makes three moves and takes the lowest place of rank 32. -/
def routeRow (a len : Nat) : TcamRow :=
  { value := BitVec.ofNat 160 (5 * 2 ^ 156 + a), mask := BitVec.ofNat 160 (routeMask 2 len 0), valid := true, prio := 2 * len }
def routes : State :=
  { up0 with tb := { up0.tb with tcam := [(0x2000, routeRow 0x0A010700 24), (0x2001, routeRow 0x0A010000 16), (0x2002, routeRow 0x0A020000 16),
      (0x2003, routeRow 0x0A000000 8), (0x2004, routeRow 0 0)] } }.setFlds
    [(F.TCAM_PART_ENABLE, 1, 1), (F.TCAM_PART_KIND, 1, 2), (F.TCAM_PART_MODE, 1, 1), (F.TCAM_PART_FIRST_BLK, 1, 4), (F.TCAM_PART_LAST_BLK, 1, 4),
     (F.TCAM_BLK_STATUS_STATE, 4, 1)]
def routed : State × CmdEnd :=
  tcamInsertEntry 0 ⟨1, 4, 4, 1, true, 2⟩ ⟨5 * 2 ^ 156 + 0x0A020400, routeMask 2 22 0, true, 44, 7⟩ routes
theorem test_route_insert : routed.2.moves = some 3 ∧ routed.2.addr = some 0x2001 ∧
    (List.range 6).map (fun i => bitsOf (tcamRow 0 (0x2000 + i) routed.1).value.toNat 0 32) =
      [0x0A010700, 0x0A020400, 0x0A020000, 0x0A010000, 0x0A000000, 0] := by decide +kernel

/-- A write with the wrong key holds no die; with the right one the die's hold bit is set (19 R480). -/
theorem test_reset_key : after (.dieHoldSet .jtag 0xB10D 2) up0 (fun t => t.fld F.RESET_CTRL_DIE_HOLD 0) = some 0 ∧
    after (.dieHoldSet .jtag 0xB10C 2) up0 (fun t => t.fld F.RESET_CTRL_DIE_HOLD 0) = some 4 := by decide +kernel

/-- The observer view cannot write a privileged register: the attempt is counted (00 R11). -/
theorem test_observer_write : after (.registerWrite .smbus ⟨4, regOffset .RATE_ADJ 0⟩ 5) up0 (fun t => t.fld F.RATE_ADJ 0) = some 0 ∧
    after (.registerWrite .jtag ⟨4, regOffset .RATE_ADJ 0⟩ 5) up0 (fun t => t.fld F.RATE_ADJ 0) = some 5 := by decide +kernel

/-- A wide counter read by two requesters: each keeps the upper word of its own low-word read (00 R14 and its example). -/
theorem test_latch :
    (match step { (up0.addWrap F.RX_OCTETS 0 (2 ^ 32 + 5)) with pending := [.counterLowWordRead .jtag ⟨4, regOffset .RX_OCTETS 0⟩] } with
     | .next t => (outOf .jtag t, tget none t.latch Requester.jtag.code, tget none t.latch Requester.smbus.code)
     | _ => (0, none, none)) = (5, some (cellKey .RX_OCTETS 0 0, [1]), none) := by decide +kernel

/-- A step takes the front of the queue; on an empty queue the clock ticks (logs 1 and 2). -/
theorem test_step_order : after .trapTokenRefill up0 (fun t => t.pending.length) = some 0 ∧
    (match step up0 with | .next t => t.cycle | _ => 0) = up0.cycle + 1 := by decide +kernel

/-- The reset memory is in canonical form. -/
theorem test_reset_memory : Memory.wf State.reset = true := by decide

/-- R492's example: SD_TX_200_P at J68 and SD_REFCLK_1_4_P at AU64; the corners of R491. -/
theorem test_balls : ballAt 9 68 = .out (.sdTx 200) false ∧ rowName 9 = ['J'] ∧ ballAt 35 64 = .inp (.sdRefclk 1 4) false ∧
    rowName 35 = ['A', 'U'] ∧ rowName 1 = ['A'] ∧ rowName 72 = ['C', 'T'] := by decide +kernel

/-- How many of the 5,184 balls carry a use. -/
def ballCount (u : BallUse) : Nat :=
  (List.range 5184).foldl (fun n k => if ballAt (k / 72 + 1) (k % 72 + 1) = u then n + 1 else n) 0

/-- The balls of each rail and of ground, by Table 20.4. -/
theorem test_ball_counts : (List.range 8).map (fun r => ballCount (.power r)) = [812, 96, 256, 96, 48, 32, 16, 4] ∧ ballCount .vss = 1584 ∧
    ballCount .reserved = 25 := by decide +kernel

/-- The limits of VDD_CORE, by Table 20.1. -/
theorem test_rail_limits : railReading 0 727500 = .good ∧ railReading 0 772501 = .out ∧ railReading 0 900000 = .out ∧ railReading 0 900001 = .absolute ∧
    railReading 0 (-300001) = .absolute := by decide +kernel

/-- A write of 300 bytes at a Max_Payload_Size of 128 goes in three requests (18 R452). -/
theorem test_split_write : (splitWrite 128 (0x1000, List.replicate 300 0)).map (fun w => (w.1, w.2.length)) =
    [(0x1000, 128), (0x1080, 128), (0x1100, 44)] := by decide +kernel

/-! ### Witnesses: a state and operands for the hypotheses of each clause of a statement, in its order -/

theorem witness_StepTakesFront :
    ∃ (c : Instr) (rest : List Instr) (s : State), s.pending = c :: rest :=
  ⟨.swRaise .pf0, [], { State.reset with pending := [.swRaise .pf0] }, by decide⟩

theorem witness_EmptyQueueTicks :
    ∃ (s : State), s.pending = [] :=
  ⟨State.reset, by decide⟩

theorem witness_StepKeepsMemoryForm :
    ∃ (s t : State), Memory.wf s = true ∧ step s = .next t :=
  ⟨State.reset, idle State.reset, by decide, rfl⟩

theorem witness_QueueIsFifo :
    ∃ (s t : State), step s = .next t :=
  ⟨State.reset, idle State.reset, rfl⟩

theorem witness_StoppedPartsStandStill :
    (∃ s : State, s.ldr.held = true) ∧ (∃ s : State, s.terminal = true) ∧ (∃ s : State, s.safe = true) ∧ rowKind (.synthesisDone) = .dataPath ∧
      rowKind .applyInstant = .clock :=
  ⟨⟨enterHeld State.reset, by decide⟩, ⟨State.reset.setFld F.FLT_STATUS_TERMINAL 0 1, by decide⟩, ⟨State.reset.setFld F.LDR_STATUS_STATE 0 9, by
    decide⟩, by decide, by decide⟩

theorem witness_UnreachedAccess :
    (∃ (c : Instr) (q : Requester) (r : Reg) (i : Nat) (s : State), accessOf c = some (q, r, i) ∧ arrives q r i s = false ∧ busUp q s = true) ∧ (∃ (c
      : Instr) (r : Reg) (i : Nat) (s : State), accessOf c = some (.pf0, r, i) ∧ arrives .pf0 r i s = false ∧ busUp .pf0 s = false ∧ s.ldr.held =
      false) ∧ ∃ (c : Instr) (r : Reg) (i : Nat) (s : State), accessOf c = some (.pf1, r, i) ∧ arrives .pf1 r i s = false ∧ busUp .pf1 s = false ∧
      s.ldr.held = false :=
  ⟨⟨.adminUpWrite .jtag 600 true, .jtag, .PORT_CFG, 600, State.reset, by decide, by decide +kernel, by decide⟩, ⟨.swRaise .pf0, .SW_RAISE, 0,
    State.reset, by decide, by decide +kernel, by decide, by decide⟩, ⟨.swRaise .pf1, .SW_RAISE, 0, State.reset, by decide, by decide +kernel, by
    decide, by decide⟩⟩

theorem witness_ObserverWritesViolate :
    ∃ (c : Instr) (q : Requester) (r : Reg) (i : Nat) (s : State), wellFormed c = true ∧ accessOf c = some (q, r, i) ∧ rowKind c = .write ∧
      observerMay c = false ∧ answers q r i s = true ∧ privileged q (blockOf (regOffset r i)) s = false :=
  ⟨.swRaise .smbus, .smbus, .SW_RAISE, 0, State.reset, by decide, by decide, by decide, by decide, by decide +kernel, by decide +kernel⟩

theorem witness_MemoryFrame :
    ∃ (c : Instr) (s t : State), storesNothing c = true ∧ exec c s = .next t :=
  ⟨.swRaise .pf0, State.reset, _, by decide, rfl⟩

theorem witness_StoreFrame :
    ∃ (s u : State) (t : Nat) (i : Issue) (k rs ra imm : Nat), s.ldr.held = false ∧ issues t i (.store k rs ra imm) s = true ∧ effAddr t ra imm
      (issued t i s) < 0x40000000 ∧ exec (.store t i k rs ra imm) s = .next u :=
  ⟨runs (.store 0 2 1 0x100), _, 0, {}, 0, 2, 1, 0x100, by decide, by decide, by decide, rfl⟩

theorem witness_StoreThenLoad :
    ∃ (a : Nat) (bs : List Byte), a + bs.length ≤ 0x40000000 :=
  ⟨0x3FFFFFFE, [1, 2], by decide⟩

theorem witness_RegisterInsnFrame :
    ∃ (s u : State) (t : Nat) (i : Issue) (rd ra rb func x r : Nat), exec (.alu t i rd ra rb func) s = .next u ∧ r < 32 ∧ (x ≠ t ∨ r ≠ rd) ∧ t < 32 ∧
      rd < 32 :=
  ⟨runs (.alu 3 1 2 0), _, 0, {}, 3, 1, 2, 0, 0, 4, rfl, by decide⟩

theorem witness_GeneralRegisters :
    (∃ r : Nat, 0 < r) ∧ (∃ x t r k : Nat, r < 32 ∧ k < 32 ∧ (x ≠ t ∨ k ≠ r)) ∧ ∃ (s : State) (t : Nat) (i : Issue) (off : Nat), s.ldr.held = false ∧
      issues t i (.call off) s = true :=
  ⟨⟨31, by decide⟩, ⟨1, 0, 31, 31, by decide⟩, ⟨runs (.call 8), 0, {}, 8, by decide, by decide⟩⟩

theorem witness_ChannelFaults :
    (∃ (s : State) (t : Nat) (i : Issue) (rd rs : Nat) (close : Bool) (word ch : Nat) (s1 : State), works (.send t i rd rs close word ch) s = true ∧
      issues t i (.send rd rs false close word ch) s = true ∧ issued t i s = s1 ∧ s1.fld F.CHAN_CFG0_ENABLE ch = 0) ∧
    (∃ (s : State) (t : Nat) (i : Issue) (rd rs : Nat) (close : Bool) (word ch : Nat) (s1 : State), works (.send t i rd rs close word ch) s = true ∧
      issues t i (.send rd rs false close word ch) s = true ∧ issued t i s = s1 ∧ (chanAt ch s1).holder ≠ some t ∧ s1.fld F.CHAN_CFG0_WRITER ch ≠ t) ∧
    (∃ (s : State) (t : Nat) (i : Issue) (rd rs : Nat) (close : Bool) (word ch : Nat) (s1 : State), works (.recv t i rd rs close word ch) s = true ∧
      issues t i (.recv rd rs false close word ch) s = true ∧ issued t i s = s1 ∧ s1.fld F.CHAN_CFG0_ENABLE ch = 0) ∧
    (∃ (s : State) (t : Nat) (i : Issue) (rd rs : Nat) (close : Bool) (word ch : Nat) (s1 : State), works (.recv t i rd rs close word ch) s = true ∧
      issues t i (.recv rd rs false close word ch) s = true ∧ issued t i s = s1 ∧ s1.fld F.CHAN_CFG0_READER ch ≠ t) :=
  ⟨⟨runs (.send 3 4 false true 0 5), 0, {}, 3, 4, true, 0, 5, _, (by decide +kernel), (by decide +kernel), rfl, (by decide +kernel)⟩,
   ⟨(runs (.send 3 4 false true 0 5)).setFld F.CHAN_CFG0_WRITER 5 9, 0, {}, 3, 4, true, 0, 5, _, (by decide +kernel), (by decide +kernel), rfl,
    (by decide +kernel), (by decide +kernel)⟩,
   ⟨runs (.recv 3 4 false true 0 5), 0, {}, 3, 4, true, 0, 5, _, (by decide +kernel), (by decide +kernel), rfl, (by decide +kernel)⟩,
   ⟨(runs (.recv 3 4 false true 0 5)).setFld F.CHAN_CFG0_READER 5 9, 0, {}, 3, 4, true, 0, 5, _, (by decide +kernel), (by decide +kernel), rfl,
    (by decide +kernel)⟩⟩

theorem witness_TcamSearchWinner :
    ∃ (s : State) (d key gmask a : Nat) (p : Part) (act : Word), tsortedFrom 0 s.tb.tcam = true ∧ (tcamSearch d p key gmask [] s).2 = some (a, act) :=
  ⟨tcamHit, 0, 5, 2 ^ 160 - 1, 3, part0, 7, by decide +kernel⟩

theorem witness_RouteEntryForm :
    (∃ (b : List Byte) (o pl ve : Nat), leNat (slice b (o + 1) 1) = pl ∧ leNat (slice b (o + 3) 1) = ve ∧ ve ≤ 1 ∧ routeKind b o = 2 ∧ pl ≤ 32) ∧ ∃ (b
      : List Byte) (o pl ve : Nat), leNat (slice b (o + 1) 1) = pl ∧ leNat (slice b (o + 3) 1) = ve ∧ ve ≤ 1 ∧ routeKind b o = 3 ∧ pl ≤ 128 :=
  ⟨⟨[4, 32, 0, 1], 0, 32, 1, by decide⟩, ⟨[6, 128, 0, 1], 0, 128, 1, by decide⟩⟩

theorem witness_RouteKeyForm :
    ∃ c : Cls, c.vid < 4096 ∧ c.dst4 < 2 ^ 32 ∧ c.dst6 < 2 ^ 128 :=
  ⟨{ vid := 4095, dst4 := 2 ^ 32 - 1, dst6 := 2 ^ 128 - 1 }, by decide⟩

theorem witness_WideCounterLatch :
    (∃ (s : State) (q q' : Requester) (r : Reg) (i hi : Nat), isWide r = true ∧ q'.code ≠ q.code ∧ tget none s.latch q.code = some (cellKey r 0 i,
      [hi])) ∧ ∃ (s : State) (q : Requester) (r : Reg) (i : Nat), isWide r = true ∧ ∀ ws, tget none s.latch q.code ≠ some (cellKey r 0 i, ws) :=
  ⟨⟨setLatch .pf0 (cellKey .RX_OCTETS 0 3) [7] State.reset, .pf0, .pf1, .RX_OCTETS, 3, 7, by decide +kernel⟩, ⟨State.reset, .pf0, .RX_OCTETS, 3, by
    decide, fun ws => by simp [State.reset, tget]⟩⟩

theorem witness_PortNumbers :
    ∃ p : Nat, p < 512 :=
  ⟨511, by decide⟩

theorem witness_ClaimPicksHighest :
    ∃ (j : Nat) (s : State), claimValue j s ≠ 0 :=
  ⟨0, claimable, by decide +kernel⟩

theorem witness_MeDecodeEncode :
    (∃ x : MeOp, meOpInRange x = true) ∧ ∃ w : Nat, w < 2 ^ 32 ∧ legalWord w = true :=
  ⟨⟨.send 31 31 true true 15 255, by decide⟩, ⟨0xF8000000, by decide⟩⟩

theorem witness_TerminalLeft :
    (∃ s : State, s.ldr.held = true ∧ s.terminal = false ∧ resetCondition { s.ldr with resetLow := false } = false ∧ resetCondition
      { s.ldr with settling := false } = false) ∧ ∃ (s t : State) (c : Instr), s.terminal = true ∧ exec c s = .next t ∧ t.terminal = false :=
  ⟨⟨heldPart, by decide⟩, ⟨terminalSlips, _, .railSample 3 0, by decide, rfl, by decide⟩⟩

theorem witness_RegisterAccessesComplete :
    (∃ (s : State) (q : Requester) (o v a : Nat) (r : RegAt), works (.registerWrite q ⟨4, o⟩ v) s = true ∧ comesTo q o a r s = true ∧ s.terminal =
      false) ∧
    (∃ (s : State) (q : Requester) (o v a : Nat), works (.registerWrite q ⟨4, o⟩ v) s = true ∧ busUp q s = true ∧ reach q o s = some a ∧ linkWaits a s
      = false ∧ ((s.terminal = true ∨ regAt a = none))) ∧
    (∃ (s : State) (q : Requester) (o v a : Nat), works (.registerWrite q ⟨4, o⟩ v) s = true ∧ busUp q s = true ∧ reach q o s = some a ∧ linkWaits a s
      = true) ∧
    (∃ (s : State) (q : Requester) (n o v : Nat), works (.registerWrite q ⟨n, o⟩ v) s = true ∧ n ≠ 4 ∧ busUp q s = true) ∧
    (∃ (s : State) (q : Requester) (o v a i : Nat), works (.bufConfigWrite q o v) s = true ∧ comesTo q o a ⟨.Q_MIN, i, 0⟩ s = true ∧ s.terminal =
      false ∧ privileged q (blockOf (regOffset .Q_MIN i)) s = true ∧ blockOf (regOffset .Q_MIN i) < 13) ∧
    (∃ (s : State) (q : Requester) (o a : Nat) (r : Reg) (i : Nat) (ws : List Nat), works (.counterLowWordRead q ⟨4, o⟩) s = true ∧ comesTo q o a ⟨r,
      i, 0⟩ s = true ∧ [Reg.CLAIM, .SUP_NOTE, .SYNC_IN_TS_NS, .PTP_TX_INFO].contains r = false ∧ latchWords q ⟨r, i, 0⟩ s = some ws ∧ privileged q
      (blockOf (regOffset r i)) s = true) ∧
    (∃ (s : State) (q : Requester) (n o : Nat), works (.counterLowWordRead q ⟨n, o⟩) s = true ∧ n ≠ 4 ∧ busUp q s = true) ∧
    (∃ (s : State) (q : Requester) (o a : Nat) (r : Reg) (i : Nat), works (.rcFieldRead q ⟨4, o⟩) s = true ∧ comesTo q o a ⟨r, i, 0⟩ s = true ∧
      [Reg.CLAIM, .SUP_NOTE, .SYNC_IN_TS_NS, .PTP_TX_INFO].contains r = false ∧ latchWords q ⟨r, i, 0⟩ s = none ∧ privileged q (blockOf (regOffset r
      i)) s = true) ∧
    (∃ (s : State) (q : Requester) (o a : Nat) (r : Reg) (i : Nat), works (.rcFieldRead q ⟨4, o⟩) s = true ∧ comesTo q o a ⟨r, i, 0⟩ s = true ∧
      [Reg.CLAIM, .SUP_NOTE, .SYNC_IN_TS_NS, .PTP_TX_INFO].contains r = false ∧ latchWords q ⟨r, i, 0⟩ s = none ∧ privileged q (blockOf (regOffset r
      i)) s = false ∧ r.hasP = false) ∧
    (∃ (s : State) (q : Requester) (n o : Nat), works (.rcFieldRead q ⟨n, o⟩) s = true ∧ n ≠ 4 ∧ busUp q s = true) ∧
    (∃ (s : State) (q : Requester) (s1 : State), works (.privViolLastRead q) s = true ∧ privileged q 0 s = true ∧ setOut q (liveWord q
      ⟨.PRIV_VIOL_LAST, 0, 0⟩ s &&& shownBits true ⟨.PRIV_VIOL_LAST, 0, 0⟩) s = s1) :=
  ⟨⟨up0, .jtag, regOffset .FLT_CTRL 0, 5, regOffset .FLT_CTRL 0, ⟨.FLT_CTRL, 0, 0⟩, (by decide +kernel), (by decide +kernel), (by decide +kernel)⟩,
   ⟨up0, .jtag, 0x3FFFFFC, 5, 0x3FFFFFC, (by decide +kernel), (by decide +kernel), (by decide +kernel), (by decide +kernel), (by decide +kernel)⟩,
   ⟨retraining0, .jtag, regOffset .PORT_CFG 0, 5, regOffset .PORT_CFG 0, (by decide +kernel), (by decide +kernel), (by decide +kernel),
    (by decide +kernel)⟩,
   ⟨up0, .jtag, 2, regOffset .FLT_CTRL 0, 5, (by decide +kernel), (by decide +kernel), (by decide +kernel)⟩,
   ⟨up0, .jtag, regOffset .Q_MIN 3, 5, regOffset .Q_MIN 3, 3, (by decide +kernel), (by decide +kernel), (by decide +kernel), (by decide +kernel),
    (by decide +kernel)⟩,
   ⟨up0, .jtag, regOffset .PRIV_VIOL_LAST 0, regOffset .PRIV_VIOL_LAST 0, .PRIV_VIOL_LAST, 0, [0], (by decide +kernel), (by decide +kernel),
    (by decide +kernel), (by decide +kernel), (by decide +kernel)⟩,
   ⟨up0, .jtag, 8, regOffset .PRIV_VIOL_LAST 0, (by decide +kernel), (by decide +kernel), (by decide +kernel)⟩,
   ⟨up0, .jtag, regOffset .FLT_CTRL 0, regOffset .FLT_CTRL 0, .FLT_CTRL, 0, (by decide +kernel), (by decide +kernel), (by decide +kernel),
    (by decide +kernel), (by decide +kernel)⟩,
   ⟨up0, .smbus, regOffset .FLT_STATUS 0, regOffset .FLT_STATUS 0, .FLT_STATUS, 0, (by decide +kernel), (by decide +kernel), (by decide +kernel),
    (by decide +kernel), (by decide +kernel), (by decide +kernel)⟩,
   ⟨up0, .jtag, 1, regOffset .FLT_CTRL 0, (by decide +kernel), (by decide +kernel), (by decide +kernel)⟩,
   ⟨up0, .jtag, _, (by decide +kernel), (by decide +kernel), rfl⟩⟩

theorem witness_ReceivedFramesComplete :
    (∃ (s : State) (f p : Nat) (frags : Bool), works (.rxFrameStart f p frags) s = true ∧ s.runs = true ∧ p < 512 ∧ s.fld F.PORT_STATUS_LINK_UP p = 1
      ∧ frameAt f s = none ∧ ((frags = true → s.fld F.MM_CFG_PREEMPT_EN p = 1))) ∧
    (∃ (s : State) (f : Nat) (bs : List Byte) (codeErr : Bool) (corr uncorr : Nat) (fr : Frame), works (.rxFrameEnd f bs codeErr corr uncorr) s = true
      ∧ frameAt f s = some fr ∧ fr.port < 512 ∧ fr.len = none ∧ ((fr.stage = .receiving ∨ 192 < bs.length)) ∧ rxCheck fr.port bs codeErr s = .good ∧
      isMacControl bs = false ∧ isPtp fr.port bs s = false) ∧
    (∃ (s : State) (f : Nat) (bs : List Byte) (codeErr : Bool) (corr uncorr : Nat) (fr : Frame), works (.rxFrameEnd f bs codeErr corr uncorr) s = true
      ∧ frameAt f s = some fr ∧ fr.port < 512 ∧ fr.len = none ∧ ((fr.stage = .receiving ∨ 192 < bs.length)) ∧ rxCheck fr.port bs codeErr s = .good ∧
      isMacControl bs = true) ∧
    (∃ (s : State) (f : Nat) (bs : List Byte) (codeErr : Bool) (corr uncorr : Nat) (fr : Frame), works (.rxFrameEnd f bs codeErr corr uncorr) s = true
      ∧ frameAt f s = some fr ∧ fr.port < 512 ∧ fr.len = none ∧ ((fr.stage = .receiving ∨ 192 < bs.length)) ∧ rxCheck fr.port bs codeErr s = .good ∧
      isMacControl bs = false ∧ isPtp fr.port bs s = true) ∧
    (∃ (s : State) (f : Nat) (bs : List Byte) (codeErr : Bool) (corr uncorr : Nat) (fr : Frame) (c : RxCheck), works (.rxFrameEnd f bs codeErr corr
      uncorr) s = true ∧ frameAt f s = some fr ∧ fr.port < 512 ∧ fr.len = none ∧ ((fr.stage = .receiving ∨ 192 < bs.length)) ∧ rxCheck fr.port bs
      codeErr s = c ∧ c ≠ .good) ∧
    (∃ (s : State) (f : Nat) (bs : List Byte) (fr : Frame), works (.ptpFrameReceived f bs) s = true ∧ frameAt f s = some fr ∧ fr.len = none ∧ rxCheck
      fr.port bs false s = .good ∧ isPtp fr.port bs s = true) ∧
    (∃ (s : State) (f : Nat) (bs : List Byte) (fr : Frame), works (.mmFragmentReceived f bs .ok) s = true ∧ frameAt f s = some fr ∧ fr.fragments =
      true ∧ fr.len = none ∧ fr.stage = .receiving) ∧
    (∃ (s : State) (f : Nat) (bs : List Byte) (fr : Frame), works (.mmFragmentReceived f bs .assemblyErr) s = true ∧ frameAt f s = some fr ∧
      fr.fragments = true ∧ fr.len = none ∧ fr.stage = .receiving) ∧
    (∃ (s : State) (f : Nat) (bs : List Byte) (fr : Frame), works (.mmFragmentReceived f bs .smdErr) s = true ∧ frameAt f s = some fr ∧ fr.fragments =
      true ∧ fr.len = none ∧ fr.stage = .receiving) ∧
    (∃ (s : State) (f : Nat) (bs : List Byte) (fr : Frame), works (.mmFragmentReceived f bs .ok) s = true ∧ frameAt f s = some fr ∧ fr.fragments =
      true ∧ fr.len = none ∧ fr.stage ≠ .receiving) ∧
    (∃ (s : State) (f : Nat) (bs : List Byte) (fr : Frame), works (.mmFragmentReceived f bs .smdErr) s = true ∧ frameAt f s = some fr ∧ fr.fragments =
      true ∧ fr.len = none ∧ fr.stage ≠ .receiving ∧ fr.stage ≠ .dropped) :=
  ⟨⟨up0, 5, 0, false, (by decide +kernel), (by decide +kernel), (by decide +kernel), (by decide +kernel), (by decide +kernel), (by decide +kernel)⟩,
   ⟨received, 5, goodFrame, false, 1, 0, { port := 0 }, (by decide +kernel), (by decide +kernel), (by decide +kernel), (by decide +kernel),
    (by decide +kernel), (by decide +kernel), (by decide +kernel), (by decide +kernel)⟩,
   ⟨received, 5, pauseFrame, false, 0, 1, { port := 0 }, (by decide +kernel), (by decide +kernel), (by decide +kernel), (by decide +kernel),
    (by decide +kernel), (by decide +kernel), (by decide +kernel)⟩,
   ⟨received, 5, ptpFrame, false, 0, 0, { port := 0 }, (by decide +kernel), (by decide +kernel), (by decide +kernel), (by decide +kernel),
    (by decide +kernel), (by decide +kernel), (by decide +kernel), (by decide +kernel)⟩,
   ⟨received, 5, [], false, 0, 0, { port := 0 }, .runt, (by decide +kernel), (by decide +kernel), (by decide +kernel), (by decide +kernel),
    (by decide +kernel), (by decide +kernel), (by decide +kernel)⟩,
   ⟨received, 5, ptpFrame, { port := 0 }, (by decide +kernel), (by decide +kernel), (by decide +kernel), (by decide +kernel), (by decide +kernel)⟩,
   ⟨fragmented, 5, [1, 2], { port := 0, fragments := true }, (by decide +kernel), (by decide +kernel), (by decide +kernel), (by decide +kernel),
    (by decide +kernel)⟩,
   ⟨fragmented, 5, [], { port := 0, fragments := true }, (by decide +kernel), (by decide +kernel), (by decide +kernel), (by decide +kernel),
    (by decide +kernel)⟩,
   ⟨fragmented, 5, [], { port := 0, fragments := true }, (by decide +kernel), (by decide +kernel), (by decide +kernel), (by decide +kernel),
    (by decide +kernel)⟩,
   ⟨setFrame 5 { port := 0, fragments := true, stage := .classified } up0, 5, [], { port := 0, fragments := true, stage := .classified },
    (by decide +kernel), (by decide +kernel), (by decide +kernel), (by decide +kernel), (by decide +kernel)⟩,
   ⟨setFrame 5 { port := 0, fragments := true, stage := .classified } up0, 5, [], { port := 0, fragments := true, stage := .classified },
    (by decide +kernel), (by decide +kernel), (by decide +kernel), (by decide +kernel), (by decide +kernel), (by decide +kernel)⟩⟩

theorem witness_MacControlCompletes :
    (∃ (s : State) (p l quanta : Nat), works (.pauseFrameReceived p l quanta) s = true ∧ s.fld F.PORT_STATUS_LINK_UP p = 1 ∧ s.fld
      F.PORT_CFG_FLOW_MODE p = 1) ∧
    (∃ (s : State) (p l quanta : Nat), works (.pauseFrameReceived p l quanta) s = true ∧ s.fld F.PORT_STATUS_LINK_UP p = 1 ∧ s.fld
      F.PORT_CFG_FLOW_MODE p ≠ 1) ∧
    (∃ (s : State) (p l enables : Nat) (quanta : List Nat), works (.pfcFrameReceived p l enables quanta) s = true ∧ s.fld F.PORT_STATUS_LINK_UP p = 1
      ∧ s.fld F.PORT_CFG_FLOW_MODE p = 2) ∧
    (∃ (s : State) (p l enables : Nat) (quanta : List Nat), works (.pfcFrameReceived p l enables quanta) s = true ∧ s.fld F.PORT_STATUS_LINK_UP p = 1
      ∧ s.fld F.PORT_CFG_FLOW_MODE p ≠ 2) ∧
    (∃ (s : State) (p l : Nat), works (.macControlOther p l) s = true ∧ s.fld F.PORT_STATUS_LINK_UP p = 1) ∧
    (∃ (s : State) (p n : Nat), works (.pauseExpiry p n) s = true) ∧
    (∃ (s : State) (p mask quanta : Nat) (rest : List (Nat × Nat)), works (.pfcFrameTransmit p) s = true ∧ (portSt p s).ctrl = (mask, quanta) :: rest
      ∧ (portSt p s).tx ≠ .idle ∧ s.fld F.PORT_CFG_FLOW_MODE p ≠ 2) ∧
    (∃ (s : State) (p mask quanta : Nat) (rest : List (Nat × Nat)), works (.pfcFrameTransmit p) s = true ∧ (portSt p s).ctrl = (mask, quanta) :: rest
      ∧ (portSt p s).tx ≠ .idle ∧ s.fld F.PORT_CFG_FLOW_MODE p = 2) ∧
    (∃ (s : State) (p n : Nat), works (.pfcRefreshExpiry p n) s = true ∧ s.fld F.PFC_STATUS_XOFF (8 * p + n) = 1 ∧ s.fld F.PORT_CFG_FLOW_MODE p = 2) ∧
    (∃ (s : State) (p : Nat), works (.pfcRefreshExpiry p 0) s = true ∧ s.fld F.PFC_STATUS_XOFF (8 * p) = 1 ∧ s.fld F.PORT_CFG_FLOW_MODE p = 1) :=
  ⟨⟨up0.setFld F.PORT_CFG_FLOW_MODE 0 1, 0, 64, 7, (by decide +kernel), (by decide +kernel), (by decide +kernel)⟩,
   ⟨up0, 0, 64, 7, (by decide +kernel), (by decide +kernel), (by decide +kernel)⟩,
   ⟨up0.setFld F.PORT_CFG_FLOW_MODE 0 2, 0, 64, 3, [1, 2, 3, 4, 5, 6, 7, 8], (by decide +kernel), (by decide +kernel), (by decide +kernel)⟩,
   ⟨up0, 0, 64, 3, [1, 2, 3, 4, 5, 6, 7, 8], (by decide +kernel), (by decide +kernel), (by decide +kernel)⟩,
   ⟨up0, 0, 64, (by decide +kernel), (by decide +kernel)⟩,
   ⟨up0, 0, 1, (by decide +kernel)⟩,
   ⟨setPortSt 0 { tx := .on, ctrl := [(255, 9)] } up0, 0, 255, 9, [], (by decide +kernel), (by decide +kernel), (by decide +kernel),
    (by decide +kernel)⟩,
   ⟨setPortSt 0 { tx := .on, ctrl := [(2, 9)] } (up0.setFld F.PORT_CFG_FLOW_MODE 0 2), 0, 2, 9, [], (by decide +kernel), (by decide +kernel),
    (by decide +kernel), (by decide +kernel)⟩,
   ⟨(up0.setFld F.PFC_STATUS_XOFF 1 1).setFld F.PORT_CFG_FLOW_MODE 0 2, 0, 1, (by decide +kernel), (by decide +kernel), (by decide +kernel)⟩,
   ⟨(up0.setFld F.PFC_STATUS_XOFF 0 1).setFld F.PORT_CFG_FLOW_MODE 0 1, 0, (by decide +kernel), (by decide +kernel), (by decide +kernel)⟩⟩

theorem witness_LinkStateCompletes_1 :
    (∃ (s : State) (p lanes : Nat) (order : List Nat) (skew : Nat) (lfSets rf : Bool) (s1 s2 : State), works (.rxPathStatusChange p true true ⟨lanes,
      order, skew⟩ lfSets rf) s = true ∧ laneOfGroup p s = false ∧ portExists p s = true ∧ 4 ≤ s.fld F.PORT_CFG_MODE p ∧ s.fld F.PORT_CFG_MODE p ≠ 6 ∧
      laneSignal true p ((setPortSt p { portSt p s with laneOrder := [] } s).setFlds [(F.PORT_STATUS_PCS_LOCK, p, 1), (F.PORT_STATUS_LANE_LOCK, p,
      lanes % 2)]) = s1 ∧ setPortSt p { portSt p s1 with lfSets := lfSets } s1 = s2) ∧
    (∃ (s : State) (p lanes : Nat) (order : List Nat) (skew : Nat) (lfSets rf : Bool) (s1 s2 : State), works (.rxPathStatusChange p true true ⟨lanes,
      order, skew⟩ lfSets rf) s = true ∧ laneOfGroup p s = false ∧ portExists p s = true ∧ ((s.fld F.PORT_CFG_MODE p = 2 ∨ s.fld F.PORT_CFG_MODE p =
      3)) ∧ laneSignal true p ((setPortSt p { portSt p s with laneOrder := [] } s).setFlds [(F.PORT_STATUS_PCS_LOCK, p, 1), (F.PORT_STATUS_LANE_LOCK,
      p, lanes % 2)]) = s1 ∧ setPortSt p { portSt p s1 with lfSets := lfSets } s1 = s2) ∧
    (∃ (s : State) (p lanes : Nat) (order : List Nat) (skew : Nat) (lfSets rf : Bool) (s1 s2 : State), works (.rxPathStatusChange p true true ⟨lanes,
      order, skew⟩ lfSets rf) s = true ∧ laneOfGroup p s = false ∧ portExists p s = true ∧ s.fld F.PORT_CFG_MODE p = 6 ∧ lanesAlign order skew = true
      ∧ [p, p + 1, p + 2, p + 3].foldl (fun s q => laneSignal true q s) ((setPortSt p { portSt p s with laneOrder := order } s).setFlds
      [(F.PORT_STATUS_PCS_LOCK, p, 1), (F.PORT_STATUS_LANE_LOCK, p, lanes)]) = s1 ∧ setPortSt p { portSt p s1 with lfSets := lfSets } s1 = s2) ∧
    (∃ (s : State) (p : Nat) (signal lock : Bool) (lanes : Nat) (order : List Nat) (skew : Nat) (lfSets rf : Bool), works (.rxPathStatusChange p
      signal lock ⟨lanes, order, skew⟩ lfSets rf) s = true ∧ laneOfGroup p s = true) ∧
    (∃ (s : State) (p : Nat), works (.adaptationDone p) s = true ∧ laneOfGroup p s = false ∧ portExists p s = true ∧ s.fld F.PORT_CFG_MODE p ≠ 6 ∧
      s.fld F.SD_RX_STATUS_SIGNAL_DETECT p = 1) ∧
    (∃ (s : State) (p : Nat), works (.adaptationDone p) s = true ∧ laneOfGroup p s = true ∧ s.fld F.SD_RX_STATUS_SIGNAL_DETECT p = 1) ∧
    (∃ (s : State) (p : Nat) (rf : Bool), works (.anComplete p rf) s = true ∧ portExists p s = true ∧ s.fld F.PORT_CFG_MODE p = 1 ∧ s.fld
      F.PORT_CFG_AN_EN p = 1 ∧ s.fld F.PORT_STATUS_PCS_LOCK p = 1) ∧
    (∃ (s : State) (p : Nat), works (.sgmiiControlWord p true true true) s = true ∧ portExists p s = true ∧ s.fld F.PORT_CFG_MODE p = 2) ∧
    (∃ (s : State) (p : Nat) (up full gig : Bool), works (.sgmiiControlWord p up full gig) s = true ∧ portExists p s = true ∧ s.fld F.PORT_CFG_MODE p
      = 2 ∧ (up && full && gig) = false) ∧
    (∃ (s : State) (p : Nat), works (.linkUpHoldoffExpiry p) s = true ∧ upConditions p s = true ∧ s.fld F.PORT_STATUS_LINK_UP p = 0) ∧
    (∃ (s : State) (p : Nat), works (.linkDownDebounceExpiry p) s = true ∧ s.fld F.PORT_STATUS_LINK_UP p = 1 ∧ linkConditions p s = false) ∧
    (∃ (s : State) (q : Requester) (p : Nat), works (.adminUpWrite q p true) s = true ∧ joinedLane p s = false) :=
  ⟨⟨up0.setFld F.PORT_CFG_MODE 0 4, 0, 1, [], 0, false, false, _, _, (by decide +kernel), (by decide +kernel), (by decide +kernel),
    (by decide +kernel), (by decide +kernel), rfl, rfl⟩,
   ⟨up0.setFld F.PORT_CFG_MODE 0 3, 0, 1, [], 0, false, false, _, _, (by decide +kernel), (by decide +kernel), (by decide +kernel),
    (by decide +kernel), rfl, rfl⟩,
   ⟨quad0, 0, 15, [2, 0, 3, 1], 180, false, false, _, _, (by decide +kernel), (by decide +kernel), (by decide +kernel), (by decide +kernel),
    (by decide +kernel), rfl, rfl⟩,
   ⟨quad0, 1, false, true, 1, [], 0, false, false, (by decide +kernel), (by decide +kernel)⟩,
   ⟨(up0.setFld F.PORT_CFG_MODE 0 3).setFld F.SD_RX_STATUS_SIGNAL_DETECT 0 1, 0, (by decide +kernel), (by decide +kernel), (by decide +kernel),
    (by decide +kernel), (by decide +kernel)⟩,
   ⟨quad0.setFld F.SD_RX_STATUS_SIGNAL_DETECT 1 1, 1, (by decide +kernel), (by decide +kernel), (by decide +kernel)⟩,
   ⟨(up0.setFld F.PORT_CFG_MODE 0 1).setFlds [(F.PORT_CFG_AN_EN, 0, 1), (F.PORT_STATUS_PCS_LOCK, 0, 1)], 0, false, (by decide +kernel),
    (by decide +kernel), (by decide +kernel), (by decide +kernel), (by decide +kernel)⟩,
   ⟨up0.setFld F.PORT_CFG_MODE 0 2, 0, (by decide +kernel), (by decide +kernel), (by decide +kernel)⟩,
   ⟨up0.setFld F.PORT_CFG_MODE 0 2, 0, true, false, true, (by decide +kernel), (by decide +kernel), (by decide +kernel), (by decide +kernel)⟩,
   ⟨ready0, 0, (by decide +kernel), (by decide +kernel), (by decide +kernel)⟩,
   ⟨up0, 0, (by decide +kernel), (by decide +kernel), (by decide +kernel)⟩,
   ⟨up0, .jtag, 0, (by decide +kernel), (by decide +kernel)⟩⟩

theorem witness_LinkStateCompletes_2 :
    (∃ (s : State) (q : Requester) (p : Nat), works (.adminUpWrite q p false) s = true ∧ joinedLane p s = false ∧ s.fld F.PORT_CFG_ADMIN_UP p = 1) ∧
    (∃ (s : State) (d r : Nat), works (.quadPllLockLoss d r) s = true) ∧
    (∃ (s : State) (d r : Nat), works (.quadPllLock d r) s = true) :=
  ⟨⟨up0.setFld F.PORT_CFG_ADMIN_UP 0 1, .jtag, 0, (by decide +kernel), (by decide +kernel), (by decide +kernel)⟩,
   ⟨up0, 0, 0, (by decide +kernel)⟩,
   ⟨up0, 3, 7, (by decide +kernel)⟩⟩

theorem witness_PortFlushAndHoldComplete_1 :
    (∃ (s : State) (p : Nat), works (.txDrainIdle p) s = true ∧ (portSt p s).tx = .draining ∧ s.dp.tx.any (fun t => t.copy.port == p) = false) ∧
    (∃ (s : State) (p : Nat), works (.portFlushStart p) s = true ∧ (portSt p s).downPending = true) ∧
    (∃ (s : State) (p : Nat), works (.portFlushComplete p) s = true) ∧
    (∃ (s : State) (p : Nat), works (.verifyTimerExpiry p) s = true ∧ s.fld F.PORT_STATUS_LINK_UP p = 1 ∧ s.fld F.MM_STATUS_VERIFY_STATUS p = 2 ∧
      (portSt p s).verifySent < s.fld F.MM_CFG_VERIFY_LIMIT p) ∧
    (∃ (s : State) (p : Nat), works (.verifyTimerExpiry p) s = true ∧ s.fld F.PORT_STATUS_LINK_UP p = 1 ∧ s.fld F.MM_STATUS_VERIFY_STATUS p = 2 ∧
      s.fld F.MM_CFG_VERIFY_LIMIT p ≤ (portSt p s).verifySent) ∧
    (∃ (s : State) (p : Nat), works (.respondFrameReceived p) s = true ∧ s.fld F.MM_STATUS_VERIFY_STATUS p = 2) ∧
    (∃ (s : State) (p : Nat) (s1 s2 : State), works (.holdTakeEffect p) s = true ∧ (((tget none s.dp.holdAt p).isSome = true ∨ (preemptActive p s =
      true ∧ holdAhead p (nsUp (s.work + blockingOf p s + epsilonOf p s)) s 1024 (s.work / nsUnit) = true))) ∧ s.fld F.MM_STATUS_HOLD p ≠ 1 ∧
      (s.setFlds [(F.MM_STATUS_HOLD, p, 1), (F.GCL_STATUS_HOLD, p, 1)]).bump F.MM_HOLD p = s1 ∧
      { s1 with dp := { s1.dp with holdAt := tset none s1.dp.holdAt p none } } = s2 ∧ preemptableOnWire p s2 = none) ∧
    (∃ (s : State) (p : Nat) (s1 s2 : State) (t : TxCopy) (c : Nat), works (.holdTakeEffect p) s = true ∧ (((tget none s.dp.holdAt p).isSome = true ∨
      (preemptActive p s = true ∧ holdAhead p (nsUp (s.work + blockingOf p s + epsilonOf p s)) s 1024 (s.work / nsUnit) = true))) ∧ s.fld
      F.MM_STATUS_HOLD p ≠ 1 ∧ (s.setFlds [(F.MM_STATUS_HOLD, p, 1), (F.GCL_STATUS_HOLD, p, 1)]).bump F.MM_HOLD p = s1 ∧
      { s1 with dp := { s1.dp with holdAt := tset none s1.dp.holdAt p none } } = s2 ∧ preemptableOnWire p s2 = some t ∧ t.fragAt < s.work + txLatency
      p s * nsUnit ∧ cutBytes p t (bytesIn p (s.work + txLatency p s * nsUnit - t.fragAt) s) s = some c) ∧
    (∃ (s : State) (p : Nat) (s1 s2 : State) (t : TxCopy), works (.holdTakeEffect p) s = true ∧ (((tget none s.dp.holdAt p).isSome = true ∨
      (preemptActive p s = true ∧ holdAhead p (nsUp (s.work + blockingOf p s + epsilonOf p s)) s 1024 (s.work / nsUnit) = true))) ∧ s.fld
      F.MM_STATUS_HOLD p ≠ 1 ∧ (s.setFlds [(F.MM_STATUS_HOLD, p, 1), (F.GCL_STATUS_HOLD, p, 1)]).bump F.MM_HOLD p = s1 ∧
      { s1 with dp := { s1.dp with holdAt := tset none s1.dp.holdAt p none } } = s2 ∧ preemptableOnWire p s2 = some t ∧ t.fragAt < s.work + txLatency
      p s * nsUnit ∧ cutBytes p t (bytesIn p (s.work + txLatency p s * nsUnit - t.fragAt) s) s = none) ∧
    (∃ (s : State) (p : Nat) (s1 s2 : State) (t : TxCopy), works (.holdTakeEffect p) s = true ∧ (((tget none s.dp.holdAt p).isSome = true ∨
      (preemptActive p s = true ∧ holdAhead p (nsUp (s.work + blockingOf p s + epsilonOf p s)) s 1024 (s.work / nsUnit) = true))) ∧ s.fld
      F.MM_STATUS_HOLD p ≠ 1 ∧ (s.setFlds [(F.MM_STATUS_HOLD, p, 1), (F.GCL_STATUS_HOLD, p, 1)]).bump F.MM_HOLD p = s1 ∧
      { s1 with dp := { s1.dp with holdAt := tset none s1.dp.holdAt p none } } = s2 ∧ preemptableOnWire p s2 = some t ∧ s.work + txLatency p s *
      nsUnit ≤ t.fragAt) ∧
    (∃ (s : State) (p : Nat), works (.holdTakeEffect p) s = true ∧ (((tget none s.dp.holdAt p).isSome = true ∨ (preemptActive p s = true ∧ holdAhead p
      (nsUp (s.work + blockingOf p s + epsilonOf p s)) s 1024 (s.work / nsUnit) = true))) ∧ s.fld F.MM_STATUS_HOLD p = 1) ∧
    (∃ (s : State) (p : Nat), works (.holdRelease p) s = true) :=
  ⟨⟨setPortSt 0 { tx := .draining } up0, 0, (by decide +kernel), (by decide +kernel), (by decide +kernel)⟩,
   ⟨setPortSt 0 { downPending := true } up0, 0, (by decide +kernel), (by decide +kernel)⟩,
   ⟨up0, 0, (by decide +kernel)⟩,
   ⟨(up0.setFld F.MM_STATUS_VERIFY_STATUS 0 2).setFld F.MM_CFG_VERIFY_LIMIT 0 3, 0, (by decide +kernel), (by decide +kernel), (by decide +kernel),
    (by decide +kernel)⟩,
   ⟨setPortSt 0 { verifySent := 7 } (up0.setFld F.MM_STATUS_VERIFY_STATUS 0 2), 0, (by decide +kernel), (by decide +kernel), (by decide +kernel),
    (by decide +kernel)⟩,
   ⟨up0.setFld F.MM_STATUS_VERIFY_STATUS 0 2, 0, (by decide +kernel), (by decide +kernel)⟩,
   ⟨{ up0 with dp := { up0.dp with holdAt := [(0, some 4)] } }, 0, _, _, (by decide +kernel), (by decide +kernel), (by decide +kernel), rfl, rfl,
    (by decide +kernel)⟩,
   ⟨preempting, 0, _, _, sendingCopy, 168, (by decide +kernel), (by decide +kernel), (by decide +kernel), rfl, rfl, (by decide +kernel),
    (by decide +kernel), (by decide +kernel)⟩,
   ⟨preemptLate, 0, _, _, lateCopy, (by decide +kernel), (by decide +kernel), (by decide +kernel), rfl, rfl, (by decide +kernel), (by decide +kernel),
    (by decide +kernel)⟩,
   ⟨preemptSoon, 0, _, _, soonCopy, (by decide +kernel), (by decide +kernel), (by decide +kernel), rfl, rfl, (by decide +kernel), (by decide +kernel)⟩,
   ⟨{ up0 with dp := { up0.dp with holdAt := [(0, some 4)] } }.setFld F.MM_STATUS_HOLD 0 1, 0, (by decide +kernel), (by decide +kernel),
    (by decide +kernel)⟩,
   ⟨up0, 0, (by decide +kernel)⟩⟩

theorem witness_PortFlushAndHoldComplete_2 :
    (∃ (s : State) (q : Requester) (p : Nat) (w : Word), works (.sdTxEqWrite q p w) s = true ∧ bitsOf w.toNat 0 4 + bitsOf w.toNat 4 6 + bitsOf
      w.toNat 10 5 ≤ 63 ∧ bitsOf w.toNat 0 4 + bitsOf w.toNat 10 5 ≤ bitsOf w.toNat 4 6) :=
  ⟨up0, .jtag, 0, 0x200, (by decide +kernel), (by decide +kernel), (by decide +kernel)⟩

theorem witness_PipelineAndFarLookupComplete :
    (∃ (s : State) (f : Nat) (win : List Byte) (len : Nat) (u : LookupUe) (x : ActUe) (fr : Frame), works (.pipelineEntry f win len u x) s = true ∧
      frameAt f s = some fr ∧ fr.stage = .receiving ∧ fr.len = none ∧ windowFull fr win len s = true ∧ isMacControl (win.take 192) = false ∧ isPtp
      fr.port (win.take 192) s = false) ∧
    (∃ (s : State) (f : Nat) (win : List Byte) (len : Nat) (u : LookupUe) (x : ActUe) (fr : Frame) (n : Nat), works (.pipelineEntry f win len u x) s =
      true ∧ frameAt f s = some fr ∧ fr.stage = .receiving ∧ fr.len = some n ∧ windowFull fr win len s = true ∧ isMacControl fr.bytes = false ∧ isPtp
      fr.port fr.bytes s = false) ∧
    (∃ (s : State) (k : Nat) (x : Nat × Nat) (fr : Frame), works .farLookupIssue s = true ∧ k < 4 ∧ s.dp.farPending.find? (fun y => y.1 ==
      (s.dp.farLast + 1 + k) % 4) = some x ∧ ((∀ i, i < k → s.dp.farPending.find? (fun y => y.1 == (s.dp.farLast + 1 + i) % 4) = none)) ∧ frameAt x.2
      s = some fr) ∧
    (∃ (s : State) (f : Nat) (x : ActUe) (fr : Frame), works (.farLookupResult f .ue x) s = true ∧ frameAt f s = some fr ∧ fr.stage = .farWait ∧
      s.dp.farIssued.any (fun x => x.2 == f) = true) ∧
    (∃ (s : State) (f : Nat) (ecc : Ecc) (x : ActUe) (fr : Frame) (a : Nat) (e : EmEntry), works (.farLookupResult f ecc x) s = true ∧ frameAt f s =
      some fr ∧ fr.stage = .farWait ∧ s.dp.farIssued.any (fun x => x.2 == f) = true ∧ ecc ≠ .ue ∧ farFind (dieOf fr.port) (bridgeKey fr.cls.vid
      fr.cls.da) s = some (a, e)) ∧
    (∃ (s : State) (f : Nat) (ecc : Ecc) (x : ActUe) (fr : Frame), works (.farLookupResult f ecc x) s = true ∧ frameAt f s = some fr ∧ fr.stage =
      .farWait ∧ s.dp.farIssued.any (fun x => x.2 == f) = true ∧ ecc ≠ .ue ∧ farFind (dieOf fr.port) (bridgeKey fr.cls.vid fr.cls.da) s = none) ∧
    (∃ (s : State) (f : Nat) (fr : Frame), works (.farLookupTimeout f) s = true ∧ frameAt f s = some fr ∧ fr.stage = .farWait) :=
  ⟨⟨received, 5, List.replicate 192 0, 200, {}, {}, { port := 0 }, (by decide +kernel), (by decide +kernel), (by decide +kernel), (by decide +kernel),
    (by decide +kernel), (by decide +kernel), (by decide +kernel)⟩,
   ⟨setFrame 5 { port := 0, len := some 0 } up0, 5, [], 64, {}, {}, { port := 0, len := some 0 }, 0, (by decide +kernel), (by decide +kernel),
    (by decide +kernel), (by decide +kernel), (by decide +kernel), (by decide +kernel), (by decide +kernel)⟩,
   ⟨farQueued, 2, (2, 5), { port := 256 }, (by decide +kernel), (by decide +kernel), (by decide +kernel), (by decide +kernel), (by decide +kernel)⟩,
   ⟨farWaiting, 5, {}, { port := 0, stage := .farWait }, (by decide +kernel), (by decide +kernel), (by decide +kernel), (by decide +kernel)⟩,
   ⟨farKnown, 5, .ok, {}, { port := 0, stage := .farWait }, farSlot, farEntry, (by decide +kernel), (by decide +kernel), (by decide +kernel),
    (by decide +kernel), (by decide +kernel), (by decide +kernel)⟩,
   ⟨farWaiting, 5, .ok, {}, { port := 0, stage := .farWait }, (by decide +kernel), (by decide +kernel), (by decide +kernel), (by decide +kernel),
    (by decide +kernel), (by decide +kernel)⟩,
   ⟨farWaiting, 5, { port := 0, stage := .farWait }, (by decide +kernel), (by decide +kernel), (by decide +kernel)⟩⟩

theorem witness_TcamCommandsComplete_1 :
    (∃ (s : State) (q : Requester) (d j : Nat), works (.tcamRead q d j) s = true ∧ windowServes q j = true ∧ s.fld F.TCAM_STATUS_BUSY (d * 2 + j) = 0) ∧
    (∃ (s : State) (q : Requester) (d j : Nat), works (.tcamWrite q d j) s = true ∧ windowServes q j = true ∧ s.fld F.TCAM_STATUS_BUSY (d * 2 + j) =
      0) ∧
    (∃ (s : State) (q : Requester) (d j : Nat), works (.tcamClear q d j) s = true ∧ windowServes q j = true ∧ s.fld F.TCAM_STATUS_BUSY (d * 2 + j) =
      0) ∧
    (∃ (s : State) (q : Requester) (d j : Nat), works (.tcamMove q d j) s = true ∧ windowServes q j = true ∧ s.fld F.TCAM_STATUS_BUSY (d * 2 + j) = 0) ∧
    (∃ (s : State) (q : Requester) (d j part : Nat), works (.tcamInsert q d j part) s = true ∧ windowServes q j = true ∧ s.fld F.TCAM_STATUS_BUSY (d *
      2 + j) = 0) ∧
    (∃ (s : State) (q : Requester) (d j part : Nat), works (.tcamDelete q d j part) s = true ∧ windowServes q j = true ∧ s.fld F.TCAM_STATUS_BUSY (d *
      2 + j) = 0) ∧
    (∃ (s : State) (q : Requester) (d j part : Nat), works (.tcamSearch q d j part) s = true ∧ windowServes q j = true ∧ s.fld F.TCAM_STATUS_BUSY (d *
      2 + j) = 0) ∧
    (∃ (s : State) (d j : Nat) (ue : List (Nat × Bool)) (c : TcamCmd) (s0 : State) (p : Part) (e : Nat), works (.tcamCommandEnd d ⟨j, ue⟩) s = true ∧
      s.tb.tcamRun.find? (fun c => c.d == d) = some c ∧ c.j = j ∧ { s with tb := { s.tb with tcamRun := s.tb.tcamRun.filter (fun x => x != c) } } = s0
      ∧ c.op = 1 ∧ partAt c.d c.addr s0 = some (p, e) ∧ groupOut c.d p.g c.addr s0 = false) ∧
    (∃ (s : State) (d j : Nat) (ue : List (Nat × Bool)) (c : TcamCmd) (s0 : State) (p : Part) (e : Nat), works (.tcamCommandEnd d ⟨j, ue⟩) s = true ∧
      s.tb.tcamRun.find? (fun c => c.d == d) = some c ∧ c.j = j ∧ { s with tb := { s.tb with tcamRun := s.tb.tcamRun.filter (fun x => x != c) } } = s0
      ∧ c.op = 2 ∧ partAt c.d c.addr s0 = some (p, e) ∧ groupOut c.d p.g c.addr s0 = false ∧ ((p.routes = true → (c.entry p.g).valid = true →
      routeForm p.kind (c.entry p.g) = true ∧ keepsOrder (validEntries c.d p s0) c.addr (c.entry p.g).prio = true))) ∧
    (∃ (s : State) (d j : Nat) (ue : List (Nat × Bool)) (c : TcamCmd) (s0 : State) (p : Part) (e : Nat), works (.tcamCommandEnd d ⟨j, ue⟩) s = true ∧
      s.tb.tcamRun.find? (fun c => c.d == d) = some c ∧ c.j = j ∧ { s with tb := { s.tb with tcamRun := s.tb.tcamRun.filter (fun x => x != c) } } = s0
      ∧ c.op = 3 ∧ partAt c.d c.addr s0 = some (p, e) ∧ groupOut c.d p.g c.addr s0 = false) ∧
    (∃ (s : State) (d j : Nat) (ue : List (Nat × Bool)) (c : TcamCmd) (s0 : State) (p : Part) (ea eb : Nat), works (.tcamCommandEnd d ⟨j, ue⟩) s =
      true ∧ s.tb.tcamRun.find? (fun c => c.d == d) = some c ∧ c.j = j ∧
      { s with tb := { s.tb with tcamRun := s.tb.tcamRun.filter (fun x => x != c) } } = s0 ∧ c.op = 4 ∧ partAt c.d c.addr s0 = some (p, ea) ∧ groupOut
      c.d p.g c.addr s0 = false ∧ (tcamEntry c.d p.g c.addr s0).valid = true ∧ p.entry? c.dst = some eb ∧ groupOut c.d p.g c.dst s0 = false ∧ (tcamRow
      c.d c.dst s0).valid = false ∧ ((p.routes = true → keepsOrder (validEntries c.d p s0) c.dst (tcamEntry c.d p.g c.addr s0).prio = true))) ∧
    (∃ (s : State) (d j : Nat) (ue : List (Nat × Bool)) (c : TcamCmd) (s0 : State) (p : Part) (s1 : State) (e : CmdEnd), works (.tcamCommandEnd d ⟨j,
      ue⟩) s = true ∧ s.tb.tcamRun.find? (fun c => c.d == d) = some c ∧ c.j = j ∧
      { s with tb := { s.tb with tcamRun := s.tb.tcamRun.filter (fun x => x != c) } } = s0 ∧ c.op = 5 ∧ tcamPart c.d c.part s0 = some p ∧
      tcamInsertEntry c.d p (c.entry p.g) s0 = (s1, e) ∧ e.result = 0) :=
  ⟨⟨tcam0, .jtag, 0, 1, (by decide +kernel), (by decide +kernel), (by decide +kernel)⟩,
   ⟨tcam0, .jtag, 0, 1, (by decide +kernel), (by decide +kernel), (by decide +kernel)⟩,
   ⟨tcam0, .jtag, 0, 1, (by decide +kernel), (by decide +kernel), (by decide +kernel)⟩,
   ⟨tcam0, .jtag, 0, 1, (by decide +kernel), (by decide +kernel), (by decide +kernel)⟩,
   ⟨tcam0, .jtag, 0, 1, 0, (by decide +kernel), (by decide +kernel), (by decide +kernel)⟩,
   ⟨tcam0, .jtag, 0, 1, 0, (by decide +kernel), (by decide +kernel), (by decide +kernel)⟩,
   ⟨tcam0, .jtag, 0, 1, 0, (by decide +kernel), (by decide +kernel), (by decide +kernel)⟩,
   ⟨tcamJoin 0 1 1 0 tcam0, 0, 1, [], tcamJob 1 tcam0, _, part0, 0, (by decide +kernel), (by decide +kernel), (by decide +kernel), rfl,
    (by decide +kernel), (by decide +kernel), (by decide +kernel)⟩,
   ⟨tcamJoin 0 1 2 0 tcam0, 0, 1, [], tcamJob 2 tcam0, _, part0, 0, (by decide +kernel), (by decide +kernel), (by decide +kernel), rfl,
    (by decide +kernel), (by decide +kernel), (by decide +kernel), (by decide +kernel)⟩,
   ⟨tcamJoin 0 1 3 0 tcam0, 0, 1, [], tcamJob 3 tcam0, _, part0, 0, (by decide +kernel), (by decide +kernel), (by decide +kernel), rfl,
    (by decide +kernel), (by decide +kernel), (by decide +kernel)⟩,
   ⟨tcamJoin 0 1 4 0 tcamFull, 0, 1, [], tcamJob 4 tcamFull, _, part0, 0, 1, (by decide +kernel), (by decide +kernel), (by decide +kernel), rfl,
    (by decide +kernel), (by decide +kernel), (by decide +kernel), (by decide +kernel), (by decide +kernel), (by decide +kernel), (by decide +kernel),
    (by decide +kernel)⟩,
   ⟨tcamJoin 0 1 5 0 tcam0, 0, 1, [], tcamJob 5 tcam0, _, part0, tcamInserted.1, tcamInserted.2, (by decide +kernel), (by decide +kernel),
    (by decide +kernel), rfl, (by decide +kernel), (by decide +kernel), (by decide +kernel), (by decide +kernel)⟩⟩

theorem witness_TcamCommandsComplete_2 :
    (∃ (s : State) (d j : Nat) (ue : List (Nat × Bool)) (c : TcamCmd) (s0 : State) (p : Part) (s1 : State) (e : CmdEnd), works (.tcamCommandEnd d ⟨j,
      ue⟩) s = true ∧ s.tb.tcamRun.find? (fun c => c.d == d) = some c ∧ c.j = j ∧
      { s with tb := { s.tb with tcamRun := s.tb.tcamRun.filter (fun x => x != c) } } = s0 ∧ c.op = 6 ∧ tcamPart c.d c.part s0 = some p ∧
      tcamDeleteEntry c.d p (c.entry p.g) s0 = (s1, e) ∧ e.result = 0) ∧
    (∃ (s : State) (d j : Nat) (ue : List (Nat × Bool)) (c : TcamCmd) (s0 : State) (p : Part) (s1 : State) (a : Nat) (act : Word), works
      (.tcamCommandEnd d ⟨j, ue⟩) s = true ∧ s.tb.tcamRun.find? (fun c => c.d == d) = some c ∧ c.j = j ∧
      { s with tb := { s.tb with tcamRun := s.tb.tcamRun.filter (fun x => x != c) } } = s0 ∧ c.op = 7 ∧ tcamPart c.d c.part s0 = some p ∧
      tcamSearchEcc c.d p (c.num 0 (5 * p.g)) (c.num 20 (5 * p.g)) ue s0 = (s1, some (a, act))) ∧
    (∃ (s : State) (d j : Nat) (ue : List (Nat × Bool)) (c : TcamCmd) (s0 : State) (p : Part) (s1 : State), works (.tcamCommandEnd d ⟨j, ue⟩) s = true
      ∧ s.tb.tcamRun.find? (fun c => c.d == d) = some c ∧ c.j = j ∧ { s with tb := { s.tb with tcamRun := s.tb.tcamRun.filter (fun x => x != c) } } =
      s0 ∧ c.op = 7 ∧ tcamPart c.d c.part s0 = some p ∧ tcamSearchEcc c.d p (c.num 0 (5 * p.g)) (c.num 20 (5 * p.g)) ue s0 = (s1, none)) ∧
    (∃ (s : State) (d j : Nat) (ue : List (Nat × Bool)) (c : TcamCmd) (s0 s1 : State) (e : CmdEnd), works (.tcamCommandEnd d ⟨j, ue⟩) s = true ∧
      s.tb.tcamRun.find? (fun c => c.d == d) = some c ∧ c.j = j ∧ { s with tb := { s.tb with tcamRun := s.tb.tcamRun.filter (fun x => x != c) } } = s0
      ∧ tcamEffect c ue s0 = (s1, e) ∧ e.result ≠ 0) :=
  ⟨⟨tcamJoin 0 1 6 0 tcamFull, 0, 1, [], tcamJob 6 tcamFull, _, part0, tcamDeleted.1, tcamDeleted.2, (by decide +kernel), (by decide +kernel),
    (by decide +kernel), rfl, (by decide +kernel), (by decide +kernel), (by decide +kernel), (by decide +kernel)⟩,
   ⟨tcamJoin 0 1 7 0 tcamFull, 0, 1, [], tcamJob 7 tcamFull, _, part0, tcamFound, 0, 0, (by decide +kernel), (by decide +kernel), (by decide +kernel),
    rfl, (by decide +kernel), (by decide +kernel), (by decide +kernel)⟩,
   ⟨tcamJoin 0 1 7 0 tcam0, 0, 1, [], tcamJob 7 tcam0, _, part0, tcamMissed, (by decide +kernel), (by decide +kernel), (by decide +kernel), rfl,
    (by decide +kernel), (by decide +kernel), (by decide +kernel)⟩,
   ⟨tcamJoin 0 1 1 0 up0, 0, 1, [], tcamJob 1 up0, _, up0.setFld F.TCAM_STATUS_BUSY 1 1, endWith 4, (by decide +kernel), (by decide +kernel),
    (by decide +kernel), rfl, (by decide +kernel), (by decide +kernel)⟩⟩

theorem witness_TcamScrubAndRepairComplete :
    (∃ (s : State) (d : Nat), works (.tcamScrubSlot d .same) s = true ∧ tget 0 s.tb.scrubAt d + 1 < 32768 ∧ s.fld F.TCAM_BLK_STATUS_STATE (d * 16 +
      tget 0 s.tb.scrubAt d / 2048) = 1 ∧ rowBusy d (tget 0 s.tb.scrubAt d) s = false) ∧
    (∃ (s : State) (d : Nat), works (.tcamScrubSlot d .same) s = true ∧ tget 0 s.tb.scrubAt d = 32767 ∧ s.fld F.TCAM_BLK_STATUS_STATE (d * 16 + 15) =
      1 ∧ rowBusy d 32767 s = false) ∧
    (∃ (s : State) (d : Nat), works (.tcamScrubSlot d .unacked) s = true ∧ tget 0 s.tb.scrubAt d + 1 < 32768 ∧ s.fld F.TCAM_BLK_STATUS_STATE (d * 16 +
      tget 0 s.tb.scrubAt d / 2048) = 1) ∧
    (∃ (s : State) (d : Nat), works (.tcamScrubSlot d .shadowUe) s = true ∧ tget 0 s.tb.scrubAt d + 1 < 32768 ∧ s.fld F.TCAM_BLK_STATUS_STATE (d * 16
      + tget 0 s.tb.scrubAt d / 2048) = 1 ∧ rowBusy d (tget 0 s.tb.scrubAt d) s = false) ∧
    (∃ (s : State) (d : Nat) (ok : Bool), works (.tcamScrubSlot d (.differs ok)) s = true ∧ tget 0 s.tb.scrubAt d + 1 < 32768 ∧ s.fld
      F.TCAM_BLK_STATUS_STATE (d * 16 + tget 0 s.tb.scrubAt d / 2048) = 1 ∧ rowBusy d (tget 0 s.tb.scrubAt d) s = false) ∧
    (∃ (s : State) (d b : Nat), works (.tcamRepairEnd d b true) s = true ∧ (s.fld F.TCAM_BLK_STATUS_STATE (d * 16 + b) = 2 ∨ s.fld
      F.TCAM_BLK_STATUS_STATE (d * 16 + b) = 3)) ∧
    (∃ (s : State) (d b : Nat), works (.tcamRepairEnd d b false) s = true ∧ (s.fld F.TCAM_BLK_STATUS_STATE (d * 16 + b) = 2 ∨ s.fld
      F.TCAM_BLK_STATUS_STATE (d * 16 + b) = 3)) :=
  ⟨⟨tcam0, 0, (by decide +kernel), (by decide +kernel), (by decide +kernel), (by decide +kernel)⟩,
   ⟨{ tcam0 with tb := { tcam0.tb with scrubAt := [(0, 32767)] } }, 0, (by decide +kernel), (by decide +kernel), (by decide +kernel),
    (by decide +kernel)⟩,
   ⟨tcam0, 0, (by decide +kernel), (by decide +kernel), (by decide +kernel)⟩,
   ⟨tcam0, 0, (by decide +kernel), (by decide +kernel), (by decide +kernel), (by decide +kernel)⟩,
   ⟨tcam0, 0, true, (by decide +kernel), (by decide +kernel), (by decide +kernel), (by decide +kernel)⟩,
   ⟨up0.setFld F.TCAM_BLK_STATUS_STATE 3 2, 0, 3, (by decide +kernel), (by decide +kernel)⟩,
   ⟨up0.setFld F.TCAM_BLK_STATUS_STATE 3 3, 0, 3, (by decide +kernel), (by decide +kernel)⟩⟩

theorem witness_ExactMatchCommandsComplete_1 :
    (∃ (s : State) (q : Requester) (d j table : Nat), works (.emRead q d j table) s = true ∧ windowServes q j = true ∧ s.fld F.EM_STATUS_BUSY (d * 2 +
      j) = 0) ∧
    (∃ (s : State) (q : Requester) (d j table : Nat), works (.emLookup q d j table) s = true ∧ windowServes q j = true ∧ s.fld F.EM_STATUS_BUSY (d * 2
      + j) = 0) ∧
    (∃ (s : State) (q : Requester) (d j table : Nat), works (.emInsert q d j table) s = true ∧ windowServes q j = true ∧ s.fld F.EM_STATUS_BUSY (d * 2
      + j) = 0) ∧
    (∃ (s : State) (q : Requester) (d j table : Nat), works (.emDelete q d j table) s = true ∧ windowServes q j = true ∧ s.fld F.EM_STATUS_BUSY (d * 2
      + j) = 0) ∧
    (∃ (s : State) (q : Requester) (d j table : Nat), works (.emFlush q d j table) s = true ∧ windowServes q j = true ∧ s.fld F.EM_STATUS_BUSY (d * 2
      + j) = 0) ∧
    (∃ (s : State) (d j : Nat) (c : EmCmd) (s0 : State), works (.emCommandEnd d ⟨j, false⟩) s = true ∧ emRunning d j s = some c ∧
      { s with tb := { s.tb with emRun := s.tb.emRun.filter (fun x => x != c) } } = s0 ∧ c.op = 1 ∧ c.table = 0 ∧ c.addr < 0x81000) ∧
    (∃ (s : State) (d j : Nat) (c : EmCmd) (s0 : State), works (.emCommandEnd d ⟨j, false⟩) s = true ∧ emRunning d j s = some c ∧
      { s with tb := { s.tb with emRun := s.tb.emRun.filter (fun x => x != c) } } = s0 ∧ c.op = 1 ∧ c.table = 1 ∧ c.addr < 0x810000) ∧
    (∃ (s : State) (d j : Nat) (c : EmCmd) (s0 : State), works (.emCommandEnd d ⟨j, true⟩) s = true ∧ emRunning d j s = some c ∧
      { s with tb := { s.tb with emRun := s.tb.emRun.filter (fun x => x != c) } } = s0 ∧ c.op = 1 ∧ c.table = 0 ∧ c.addr < 0x81000) ∧
    (∃ (s : State) (d j : Nat) (c : EmCmd) (s0 : State) (a : Nat) (e : EmEntry), works (.emCommandEnd d ⟨j, false⟩) s = true ∧ emRunning d j s = some
      c ∧ { s with tb := { s.tb with emRun := s.tb.emRun.filter (fun x => x != c) } } = s0 ∧ c.op = 2 ∧ keyAllowed (c.table == 1) c.key = true ∧
      emFind c s0 = some (a, e)) ∧
    (∃ (s : State) (d j : Nat) (c : EmCmd) (s0 : State), works (.emCommandEnd d ⟨j, false⟩) s = true ∧ emRunning d j s = some c ∧
      { s with tb := { s.tb with emRun := s.tb.emRun.filter (fun x => x != c) } } = s0 ∧ c.op = 2 ∧ keyAllowed (c.table == 1) c.key = true ∧ emFind c
      s0 = none) ∧
    (∃ (s : State) (d j : Nat) (ue : Bool) (c : EmCmd) (s0 : State), works (.emCommandEnd d ⟨j, ue⟩) s = true ∧ emRunning d j s = some c ∧
      { s with tb := { s.tb with emRun := s.tb.emRun.filter (fun x => x != c) } } = s0 ∧ c.op = 2 ∧ keyAllowed (c.table == 1) c.key = false) ∧
    (∃ (s : State) (d j : Nat) (c : EmCmd) (s0 : State), works (.emCommandEnd d ⟨j, true⟩) s = true ∧ emRunning d j s = some c ∧
      { s with tb := { s.tb with emRun := s.tb.emRun.filter (fun x => x != c) } } = s0 ∧ c.op = 2 ∧ keyAllowed (c.table == 1) c.key = true) :=
  ⟨⟨up0, .jtag, 0, 1, 0, (by decide +kernel), (by decide +kernel), (by decide +kernel)⟩,
   ⟨up0, .jtag, 0, 1, 0, (by decide +kernel), (by decide +kernel), (by decide +kernel)⟩,
   ⟨up0, .jtag, 0, 1, 0, (by decide +kernel), (by decide +kernel), (by decide +kernel)⟩,
   ⟨up0, .jtag, 0, 1, 0, (by decide +kernel), (by decide +kernel), (by decide +kernel)⟩,
   ⟨up0, .jtag, 0, 1, 0, (by decide +kernel), (by decide +kernel), (by decide +kernel)⟩,
   ⟨emJoin 0 1 1 0 up0, 0, 1, emJob 1 0 up0, _, (by decide +kernel), (by decide +kernel), rfl, (by decide +kernel), (by decide +kernel),
    (by decide +kernel)⟩,
   ⟨emJoin 0 1 1 1 up0, 0, 1, emJob 1 1 up0, _, (by decide +kernel), (by decide +kernel), rfl, (by decide +kernel), (by decide +kernel),
    (by decide +kernel)⟩,
   ⟨emJoin 0 1 1 0 up0, 0, 1, emJob 1 0 up0, _, (by decide +kernel), (by decide +kernel), rfl, (by decide +kernel), (by decide +kernel),
    (by decide +kernel)⟩,
   ⟨emJoin 0 1 2 0 emKnown, 0, 1, emJob 2 0 emKnown, _, knownAddr, knownEntry, (by decide +kernel), (by decide +kernel), rfl, (by decide +kernel),
    (by decide +kernel), (by decide +kernel)⟩,
   ⟨emJoin 0 1 2 0 emKeyed, 0, 1, emJob 2 0 emKeyed, _, (by decide +kernel), (by decide +kernel), rfl, (by decide +kernel), (by decide +kernel),
    (by decide +kernel)⟩,
   ⟨emJoin 0 1 2 0 up0, 0, 1, false, emJob 2 0 up0, _, (by decide +kernel), (by decide +kernel), rfl, (by decide +kernel), (by decide +kernel)⟩,
   ⟨emJoin 0 1 2 0 emKeyed, 0, 1, emJob 2 0 emKeyed, _, (by decide +kernel), (by decide +kernel), rfl, (by decide +kernel), (by decide +kernel)⟩⟩

theorem witness_ExactMatchCommandsComplete_2 :
    (∃ (s : State) (d j : Nat) (ue : Bool) (c : EmCmd) (s0 s1 : State) (e : CmdEnd), works (.emCommandEnd d ⟨j, ue⟩) s = true ∧ emRunning d j s = some
      c ∧ { s with tb := { s.tb with emRun := s.tb.emRun.filter (fun x => x != c) } } = s0 ∧ c.op = 3 ∧ entryAllowed (c.table == 1) c.key c.action =
      true ∧ (if c.table = 0 then nearInsert c.d c.key c.action s0 else farInsert c.d c.key c.action s0) = (s1, e)) ∧
    (∃ (s : State) (d j : Nat) (ue : Bool) (c : EmCmd) (s0 : State) (a : Nat) (e : EmEntry), works (.emCommandEnd d ⟨j, ue⟩) s = true ∧ emRunning d j
      s = some c ∧ { s with tb := { s.tb with emRun := s.tb.emRun.filter (fun x => x != c) } } = s0 ∧ c.op = 4 ∧ keyAllowed (c.table == 1) c.key =
      true ∧ emFind c s0 = some (a, e)) ∧
    (∃ (s : State) (d j : Nat) (ue : Bool) (c : EmCmd) (s0 : State), works (.emCommandEnd d ⟨j, ue⟩) s = true ∧ emRunning d j s = some c ∧
      { s with tb := { s.tb with emRun := s.tb.emRun.filter (fun x => x != c) } } = s0 ∧ c.op = 5 ∧ c.table = 0) ∧
    (∃ (s : State) (d : Nat) (ue : List Nat) (r : LearnReq) (rest : List (Nat × LearnReq)) (s1 : State), works (.learnQueueHead ⟨d, ue⟩) s = true ∧
      s.dp.learnQ = (d, r) :: rest ∧ tget 0 s.dp.learnSpent d < 64 ∧ s1 = { s with dp := { s.dp with learnQ := rest } } ∧ (learnAct d r ue s1).2 =
      false) ∧
    (∃ (s : State) (d : Nat) (ue : List Nat) (r : LearnReq) (rest : List (Nat × LearnReq)) (s1 s2 : State), works (.learnQueueHead ⟨d, ue⟩) s = true ∧
      s.dp.learnQ = (d, r) :: rest ∧ tget 0 s.dp.learnSpent d < 64 ∧ s1 = { s with dp := { s.dp with learnQ := rest } } ∧ (learnAct d r ue s1) = (s2,
      true)) ∧
    (∃ (s : State) (d : Nat), works (.learnTokenRefill d) s = true) ∧
    (∃ (s : State) (d : Nat) (hits : List Nat) (x a : Nat) (e : EmEntry), works (.agePassStart ⟨d, hits⟩) s = true ∧ s.tb.near = [(x, e)] ∧ x / 2 ^ 20
      = d ∧ x % 2 ^ 20 = a ∧ nearAt d a s = e ∧ e.learned = true ∧ e.lock = 0 ∧ (e.hit || hits.contains a) = true) ∧
    (∃ (s : State) (d : Nat) (hits : List Nat) (x a : Nat) (e : EmEntry), works (.agePassStart ⟨d, hits⟩) s = true ∧ s.tb.near = [(x, e)] ∧ x / 2 ^ 20
      = d ∧ x % 2 ^ 20 = a ∧ nearAt d a s = e ∧ e.learned = true ∧ e.lock = 0 ∧ (e.hit || hits.contains a) = true) ∧
    (∃ (s : State) (d : Nat) (hits : List Nat) (x a : Nat) (e : EmEntry), works (.agePassStart ⟨d, hits⟩) s = true ∧ s.tb.near = [(x, e)] ∧ x / 2 ^ 20
      = d ∧ x % 2 ^ 20 = a ∧ nearAt d a s = e ∧ e.learned = true ∧ e.lock = 0 ∧ (e.hit || hits.contains a) = false) :=
  ⟨⟨emJoin 0 1 3 0 emKeyed, 0, 1, false, emJob 3 0 emKeyed, _, emInserted.1, emInserted.2, (by decide +kernel), (by decide +kernel), rfl,
    (by decide +kernel), (by decide +kernel), (by decide +kernel)⟩,
   ⟨emJoin 0 1 4 0 emKnown, 0, 1, false, emJob 4 0 emKnown, _, knownAddr, knownEntry, (by decide +kernel), (by decide +kernel), rfl,
    (by decide +kernel), (by decide +kernel), (by decide +kernel)⟩,
   ⟨emJoin 0 1 5 0 up0, 0, 1, false, emJob 5 0 up0, _, (by decide +kernel), (by decide +kernel), rfl, (by decide +kernel), (by decide +kernel)⟩,
   ⟨learning, 0, [], station1, [], _, (by decide +kernel), (by decide +kernel), (by decide +kernel), rfl, (by decide +kernel)⟩,
   ⟨learning1, 0, [], station1, [], _, learnt2, (by decide +kernel), (by decide +kernel), (by decide +kernel), rfl, (by decide +kernel)⟩,
   ⟨up0, 0, (by decide +kernel)⟩,
   ⟨aged1, 0, [], 5, 5, hitEntry, (by decide +kernel), (by decide +kernel), (by decide +kernel), (by decide +kernel), (by decide +kernel),
    (by decide +kernel), (by decide +kernel), (by decide +kernel)⟩,
   ⟨aged2, 0, [5], 5, 5, idleEntry, (by decide +kernel), (by decide +kernel), (by decide +kernel), (by decide +kernel), (by decide +kernel),
    (by decide +kernel), (by decide +kernel), (by decide +kernel)⟩,
   ⟨aged2, 0, [], 5, 5, idleEntry, (by decide +kernel), (by decide +kernel), (by decide +kernel), (by decide +kernel), (by decide +kernel),
    (by decide +kernel), (by decide +kernel), (by decide +kernel)⟩⟩

theorem witness_HubInputAndHoldComplete :
    (∃ (s : State) (f : Nat) (scUe : Bool) (replUe : Option Nat) (ctxUe : Bool) (fr0 : Frame) (s1 s2 : State) (fr : Frame) (s3 : State), works
      (.hubInputStage f scUe replUe ctxUe) s = true ∧ frameAt f s = some fr0 ∧ fr0.stage = .classified ∧ headerUp f ctxUe s = s1 ∧ waitsUp f true s1 =
      false ∧ inputBlocked f fr0 s1 = false ∧ firstCell f { s1 with dp := { s1.dp with arrived := s1.dp.arrived.filter (fun g => g != f) } } = s2 ∧
      frameAt f s2 = some fr ∧ police fr scUe s2 = (s3, none)) ∧
    (∃ (s : State) (f : Nat) (scUe : Bool) (replUe : Option Nat) (ctxUe : Bool) (fr0 : Frame) (s1 s2 : State) (fr : Frame) (s3 : State) (fr' : Frame)
      (s4 : State), works (.hubInputStage f scUe replUe ctxUe) s = true ∧ frameAt f s = some fr0 ∧ fr0.stage = .classified ∧ headerUp f ctxUe s = s1 ∧
      waitsUp f true s1 = false ∧ inputBlocked f fr0 s1 = false ∧ firstCell f
      { s1 with dp := { s1.dp with arrived := s1.dp.arrived.filter (fun g => g != f) } } = s2 ∧ frameAt f s2 = some fr ∧ police fr scUe s2 = (s3, some
      fr') ∧ replicate f { fr' with stage := .buffered } replUe (phaseObserve { fr' with stage := .buffered } (setFrame f
      { fr' with stage := .buffered } s3)) = s4) ∧
    (∃ (s : State) (q : Nat) (c : Copy) (fr : Frame) (r : AdmitRes), works (.mcHoldRetry q) s = true ∧ s.dp.held.find? (fun c => c.q == q) = some c ∧
      frameAt c.frame s = some fr ∧ admitCopy c fr.cls.ect s = r ∧ r.wantsHold = false) ∧
    (∃ (s : State) (f : Nat), works (.mcHoldExpiry f) s = true) ∧
    (∃ (s : State) (f : Nat) (fr0 : Frame) (s1 : State) (fr : Frame) (l : Nat), works (.lastCellWritten f) s = true ∧ frameAt f s = some fr0 ∧ fr0.len
      ≠ none ∧ fr0.lastCell = false ∧ fr0.cells ≠ 0 ∧ bodyUp f s = s1 ∧ frameAt f s1 = some fr ∧ fr.len = some l ∧ waitsUp f false s1 = false) ∧
    (∃ (s : State) (f : Nat) (fr : Frame), works (.frameEligible f) s = true ∧ frameAt f s = some fr) :=
  ⟨⟨overSdu, 5, false, none, false, classFrame, _, _, sduIn5, sduOut, (by decide +kernel), (by decide +kernel), (by decide +kernel), rfl,
    (by decide +kernel), (by decide +kernel), rfl, (by decide +kernel), (by decide +kernel)⟩,
   ⟨classified5, 5, false, none, false, classFrame, _, _, classIn5, classPol, classPol5, _, (by decide +kernel), (by decide +kernel),
    (by decide +kernel), rfl, (by decide +kernel), (by decide +kernel), rfl, (by decide +kernel), (by decide +kernel), rfl⟩,
   ⟨holding, 0, heldCopy, { port := 0 }, holdAdmit, (by decide +kernel), (by decide +kernel), (by decide +kernel), (by decide +kernel),
    (by decide +kernel)⟩,
   ⟨up0, 5, (by decide +kernel)⟩,
   ⟨setFrame 5 { port := 513, len := some 64, cells := 1, stage := .buffered } up0, 5,
    { port := 513, len := some 64, cells := 1, stage := .buffered }, _, { port := 513, len := some 64, cells := 1, stage := .buffered }, 64,
    (by decide +kernel), (by decide +kernel), (by decide +kernel), (by decide +kernel), (by decide +kernel), rfl, (by decide +kernel),
    (by decide +kernel), (by decide +kernel)⟩,
   ⟨received, 5, { port := 0 }, (by decide +kernel), (by decide +kernel)⟩⟩

theorem witness_JunctionsAndSchedulerComplete_1 :
    (∃ (s : State) (x : Nat) (s1 : State) (fr : Frame) (i : Nat), works (.contextInstall 0 x) s = true ∧ bodyUp x s = s1 ∧ frameAt x s1 = some fr ∧
      fr.coding = some (false, i) ∧ fr.port < 512 ∧ 64 ≤ fr.crossed) ∧
    (∃ (s : State) (x : Nat) (t : TxCopy) (s1 : State) (fr : Frame) (i : Nat), works (.contextInstall 1 x) s = true ∧ s.dp.tx.find? (fun t =>
      t.copy.id == x) = some t ∧ linkCarry (dieOf t.copy.port) 1 x false false s = s1 ∧ t.coding = some (false, i) ∧ frameAt t.copy.frame s1 = some fr
      ∧ 64 ≤ crossedDown t s1) ∧
    (∃ (s : State) (d j i gen : Nat), works (.contextAck d j i gen) s = true ∧ (linkOf d j s).acks.contains (i, gen) = true ∧ gen = s.fld
      F.RLF_STATUS_GEN d ∧ (tget ({} : Ctx) s.dp.sendCtx (ctxKey d j i)).state = 1) ∧
    (∃ (s : State) (d j i gen : Nat), works (.contextAck d j i gen) s = true ∧ (linkOf d j s).acks.contains (i, gen) = true ∧ gen ≠ s.fld
      F.RLF_STATUS_GEN d) ∧
    (∃ (s : State) (d j i : Nat), works (.contextInval d j i) s = true ∧ (linkOf d j s).invals.contains i = true) ∧
    (∃ (s : State) (d j : Nat) (bs : List Byte), works (.flitCrcError d j bs) s = true ∧ tget false s.dp.retraining d = false ∧ bs.length = 32 ∧
      flitGood (flitOut (linkOf d j s)).2.recvSeq bs = false ∧ tget 0 s.dp.flitFails (d * 2 + j) < 7) ∧
    (∃ (s : State) (d j : Nat) (bs : List Byte), works (.flitCrcError d j bs) s = true ∧ tget false s.dp.retraining d = false ∧ bs.length = 32 ∧
      flitGood (flitOut (linkOf d j s)).2.recvSeq bs = false ∧ 7 ≤ tget 0 s.dp.flitFails (d * 2 + j)) ∧
    (∃ (s : State) (d : Nat) (s1 s2 : State), works (.retrainEnd d true) s = true ∧ tget false s.dp.retraining d = true ∧ tget false s.dp.linkDead d =
      false ∧ { s with dp := { s.dp with retraining := tset false s.dp.retraining d false } } = s1 ∧ raiseSrc 10 (s1.setFlds [(F.RLF_STATUS_TRAINED,
      d, 1), (F.DIE_STATUS_LINK_UP, 0, setBit (s1.fld F.DIE_STATUS_LINK_UP 0) d true)]) = s2) ∧
    (∃ (s : State) (d : Nat) (s1 : State), works (.retrainEnd d false) s = true ∧ tget false s.dp.retraining d = true ∧ tget false s.dp.linkDead d =
      false ∧ raiseFault 4 d 0 { s with dp := { s.dp with linkDead := tset false s.dp.linkDead d true } } = s1) ∧
    (∃ (s : State), works .qAvgUpdate s = true) ∧
    (∃ (s : State) (p : Nat) (ecc : Ecc) (cell bufLen : Nat) (c : Copy) (s1 : State), works (.schedulerSelect p ecc cell bufLen) s = true ∧ (p = 512 ∨
      p = 513) ∧ selectFrom p (queuesOf p).reverse false s = (s1, some c)) ∧
    (∃ (s : State) (p : Nat) (ecc : Ecc) (cell bufLen : Nat) (c : Copy) (s1 : State), works (.schedulerSelect p ecc cell bufLen) s = true ∧ p < 512 ∧
      selectFrom p (queuesOf p).reverse false ((queuesOf p).foldl (fun s q => lateCheck q s) s) = (s1, some c)) :=
  ⟨⟨setFrame 5 installFrame up0, 5, _, installFrame, 3, (by decide +kernel), rfl, (by decide +kernel), (by decide +kernel), (by decide +kernel),
    (by decide +kernel)⟩,
   ⟨installing, 9, codedCopy, _, { port := 0 }, 3, (by decide +kernel), (by decide +kernel), rfl, (by decide +kernel), (by decide +kernel),
    (by decide +kernel)⟩,
   ⟨acked, 0, 0, 7, 0, (by decide +kernel), (by decide +kernel), (by decide +kernel), (by decide +kernel)⟩,
   ⟨acked, 0, 0, 7, 1, (by decide +kernel), (by decide +kernel), (by decide +kernel)⟩,
   ⟨setLink 0 0 { invals := [7] } up0, 0, 0, 7, (by decide +kernel), (by decide +kernel)⟩,
   ⟨up0, 0, 1, List.replicate 32 1, (by decide +kernel), (by decide +kernel), (by decide +kernel), (by decide +kernel), (by decide +kernel)⟩,
   ⟨{ up0 with dp := { up0.dp with flitFails := [(1, 7)] } }, 0, 1, List.replicate 32 1, (by decide +kernel), (by decide +kernel),
    (by decide +kernel), (by decide +kernel), (by decide +kernel)⟩,
   ⟨{ up0 with dp := { up0.dp with retraining := [(1, true)] } }, 1, _, _, (by decide +kernel), (by decide +kernel), (by decide +kernel), rfl, rfl⟩,
   ⟨{ up0 with dp := { up0.dp with retraining := [(1, true)] } }, 1, _, (by decide +kernel), (by decide +kernel), (by decide +kernel), rfl⟩,
   ⟨up0, (by decide +kernel)⟩,
   ⟨selecting, 513, .ok, 0, 0, meCopy, selected, (by decide +kernel), (by decide +kernel), (by decide +kernel)⟩,
   ⟨selectingPort, 0, .ok, 0, 0, waitCopy, selectedPort, (by decide +kernel), (by decide +kernel), (by decide +kernel)⟩⟩

theorem witness_JunctionsAndSchedulerComplete_2 :
    (∃ (s : State) (p : Nat) (ecc : Ecc) (cell bufLen : Nat) (s1 : State), works (.schedulerSelect p ecc cell bufLen) s = true ∧ p < 512 ∧ selectFrom
      p (queuesOf p).reverse false ((queuesOf p).foldl (fun s q => lateCheck q s) s) = (s1, none) ∧ s1.fld F.PORT_STATUS_LINK_UP p = 1 ∧ tget false
      s1.dp.retraining (dieOf p) = false) ∧
    (∃ (s : State) (x : Nat) (ctxUe : Bool) (t0 : TxCopy) (s1 : State) (t : TxCopy) (fr : Frame) (te : Nat), works (.egressCopyArrival x none ctxUe) s
      = true ∧ s.dp.tx.find? (fun t => t.copy.id == x) = some t0 ∧ t0.edited = false ∧ linkCarry (dieOf t0.copy.port) 1 x true ctxUe s = s1 ∧
      flitWaits (dieOf t0.copy.port) 1 x true s1 = false ∧ s1.dp.tx.find? (fun t => t.copy.id == x) = some t ∧ frameAt t.copy.frame s1 = some fr ∧
      (rewriteBody t.copy (arrivedBody t.copy fr s1) s1).2.2 = none ∧ ¬ (t.copy.ct = false ∧ s1.fld F.PORT_CFG_MAX_FRAME t.copy.port < (padBody
      (finalBody { t with bytes := (rewriteBody t.copy (arrivedBody t.copy fr s1) s1).1, taken := (arrivedBody t.copy fr s1).length } fr s1)).length +
      4) ∧ egressMilestone t.copy s1 = te) ∧
    (∃ (s : State) (x : Nat) (ctxUe : Bool) (k : Nat) (t0 : TxCopy) (s1 : State) (t : TxCopy) (fr : Frame), works (.egressCopyArrival x (some k)
      ctxUe) s = true ∧ s.dp.tx.find? (fun t => t.copy.id == x) = some t0 ∧ t0.edited = false ∧ linkCarry (dieOf t0.copy.port) 1 x true ctxUe s = s1 ∧
      flitWaits (dieOf t0.copy.port) 1 x true s1 = false ∧ s1.dp.tx.find? (fun t => t.copy.id == x) = some t ∧ t.copy.id = x ∧ frameAt t.copy.frame s1
      = some fr) ∧
    (∃ (s : State) (x : Nat) (t0 : TxCopy) (s1 : State) (t : TxCopy) (fr : Frame), works (.txFrameEnd x) s = true ∧ s.dp.tx.find? (fun t => t.copy.id
      == x) = some t0 ∧ t0.stage = .sending ∧ t0.ended = true ∧ linkCarry (dieOf t0.copy.port) 1 x false false s = s1 ∧ flitWaits (dieOf t0.copy.port)
      1 x false s1 = false ∧ s1.dp.tx.find? (fun t => t.copy.id == x) = some t ∧ frameAt t.copy.frame s1 = some fr ∧ fr.len ≠ none ∧ (wireBytes t fr
      s1).2.1 = false ∧ (wireBytes t fr s1).2.2 = false ∧ t.frags = 0) :=
  ⟨⟨up0, 0, .ok, 0, 0, (selectFrom 0 (queuesOf 0).reverse false ((queuesOf 0).foldl (fun s q => lateCheck q s) up0)).1, (by decide +kernel),
    (by decide +kernel), (by decide +kernel), (by decide +kernel), (by decide +kernel)⟩,
   ⟨arriving, 9, false, arrivedCopy, _, arrivedCopy, { port := 0 }, egressMilestone arrivedCopy.copy (linkCarry 0 1 9 true false arriving),
    (by decide +kernel), (by decide +kernel), (by decide +kernel), rfl, (by decide +kernel), (by decide +kernel), (by decide +kernel),
    (by decide +kernel), (by decide +kernel), (by decide +kernel)⟩,
   ⟨arriving, 9, false, 0, arrivedCopy, _, arrivedCopy, { port := 0 }, (by decide +kernel), (by decide +kernel), (by decide +kernel), rfl,
    (by decide +kernel), (by decide +kernel), (by decide +kernel), (by decide +kernel)⟩,
   ⟨leaving, 9, leavingCopy, _, leavingCopy, { port := 0, len := some 0 }, (by decide +kernel), (by decide +kernel), (by decide +kernel),
    (by decide +kernel), rfl, (by decide +kernel), (by decide +kernel), (by decide +kernel), (by decide +kernel), (by decide +kernel),
    (by decide +kernel), (by decide +kernel)⟩⟩

theorem witness_RewriteWindowAndEditCfgComplete :
    (∃ (s : State) (q : Requester) (j table : Nat) (s1 : State), works (.rwRead q j ⟨table, false⟩) s = true ∧ windowServes q j = true ∧ s.fld
      F.RW_STATUS_BUSY j = 0 ∧ s.setFld F.RW_STATUS_BUSY j 1 = s1 ∧ s1.fld F.RW_INDEX j < rwCount table) ∧
    (∃ (s : State) (q : Requester) (j table : Nat) (ue : Bool) (s1 : State), works (.rwRead q j ⟨table, ue⟩) s = true ∧ windowServes q j = true ∧
      s.fld F.RW_STATUS_BUSY j = 0 ∧ s.setFld F.RW_STATUS_BUSY j 1 = s1 ∧ rwCount table ≤ s1.fld F.RW_INDEX j) ∧
    (∃ (s : State) (q : Requester) (j table : Nat) (s1 : State), works (.rwRead q j ⟨table, true⟩) s = true ∧ windowServes q j = true ∧ s.fld
      F.RW_STATUS_BUSY j = 0 ∧ s.setFld F.RW_STATUS_BUSY j 1 = s1 ∧ s1.fld F.RW_INDEX j < rwCount table) ∧
    (∃ (s : State) (q : Requester) (j table : Nat) (s1 : State), works (.rwWrite q j table) s = true ∧ windowServes q j = true ∧ s.fld
      F.RW_STATUS_BUSY j = 0 ∧ s.setFld F.RW_STATUS_BUSY j 1 = s1 ∧ rwCheck table (s1.fld F.RW_INDEX j) (rwData j table s1) s1 = 0) ∧
    (∃ (s : State) (q : Requester) (j table : Nat) (s1 : State) (r : Nat), works (.rwWrite q j table) s = true ∧ windowServes q j = true ∧ s.fld
      F.RW_STATUS_BUSY j = 0 ∧ s.setFld F.RW_STATUS_BUSY j 1 = s1 ∧ rwCheck table (s1.fld F.RW_INDEX j) (rwData j table s1) s1 = r ∧ r ≠ 0) ∧
    (∃ (s : State) (j : Nat) (e : CmdEnd), works (.rwCommandEnd j) s = true ∧ tget none s.tb.rwEnd j = some e) ∧
    (∃ (s : State) (q : Requester) (v : Nat), works (.editCfgWrite q false v) s = true ∧ v < 2 ^ 32) ∧
    (∃ (s : State) (q : Requester) (v : Nat), works (.editCfgWrite q true v) s = true ∧ v < 2 ^ 32 ∧ bitsOf v 16 10 ≤ 560 ∧ bitsOf v 0 4 ≤ 11) :=
  ⟨⟨up0, .jtag, 1, 0, _, (by decide +kernel), (by decide +kernel), (by decide +kernel), rfl, (by decide +kernel)⟩,
   ⟨up0.setFld F.RW_INDEX 1 256, .jtag, 1, 0, false, _, (by decide +kernel), (by decide +kernel), (by decide +kernel), rfl, (by decide +kernel)⟩,
   ⟨up0, .jtag, 1, 0, _, (by decide +kernel), (by decide +kernel), (by decide +kernel), rfl, (by decide +kernel)⟩,
   ⟨up0, .jtag, 1, 1, _, (by decide +kernel), (by decide +kernel), (by decide +kernel), rfl, (by decide +kernel)⟩,
   ⟨up0.setFld F.RW_INDEX 1 256, .jtag, 1, 0, _, 1, (by decide +kernel), (by decide +kernel), (by decide +kernel), rfl, (by decide +kernel),
    (by decide +kernel)⟩,
   ⟨rwPends 0 (endWith 1) up0, 0, endWith 1, (by decide +kernel), (by decide +kernel)⟩,
   ⟨up0, .jtag, 0x88A8, (by decide +kernel), (by decide +kernel)⟩,
   ⟨up0, .jtag, 0, (by decide +kernel), (by decide +kernel), (by decide +kernel), (by decide +kernel)⟩⟩

theorem witness_GateListsComplete :
    (∃ (s : State) (q : Requester) (p gates : Nat), works (.gclChangeReq q p gates) s = true ∧ s.fld F.GCL_STATUS_CHANGE_PENDING p = 0) ∧
    (∃ (s : State) (q : Requester) (p gates : Nat), works (.gclChangeReq q p gates) s = true ∧ s.fld F.GCL_STATUS_CHANGE_PENDING p = 1) ∧
    (∃ (s : State) (q : Requester) (p gates : Nat) (r : GateRun), works (.gclCancel q p gates) s = true ∧ tget none s.dp.gclPending p = some r ∧
      s.work + 1000 * nsUnit ≤ r.base * nsUnit) ∧
    (∃ (s : State) (p : Nat) (r : GateRun), works (.gclChangeApply p) s = true ∧ tget none s.dp.gclPending p = some r) ∧
    (∃ (s : State) (p x : Nat) (r : GateRun) (k : Nat), works (.gateEntryBegin p x false) s = true ∧ tget none s.dp.gclOper p = some r ∧ x < r.len ∧
      s.fld F.PORT_SCH_CFG_GATE_EN p = 1 ∧ (p * 2 + tget 0 s.dp.operList p) * 1024 + x = k ∧ preemptActive p s = false) ∧
    (∃ (s : State) (p x : Nat) (r : GateRun) (k : Nat) (s1 : State), works (.gateEntryBegin p x true) s = true ∧ tget none s.dp.gclOper p = some r ∧ x
      < r.len ∧ s.fld F.PORT_SCH_CFG_GATE_EN p = 1 ∧ (p * 2 + tget 0 s.dp.operList p) * 1024 + x = k ∧ preemptActive p s = false ∧ raiseFault 11 4 p
      (raiseSrc 139 ({ s with tb := { s.tb with gcl := tset 0 s.tb.gcl k (tget 0 s.tb.gclShadow k) } }.bump F.SCH_UE 0)) = s1) ∧
    (∃ (s : State) (p x : Nat) (r : GateRun) (k : Nat), works (.gateEntryBegin p x false) s = true ∧ tget none s.dp.gclOper p = some r ∧ x < r.len ∧
      s.fld F.PORT_SCH_CFG_GATE_EN p = 1 ∧ (p * 2 + tget 0 s.dp.operList p) * 1024 + x = k ∧ preemptActive p s = true ∧ bitsOf (tget 0 s.tb.gcl k) 30
      2 = 1 ∧ s.fld F.MM_STATUS_HOLD p = 0) ∧
    (∃ (s : State) (p x : Nat) (r : GateRun) (k : Nat), works (.gateEntryBegin p x false) s = true ∧ tget none s.dp.gclOper p = some r ∧ x < r.len ∧
      s.fld F.PORT_SCH_CFG_GATE_EN p = 1 ∧ (p * 2 + tget 0 s.dp.operList p) * 1024 + x = k ∧ preemptActive p s = true ∧ bitsOf (tget 0 s.tb.gcl k) 30
      2 = 2) ∧
    (∃ (s : State) (p : Nat), works (.deadlineSlotAdvance p) s = true) :=
  ⟨⟨up0, .jtag, 0, 255, (by decide +kernel), (by decide +kernel)⟩,
   ⟨up0.setFld F.GCL_STATUS_CHANGE_PENDING 0 1, .jtag, 0, 255, (by decide +kernel), (by decide +kernel)⟩,
   ⟨changing, .jtag, 0, 255, { base := 5000, len := 1 }, (by decide +kernel), (by decide +kernel), (by decide +kernel)⟩,
   ⟨changing, 0, { base := 5000, len := 1 }, (by decide +kernel), (by decide +kernel)⟩,
   ⟨gateRunning, 0, 0, { base := 5000, len := 1 }, 0, (by decide +kernel), (by decide +kernel), (by decide +kernel), (by decide +kernel),
    (by decide +kernel), (by decide +kernel)⟩,
   ⟨gateRunning, 0, 0, { base := 5000, len := 1 }, 0, _, (by decide +kernel), (by decide +kernel), (by decide +kernel), (by decide +kernel),
    (by decide +kernel), (by decide +kernel), rfl⟩,
   ⟨gateHold, 0, 0, { base := 5000, len := 1 }, 0, (by decide +kernel), (by decide +kernel), (by decide +kernel), (by decide +kernel),
    (by decide +kernel), (by decide +kernel), (by decide +kernel), (by decide +kernel)⟩,
   ⟨gateFree, 0, 0, { base := 5000, len := 1 }, 0, (by decide +kernel), (by decide +kernel), (by decide +kernel), (by decide +kernel),
    (by decide +kernel), (by decide +kernel), (by decide +kernel)⟩,
   ⟨late1, 0, (by decide +kernel)⟩⟩

theorem witness_StreamTablesComplete_1 :
    (∃ (s : State) (q : Requester) (j table : Nat) (s1 : State), works (.scRead q j ⟨table, false⟩) s = true ∧ windowServes q j = true ∧ table < 7 ∧
      s.fld F.SC_STATUS_BUSY j = 0 ∧ s.setFld F.SC_STATUS_BUSY j 1 = s1 ∧ s1.fld F.SC_INDEX j < scCount table) ∧
    (∃ (s : State) (q : Requester) (j table : Nat) (s1 : State), works (.scRead q j ⟨table, true⟩) s = true ∧ windowServes q j = true ∧ table < 7 ∧
      s.fld F.SC_STATUS_BUSY j = 0 ∧ s.setFld F.SC_STATUS_BUSY j 1 = s1 ∧ s1.fld F.SC_INDEX j < scCount table) ∧
    (∃ (s : State) (q : Requester) (j table : Nat) (s1 : State), works (.scWrite q j table) s = true ∧ windowServes q j = true ∧ 3 < table ∧ table < 7
      ∧ s.fld F.SC_STATUS_BUSY j = 0 ∧ s.setFld F.SC_STATUS_BUSY j 1 = s1 ∧ s1.fld F.SC_INDEX j < scCount table) ∧
    (∃ (s : State) (q : Requester) (j : Nat) (s1 : State), works (.scWrite q j 0) s = true ∧ windowServes q j = true ∧ s.fld F.SC_STATUS_BUSY j = 0 ∧
      s.setFld F.SC_STATUS_BUSY j 1 = s1 ∧ s1.fld F.SC_INDEX j < scCount 0 ∧ ctxOk (fun w => scMerge 0 w (scWord 0 (s1.fld F.SC_INDEX j) w s1) (s1.fld
      F.SC_DATA (j * 8 + w))) = true ∧ bitsOf (scWord 0 (s1.fld F.SC_INDEX j) 4 s1) 22 9 = bitsOf ((fun w => scMerge 0 w (scWord 0 (s1.fld F.SC_INDEX
      j) w s1) (s1.fld F.SC_DATA (j * 8 + w))) 4) 22 9) ∧
    (∃ (s : State) (q : Requester) (j : Nat) (s1 : State), works (.scWrite q j 0) s = true ∧ windowServes q j = true ∧ s.fld F.SC_STATUS_BUSY j = 0 ∧
      s.setFld F.SC_STATUS_BUSY j 1 = s1 ∧ s1.fld F.SC_INDEX j < scCount 0 ∧ ctxOk (fun w => scMerge 0 w (scWord 0 (s1.fld F.SC_INDEX j) w s1) (s1.fld
      F.SC_DATA (j * 8 + w))) = true ∧ bitsOf (scWord 0 (s1.fld F.SC_INDEX j) 4 s1) 22 9 ≠ bitsOf ((fun w => scMerge 0 w (scWord 0 (s1.fld F.SC_INDEX
      j) w s1) (s1.fld F.SC_DATA (j * 8 + w))) 4) 22 9) ∧
    (∃ (s : State) (q : Requester) (j : Nat) (s1 : State), works (.scWrite q j 1) s = true ∧ windowServes q j = true ∧ s.fld F.SC_STATUS_BUSY j = 0 ∧
      s.setFld F.SC_STATUS_BUSY j 1 = s1 ∧ s1.fld F.SC_INDEX j < scCount 1 ∧ (gateSt (s1.fld F.SC_INDEX j) s1).pending = none) ∧
    (∃ (s : State) (q : Requester) (j : Nat) (s1 : State), works (.scWrite q j 2) s = true ∧ windowServes q j = true ∧ s.fld F.SC_STATUS_BUSY j = 0 ∧
      s.setFld F.SC_STATUS_BUSY j 1 = s1 ∧ s1.fld F.SC_INDEX j < scCount 2 ∧ poolLocked (s1.fld F.SC_INDEX j) s1 = false) ∧
    (∃ (s : State) (q : Requester) (j : Nat) (s1 : State), works (.scWrite q j 3) s = true ∧ windowServes q j = true ∧ s.fld F.SC_STATUS_BUSY j = 0 ∧
      s.setFld F.SC_STATUS_BUSY j 1 = s1 ∧ s1.fld F.SC_INDEX j < scCount 3 ∧ meterOk (fun w => scMerge 3 w (scWord 3 (s1.fld F.SC_INDEX j) w s1)
      (s1.fld F.SC_DATA (j * 8 + w))) = true) ∧
    (∃ (s : State) (q : Requester) (j table : Nat) (s1 : State), works (.scWrite q j table) s = true ∧ windowServes q j = true ∧ table < 7 ∧ s.fld
      F.SC_STATUS_BUSY j = 0 ∧ s.setFld F.SC_STATUS_BUSY j 1 = s1 ∧ scCount table ≤ s1.fld F.SC_INDEX j) ∧
    (∃ (s : State) (q : Requester) (j : Nat) (s1 : State) (g base : Nat), works (.scChange q j 1) s = true ∧ windowServes q j = true ∧ s.fld
      F.SC_STATUS_BUSY j = 0 ∧ s.setFld F.SC_STATUS_BUSY j 1 = s1 ∧ s1.fld F.SC_INDEX j = g ∧ g < 4096 ∧ (gateSt g s1).pending = none ∧ gateListOk g
      s1 = true ∧ listStart (baseNs (scWord 1 g 3 s1) (scWord 1 g 4 s1) (scWord 1 g 5 s1)) (scFld 1 g 2 29 0 s1) s1.workNsUp = (base, false)) ∧
    (∃ (s : State) (j : Nat) (e : CmdEnd), works (.scCommandEnd j) s = true ∧ tget none s.tb.scEnd j = some e) ∧
    (∃ (s : State) (g : Nat) (r : GateRun), works (.streamGateChangeApply g) s = true ∧ (gateSt g s).pending = some r) :=
  ⟨⟨up0, .jtag, 1, 3, _, (by decide +kernel), (by decide +kernel), (by decide +kernel), (by decide +kernel), rfl, (by decide +kernel)⟩,
   ⟨up0, .jtag, 1, 3, _, (by decide +kernel), (by decide +kernel), (by decide +kernel), (by decide +kernel), rfl, (by decide +kernel)⟩,
   ⟨up0, .jtag, 1, 4, _, (by decide +kernel), (by decide +kernel), (by decide +kernel), (by decide +kernel), (by decide +kernel), rfl,
    (by decide +kernel)⟩,
   ⟨up0, .jtag, 1, _, (by decide +kernel), (by decide +kernel), (by decide +kernel), rfl, (by decide +kernel), (by decide +kernel),
    (by decide +kernel)⟩,
   ⟨recoverNew, .jtag, 1, _, (by decide +kernel), (by decide +kernel), (by decide +kernel), rfl, (by decide +kernel), (by decide +kernel),
    (by decide +kernel)⟩,
   ⟨up0, .jtag, 1, _, (by decide +kernel), (by decide +kernel), (by decide +kernel), rfl, (by decide +kernel), (by decide +kernel)⟩,
   ⟨up0, .jtag, 1, _, (by decide +kernel), (by decide +kernel), (by decide +kernel), rfl, (by decide +kernel), (by decide +kernel)⟩,
   ⟨metering, .jtag, 1, _, (by decide +kernel), (by decide +kernel), (by decide +kernel), rfl, (by decide +kernel), (by decide +kernel)⟩,
   ⟨up0.setFld F.SC_INDEX 1 65535, .jtag, 1, 1, _, (by decide +kernel), (by decide +kernel), (by decide +kernel), (by decide +kernel), rfl,
    (by decide +kernel)⟩,
   ⟨gateChange, .jtag, 1, _, 0, 10000, (by decide +kernel), (by decide +kernel), (by decide +kernel), rfl, (by decide +kernel), (by decide +kernel),
    (by decide +kernel), (by decide +kernel), (by decide +kernel)⟩,
   ⟨scPends 0 (endWith 1) up0, 0, endWith 1, (by decide +kernel), (by decide +kernel)⟩,
   ⟨setGateSt 3 { pending := some {} } up0, 3, {}, (by decide +kernel), (by decide +kernel)⟩⟩

theorem witness_StreamTablesComplete_2 :
    (∃ (s : State) (g x : Nat) (r : GateRun), works (.streamGateEntryBegin g x) s = true ∧ (gateSt g s).oper = some r ∧ x < r.len) ∧
    (∃ (s : State) (g : Nat), works (.streamGateRegionRelease g) s = true) ∧
    (∃ (s : State), works .shaperWheelSlot s = true ∧ s.dp.shapers = []) ∧
    (∃ (s : State) (x : Nat) (e : ShaperSt) (k : Nat) (s0 : State), works .shaperWheelSlot s = true ∧ s.dp.shapers = [(x, e)] ∧ e.wait = some k ∧
      e.overflow = false ∧ k ≤ s.cycle / 48 ∧ { s with dp := { s.dp with shaperPos := s.cycle / 48 } } = s0 ∧ shaperShort x (shaperNow x s0) s0 =
      false) ∧
    (∃ (s : State) (x : Nat), works (.ledEvaluation x) s = true ∧ scFld 0 x 5 31 31 s = 1 ∧ ¬ ((scFld 0 x 5 27 16 s : Int) < (tget ({} : RecSt)
      s.dp.recov x).ledPassed * ((scFld 0 x 5 30 28 s : Int) - 1) - (tget ({} : RecSt) s.dp.recov x).ledDiscarded)) ∧
    (∃ (s : State) (x : Nat), works (.ledEvaluation x) s = true ∧ scFld 0 x 5 31 31 s = 1 ∧ (scFld 0 x 5 27 16 s : Int) < (tget ({} : RecSt)
      s.dp.recov x).ledPassed * ((scFld 0 x 5 30 28 s : Int) - 1) - (tget ({} : RecSt) s.dp.recov x).ledDiscarded) ∧
    (∃ (s : State), works .qDepthSample s = true) :=
  ⟨⟨setGateSt 3 { oper := some { len := 2 } } up0, 3, 1, { len := 2 }, (by decide +kernel), (by decide +kernel), (by decide +kernel)⟩,
   ⟨up0, 3, (by decide +kernel)⟩,
   ⟨up0, (by decide +kernel), (by decide +kernel)⟩,
   ⟨shaping, 7, { wait := some 0 }, 0, _, (by decide +kernel), (by decide +kernel), (by decide +kernel), (by decide +kernel), (by decide +kernel),
    rfl, (by decide +kernel)⟩,
   ⟨ledding, 4, (by decide +kernel), (by decide +kernel), (by decide +kernel)⟩,
   ⟨ledFound, 4, (by decide +kernel), (by decide +kernel), (by decide +kernel)⟩,
   ⟨up0, (by decide +kernel)⟩⟩

theorem witness_ClockAndPinsComplete_1 :
    (∃ (s : State) (d : Nat) (e : Int), works (.timeBeacon d e) s = true ∧ d < 4 ∧ s.dieUp d = true ∧ tget false s.dp.retraining d = false ∧ (s.fld
      F.TIME_STATUS_FOLLOW_LOCK 0).testBit d = true ∧ e.natAbs ≤ 2 * nsUnit) ∧
    (∃ (s : State) (d : Nat) (e : Int) (s1 : State), works (.timeBeacon d e) s = true ∧ d < 4 ∧ s.dieUp d = true ∧ tget false s.dp.retraining d =
      false ∧ (s.fld F.TIME_STATUS_FOLLOW_LOCK 0).testBit d = true ∧ 2 * nsUnit < e.natAbs ∧ raiseFault 73 d 0 (raiseSrc 109 ((s.setFld
      F.TIME_STATUS_FOLLOW_LOCK 0 (setBit (s.fld F.TIME_STATUS_FOLLOW_LOCK 0) d false)).bump F.FOLLOW_UNLOCKS 0)) = s1) ∧
    (∃ (s : State) (d : Nat) (e : Int) (n : Nat), works (.timeBeacon d e) s = true ∧ d < 4 ∧ s.dieUp d = true ∧ tget false s.dp.retraining d = false ∧
      (s.fld F.TIME_STATUS_FOLLOW_LOCK 0).testBit d = false ∧ tget 0 s.time.goodBeacons d = n ∧ 0 < n ∧ n < 8 ∧ e.natAbs ≤ nsUnit) ∧
    (∃ (s : State) (d : Nat) (e : Int) (s1 : State), works (.timeBeacon d e) s = true ∧ d < 4 ∧ s.dieUp d = true ∧ tget false s.dp.retraining d =
      false ∧ (s.fld F.TIME_STATUS_FOLLOW_LOCK 0).testBit d = false ∧ tget 0 s.time.goodBeacons d = 8 ∧ e.natAbs ≤ nsUnit ∧ s.setFld
      F.TIME_STATUS_FOLLOW_LOCK 0 (setBit (s.fld F.TIME_STATUS_FOLLOW_LOCK 0) d true) = s1) ∧
    (∃ (s : State) (q : Requester) (v : Nat), works (.rateAdjWrite q v) s = true ∧ (signed32 (v % 2 ^ 32)).natAbs ≤ 2147484) ∧
    (∃ (s : State) (q : Requester) (v : Nat), works (.rateAdjWrite q v) s = true ∧ 2147484 < (signed32 (v % 2 ^ 32)).natAbs) ∧
    (∃ (s : State) (q : Requester), works (.timeStep q) s = true ∧ s.fld F.TIME_STATUS_STEP_PENDING 0 = 0) ∧
    (∃ (s : State) (q : Requester), works (.timeSet q) s = true ∧ s.fld F.TIME_STATUS_STEP_PENDING 0 = 0 ∧ s.fld F.SET_NS 0 / 4 ≤ 999999999) ∧
    (∃ (s : State) (r : Int) (a : Nat), works .applyInstant s = true ∧ s.time.ratePend = some (r, a) ∧ s.time.stepPend = none) ∧
    (∃ (s : State) (v : Int) (a : Nat) (s2 s3 : State), works .applyInstant s = true ∧ s.time.ratePend = none ∧ s.time.stepPend = some (false, v, a) ∧
      s.setFld F.TIME_STATUS_STEP_PENDING 0 0 = s2 ∧ applyStep v (s2.withTime { s2.time with stepPend := none }) = s3 ∧ s3.time.stepPend = none) ∧
    (∃ (s : State) (t : Nat) (s1 : State), works .ppsInEdge s = true ∧ s.fld F.PPS_IN_CFG 0 = 1 ∧ s.time.ppsLast = none ∧ s.fld
      F.TIME_STATUS_PPS_IN_LOST 0 = 0 ∧ s.work / 2 ^ 30 * 2 ^ 30 = t ∧ s.setFlds [(F.PPS_IN_TS_NS, 0, timeNsWord t), (F.PPS_IN_TS_SEC_LO, 0, timeSecLo
      t), (F.PPS_IN_TS_SEC_HI, 0, timeSecHi t)] = s1) ∧
    (∃ (s : State) (t l : Nat), works .ppsInEdge s = true ∧ s.fld F.PPS_IN_CFG 0 = 1 ∧ s.time.ppsLast = some l ∧ s.work / 2 ^ 30 * 2 ^ 30 = t ∧ l ≤ t
      ∧ t < l + 100 * nsUnit) :=
  ⟨⟨up0.setFld F.TIME_STATUS_FOLLOW_LOCK 0 15, 0, 1, (by decide +kernel), (by decide +kernel), (by decide +kernel), (by decide +kernel),
    (by decide +kernel), (by decide +kernel)⟩,
   ⟨up0.setFld F.TIME_STATUS_FOLLOW_LOCK 0 15, 0, -9000000000, _, (by decide +kernel), (by decide +kernel), (by decide +kernel), (by decide +kernel),
    (by decide +kernel), (by decide +kernel), rfl⟩,
   ⟨{ up0 with time := { up0.time with goodBeacons := [(0, 7)] } }, 0, 1, 7, (by decide +kernel), (by decide +kernel), (by decide +kernel),
    (by decide +kernel), (by decide +kernel), (by decide +kernel), (by decide +kernel), (by decide +kernel), (by decide +kernel)⟩,
   ⟨{ up0 with time := { up0.time with goodBeacons := [(0, 8)] } }, 0, 1, _, (by decide +kernel), (by decide +kernel), (by decide +kernel),
    (by decide +kernel), (by decide +kernel), (by decide +kernel), (by decide +kernel), rfl⟩,
   ⟨up0, .jtag, 2147484, (by decide +kernel), (by decide +kernel)⟩,
   ⟨up0, .jtag, 2147485, (by decide +kernel), (by decide +kernel)⟩,
   ⟨up0, .jtag, (by decide +kernel), (by decide +kernel)⟩,
   ⟨up0, .jtag, (by decide +kernel), (by decide +kernel), (by decide +kernel)⟩,
   ⟨{ up0 with time := { up0.time with ratePend := some (5, 9) } }, 5, 9, (by decide +kernel), (by decide +kernel), (by decide +kernel)⟩,
   ⟨stepping, 4, 9, _, _, (by decide +kernel), (by decide +kernel), (by decide +kernel), rfl, rfl, (by decide +kernel)⟩,
   ⟨up0.setFlds [(F.PPS_IN_CFG, 0, 1), (F.TIME_STATUS_PPS_IN_LOST, 0, 0)], 0, _, (by decide +kernel), (by decide +kernel), (by decide +kernel),
    (by decide +kernel), (by decide +kernel), rfl⟩,
   ⟨{ up0.setFld F.PPS_IN_CFG 0 1 with time := { up0.time with ppsLast := some 0 } }, 0, 0, (by decide +kernel), (by decide +kernel),
    (by decide +kernel), (by decide +kernel), (by decide +kernel), (by decide +kernel)⟩⟩

theorem witness_ClockAndPinsComplete_2 :
    (∃ (s : State), works .ppsInLossTimeout s = true ∧ s.fld F.TIME_CFG_WORK_SOURCE 0 = 2) ∧
    (∃ (s : State), works .ppsInLossTimeout s = true ∧ s.fld F.TIME_CFG_WORK_SOURCE 0 ≠ 2) ∧
    (∃ (s : State) (n : Nat) (rising : Bool) (t : Nat), works (.syncInEdge n rising) s = true ∧ n < 4 ∧ (s.fld F.SYNC_IN_CFG n).testBit (if rising
      then 0 else 1) = true ∧ tget none s.time.syncLast n = none ∧ (tget [] s.time.syncFifo n).length < 16 ∧ s.work / 2 ^ 30 * 2 ^ 30 = t) ∧
    (∃ (s : State) (n : Nat) (rising : Bool) (t : Nat), works (.syncInEdge n rising) s = true ∧ n < 4 ∧ (s.fld F.SYNC_IN_CFG n).testBit (if rising
      then 0 else 1) = true ∧ tget none s.time.syncLast n = none ∧ 16 ≤ (tget [] s.time.syncFifo n).length ∧ s.work / 2 ^ 30 * 2 ^ 30 = t) ∧
    (∃ (s : State) (n : Nat) (rising : Bool) (t l : Nat), works (.syncInEdge n rising) s = true ∧ n < 4 ∧ (s.fld F.SYNC_IN_CFG n).testBit (if rising
      then 0 else 1) = true ∧ tget none s.time.syncLast n = some l ∧ s.work / 2 ^ 30 * 2 ^ 30 = t ∧ l ≤ t ∧ t < l + 100 * nsUnit) ∧
    (∃ (s : State) (q : Requester) (n : Nat), works (.syncInTsRead q n) s = true ∧ n < 4 ∧ privileged q 3 s = true) ∧
    (∃ (s : State) (q : Requester) (n : Nat), works (.syncInTsRead q n) s = true ∧ n < 4 ∧ privileged q 3 s = false) ∧
    (∃ (s : State) (q : Requester) (d : Nat), works (.ptpTxInfoRead q d) s = true ∧ d < 4 ∧ privileged q (13 + d) s = true) ∧
    (∃ (s : State) (q : Requester) (d : Nat), works (.ptpTxInfoRead q d) s = true ∧ d < 4 ∧ privileged q (13 + d) s = false) ∧
    (∃ (s : State) (rising : Bool), works (.ppsOutEdge rising) s = true ∧ s.fld F.PPS_OUT_CFG_EN 0 = 1) ∧
    (∃ (s : State) (n : Nat) (rising : Bool), works (.syncOutEdge n rising) s = true ∧ n < 4 ∧ s.fld F.SYNC_OUT_CFG_MODE n = 2) ∧
    (∃ (s : State) (n : Nat), works (.syncOutEdge n false) s = true ∧ n < 4 ∧ s.fld F.SYNC_OUT_CFG_MODE n = 3) :=
  ⟨⟨up0.setFld F.TIME_CFG_WORK_SOURCE 0 2, (by decide +kernel), (by decide +kernel)⟩,
   ⟨up0, (by decide +kernel), (by decide +kernel)⟩,
   ⟨up0.setFld F.SYNC_IN_CFG 2 1, 2, true, 0, (by decide +kernel), (by decide +kernel), (by decide +kernel), (by decide +kernel), (by decide +kernel),
    (by decide +kernel)⟩,
   ⟨{ up0.setFld F.SYNC_IN_CFG 2 2 with time := { up0.time with syncFifo := [(2, List.replicate 16 (7, true))] } }, 2, false, 0, (by decide +kernel),
    (by decide +kernel), (by decide +kernel), (by decide +kernel), (by decide +kernel), (by decide +kernel)⟩,
   ⟨{ up0.setFld F.SYNC_IN_CFG 2 2 with time := { up0.time with syncLast := [(2, some 0)] } }, 2, false, 0, 0, (by decide +kernel),
    (by decide +kernel), (by decide +kernel), (by decide +kernel), (by decide +kernel), (by decide +kernel), (by decide +kernel)⟩,
   ⟨up0, .jtag, 2, (by decide +kernel), (by decide +kernel), (by decide +kernel)⟩,
   ⟨up0, .smbus, 2, (by decide +kernel), (by decide +kernel), (by decide +kernel)⟩,
   ⟨up0, .jtag, 2, (by decide +kernel), (by decide +kernel), (by decide +kernel)⟩,
   ⟨up0, .smbus, 2, (by decide +kernel), (by decide +kernel), (by decide +kernel)⟩,
   ⟨up0.setFld F.PPS_OUT_CFG_EN 0 1, true, (by decide +kernel), (by decide +kernel)⟩,
   ⟨up0.setFld F.SYNC_OUT_CFG_MODE 1 2, 1, true, (by decide +kernel), (by decide +kernel), (by decide +kernel)⟩,
   ⟨up0.setFld F.SYNC_OUT_CFG_MODE 1 3, 1, (by decide +kernel), (by decide +kernel), (by decide +kernel)⟩⟩

theorem witness_ClockAndPinsComplete_3 :
    (∃ (s : State) (n : Nat) (s1 : State), works (.syncOutEdge n true) s = true ∧ n < 4 ∧ s.fld F.SYNC_OUT_CFG_MODE n = 3 ∧ setSyncOut n true s = s1) ∧
    (∃ (s : State), works .syncReceiptTimeout s = true ∧ s.fld F.TIME_CFG_WORK_SOURCE 0 = 1) ∧
    (∃ (s : State), works .holdoverLimitExpiry s = true ∧ s.fld F.TIME_STATUS_STATE 0 = 3) ∧
    (∃ (s : State) (which : Nat), works (.pllLockLoss which) s = true) ∧
    (∃ (s : State) (delays : List (Nat × Nat)), works (.epochBoundary delays) s = true) :=
  ⟨⟨up0.setFld F.SYNC_OUT_CFG_MODE 1 3, 1, _, (by decide +kernel), (by decide +kernel), (by decide +kernel), rfl⟩,
   ⟨up0.setFld F.TIME_CFG_WORK_SOURCE 0 1, (by decide +kernel), (by decide +kernel)⟩,
   ⟨up0.setFld F.TIME_STATUS_STATE 0 3, (by decide +kernel), (by decide +kernel)⟩,
   ⟨up0, 1, (by decide +kernel)⟩,
   ⟨up0, [], (by decide +kernel)⟩⟩

theorem witness_PlannerRowsComplete_1 :
    (∃ (s : State), works .synthesisDone s = true ∧ s.pln.running ≠ 0 ∧ committing s = false ∧ s.pln.waiting = none ∧ s.fld F.LDR_STATUS_STATE 0 ≠ 7 ∧
      enables 0 s = true) ∧
    (∃ (s : State), works .synthesisDone s = true ∧ s.pln.running ≠ 0 ∧ committing s = false ∧ s.pln.waiting = none ∧ s.fld F.LDR_STATUS_STATE 0 ≠ 7 ∧
      enables 0 s = false) ∧
    (∃ (s : State) (c : Commit), works .commitApply s = true ∧ s.pln.commit = some c ∧ planState s = 3 ∧ c.ports.any (fun p => (tget none
      s.dp.gclPending p).isSome) = false ∧ (c.ports.filter (fun p => !listInOper c.plan p s)).isEmpty = false) ∧
    (∃ (s : State) (c : Commit) (s1 : State), works .commitApply s = true ∧ s.pln.commit = some c ∧ planState s = 3 ∧ c.ports.any (fun p => (tget none
      s.dp.gclPending p).isSome) = false ∧ c.ports.filter (fun p => !listInOper c.plan p s) = [] ∧ s.pln.inForce.isSome = true ∧ c.plan.streams.foldl
      (fun s' x => if x.reason = 0 ∧ s.pln.inForce.elim false (fun o => (placedOf o).any (fun y => y.handle == x.handle)) = false then setBlocked
      x.handle false (setEgress x.handle x.egress s') else setEgress x.handle x.egress s') s = s1) ∧
    (∃ (s : State) (p : Nat), works (.quarantineExpiry p) s = true ∧ p < 512 ∧ s.fld F.PORT_STATUS_QUARANTINED p = 1 ∧ thawed s = true) ∧
    (∃ (s : State) (p : Nat), works (.quarantineExpiry p) s = true ∧ p < 512 ∧ s.fld F.PORT_STATUS_QUARANTINED p = 1 ∧ thawed s = false) ∧
    (∃ (s : State) (p : Nat), works (.returnHoldExpiry p) s = true ∧ isAway p s = true ∧ planUp false p s = true ∧ s.pln.returnOk.contains p = false) ∧
    (∃ (s : State), works .alphaAdjust s = true ∧ enables 4 s = true ∧ thawed s = true ∧ committing s = false) ∧
    (∃ (s : State), works .alphaAdjust s = true ∧ enables 4 s = true ∧ (thawed s = false ∨ committing s = true)) ∧
    (∃ (s : State), works .surveyRecord s = true) ∧
    (∃ (s : State) (q : Requester) (pl : Plan), works (.planApprove q) s = true ∧ waitingPlan s = some pl ∧ pl.quar = [] ∧ s.fld F.LDR_STATUS_STATE 0
      ≠ 7) ∧
    (∃ (s : State) (q : Requester) (pl : Plan) (p : Nat), works (.planApprove q) s = true ∧ waitingPlan s = some pl ∧ pl.quar = [p]) :=
  ⟨⟨planning, (by decide +kernel), (by decide +kernel), (by decide +kernel), (by decide +kernel), (by decide +kernel), (by decide +kernel)⟩,
   ⟨planningOff, (by decide +kernel), (by decide +kernel), (by decide +kernel), (by decide +kernel), (by decide +kernel), (by decide +kernel)⟩,
   ⟨commitMade, { ports := [3] }, (by decide +kernel), (by decide +kernel), (by decide +kernel), (by decide +kernel), (by decide +kernel)⟩,
   ⟨committed, { ports := [] }, _, (by decide +kernel), (by decide +kernel), (by decide +kernel), (by decide +kernel), (by decide +kernel),
    (by decide +kernel), rfl⟩,
   ⟨up0.setFld F.PORT_STATUS_QUARANTINED 3 1, 3, (by decide +kernel), (by decide +kernel), (by decide +kernel), (by decide +kernel)⟩,
   ⟨(up0.setFld F.PORT_STATUS_QUARANTINED 3 1).setFld F.PLN_CTRL_FREEZE 0 1, 3, (by decide +kernel), (by decide +kernel), (by decide +kernel),
    (by decide +kernel)⟩,
   ⟨detoured, 3, (by decide +kernel), (by decide +kernel), (by decide +kernel), (by decide +kernel)⟩,
   ⟨alphaOn, (by decide +kernel), (by decide +kernel), (by decide +kernel), (by decide +kernel)⟩,
   ⟨alphaFrozen, (by decide +kernel), (by decide +kernel), (by decide +kernel)⟩,
   ⟨up0, (by decide +kernel)⟩,
   ⟨waiting1, .jtag, {}, (by decide +kernel), (by decide +kernel), (by decide +kernel), (by decide +kernel)⟩,
   ⟨waitingQuar, .jtag, { quar := [3] }, 3, (by decide +kernel), (by decide +kernel), (by decide +kernel)⟩⟩

theorem witness_PlannerRowsComplete_2 :
    (∃ (s : State) (q : Requester), works (.planApprove q) s = true ∧ waitingPlan s = none) ∧
    (∃ (s : State) (q : Requester) (pl : Plan), works (.planReject q) s = true ∧ waitingPlan s = some pl ∧ s.pln.waiting = some pl) ∧
    (∃ (s : State) (q : Requester), works (.planReject q) s = true ∧ waitingPlan s = none) ∧
    (∃ (s : State) (pl : Plan), works .approveTimeout s = true ∧ planState s = 2 ∧ s.pln.waiting = some pl) ∧
    (∃ (s : State) (q : Requester) (w : Nat), works (.freeze q w) s = true ∧ bitsOf w 31 1 = 0 ∧ s.fld F.PLN_CTRL_FREEZE 0 = 0) ∧
    (∃ (s : State) (q : Requester) (w : Nat), works (.unfreeze q w) s = true ∧ bitsOf w 31 1 = 0 ∧ s.fld F.PLN_CTRL_FREEZE 0 = 1) ∧
    (∃ (s : State) (q : Requester) (w : Nat), works (.replan q w) s = true ∧ bitsOf w 1 1 = s.fld F.PLN_CTRL_FREEZE 0) ∧
    (∃ (s : State) (q : Requester) (h : Nat), works (.ssIndexWrite q h) s = true) ∧
    (∃ (s : State), works .trapTokenRefill s = true) ∧
    (∃ (s : State) (d0 d1 block : List Byte) (s1 : State), works (.exportBlockComplete d0 d1) s = true ∧ s.tel.building = some block ∧ (dramRequests 3
      true (historyBase + 0x60000 * (s.fld F.EXPORT_SEQ 0 % 4096)) block.length (hbmWrite (historyBase + 0x60000 * (s.fld F.EXPORT_SEQ 0 % 4096))
      block s)).addWrap F.EXPORT_SEQ 0 1 = s1) :=
  ⟨⟨up0, .jtag, (by decide +kernel), (by decide +kernel)⟩,
   ⟨waiting1, .jtag, {}, (by decide +kernel), (by decide +kernel), (by decide +kernel)⟩,
   ⟨up0, .jtag, (by decide +kernel), (by decide +kernel)⟩,
   ⟨waiting1, {}, (by decide +kernel), (by decide +kernel), (by decide +kernel)⟩,
   ⟨up0, .jtag, 0, (by decide +kernel), (by decide +kernel), (by decide +kernel)⟩,
   ⟨up0.setFld F.PLN_CTRL_FREEZE 0 1, .jtag, 0, (by decide +kernel), (by decide +kernel), (by decide +kernel)⟩,
   ⟨up0, .jtag, 0, (by decide +kernel), (by decide +kernel)⟩,
   ⟨up0, .jtag, 9, (by decide +kernel)⟩,
   ⟨up0, (by decide +kernel)⟩,
   ⟨exporting, [], [], [1], _, (by decide +kernel), (by decide +kernel), rfl⟩⟩

theorem witness_ThreadRowsComplete_1 :
    (∃ (s : State) (q : Requester), works (.supNoteRead q) s = true ∧ privileged q 6 s = true) ∧
    (∃ (s : State) (q : Requester), works (.supNoteRead q) s = true ∧ privileged q 6 s = false) ∧
    (∃ (s : State) (q : Requester) (t : Nat), works (.threadStart q t) s = true ∧ t ≠ 0 ∧ t < 32 ∧ threadState t s = 0) ∧
    (∃ (s : State) (q : Requester) (t : Nat), works (.threadStart q t) s = true ∧ t ≠ 0 ∧ t < 32 ∧ threadState t s = 4) ∧
    (∃ (s : State) (q : Requester) (t : Nat), works (.threadStop q t) s = true ∧ t ≠ 0 ∧ t < 32 ∧ threadState t s ≠ 0) ∧
    (∃ (s : State) (q : Requester) (ch wtr rdr : Nat), works (.chanCfgWrite q ch wtr rdr) s = true ∧ ch < 256 ∧ s.fld F.CHAN_CFG0_ENABLE ch = 1) ∧
    (∃ (s s1 : State), works .deadlockDetect s = true ∧ s.me.quietActed = false ∧ allQuiet s = true ∧ raiseFault 18 4 0 ((raiseSrc 33 (pushNote 3 0 0
      0 s)).bump F.DEADLOCKS 0) = s1) ∧
    (∃ (s : State) (q : Requester) (t : Nat), works (.dbgHalt q t) s = true ∧ t < 32 ∧ debugger q s = true ∧ ((threadState t s = 2 ∨ (threadState t s
      = 1 ∧ tget 0 s.me.held t = 0)))) ∧
    (∃ (s : State) (q : Requester) (t : Nat), works (.dbgHalt q t) s = true ∧ t < 32 ∧ debugger q s = true ∧ threadState t s = 1 ∧ tget 0 s.me.held t
      ≠ 0) ∧
    (∃ (s : State) (q : Requester) (t : Nat) (i : Issue) (op : MeOp) (s1 : State), works (.dbgStep q t i op) s = true ∧ t < 32 ∧ debugger q s = true ∧
      threadState t s = 3 ∧ coreRuns t s = true ∧ namesNext t op s = true ∧ setThreadState t 1 s = s1) ∧
    (∃ (s : State) (q : Requester) (t : Nat) (i : Issue) (op : MeOp) (s1 : State), works (.dbgStep q t i op) s = true ∧ t < 32 ∧ debugger q s = true ∧
      threadState t s = 3 ∧ coreRuns t s = true ∧ namesNext t op s = true ∧ setThreadState t 1 s = s1) ∧
    (∃ (s : State) (q : Requester) (t : Nat), works (.dbgResume q t) s = true ∧ t < 32 ∧ debugger q s = true ∧ threadState t s = 3) :=
  ⟨⟨noted, .jtag, (by decide +kernel), (by decide +kernel)⟩,
   ⟨noted, .smbus, (by decide +kernel), (by decide +kernel)⟩,
   ⟨up0, .jtag, 5, (by decide +kernel), (by decide +kernel), (by decide +kernel), (by decide +kernel)⟩,
   ⟨setThreadState 5 4 up0, .jtag, 5, (by decide +kernel), (by decide +kernel), (by decide +kernel), (by decide +kernel)⟩,
   ⟨setThreadState 5 1 up0, .jtag, 5, (by decide +kernel), (by decide +kernel), (by decide +kernel), (by decide +kernel)⟩,
   ⟨up0.setFld F.CHAN_CFG0_ENABLE 7 1, .jtag, 7, 3, 4, (by decide +kernel), (by decide +kernel), (by decide +kernel)⟩,
   ⟨allWait, _, (by decide +kernel), (by decide +kernel), (by decide +kernel), rfl⟩,
   ⟨setThreadState 5 1 up0, .jtag, 5, (by decide +kernel), (by decide +kernel), (by decide +kernel), (by decide +kernel)⟩,
   ⟨beginning, .jtag, 5, (by decide +kernel), (by decide +kernel), (by decide +kernel), (by decide +kernel), (by decide +kernel)⟩,
   ⟨haltedThread, .jtag, 0, {}, .alu 3 1 2 0, _, (by decide +kernel), (by decide +kernel), (by decide +kernel), (by decide +kernel),
    (by decide +kernel), (by decide +kernel), rfl⟩,
   ⟨haltedOdd, .jtag, 0, {}, .alu 3 1 2 0, _, (by decide +kernel), (by decide +kernel), (by decide +kernel), (by decide +kernel), (by decide +kernel),
    (by decide +kernel), rfl⟩,
   ⟨haltedThread, .jtag, 0, (by decide +kernel), (by decide +kernel), (by decide +kernel), (by decide +kernel)⟩⟩

theorem witness_ThreadRowsComplete_2 :
    (∃ (s : State) (q : Requester) (t : Nat), works (.dbgAbort q t) s = true ∧ t < 32 ∧ t ≠ 0 ∧ debugger q s = true ∧ ((threadState t s = 3 ∨
      threadState t s = 4))) ∧
    (∃ (s : State) (q : Requester) (t : Nat), works (.dbgAbort q t) s = true ∧ t < 32 ∧ debugger q s = true ∧ ((t = 0 ∨ (threadState t s ≠ 3 ∧
      threadState t s ≠ 4)))) ∧
    (∃ (s : State) (q : Requester) (v : Nat), works (.rx513TailWrite q v) s = true ∧ ownsRing q (s.fld F.PORT513_CFG_RX_OWNER 0) = true) ∧
    (∃ (s : State) (q : Requester) (v : Nat), works (.tx513HeadWrite q v) s = true ∧ ownsRing q (s.fld F.PORT513_CFG_TX_OWNER 0) = true) ∧
    (∃ (s : State) (f n : Nat), works (.tx513RecordTake f) s = true ∧ s.runs = true ∧ s.fld F.TX513_TAIL 0 = n ∧ n ≠ s.fld F.TX513_HEAD 0 ∧ frameAt f
      s = none ∧ tx513Bad (hbmRead s (0x20000 + 32 * n) 32) s = true) ∧
    (∃ (s : State) (f n : Nat) (d : List Byte) (w : Nat) (x : State × Frame) (m : State × List Copy) (u : State) (refused : Bool), works
      (.tx513RecordTake f) s = true ∧ s.runs = true ∧ s.fld F.TX513_TAIL 0 = n ∧ n ≠ s.fld F.TX513_HEAD 0 ∧ frameAt f s = none ∧ hbmRead s (0x20000 +
      32 * n) 32 = d ∧ tx513Bad d s = false ∧ leNat (slice d 6 2) = w ∧ injectFrame f 513 (hbmRead s (leNat (slice d 0 4)) (leNat (slice d 4 2)))
      { queue := bitsOf w 10 3 } (some 0) s = x ∧ numberCopies
      [{ baseCopy f x.2 with port := bitsOf w 0 10, q := queueOf (bitsOf w 0 10) (bitsOf w 10 3), edit := 0, learn := false, ts := if bitsOf w 13 2 = 0 then none else some (bitsOf w 13 2, leNat (slice d 8 1) % 4, leNat (slice d 10 2), timeOfBytes (slice d 12 12)) }]
      x.1 = m ∧ admitAll false false (m.2.map (fun c => finishCopy x.2 x.2.tIn c m.1)) m.1 = (u, refused)) ∧
    (∃ (s : State) (c : Nat), works (.meResetEnd (some c)) s = true ∧ inUnitReset 0 s = true) ∧
    (∃ (s : State), works (.meResetEnd (none)) s = true ∧ inUnitReset 0 s = true) :=
  ⟨⟨setThreadState 5 4 up0, .jtag, 5, (by decide +kernel), (by decide +kernel), (by decide +kernel), (by decide +kernel), (by decide +kernel)⟩,
   ⟨up0, .jtag, 5, (by decide +kernel), (by decide +kernel), (by decide +kernel), (by decide +kernel)⟩,
   ⟨up0, .thread 0, 9, (by decide +kernel), (by decide +kernel)⟩,
   ⟨up0, .thread 0, 9, (by decide +kernel), (by decide +kernel)⟩,
   ⟨badRecord, 9, 0, (by decide +kernel), (by decide +kernel), (by decide +kernel), (by decide +kernel), (by decide +kernel), (by decide +kernel)⟩,
   ⟨goodRecord, 9, 0, goodDesc, 0, takenFrame, takenCopies, takenEnd.1, takenEnd.2, (by decide +kernel), (by decide +kernel), (by decide +kernel),
    (by decide +kernel), (by decide +kernel), (by decide +kernel), (by decide +kernel), (by decide +kernel), (by decide +kernel), (by decide +kernel),
    (by decide +kernel)⟩,
   ⟨meInReset, 2, (by decide +kernel), (by decide +kernel)⟩,
   ⟨meInReset, (by decide +kernel), (by decide +kernel)⟩⟩

theorem witness_MicrocodeRowsComplete_1 :
    (∃ (s : State) (q : Requester) (c : Nat), works (.ucReload q c) s = true ∧ c < 4 ∧ s.fld F.UC_STATUS_MODE c = 1 ∧ s.fld F.UC_STATUS_BUSY c = 0) ∧
    (∃ (s : State) (q : Requester) (c : Nat), works (.ucReload q c) s = true ∧ c < 4 ∧ ((s.fld F.UC_STATUS_MODE c ≠ 1 ∨ s.fld F.UC_STATUS_BUSY c ≠
      0))) ∧
    (∃ (s : State) (c : Nat) (s1 : State), works (.ucReloadDone c true) s = true ∧ c < 4 ∧ tget 0 s.me.ucCmd c = 1 ∧ copyStore c 2 (copyStore c 1
      (copyStore c 0 s)) = s1) ∧
    (∃ (s : State) (c : Nat), works (.ucReloadDone c false) s = true ∧ c < 4 ∧ tget 0 s.me.ucCmd c = 1) ∧
    (∃ (s : State) (q : Requester) (c : Nat), works (.ucScrub q c) s = true ∧ c < 4 ∧ s.fld F.UC_STATUS_MODE c = 0 ∧ s.fld F.UC_STATUS_BUSY c = 0) ∧
    (∃ (s : State) (q : Requester) (c : Nat), works (.ucScrub q c) s = true ∧ c < 4 ∧ ((s.fld F.UC_STATUS_MODE c ≠ 0 ∨ s.fld F.UC_STATUS_BUSY c ≠ 0))) ∧
    (∃ (s : State) (c : Nat) (back : Bool) (n : Nat), works (.ucScrubWord c false back) s = true ∧ c < 4 ∧ tget 0 s.me.ucCmd c = 2 ∧ tget 0
      s.me.scrubAt c = n ∧ n < 19712 ∧ ucWord c (scrubWord n).1 (scrubWord n).2 s = copyWord (scrubWord n).1 (scrubWord n).2 s) ∧
    (∃ (s : State) (c n : Nat), works (.ucScrubWord c true true) s = true ∧ c < 4 ∧ tget 0 s.me.ucCmd c = 2 ∧ tget 0 s.me.scrubAt c = n ∧ n < 19712) ∧
    (∃ (s : State) (c : Nat), works (.ucScrubDone c) s = true ∧ c < 4 ∧ tget 0 s.me.ucCmd c = 2 ∧ 19712 ≤ tget 0 s.me.scrubAt c) ∧
    (∃ (s : State) (q : Requester) (c store a v : Nat), works (.ucRdAddrWrite q c store a) s = true ∧ c < 4 ∧ ucWord c (store % 4) (a % 16384) s = v) ∧
    (∃ (s : State) (q : Requester) (c n : Nat) (hi : Bool) (v : Nat), works (.pmcWrite q c n hi v) s = true ∧ c < 4 ∧ n < 8) ∧
    (∃ (s : State) (c n : Nat), works (.pmcOverflow c n) s = true ∧ c < 4 ∧ n < 8 ∧ s.fld F.PMC_CTRL c ≠ 0 ∧ s.fld F.PMC_CFG_EN (c * 8 + n) ≠ 0 ∧
      s.fld F.PMC_LO (c * 8 + n) + s.fld F.PMC_HI (c * 8 + n) * 2 ^ 32 = 2 ^ 48 - 1 ∧ s.fld F.PMC_CFG_EVENT (c * 8 + n) ≠ 0 ∧ s.fld F.PMC_CFG_EVENT (c
      * 8 + n) ≤ 30) :=
  ⟨⟨up0.setFld F.UC_STATUS_MODE 1 1, .jtag, 1, (by decide +kernel), (by decide +kernel), (by decide +kernel), (by decide +kernel)⟩,
   ⟨up0, .jtag, 1, (by decide +kernel), (by decide +kernel), (by decide +kernel)⟩,
   ⟨reloading, 1, _, (by decide +kernel), (by decide +kernel), (by decide +kernel), rfl⟩,
   ⟨reloading, 1, (by decide +kernel), (by decide +kernel), (by decide +kernel)⟩,
   ⟨up0, .jtag, 1, (by decide +kernel), (by decide +kernel), (by decide +kernel), (by decide +kernel)⟩,
   ⟨up0.setFld F.UC_STATUS_MODE 1 1, .jtag, 1, (by decide +kernel), (by decide +kernel), (by decide +kernel)⟩,
   ⟨setUcWord 1 (scrubWord 0).1 (scrubWord 0).2 (copyWord (scrubWord 0).1 (scrubWord 0).2 scrubbing) scrubbing, 1, true, 0, (by decide +kernel),
    (by decide +kernel), (by decide +kernel), (by decide +kernel), (by decide +kernel), (by decide +kernel)⟩,
   ⟨scrubbing, 1, 0, (by decide +kernel), (by decide +kernel), (by decide +kernel), (by decide +kernel), (by decide +kernel)⟩,
   ⟨scrubDone, 1, (by decide +kernel), (by decide +kernel), (by decide +kernel), (by decide +kernel)⟩,
   ⟨up0, .jtag, 1, 2, 5, 0, (by decide +kernel), (by decide +kernel), (by decide +kernel)⟩,
   ⟨up0, .jtag, 1, 2, true, 7, (by decide +kernel), (by decide +kernel), (by decide +kernel)⟩,
   ⟨pmcFull, 1, 2, (by decide +kernel), (by decide +kernel), (by decide +kernel), (by decide +kernel), (by decide +kernel), (by decide +kernel),
    (by decide +kernel), (by decide +kernel)⟩⟩

theorem witness_MicrocodeRowsComplete_2 :
    (∃ (s : State) (c : Nat) (r : List Nat) (more : List (List Nat)), works (.sampleRecord c) s = true ∧ tget [] s.me.smpDue c = r :: more ∧ c < 4 ∧
      4096 ≤ smpHeld c s) ∧
    (∃ (s : State) (c : Nat) (r : List Nat) (more : List (List Nat)) (s1 : State), works (.sampleRecord c) s = true ∧ tget [] s.me.smpDue c = r ::
      more ∧ c < 4 ∧ smpHeld c s < 4096 ∧ s.withMe { s.me with smpDue := tset [] s.me.smpDue c more } = s1 ∧ smpHeld c s + 1 ≠ s.fld F.SMP_THRESH c) ∧
    (∃ (s : State) (q : Requester) (c w : Nat), works (.smpCfgWrite q c w) s = true ∧ c < 4) ∧
    (∃ (s : State) (q : Requester) (c v : Nat), works (.smpTailWrite q c v) s = true ∧ c < 4 ∧ (v % 8192 + 8192 - s.fld F.SMP_TAIL c) % 8192 ≤ smpHeld
      c s) ∧
    (∃ (s : State) (q : Requester) (c v : Nat), works (.smpTailWrite q c v) s = true ∧ c < 4 ∧ smpHeld c s < (v % 8192 + 8192 - s.fld F.SMP_TAIL c) %
      8192) :=
  ⟨⟨sampleLost, 1, [1, 2, 3, 4], [], (by decide +kernel), (by decide +kernel), (by decide +kernel), (by decide +kernel)⟩,
   ⟨sampleKept, 1, [1, 2, 3, 4], [], _, (by decide +kernel), (by decide +kernel), (by decide +kernel), (by decide +kernel), rfl, (by decide +kernel)⟩,
   ⟨up0, .jtag, 1, 5, (by decide +kernel), (by decide +kernel)⟩,
   ⟨up0, .jtag, 1, 0, (by decide +kernel), (by decide +kernel), (by decide +kernel)⟩,
   ⟨up0, .jtag, 1, 3, (by decide +kernel), (by decide +kernel), (by decide +kernel)⟩⟩

theorem witness_ArithmeticInsnsComplete :
    (∃ (s : State) (t : Nat) (i : Issue) (rd ra rb func : Nat) (s1 : State), works (.alu t i rd ra rb func) s = true ∧ issues t i (.alu rd ra rb func)
      s = true ∧ issued t i s = s1) ∧
    (∃ (s : State) (t : Nat) (i : Issue) (rd ra imm : Nat) (s1 : State), works (.aluImmediate t i 0 rd ra imm) s = true ∧ issues t i (.aluImm 0 rd ra
      imm) s = true ∧ issued t i s = s1) ∧
    (∃ (s : State) (t : Nat) (i : Issue) (rd ra imm : Nat) (s1 : State), works (.aluImmediate t i 1 rd ra imm) s = true ∧ issues t i (.aluImm 1 rd ra
      imm) s = true ∧ issued t i s = s1) ∧
    (∃ (s : State) (t : Nat) (i : Issue) (rd ra imm : Nat) (s1 : State), works (.aluImmediate t i 2 rd ra imm) s = true ∧ issues t i (.aluImm 2 rd ra
      imm) s = true ∧ issued t i s = s1) ∧
    (∃ (s : State) (t : Nat) (i : Issue) (rd ra imm : Nat) (s1 : State), works (.aluImmediate t i 3 rd ra imm) s = true ∧ issues t i (.aluImm 3 rd ra
      imm) s = true ∧ issued t i s = s1) ∧
    (∃ (s : State) (t : Nat) (i : Issue) (rd ra imm : Nat) (s1 : State), works (.shiftImmediate t i 0 rd ra imm) s = true ∧ issues t i (.shiftImm 0 rd
      ra imm) s = true ∧ issued t i s = s1) ∧
    (∃ (s : State) (t : Nat) (i : Issue) (rd ra imm : Nat) (s1 : State), works (.shiftImmediate t i 1 rd ra imm) s = true ∧ issues t i (.shiftImm 1 rd
      ra imm) s = true ∧ issued t i s = s1) ∧
    (∃ (s : State) (t : Nat) (i : Issue) (rd ra imm : Nat) (s1 : State), works (.shiftImmediate t i 2 rd ra imm) s = true ∧ issues t i (.shiftImm 2 rd
      ra imm) s = true ∧ issued t i s = s1) ∧
    (∃ (s : State) (t : Nat) (i : Issue) (rd ra imm : Nat) (s1 : State), works (.lui t i rd ra imm) s = true ∧ issues t i (.lui rd ra imm) s = true ∧
      issued t i s = s1) ∧
    (∃ (s : State) (t : Nat) (i : Issue) (rd ra imm : Nat) (s1 : State), works (.orsh t i rd ra imm) s = true ∧ issues t i (.orsh rd ra imm) s = true
      ∧ issued t i s = s1) ∧
    (∃ (s : State) (t : Nat) (i : Issue) (rd ra imm : Nat) (s1 : State), works (.slti t i 0 rd ra imm) s = true ∧ issues t i (.slti 0 rd ra imm) s =
      true ∧ issued t i s = s1) ∧
    (∃ (s : State) (t : Nat) (i : Issue) (rd ra imm : Nat) (s1 : State), works (.slti t i 1 rd ra imm) s = true ∧ issues t i (.slti 1 rd ra imm) s =
      true ∧ issued t i s = s1) :=
  ⟨⟨runs (.alu 3 1 2 0), 0, {}, 3, 1, 2, 0, _, (by decide +kernel), (by decide +kernel), rfl⟩,
   ⟨runs (.aluImm 0 3 1 65535), 0, {}, 3, 1, 65535, _, (by decide +kernel), (by decide +kernel), rfl⟩,
   ⟨runs (.aluImm 1 3 1 65535), 0, {}, 3, 1, 65535, _, (by decide +kernel), (by decide +kernel), rfl⟩,
   ⟨runs (.aluImm 2 3 1 65535), 0, {}, 3, 1, 65535, _, (by decide +kernel), (by decide +kernel), rfl⟩,
   ⟨runs (.aluImm 3 3 1 65535), 0, {}, 3, 1, 65535, _, (by decide +kernel), (by decide +kernel), rfl⟩,
   ⟨runs (.shiftImm 0 3 1 63), 0, {}, 3, 1, 63, _, (by decide +kernel), (by decide +kernel), rfl⟩,
   ⟨runs (.shiftImm 1 3 1 63), 0, {}, 3, 1, 63, _, (by decide +kernel), (by decide +kernel), rfl⟩,
   ⟨runs (.shiftImm 2 3 1 63), 0, {}, 3, 1, 63, _, (by decide +kernel), (by decide +kernel), rfl⟩,
   ⟨runs (.lui 3 0 65535), 0, {}, 3, 0, 65535, _, (by decide +kernel), (by decide +kernel), rfl⟩,
   ⟨runs (.orsh 3 1 65535), 0, {}, 3, 1, 65535, _, (by decide +kernel), (by decide +kernel), rfl⟩,
   ⟨runs (.slti 0 3 1 65535), 0, {}, 3, 1, 65535, _, (by decide +kernel), (by decide +kernel), rfl⟩,
   ⟨runs (.slti 1 3 1 65535), 0, {}, 3, 1, 65535, _, (by decide +kernel), (by decide +kernel), rfl⟩⟩

theorem witness_MemoryInsnsComplete :
    (∃ (s : State) (t : Nat) (i : Issue) (k rd ra imm : Nat) (s1 : State) (a : Nat), works (.load t i k rd ra imm) s = true ∧ issues t i (.load k rd
      ra imm) s = true ∧ issued t i s = s1 ∧ effAddr t ra imm s1 = a ∧ a % (loadSize k).1 = 0 ∧ mayLoad t a s1 = true ∧ (loadSize k).2 = false) ∧
    (∃ (s : State) (t : Nat) (i : Issue) (k rd ra imm : Nat) (s1 : State) (a : Nat), works (.load t i k rd ra imm) s = true ∧ issues t i (.load k rd
      ra imm) s = true ∧ issued t i s = s1 ∧ effAddr t ra imm s1 = a ∧ a % (loadSize k).1 = 0 ∧ mayLoad t a s1 = true ∧ (loadSize k).2 = true) ∧
    (∃ (s : State) (t : Nat) (i : Issue) (k rs ra imm : Nat) (s1 : State) (a : Nat), works (.store t i k rs ra imm) s = true ∧ issues t i (.store k rs
      ra imm) s = true ∧ issued t i s = s1 ∧ effAddr t ra imm s1 = a ∧ a % 2 ^ (3 - k % 4) = 0 ∧ mayStore t a s1 = true ∧ a < 0x40000000) ∧
    (∃ (s : State) (t : Nat) (i : Issue) (k rs ra imm : Nat) (s1 : State) (a : Nat), works (.store t i k rs ra imm) s = true ∧ issues t i (.store k rs
      ra imm) s = true ∧ issued t i s = s1 ∧ effAddr t ra imm s1 = a ∧ a % 2 ^ (3 - k % 4) = 0 ∧ mayStore t a s1 = true ∧ 0x40000000 ≤ a) ∧
    (∃ (s : State) (t : Nat) (i : Issue) (rd ra rb : Nat) (s1 : State) (a old : Nat), works (.amoSwap t i rd ra rb) s = true ∧ issues t i (.amo 0 rd
      ra rb) s = true ∧ issued t i s = s1 ∧ gpr t ra s1 = a ∧ a % 8 = 0 ∧ mayAmo t a s1 = true ∧ leNat (meRead a 8 s1) = old) ∧
    (∃ (s : State) (t : Nat) (i : Issue) (rd ra rb : Nat) (s1 : State) (a old : Nat), works (.amoFadd t i rd ra rb) s = true ∧ issues t i (.amo 2 rd
      ra rb) s = true ∧ issued t i s = s1 ∧ gpr t ra s1 = a ∧ a % 8 = 0 ∧ mayAmo t a s1 = true ∧ leNat (meRead a 8 s1) = old) ∧
    (∃ (s : State) (t : Nat) (i : Issue) (rd ra rb : Nat) (s1 : State) (a old : Nat), works (.amoFand t i rd ra rb) s = true ∧ issues t i (.amo 3 rd
      ra rb) s = true ∧ issued t i s = s1 ∧ gpr t ra s1 = a ∧ a % 8 = 0 ∧ mayAmo t a s1 = true ∧ leNat (meRead a 8 s1) = old) ∧
    (∃ (s : State) (t : Nat) (i : Issue) (rd ra rb : Nat) (s1 : State) (a old : Nat), works (.amoFor t i rd ra rb) s = true ∧ issues t i (.amo 4 rd ra
      rb) s = true ∧ issued t i s = s1 ∧ gpr t ra s1 = a ∧ a % 8 = 0 ∧ mayAmo t a s1 = true ∧ leNat (meRead a 8 s1) = old) ∧
    (∃ (s : State) (t : Nat) (i : Issue) (rd ra rb : Nat) (s1 : State) (a : Nat), works (.amoCas t i rd ra rb) s = true ∧ issues t i (.amo 1 rd ra rb)
      s = true ∧ issued t i s = s1 ∧ gpr t ra s1 = a ∧ a % 8 = 0 ∧ mayAmo t a s1 = true ∧ leNat (meRead a 8 s1) = gpr t rd s1) ∧
    (∃ (s : State) (t : Nat) (i : Issue) (rd ra rb : Nat) (s1 : State) (a : Nat), works (.amoCas t i rd ra rb) s = true ∧ issues t i (.amo 1 rd ra rb)
      s = true ∧ issued t i s = s1 ∧ gpr t ra s1 = a ∧ a % 8 = 0 ∧ mayAmo t a s1 = true ∧ leNat (meRead a 8 s1) ≠ gpr t rd s1) :=
  ⟨⟨runs (.load 0 3 1 0x100), 0, {}, 0, 3, 1, 0x100, _, 0x100, (by decide +kernel), (by decide +kernel), rfl, (by decide +kernel),
    (by decide +kernel), (by decide +kernel), (by decide +kernel)⟩,
   ⟨runs (.load 2 3 1 0x100), 0, {}, 2, 3, 1, 0x100, _, 0x100, (by decide +kernel), (by decide +kernel), rfl, (by decide +kernel),
    (by decide +kernel), (by decide +kernel), (by decide +kernel)⟩,
   ⟨runs (.store 0 2 1 0x100), 0, {}, 0, 2, 1, 0x100, _, 0x100, (by decide +kernel), (by decide +kernel), rfl, (by decide +kernel),
    (by decide +kernel), (by decide +kernel), (by decide +kernel)⟩,
   ⟨setGpr 0 1 0x40000000 (runs (.store 0 2 1 0x100)), 0, {}, 0, 2, 1, 0x100, _, 0x40000100, (by decide +kernel), (by decide +kernel), rfl,
    (by decide +kernel), (by decide +kernel), (by decide +kernel), (by decide +kernel)⟩,
   ⟨setGpr 0 1 0x100 (runs (.amo 0 3 1 2)), 0, {}, 3, 1, 2, _, 0x100, 0, (by decide +kernel), (by decide +kernel), rfl, (by decide +kernel),
    (by decide +kernel), (by decide +kernel), (by decide +kernel)⟩,
   ⟨setGpr 0 1 0x100 (runs (.amo 2 3 1 2)), 0, {}, 3, 1, 2, _, 0x100, 0, (by decide +kernel), (by decide +kernel), rfl, (by decide +kernel),
    (by decide +kernel), (by decide +kernel), (by decide +kernel)⟩,
   ⟨setGpr 0 1 0x100 (runs (.amo 3 3 1 2)), 0, {}, 3, 1, 2, _, 0x100, 0, (by decide +kernel), (by decide +kernel), rfl, (by decide +kernel),
    (by decide +kernel), (by decide +kernel), (by decide +kernel)⟩,
   ⟨setGpr 0 1 0x100 (runs (.amo 4 3 1 2)), 0, {}, 3, 1, 2, _, 0x100, 0, (by decide +kernel), (by decide +kernel), rfl, (by decide +kernel),
    (by decide +kernel), (by decide +kernel), (by decide +kernel)⟩,
   ⟨setGpr 0 1 0x100 (runs (.amo 1 3 1 2)), 0, {}, 3, 1, 2, _, 0x100, (by decide +kernel), (by decide +kernel), rfl, (by decide +kernel),
    (by decide +kernel), (by decide +kernel), (by decide +kernel)⟩,
   ⟨setGpr 0 3 7 (setGpr 0 1 0x100 (runs (.amo 1 3 1 2))), 0, {}, 3, 1, 2, _, 0x100, (by decide +kernel), (by decide +kernel), rfl,
    (by decide +kernel), (by decide +kernel), (by decide +kernel), (by decide +kernel)⟩⟩

theorem witness_JumpInsnsComplete :
    (∃ (s : State) (t : Nat) (i : Issue) (k ra rb off : Nat) (s1 : State), works (.branch t i k ra rb off) s = true ∧ issues t i (.branch k ra rb off)
      s = true ∧ issued t i s = s1 ∧ branchTaken k (gpr t ra s1) (gpr t rb s1) = true ∧ (pcOf t s1 + 4 * sext 16 off) % 2 ^ 64 % 4 = 0) ∧
    (∃ (s : State) (t : Nat) (i : Issue) (k ra rb off : Nat) (s1 : State), works (.branch t i k ra rb off) s = true ∧ issues t i (.branch k ra rb off)
      s = true ∧ issued t i s = s1 ∧ branchTaken k (gpr t ra s1) (gpr t rb s1) = false) ∧
    (∃ (s : State) (t : Nat) (i : Issue) (off : Nat) (s1 : State), works (.jmp t i off) s = true ∧ issues t i (.jmp off) s = true ∧ issued t i s = s1
      ∧ (pcOf t s1 + 4 * sext 26 off) % 2 ^ 64 % 4 = 0) ∧
    (∃ (s : State) (t : Nat) (i : Issue) (off : Nat) (s1 : State), works (.call t i off) s = true ∧ issues t i (.call off) s = true ∧ issued t i s =
      s1 ∧ (pcOf t s1 + 4 * sext 26 off) % 2 ^ 64 % 4 = 0) ∧
    (∃ (s : State) (t : Nat) (i : Issue) (rd ra imm : Nat) (s1 : State), works (.jr t i rd ra imm) s = true ∧ issues t i (.jr rd ra imm) s = true ∧
      issued t i s = s1 ∧ effAddr t ra imm s1 % 4 = 0) :=
  ⟨⟨runs (.branch 0 1 2 4), 0, {}, 0, 1, 2, 4, _, (by decide +kernel), (by decide +kernel), rfl, (by decide +kernel), (by decide +kernel)⟩,
   ⟨runs (.branch 1 1 2 4), 0, {}, 1, 1, 2, 4, _, (by decide +kernel), (by decide +kernel), rfl, (by decide +kernel)⟩,
   ⟨runs (.jmp 8), 0, {}, 8, _, (by decide +kernel), (by decide +kernel), rfl, (by decide +kernel)⟩,
   ⟨runs (.call 8), 0, {}, 8, _, (by decide +kernel), (by decide +kernel), rfl, (by decide +kernel)⟩,
   ⟨runs (.jr 0 1 8), 0, {}, 0, 1, 8, _, (by decide +kernel), (by decide +kernel), rfl, (by decide +kernel)⟩⟩

theorem witness_ChannelInsnsComplete :
    (∃ (s : State) (t : Nat) (i : Issue) (rd rs : Nat) (close : Bool) (word ch : Nat) (s1 : State) (u : Nat), works (.send t i rd rs close word ch) s
      = true ∧ issues t i (.send rd rs false close word ch) s = true ∧ issued t i s = s1 ∧ s1.fld F.CHAN_CFG0_ENABLE ch ≠ 0 ∧ s1.fld
      F.CHAN_CFG0_WRITER ch = t ∧ (chanAt ch s1).holder = some u ∧ u ≠ t) ∧
    (∃ (s : State) (t : Nat) (i : Issue) (rd rs word ch : Nat) (s1 s2 : State), works (.send t i rd rs false word ch) s = true ∧ issues t i (.send rd
      rs false false word ch) s = true ∧ issued t i s = s1 ∧ s1.fld F.CHAN_CFG0_ENABLE ch ≠ 0 ∧ s1.fld F.CHAN_CFG0_WRITER ch = t ∧ (((chanAt ch
      s1).holder = none ∨ (chanAt ch s1).holder = some t)) ∧ putChan ch
      { chanAt ch s1 with staging := tset 0 (chanAt ch s1).staging word (gpr t rs s1), written := setBit (chanAt ch s1).written word true, holder := some t }
      (max (s1.fld F.CHAN_STATUS_STAGED ch) (word + 1)) s1 = s2) ∧
    (∃ (s : State) (t : Nat) (i : Issue) (rd rs word ch : Nat) (s1 s2 : State), works (.send t i rd rs true word ch) s = true ∧ issues t i (.send rd
      rs false true word ch) s = true ∧ issued t i s = s1 ∧ s1.fld F.CHAN_CFG0_ENABLE ch ≠ 0 ∧ s1.fld F.CHAN_CFG0_WRITER ch = t ∧ (((chanAt ch
      s1).holder = none ∨ (chanAt ch s1).holder = some t)) ∧ putChan ch
      { chanAt ch s1 with staging := tset 0 (chanAt ch s1).staging word (gpr t rs s1), written := setBit (chanAt ch s1).written word true, holder := some t }
      (max (s1.fld F.CHAN_STATUS_STAGED ch) (word + 1)) s1 = s2 ∧ s1.fld F.CHAN_CFG0_DEPTH ch ≤ (chanAt ch s1).queue.length) ∧
    (∃ (s : State) (t : Nat) (i : Issue) (rd rs word ch : Nat) (s1 s2 : State), works (.send t i rd rs true word ch) s = true ∧ issues t i (.send rd
      rs false true word ch) s = true ∧ issued t i s = s1 ∧ s1.fld F.CHAN_CFG0_ENABLE ch ≠ 0 ∧ s1.fld F.CHAN_CFG0_WRITER ch = t ∧ (((chanAt ch
      s1).holder = none ∨ (chanAt ch s1).holder = some t)) ∧ putChan ch
      { chanAt ch s1 with staging := tset 0 (chanAt ch s1).staging word (gpr t rs s1), written := setBit (chanAt ch s1).written word true, holder := some t }
      (max (s1.fld F.CHAN_STATUS_STAGED ch) (word + 1)) s1 = s2 ∧ (chanAt ch s1).queue.length < s1.fld F.CHAN_CFG0_DEPTH ch ∧ msgShare t s1 = false) ∧
    (∃ (s : State) (t : Nat) (i : Issue) (rd rs word ch : Nat) (s1 s2 : State), works (.send t i rd rs true word ch) s = true ∧ issues t i (.send rd
      rs false true word ch) s = true ∧ issued t i s = s1 ∧ s1.fld F.CHAN_CFG0_ENABLE ch ≠ 0 ∧ s1.fld F.CHAN_CFG0_WRITER ch = t ∧ (((chanAt ch
      s1).holder = none ∨ (chanAt ch s1).holder = some t)) ∧ (chanAt ch s1).queue.length < s1.fld F.CHAN_CFG0_DEPTH ch ∧ msgShare t s1 = true ∧ ch <
      224 ∧ takeMsg t (putChan ch
      { staging := [], holder := none, queue := (chanAt ch s1).queue ++ [(t, (List.range (word + 1)).map (fun i => tget 0 (tset 0 (chanAt ch s1).staging word (gpr t rs s1)) i))] }
      0 s1) = s2) ∧
    (∃ (s : State) (t : Nat) (i : Issue) (rd rs : Nat) (close : Bool) (word ch : Nat) (s1 : State), works (.recv t i rd rs close word ch) s = true ∧
      issues t i (.recv rd rs false close word ch) s = true ∧ issued t i s = s1 ∧ s1.fld F.CHAN_CFG0_ENABLE ch ≠ 0 ∧ s1.fld F.CHAN_CFG0_READER ch = t
      ∧ (chanAt ch s1).queue = []) ∧
    (∃ (s : State) (t : Nat) (i : Issue) (rd rs word ch : Nat) (s1 : State) (u : Nat) (msg : List Nat) (more : List (Nat × List Nat)), works (.recv t
      i rd rs false word ch) s = true ∧ issues t i (.recv rd rs false false word ch) s = true ∧ issued t i s = s1 ∧ s1.fld F.CHAN_CFG0_ENABLE ch ≠ 0 ∧
      s1.fld F.CHAN_CFG0_READER ch = t ∧ (chanAt ch s1).queue = (u, msg) :: more) ∧
    (∃ (s : State) (t : Nat) (i : Issue) (rd rs word ch : Nat) (s1 : State) (u : Nat) (msg : List Nat) (more : List (Nat × List Nat)) (s2 : State),
      works (.recv t i rd rs true word ch) s = true ∧ issues t i (.recv rd rs false true word ch) s = true ∧ issued t i s = s1 ∧ s1.fld
      F.CHAN_CFG0_ENABLE ch ≠ 0 ∧ s1.fld F.CHAN_CFG0_READER ch = t ∧ (chanAt ch s1).queue = (u, msg) :: more ∧ setGpr t rd (msg.getD word 0) s1 = s2) ∧
    (∃ (s : State) (t : Nat) (i : Issue) (rd rs : Nat) (s1 : State) (b : Nat), works (.poolRecv t i rd rs) s = true ∧ issues t i (.recv rd rs true
      true 0 0) s = true ∧ issued t i s = s1 ∧ bufShare t s1 = true ∧ (List.range 1024).find? (fun b => (tget none s1.me.bufHolder b).isNone) = some
      b) ∧
    (∃ (s : State) (t : Nat) (i : Issue) (rd rs : Nat) (s1 : State), works (.poolRecv t i rd rs) s = true ∧ issues t i (.recv rd rs true true 0 0) s =
      true ∧ issued t i s = s1 ∧ bufShare t s1 = false) ∧
    (∃ (s : State) (t : Nat) (i : Issue) (rd rs : Nat) (s1 : State) (b : Nat), works (.poolSend t i rd rs) s = true ∧ issues t i (.send rd rs true
      true 0 0) s = true ∧ issued t i s = s1 ∧ gpr t rs s1 = b ∧ b < 1024 ∧ tget none s1.me.bufHolder b = some t) :=
  ⟨⟨chanBusy, 0, {}, 3, 2, false, 0, 5, _, 1, (by decide +kernel), (by decide +kernel), rfl, (by decide +kernel), (by decide +kernel),
    (by decide +kernel), (by decide +kernel)⟩,
   ⟨chanFree false, 0, {}, 3, 2, 0, 5, _, _, (by decide +kernel), (by decide +kernel), rfl, (by decide +kernel), (by decide +kernel),
    (by decide +kernel), rfl⟩,
   ⟨chanFull, 0, {}, 3, 2, 0, 5, _, _, (by decide +kernel), (by decide +kernel), rfl, (by decide +kernel), (by decide +kernel), (by decide +kernel),
    rfl, (by decide +kernel)⟩,
   ⟨noShare, 0, {}, 3, 2, 0, 5, _, _, (by decide +kernel), (by decide +kernel), rfl, (by decide +kernel), (by decide +kernel), (by decide +kernel),
    rfl, (by decide +kernel), (by decide +kernel)⟩,
   ⟨chanFree true, 0, {}, 3, 2, 0, 5, _, _, (by decide +kernel), (by decide +kernel), rfl, (by decide +kernel), (by decide +kernel),
    (by decide +kernel), (by decide +kernel), (by decide +kernel), (by decide +kernel), rfl⟩,
   ⟨chanEmpty, 0, {}, 3, 2, true, 0, 5, _, (by decide +kernel), (by decide +kernel), rfl, (by decide +kernel), (by decide +kernel),
    (by decide +kernel)⟩,
   ⟨chanWaiting false, 0, {}, 3, 2, 0, 5, _, 1, [7], [], (by decide +kernel), (by decide +kernel), rfl, (by decide +kernel), (by decide +kernel),
    (by decide +kernel)⟩,
   ⟨chanWaiting true, 0, {}, 3, 2, 0, 5, _, 1, [7], [], _, (by decide +kernel), (by decide +kernel), rfl, (by decide +kernel), (by decide +kernel),
    (by decide +kernel), rfl⟩,
   ⟨poolFree, 0, {}, 3, 2, _, 0, (by decide +kernel), (by decide +kernel), rfl, (by decide +kernel), (by decide +kernel)⟩,
   ⟨runs (.recv 3 2 true true 0 0), 0, {}, 3, 2, _, (by decide +kernel), (by decide +kernel), rfl, (by decide +kernel)⟩,
   ⟨poolHeld, 0, {}, 3, 2, _, 0, (by decide +kernel), (by decide +kernel), rfl, (by decide +kernel), (by decide +kernel), (by decide +kernel)⟩⟩

theorem witness_WaitingInsnsComplete_1 :
    (∃ (s : State) (t : Nat) (i : Issue) (rd ra imm : Nat) (s1 : State) (m : Nat), works (.wfe t i rd ra imm) s = true ∧ issues t i (.wfe rd ra imm) s
      = true ∧ issued t i s = s1 ∧ matchedEvents t (gpr t ra s1) s1 = m ∧ m ≠ 0) ∧
    (∃ (s : State) (t : Nat) (i : Issue) (rd ra imm : Nat) (s1 : State) (mask : Nat) (s2 : State), works (.wfe t i rd ra imm) s = true ∧ issues t i
      (.wfe rd ra imm) s = true ∧ issued t i s = s1 ∧ gpr t ra s1 = mask ∧ matchedEvents t mask s1 = 0 ∧ s1.setFlds [(F.WAIT_MASK_LO, t, mask),
      (F.WAIT_MASK_HI, t, mask / 2 ^ 32)] = s2) ∧
    (∃ (s : State) (t : Nat) (i : Issue) (m : Nat), works (.wfeWake ⟨t, i⟩) s = true ∧ t < 32 ∧ threadState t s = 2 ∧ coreRuns t s = true ∧
      matchedEvents t (waitMask t s) s = m ∧ m ≠ 0) ∧
    (∃ (s : State) (t : Nat) (i : Issue) (rd ra imm : Nat) (s1 : State), works (.timer t i rd ra imm) s = true ∧ issues t i (.timer rd ra imm) s =
      true ∧ issued t i s = s1 ∧ gpr t ra s1 % 2 ^ 40 = 0) ∧
    (∃ (s : State) (t : Nat) (i : Issue) (rd ra imm : Nat) (s1 : State), works (.timer t i rd ra imm) s = true ∧ issues t i (.timer rd ra imm) s =
      true ∧ issued t i s = s1 ∧ gpr t ra s1 % 2 ^ 40 ≠ 0) ∧
    (∃ (s : State) (t n : Nat), works (.threadTimerExpiry t) s = true ∧ tget none s.me.timer t = some n) ∧
    (∃ (s : State) (t : Nat) (i : Issue) (rd ra imm : Nat) (s1 : State), works (.sample t i rd ra imm) s = true ∧ issues t i (.sample rd ra imm) s =
      true ∧ issued t i s = s1) ∧
    (∃ (s : State) (t : Nat) (i : Issue) (rd ra imm : Nat) (s1 : State) (a : Nat), works (.devr t i rd ra imm) s = true ∧ issues t i (.devr rd ra imm)
      s = true ∧ issued t i s = s1 ∧ effAddr t ra imm s1 = a ∧ a % 4 = 0 ∧ a < 0x4000000) ∧
    (∃ (s : State) (t : Nat) (i : Issue) (rd a : Nat), works (.devrRetire t i) s = true ∧ tget none s.me.devr t = some (rd, a) ∧ writeBefore t a s =
      false ∧ linkWaits a s = false) ∧
    (∃ (s : State) (t : Nat) (i : Issue) (rd ra imm : Nat) (s1 : State) (a : Nat), works (.devw t i rd ra imm) s = true ∧ issues t i (.devw rd ra imm)
      s = true ∧ issued t i s = s1 ∧ effAddr t ra imm s1 = a ∧ a % 4 = 0 ∧ a < 0x4000000 ∧ (tget [] s1.me.devw (t / 8)).length < 16) ∧
    (∃ (s : State) (t : Nat) (i : Issue) (rd ra imm : Nat) (s1 : State) (a : Nat), works (.devw t i rd ra imm) s = true ∧ issues t i (.devw rd ra imm)
      s = true ∧ issued t i s = s1 ∧ effAddr t ra imm s1 = a ∧ a % 4 = 0 ∧ a < 0x4000000 ∧ 16 ≤ (tget [] s1.me.devw (t / 8)).length) ∧
    (∃ (s : State) (c t a v : Nat) (more : List (Nat × Nat × Nat)), works (.devwTakeEffect c) s = true ∧ tget [] s.me.devw c = (t, a, v) :: more ∧
      linkWaits a s = false) :=
  ⟨⟨eventPending, 0, {}, 3, 1, 0, _, 2, (by decide +kernel), (by decide +kernel), rfl, (by decide +kernel), (by decide +kernel)⟩,
   ⟨runs (.wfe 3 1 0), 0, {}, 3, 1, 0, _, 0, _, (by decide +kernel), (by decide +kernel), rfl, (by decide +kernel), (by decide +kernel), rfl⟩,
   ⟨waitingThread, 0, {}, 2, (by decide +kernel), (by decide +kernel), (by decide +kernel), (by decide +kernel), (by decide +kernel),
    (by decide +kernel)⟩,
   ⟨runs (.timer 0 1 0), 0, {}, 0, 1, 0, _, (by decide +kernel), (by decide +kernel), rfl, (by decide +kernel)⟩,
   ⟨setGpr 0 1 9 (runs (.timer 0 1 0)), 0, {}, 0, 1, 0, _, (by decide +kernel), (by decide +kernel), rfl, (by decide +kernel)⟩,
   ⟨timerRuns, 4, 100, (by decide +kernel), (by decide +kernel)⟩,
   ⟨runs (.sample 3 0 1), 0, {}, 3, 0, 1, _, (by decide +kernel), (by decide +kernel), rfl⟩,
   ⟨runs (.devr 3 1 0x100), 0, {}, 3, 1, 0x100, _, 0x100, (by decide +kernel), (by decide +kernel), rfl, (by decide +kernel), (by decide +kernel),
    (by decide +kernel)⟩,
   ⟨readingThread, 0, {}, 3, 0x100, (by decide +kernel), (by decide +kernel), (by decide +kernel), (by decide +kernel)⟩,
   ⟨runs (.devw 3 1 0x100), 0, {}, 3, 1, 0x100, _, 0x100, (by decide +kernel), (by decide +kernel), rfl, (by decide +kernel), (by decide +kernel),
    (by decide +kernel), (by decide +kernel)⟩,
   ⟨fullQueue, 0, {}, 3, 1, 0x100, _, 0x100, (by decide +kernel), (by decide +kernel), rfl, (by decide +kernel), (by decide +kernel),
    (by decide +kernel), (by decide +kernel)⟩,
   ⟨postedWrite, 0, 0, 0x100, 5, [], (by decide +kernel), (by decide +kernel), (by decide +kernel)⟩⟩

theorem witness_WaitingInsnsComplete_2 :
    (∃ (s : State) (t : Nat) (i : Issue) (s1 : State), works (.devsync t i) s = true ∧ issues t i .devsync s = true ∧ issued t i s = s1 ∧ (tget []
      s1.me.devw (t / 8)).any (fun e => e.1 == t) = false) ∧
    (∃ (s : State) (t : Nat) (i : Issue) (s1 : State), works (.devsync t i) s = true ∧ issues t i .devsync s = true ∧ issued t i s = s1 ∧ (tget []
      s1.me.devw (t / 8)).any (fun e => e.1 == t) = true) :=
  ⟨⟨runs .devsync, 0, {}, _, (by decide +kernel), (by decide +kernel), rfl, (by decide +kernel)⟩,
   ⟨postedSync, 0, {}, _, (by decide +kernel), (by decide +kernel), rfl, (by decide +kernel)⟩⟩

theorem witness_ThreadFaultsStop :
    (∃ (s : State) (t : Nat) (i : Issue) (rd ra rb func : Nat), works (.alu t i rd ra rb func) s = true ∧ t < 32 ∧ threadState t s = 1 ∧ coreRuns t s
      = true ∧ tget none s.me.devr t = none ∧ ((atBreakpoint t s = false ∨ tget false s.me.bpPass t = true ∨ tget 0 s.me.held t ≠ 0)) ∧ mayFetch t
      (pcOf t s) s = false) ∧
    (∃ (s : State) (t : Nat) (i : Issue) (rd ra rb func : Nat), works (.alu t i rd ra rb func) s = true ∧ t < 32 ∧ threadState t s = 1 ∧ coreRuns t s
      = true ∧ tget none s.me.devr t = none ∧ ((atBreakpoint t s = false ∨ tget false s.me.bpPass t = true ∨ tget 0 s.me.held t ≠ 0)) ∧ mayFetch t
      (pcOf t s) s = true ∧ pcOf t s % 4 ≠ 0) ∧
    (∃ (s : State) (t : Nat) (i : Issue) (rd ra rb func : Nat), works (.alu t i rd ra rb func) s = true ∧ t < 32 ∧ threadState t s = 1 ∧ coreRuns t s
      = true ∧ tget none s.me.devr t = none ∧ ((atBreakpoint t s = false ∨ tget false s.me.bpPass t = true ∨ tget 0 s.me.held t ≠ 0)) ∧ mayFetch t
      (pcOf t s) s = true ∧ pcOf t s % 4 = 0 ∧ legalWord (fetched t s) = false) ∧
    (∃ (s : State) (t : Nat) (i : Issue) (k rd ra imm : Nat) (s1 : State), works (.load t i k rd ra imm) s = true ∧ issues t i (.load k rd ra imm) s =
      true ∧ issued t i s = s1 ∧ effAddr t ra imm s1 % (loadSize k).1 ≠ 0) ∧
    (∃ (s : State) (t : Nat) (i : Issue) (k rd ra imm : Nat) (s1 : State), works (.load t i k rd ra imm) s = true ∧ issues t i (.load k rd ra imm) s =
      true ∧ issued t i s = s1 ∧ effAddr t ra imm s1 % (loadSize k).1 = 0 ∧ mayLoad t (effAddr t ra imm s1) s1 = false) ∧
    (∃ (s : State) (t : Nat) (i : Issue) (k rs ra imm : Nat) (s1 : State), works (.store t i k rs ra imm) s = true ∧ issues t i (.store k rs ra imm) s
      = true ∧ issued t i s = s1 ∧ effAddr t ra imm s1 % 2 ^ (3 - k % 4) ≠ 0) ∧
    (∃ (s : State) (t : Nat) (i : Issue) (k rs ra imm : Nat) (s1 : State), works (.store t i k rs ra imm) s = true ∧ issues t i (.store k rs ra imm) s
      = true ∧ issued t i s = s1 ∧ effAddr t ra imm s1 % 2 ^ (3 - k % 4) = 0 ∧ mayStore t (effAddr t ra imm s1) s1 = false) ∧
    (∃ (s : State) (t : Nat) (i : Issue) (rd ra rb : Nat) (s1 : State), works (.amoSwap t i rd ra rb) s = true ∧ issues t i (.amo 0 rd ra rb) s = true
      ∧ issued t i s = s1 ∧ gpr t ra s1 % 8 = 0 ∧ mayAmo t (gpr t ra s1) s1 = false) ∧
    (∃ (s : State) (t : Nat) (i : Issue) (rd ra imm : Nat) (s1 : State), works (.jr t i rd ra imm) s = true ∧ issues t i (.jr rd ra imm) s = true ∧
      issued t i s = s1 ∧ effAddr t ra imm s1 % 4 ≠ 0) ∧
    (∃ (s : State) (t : Nat) (i : Issue) (rd ra imm : Nat) (s1 : State), works (.devr t i rd ra imm) s = true ∧ issues t i (.devr rd ra imm) s = true
      ∧ issued t i s = s1 ∧ effAddr t ra imm s1 % 4 = 0 ∧ 0x4000000 ≤ effAddr t ra imm s1) ∧
    (∃ (s : State) (t : Nat) (i : Issue) (rd ra imm : Nat) (s1 : State), works (.devw t i rd ra imm) s = true ∧ issues t i (.devw rd ra imm) s = true
      ∧ issued t i s = s1 ∧ effAddr t ra imm s1 % 4 = 0 ∧ 0x4000000 ≤ effAddr t ra imm s1) ∧
    (∃ (s : State) (t : Nat) (i : Issue) (rd rs : Nat) (s1 : State), works (.poolSend t i rd rs) s = true ∧ issues t i (.send rd rs true true 0 0) s =
      true ∧ issued t i s = s1 ∧ tget none s1.me.bufHolder (gpr t rs s1) ≠ some t) :=
  ⟨⟨badFetch, 5, {}, 0, 0, 0, 0, (by decide +kernel), (by decide +kernel), (by decide +kernel), (by decide +kernel), (by decide +kernel),
    (by decide +kernel), (by decide +kernel)⟩,
   ⟨oddPc, 0, {}, 0, 0, 0, 0, (by decide +kernel), (by decide +kernel), (by decide +kernel), (by decide +kernel), (by decide +kernel),
    (by decide +kernel), (by decide +kernel), (by decide +kernel)⟩,
   ⟨illegalWord, 0, {}, 0, 0, 0, 0, (by decide +kernel), (by decide +kernel), (by decide +kernel), (by decide +kernel), (by decide +kernel),
    (by decide +kernel), (by decide +kernel), (by decide +kernel), (by decide +kernel)⟩,
   ⟨runs (.load 0 3 1 0x101), 0, {}, 0, 3, 1, 0x101, _, (by decide +kernel), (by decide +kernel), rfl, (by decide +kernel)⟩,
   ⟨setGpr 0 1 0x180000 (runs (.load 0 3 1 0)), 0, {}, 0, 3, 1, 0, _, (by decide +kernel), (by decide +kernel), rfl, (by decide +kernel),
    (by decide +kernel)⟩,
   ⟨runs (.store 0 3 1 0x101), 0, {}, 0, 3, 1, 0x101, _, (by decide +kernel), (by decide +kernel), rfl, (by decide +kernel)⟩,
   ⟨setGpr 0 1 0x180000 (runs (.store 0 3 1 0)), 0, {}, 0, 3, 1, 0, _, (by decide +kernel), (by decide +kernel), rfl, (by decide +kernel),
    (by decide +kernel)⟩,
   ⟨setGpr 0 1 0x180000 (runs (.amo 0 3 1 2)), 0, {}, 3, 1, 2, _, (by decide +kernel), (by decide +kernel), rfl, (by decide +kernel),
    (by decide +kernel)⟩,
   ⟨runs (.jr 0 1 2), 0, {}, 0, 1, 2, _, (by decide +kernel), (by decide +kernel), rfl, (by decide +kernel)⟩,
   ⟨setGpr 0 1 0x4000000 (runs (.devr 3 1 0)), 0, {}, 3, 1, 0, _, (by decide +kernel), (by decide +kernel), rfl, (by decide +kernel),
    (by decide +kernel)⟩,
   ⟨setGpr 0 1 0x4000000 (runs (.devw 3 1 0)), 0, {}, 3, 1, 0, _, (by decide +kernel), (by decide +kernel), rfl, (by decide +kernel),
    (by decide +kernel)⟩,
   ⟨runs (.send 3 2 true true 0 0), 0, {}, 3, 2, _, (by decide +kernel), (by decide +kernel), rfl, (by decide +kernel)⟩⟩

theorem witness_InterruptRowsComplete :
    (∃ (s : State) (n j : Nat), works (.interruptDelivery n) s = true ∧ n ≠ 97 ∧ deliverable n s = true ∧ s.fld F.SRC_STATUS_EPOCH_DELIVERIES n <
      s.fld F.SRC_CFG_STORM_LIMIT n ∧ s.fld F.SRC_CFG_MASK n ≠ 1 ∧ nextTarget (s.fld F.SRC_CFG_ENABLE n) (tget 6 s.intc.rot n) 7 = j ∧ requestLine j s
      = true) ∧
    (∃ (s : State) (n j : Nat), works (.interruptDelivery n) s = true ∧ n ≠ 97 ∧ deliverable n s = true ∧ s.fld F.SRC_STATUS_EPOCH_DELIVERIES n <
      s.fld F.SRC_CFG_STORM_LIMIT n ∧ s.fld F.SRC_CFG_MASK n ≠ 1 ∧ nextTarget (s.fld F.SRC_CFG_ENABLE n) (tget 6 s.intc.rot n) 7 = j ∧ requestLine j s
      = false) ∧
    (∃ (s : State) (q : Requester) (j n : Nat), works (.claim q j) s = true ∧ j < 7 ∧ ownsTarget q j = true ∧ claimValue j s = n ∧ n ≠ 0) ∧
    (∃ (s : State) (q : Requester) (j : Nat), works (.claim q j) s = true ∧ j < 7 ∧ ownsTarget q j = true ∧ claimValue j s = 0) ∧
    (∃ (s : State) (q : Requester) (j n : Nat), works (.claim q j) s = true ∧ j < 7 ∧ ownsTarget q j = false ∧ claimValue j s = n) ∧
    (∃ (s : State) (q : Requester) (j n m : Nat) (s1 : State), works (.complete q j n) s = true ∧ j < 7 ∧ ownsTarget q j = true ∧ n % 512 = m ∧
      srcExists m = true ∧ s.fld F.SRC_STATUS_IN_SERVICE m = 1 ∧ s.fld F.SRC_STATUS_TARGET m = j ∧ endService m s = s1 ∧ requestLine j s1 = false) ∧
    (∃ (s : State) (q : Requester) (j n m : Nat), works (.complete q j n) s = true ∧ j < 7 ∧ ownsTarget q j = true ∧ n % 512 = m ∧ s.fld
      F.SRC_STATUS_IN_SERVICE m ≠ 1 ∧ requestLine j (s.bump F.COMPLETE_STRAY 0) = false) ∧
    (∃ (s : State) (q : Requester) (n m : Nat), works (.srcMaskWrite q n m) s = true ∧ srcExists n = true) ∧
    (∃ (s : State) (q : Requester) (n e j : Nat) (s1 : State), works (.srcEnableWrite q n e) s = true ∧ srcExists n = true ∧ s.fld F.SRC_STATUS_TARGET
      n = j ∧ deliveredTo j n s = true ∧ j < 7 ∧ (e % 128).testBit j = false ∧ s.setFld F.SRC_CFG_ENABLE n (e % 128) = s1) ∧
    (∃ (s : State) (q : Requester) (n e j : Nat), works (.srcEnableWrite q n e) s = true ∧ srcExists n = true ∧ s.fld F.SRC_STATUS_TARGET n = j ∧ ((j
      = 7 ∨ deliveredTo j n s = false ∨ (e % 128).testBit j = true))) ∧
    (∃ (s : State) (q : Requester), works (.swRaise q) s = true) :=
  ⟨⟨secondSource, 33, 0, (by decide +kernel), (by decide +kernel), (by decide +kernel), (by decide +kernel), (by decide +kernel), (by decide +kernel),
    (by decide +kernel)⟩,
   ⟨raisedSource, 33, 0, (by decide +kernel), (by decide +kernel), (by decide +kernel), (by decide +kernel), (by decide +kernel), (by decide +kernel),
    (by decide +kernel)⟩,
   ⟨claimable, .thread 0, 0, 33, (by decide +kernel), (by decide +kernel), (by decide +kernel), (by decide +kernel), (by decide +kernel)⟩,
   ⟨up0, .thread 0, 0, (by decide +kernel), (by decide +kernel), (by decide +kernel), (by decide +kernel)⟩,
   ⟨claimable, .jtag, 0, 33, (by decide +kernel), (by decide +kernel), (by decide +kernel), (by decide +kernel)⟩,
   ⟨inService, .thread 0, 0, 33, 33, _, (by decide +kernel), (by decide +kernel), (by decide +kernel), (by decide +kernel), (by decide +kernel),
    (by decide +kernel), (by decide +kernel), rfl, (by decide +kernel)⟩,
   ⟨up0, .thread 0, 0, 33, 33, (by decide +kernel), (by decide +kernel), (by decide +kernel), (by decide +kernel), (by decide +kernel),
    (by decide +kernel)⟩,
   ⟨up0, .jtag, 33, 1, (by decide +kernel), (by decide +kernel)⟩,
   ⟨claimable, .jtag, 33, 0, 0, _, (by decide +kernel), (by decide +kernel), (by decide +kernel), (by decide +kernel), (by decide +kernel),
    (by decide +kernel), rfl⟩,
   ⟨up0, .jtag, 33, 1, 7, (by decide +kernel), (by decide +kernel), (by decide +kernel), (by decide +kernel)⟩,
   ⟨up0, .jtag, (by decide +kernel)⟩⟩

theorem witness_FaultAndResetRowsComplete_1 :
    (∃ (s : State) (e : FaultEv) (es : List FaultEv) (x : State × List (FaultEv × Nat × Nat)), works .faultCommit s = true ∧ sortEvs s.flt.events = e
      :: es ∧ commitList ((e :: es).filter (fun x => x.stamp == e.stamp))
      { s with flt := { s.flt with events := (e :: es).filter (fun x => x.stamp != e.stamp) } } = x ∧ (takeReactions x.2 x.1).ldr.held = false) ∧
    (∃ (s : State) (i : Nat) (deg : Int) (s1 : State), works (.tempSensorRead i deg) s = true ∧ i < 5 ∧ deg ≤ 125 ∧ deg < Int.ofNat (s.fld
      F.FLT_CFG_TJ_WARN 0) - 5 ∧ s.setFld F.FLT_TEMP i (deg % 65536).toNat = s1) ∧
    (∃ (s : State) (q : Requester), works (.firstClear q) s = true) ∧
    (∃ (s : State) (q : Requester), works (.faultNRelease q) s = true) ∧
    (∃ (s : State) (q : Requester) (n w : Nat), works (.srcReactWrite q true n w) s = true ∧ 1 ≤ n ∧ n < 5) ∧
    (∃ (s : State) (q : Requester) (n w : Nat), works (.srcReactWrite q false n w) s = true ∧ 1 ≤ n ∧ n < 128 ∧ faultExists n = true ∧ ((w.testBit 2
      && !hasUnit n) || (faultClass n == 5 && w % 32 != 0)) = false ∧ w / 2 ^ 16 % 2 ^ 16 ≠ 0 ∧ w / 2 ^ 12 % 16 ≠ 0) ∧
    (∃ (s : State) (q : Requester) (n w : Nat), works (.srcReactWrite q false n w) s = true ∧ 1 ≤ n ∧ n < 128 ∧ ((w.testBit 2 && !hasUnit n) ||
      (faultClass n == 5 && w % 32 != 0)) = true) ∧
    (∃ (s : State) (u : Nat), works (.conseqWindowClose u) s = true ∧ inUnitReset u s = false) ∧
    (∃ (s : State) (q : Requester) (key d : Nat), works (.dieHoldSet q key d) s = true ∧ key = 0xB10C ∧ d < 4 ∧ s.dieEnabled d = true ∧ dieHeld d s =
      false) ∧
    (∃ (s : State) (q : Requester) (key d : Nat), works (.dieHoldSet q key d) s = true ∧ key ≠ 0xB10C) ∧
    (∃ (s : State) (q : Requester) (key d : Nat), works (.dieHoldClear q key d) s = true ∧ key = 0xB10C ∧ d < 4 ∧ s.dieEnabled d = true ∧ dieHeld d s
      = true) ∧
    (∃ (s : State) (q : Requester) (key d : Nat), works (.dieHoldClear q key d) s = true ∧ key ≠ 0xB10C) :=
  ⟨⟨faulted, { src := 24, die := 4, detail := 0, stamp := 0 }, [], commitList [{ src := 24, die := 4, detail := 0, stamp := 0 }] up0,
    (by decide +kernel), (by decide +kernel), (by decide +kernel), (by decide +kernel)⟩,
   ⟨up0, 2, 40, _, (by decide +kernel), (by decide +kernel), (by decide +kernel), (by decide +kernel), rfl⟩,
   ⟨up0, .jtag, (by decide +kernel)⟩,
   ⟨up0, .jtag, (by decide +kernel)⟩,
   ⟨up0, .jtag, 2, 3, (by decide +kernel), (by decide +kernel), (by decide +kernel)⟩,
   ⟨up0, .jtag, 24, 0x11001, (by decide +kernel), (by decide +kernel), (by decide +kernel), (by decide +kernel), (by decide +kernel),
    (by decide +kernel), (by decide +kernel)⟩,
   ⟨up0, .jtag, 5, 4, (by decide +kernel), (by decide +kernel), (by decide +kernel), (by decide +kernel)⟩,
   ⟨up0, 3, (by decide +kernel), (by decide +kernel)⟩,
   ⟨up0, .jtag, 0xB10C, 2, (by decide +kernel), (by decide +kernel), (by decide +kernel), (by decide +kernel), (by decide +kernel)⟩,
   ⟨up0, .jtag, 7, 2, (by decide +kernel), (by decide +kernel)⟩,
   ⟨heldDie, .jtag, 0xB10C, 2, (by decide +kernel), (by decide +kernel), (by decide +kernel), (by decide +kernel), (by decide +kernel)⟩,
   ⟨heldDie, .jtag, 7, 2, (by decide +kernel), (by decide +kernel)⟩⟩

theorem witness_FaultAndResetRowsComplete_2 :
    (∃ (s : State) (d : Nat), works (.dieResetEnd d) s = true ∧ d < 4 ∧ inUnitReset (34 + d) s = true ∧ dieHeld d s = false ∧ dieDead d s = false) ∧
    (∃ (s : State) (d : Nat) (s1 s2 : State), works (.dieReadmit d true) s = true ∧ d < 4 ∧ inUnitReset (34 + d) s = true ∧ dieHeld d s = false ∧
      dieDead d s = false ∧ tget false s.flt.rebuilt d = true ∧ dieVerify d s = true ∧ tcamReturn d (s.setFlds [(F.EM_INFO, d, s.fld F.EM_INFO d + 1),
      (F.DIE_STATUS_IN_RESET, 0, setBit (s.fld F.DIE_STATUS_IN_RESET 0) d false)]) = s1 ∧ unitEnd (34 + d)
      { s1 with flt := { s1.flt with dieFails := tset 0 s1.flt.dieFails d 0, rebuilt := tset false s1.flt.rebuilt d false } } = s2) ∧
    (∃ (s : State) (d : Nat) (ok : Bool) (s1 : State), works (.dieReadmit d ok) s = true ∧ d < 4 ∧ inUnitReset (34 + d) s = true ∧ dieHeld d s = false
      ∧ dieDead d s = false ∧ tget false s.flt.rebuilt d = true ∧ (ok && dieVerify d s) = false ∧ tget 0 s.flt.dieFails d = 0 ∧ raiseFault 74 d 0
      { s with flt := { s.flt with dieFails := tset 0 s.flt.dieFails d 1 } } = s1) ∧
    (∃ (s : State) (d : Nat) (ok : Bool) (n : Nat), works (.dieReadmit d ok) s = true ∧ d < 4 ∧ inUnitReset (34 + d) s = true ∧ dieHeld d s = false ∧
      dieDead d s = false ∧ tget false s.flt.rebuilt d = true ∧ (ok && dieVerify d s) = false ∧ tget 0 s.flt.dieFails d = n ∧ 1 ≤ n) ∧
    (∃ (s : State) (q : Requester) (key : Nat), works (.meReset q key) s = true ∧ key = 0xB10C) ∧
    (∃ (s : State) (q : Requester) (key : Nat), works (.meReset q key) s = true ∧ key ≠ 0xB10C) ∧
    (∃ (s : State) (q : Requester) (key : Nat), works (.hifReset q key) s = true ∧ key = 0xB10C ∧ inUnitReset 1 s = false) ∧
    (∃ (s : State) (q : Requester) (key : Nat), works (.hifReset q key) s = true ∧ key ≠ 0xB10C) ∧
    (∃ (s : State) (rate width : Nat), works (.hifResetEnd rate width) s = true ∧ inUnitReset 1 s = true) :=
  ⟨⟨endingDie, 2, (by decide +kernel), (by decide +kernel), (by decide +kernel), (by decide +kernel), (by decide +kernel)⟩,
   ⟨rebuiltDie, 2, _, _, (by decide +kernel), (by decide +kernel), (by decide +kernel), (by decide +kernel), (by decide +kernel), (by decide +kernel),
    (by decide +kernel), rfl, rfl⟩,
   ⟨rebuiltDie, 2, false, _, (by decide +kernel), (by decide +kernel), (by decide +kernel), (by decide +kernel), (by decide +kernel),
    (by decide +kernel), (by decide +kernel), (by decide +kernel), rfl⟩,
   ⟨failedDie, 2, false, 1, (by decide +kernel), (by decide +kernel), (by decide +kernel), (by decide +kernel), (by decide +kernel),
    (by decide +kernel), (by decide +kernel), (by decide +kernel), (by decide +kernel)⟩,
   ⟨up0, .jtag, 0xB10C, (by decide +kernel), (by decide +kernel)⟩,
   ⟨up0, .jtag, 7, (by decide +kernel), (by decide +kernel)⟩,
   ⟨up0, .jtag, 0xB10C, (by decide +kernel), (by decide +kernel), (by decide +kernel)⟩,
   ⟨up0, .jtag, 7, (by decide +kernel), (by decide +kernel)⟩,
   ⟨hifInReset, 5, 16, (by decide +kernel), (by decide +kernel)⟩⟩

theorem witness_DramRowsComplete_1 :
    (∃ (s : State) (c : Nat) (ecc : Ecc) (parity : Bool) (r : DramReq) (s1 : State), works (.dramRequestIssue c ecc parity) s = true ∧ c < 32 ∧ s.fld
      F.CH_STATUS_CATCHUP c = 0 ∧ s.fld F.CH_STATUS_STATE c = 4 ∧ takeRequest c s = some (r, s1)) ∧
    (∃ (s : State) (c : Nat) (ecc : Ecc) (r : DramReq) (s1 : State), works (.dramRequestIssue c ecc false) s = true ∧ c < 32 ∧ s.fld
      F.CH_STATUS_CATCHUP c = 0 ∧ s.fld F.CH_STATUS_STATE c = 2 ∧ takeRequest c s = some (r, s1) ∧ r.write = true ∧ r.old = []) ∧
    (∃ (s : State) (c : Nat) (ecc : Ecc) (r : DramReq) (s1 : State), works (.dramRequestIssue c ecc false) s = true ∧ c < 32 ∧ s.fld
      F.CH_STATUS_CATCHUP c = 0 ∧ s.fld F.CH_STATUS_STATE c = 2 ∧ takeRequest c s = some (r, s1) ∧ r.write = false) ∧
    (∃ (s : State) (c : Nat) (r : DramReq) (s1 : State), works (.dramRequestIssue c (.ue) false) s = true ∧ c < 32 ∧ s.fld F.CH_STATUS_CATCHUP c = 0 ∧
      s.fld F.CH_STATUS_STATE c = 2 ∧ takeRequest c s = some (r, s1) ∧ r.write = true ∧ r.old ≠ []) ∧
    (∃ (s : State) (c : Nat) (ecc : Ecc) (r : DramReq) (s1 : State), works (.dramRequestIssue c ecc true) s = true ∧ c < 32 ∧ s.fld
      F.CH_STATUS_CATCHUP c = 0 ∧ s.fld F.CH_STATUS_STATE c = 2 ∧ takeRequest c s = some (r, s1) ∧ r.write = true ∧ r.old = []) ∧
    (∃ (s : State) (c : Nat) (ecc : Ecc) (i : Nat) (s1 : State), works (.patrolRead c ecc) s = true ∧ c < 32 ∧ s.fld F.MEM_CFG_PATROL_EN 0 ≠ 0 ∧ s.fld
      F.CH_STATUS_STATE c = 2 ∧ s.fld F.CH_STATUS_CATCHUP c = 0 ∧ tget 0 s.dram.patrol c = i ∧ s.withDram
      { s.dram with patrol := tset 0 s.dram.patrol c ((i + 1) % 2 ^ 23) } = s1 ∧ ecc ≠ .ce) ∧
    (∃ (s : State) (c i : Nat) (s1 : State), works (.patrolRead c (.ce)) s = true ∧ c < 32 ∧ s.fld F.MEM_CFG_PATROL_EN 0 ≠ 0 ∧ s.fld F.CH_STATUS_STATE
      c = 2 ∧ s.fld F.CH_STATUS_CATCHUP c = 0 ∧ tget 0 s.dram.patrol c = i ∧ s.withDram
      { s.dram with patrol := tset 0 s.dram.patrol c ((i + 1) % 2 ^ 23) } = s1) ∧
    (∃ (s : State) (m : Nat) (raw : Int) (s1 : State), works (.stackTempRead m raw) s = true ∧ m < 2 ∧ signed8 (s.fld F.STACK_TEMP_FILTERED m) - 2 ≤
      raw ∧ raw ≤ signed8 (s.fld F.STACK_TEMP_FILTERED m) + 2 ∧ raw < 80 ∧ s.fld F.STACK_TEMP_HOT m = 0 ∧ s.setFlds [(F.STACK_TEMP_RAW, m, (raw %
      256).toNat), (F.STACK_TEMP_FILTERED, m, (raw % 256).toNat), (F.STACK_TEMP_LIMIT, m, 8), (F.STACK_TEMP_HOT, m, 0)] = s1) ∧
    (∃ (s : State) (c pc n : Nat), works (.refreshDue c pc n) s = true ∧ c < 32 ∧ pc < 2 ∧ refreshes c s = true ∧ s.fld F.CH_STATUS_CATCHUP c = 1) ∧
    (∃ (s : State) (c pc n : Nat), works (.refreshDue c pc n) s = true ∧ c < 32 ∧ pc < 2 ∧ refreshes c s = true ∧ s.fld F.CH_STATUS_CATCHUP c ≠ 1) ∧
    (∃ (s : State) (c : Nat), works (.catchupEnd c) s = true ∧ c < 32 ∧ s.fld F.CH_STATUS_CATCHUP c ≠ 0) ∧
    (∃ (s : State) (c pc bank row : Nat), works (.neighbourRefresh c pc bank row) s = true ∧ c < 32 ∧ pc < 2 ∧ bank < 2 ^ 16 ∧ s.fld
      F.CH_STATUS_CATCHUP c = 0 ∧ (tget [] s.dram.act ((c * 2 + pc) * 2 ^ 16 + bank)).any (fun e => e.1 == row && decide (rdThreshold c s ≤ e.2)) =
      true) :=
  ⟨⟨channelAsked.setFld F.CH_STATUS_STATE 3 4, 3, .ok, false, waitsAt3, _, (by decide +kernel), (by decide +kernel), (by decide +kernel),
    (by decide +kernel), (takeRequest_alone (by decide +kernel) (by decide +kernel) (by decide +kernel))⟩,
   ⟨channelAsked, 3, .ok, waitsAt3, _, (by decide +kernel), (by decide +kernel), (by decide +kernel), (by decide +kernel), (takeRequest_alone
    (by decide +kernel) (by decide +kernel) (by decide +kernel)), (by decide +kernel), (by decide +kernel)⟩,
   ⟨channelRead, 3, .ok, readsAt3, _, (by decide +kernel), (by decide +kernel), (by decide +kernel), (by decide +kernel), (takeRequest_alone
    (by decide +kernel) (by decide +kernel) (by decide +kernel)), (by decide +kernel)⟩,
   ⟨channelMerge, 3, mergesAt3, _, (by decide +kernel), (by decide +kernel), (by decide +kernel), (by decide +kernel), (takeRequest_alone
    (by decide +kernel) (by decide +kernel) (by decide +kernel)), (by decide +kernel), (by decide +kernel)⟩,
   ⟨channelAsked, 3, .ok, waitsAt3, _, (by decide +kernel), (by decide +kernel), (by decide +kernel), (by decide +kernel), (takeRequest_alone
    (by decide +kernel) (by decide +kernel) (by decide +kernel)), (by decide +kernel), (by decide +kernel)⟩,
   ⟨channelRuns, 3, .ok, 0, _, (by decide +kernel), (by decide +kernel), (by decide +kernel), (by decide +kernel), (by decide +kernel),
    (by decide +kernel), rfl, (by decide +kernel)⟩,
   ⟨channelRuns, 3, 0, _, (by decide +kernel), (by decide +kernel), (by decide +kernel), (by decide +kernel), (by decide +kernel),
    (by decide +kernel), rfl⟩,
   ⟨up0, 1, 1, _, (by decide +kernel), (by decide +kernel), (by decide +kernel), (by decide +kernel), (by decide +kernel), (by decide +kernel), rfl⟩,
   ⟨catchingUp, 3, 1, 0, (by decide +kernel), (by decide +kernel), (by decide +kernel), (by decide +kernel), (by decide +kernel)⟩,
   ⟨channelRuns, 3, 1, 0, (by decide +kernel), (by decide +kernel), (by decide +kernel), (by decide +kernel), (by decide +kernel)⟩,
   ⟨catchingUp, 3, (by decide +kernel), (by decide +kernel), (by decide +kernel)⟩,
   ⟨hammered, 3, 1, 2, 7, (by decide +kernel), (by decide +kernel), (by decide +kernel), (by decide +kernel), (by decide +kernel),
    (by decide +kernel)⟩⟩

theorem witness_DramRowsComplete_2 :
    (∃ (s : State) (c : Nat), works (.rdWindowEnd c) s = true ∧ c < 32) ∧
    (∃ (s : State) (q : Requester) (c : Nat), works (.channelRetrain q c) s = true ∧ c < 32 ∧ ((s.fld F.CH_STATUS_STATE c = 2 ∨ s.fld
      F.CH_STATUS_STATE c = 4))) ∧
    (∃ (s : State) (c : Nat) (s1 : State), works (.channelRetrainEnd c true) s = true ∧ c < 32 ∧ s.fld F.CH_STATUS_STATE c = 3 ∧ (s.setFlds
      [(F.CH_STATUS_STATE, c, 2), (F.CH_STATUS_GEN, c, s.fld F.CH_STATUS_GEN c + 1)]).bump F.MEM_RETRAINS c = s1) ∧
    (∃ (s : State) (c : Nat), works (.channelRetrainEnd c false) s = true ∧ c < 32 ∧ s.fld F.CH_STATUS_STATE c = 3) ∧
    (∃ (s : State) (c : Nat), works (.channelPhyLockLoss c) s = true ∧ c < 32 ∧ s.fld F.LDR_STATUS_STATE 0 = 8) :=
  ⟨⟨channelRuns, 3, (by decide +kernel), (by decide +kernel)⟩,
   ⟨channelRuns, .jtag, 3, (by decide +kernel), (by decide +kernel), (by decide +kernel)⟩,
   ⟨channelTrains, 3, _, (by decide +kernel), (by decide +kernel), (by decide +kernel), rfl⟩,
   ⟨channelTrains, 3, (by decide +kernel), (by decide +kernel), (by decide +kernel)⟩,
   ⟨channelRuns, 3, (by decide +kernel), (by decide +kernel), (by decide +kernel)⟩⟩

theorem witness_StartSequenceComplete_1 :
    (∃ (s s1 : State), works (.baseTrainingDone []) s = true ∧ s.ldr.trained = false ∧ s.ldr.held = false ∧ s.terminal = false ∧ s.fld
      F.CH_STATUS_STATE 0 = 1 ∧ (List.range 32).foldl (fun s c => s.setFld F.CH_STATUS_STATE c 2) s = s1) ∧
    (∃ (s : State) (bad : List Nat) (t : State), works (.baseTrainingDone bad) s = true ∧ s.ldr.trained = false ∧ s.ldr.held = false ∧ s.terminal =
      false ∧ s.fld F.CH_STATUS_STATE 0 = 1 ∧ (bad.filter (fun c => decide (c < 32))).isEmpty = false ∧ (List.range 32).foldl (fun s c => if
      (bad.filter (fun c => decide (c < 32))).contains c then trainFail c s else s.setFld F.CH_STATUS_STATE c 2) s = t ∧ t.safe = false) ∧
    (∃ (s : State), works (.finalCalibrationDone []) s = true ∧ startState s = 6 ∧ s.terminal = false ∧ s.ldr.held = false) ∧
    (∃ (s : State) (bad : List Nat) (t : State), works (.finalCalibrationDone bad) s = true ∧ startState s = 6 ∧ s.terminal = false ∧ s.ldr.held =
      false ∧ (bad.filter (fun c => decide (c < 32))).isEmpty = false ∧ (List.range 32).foldl (fun s c => if (bad.filter (fun c => decide (c <
      32))).contains c then trainFail c s else s) s = t) ∧
    (∃ (s : State) (i : Nat) (uv : Int), works (.railSample i uv) s = true ∧ i < 8 ∧ railReading i uv = .absolute ∧ tget false s.ldr.railBad 7 =
      false) ∧
    (∃ (s : State) (i : Nat) (uv : Int), works (.railSample i uv) s = true ∧ i < 8 ∧ railReading i uv = .out ∧ tget 0 s.ldr.railOut i = 0) ∧
    (∃ (s : State) (i : Nat) (uv : Int), works (.railSample i uv) s = true ∧ 1 ≤ i ∧ i < 6 ∧ railReading i uv = .out ∧ tget 0 s.ldr.railOut i = 1 ∧
      tget false s.ldr.railBad i = false ∧ s.ldr.held = false) ∧
    (∃ (s : State) (i : Nat) (uv : Int) (l : LdrSt), works (.railSample i uv) s = true ∧ i < 8 ∧ railReading i uv = .good ∧ railsGood s.ldr = true ∧
      { s.ldr with railOut := tset 0 s.ldr.railOut i 0, railBad := tset false s.ldr.railBad i false } = l) ∧
    (∃ (s : State), works (.resetNEdge true) s = true ∧ s.ldr.held = false ∧ s.terminal = false) ∧
    (∃ (s : State), works (.resetNEdge false) s = true ∧ s.ldr.held = false) ∧
    (∃ (s : State) (l : LdrSt), works (.resetNEdge false) s = true ∧ { s.ldr with resetLow := false } = l ∧ l.held = true ∧ s.terminal = false ∧
      resetCondition l = false) ∧
    (∃ (s : State) (l : LdrSt), works .resetHoldExpiry s = true ∧ { s.ldr with settling := false } = l ∧ l.held = true ∧ s.terminal = false ∧
      resetCondition l = false) :=
  ⟨⟨baseTrains, _, (by decide +kernel), (by decide +kernel), (by decide +kernel), (by decide +kernel), (by decide +kernel), rfl⟩,
   ⟨baseTrains, [3], _, (by decide +kernel), (by decide +kernel), (by decide +kernel), (by decide +kernel), (by decide +kernel), (by decide +kernel),
    rfl, (by decide +kernel)⟩,
   ⟨startsAt 6, (by decide +kernel), (by decide +kernel), (by decide +kernel), (by decide +kernel)⟩,
   ⟨startsAt 6, [3], _, (by decide +kernel), (by decide +kernel), (by decide +kernel), (by decide +kernel), (by decide +kernel), rfl⟩,
   ⟨up0, 3, 1400001, (by decide +kernel), (by decide +kernel), (by decide +kernel), (by decide +kernel)⟩,
   ⟨up0, 3, 1163999, (by decide +kernel), (by decide +kernel), (by decide +kernel), (by decide +kernel)⟩,
   ⟨railSlips, 3, 0, (by decide +kernel), (by decide +kernel), (by decide +kernel), (by decide +kernel), (by decide +kernel), (by decide +kernel),
    (by decide +kernel)⟩,
   ⟨railSlips, 3, 1164000, _, (by decide +kernel), (by decide +kernel), (by decide +kernel), (by decide +kernel), rfl⟩,
   ⟨up0, (by decide +kernel), (by decide +kernel), (by decide +kernel)⟩,
   ⟨up0, (by decide +kernel), (by decide +kernel)⟩,
   ⟨heldPart, _, (by decide +kernel), rfl, (by decide +kernel), (by decide +kernel), (by decide +kernel)⟩,
   ⟨heldPart, _, (by decide +kernel), rfl, (by decide +kernel), (by decide +kernel), (by decide +kernel)⟩⟩

theorem witness_StartSequenceComplete_2 :
    (∃ (s : State) (n : Nat), works (.fuseLoadDone false n) s = true ∧ startState s = 2 ∧ s.terminal = false ∧ s.ldr.held = false) ∧
    (∃ (s : State) (n : Nat) (s1 : State), works (.fuseLoadDone true n) s = true ∧ startState s = 2 ∧ s.terminal = false ∧ s.ldr.held = false ∧
      (s.setFlds [(F.LDR_STATUS_STATE, 0, 3), (F.SERIAL_LO, 0, otpWord 18 s), (F.SERIAL_HI, 0, otpWord 19 s), (F.SUBSYS_SUBSYS_ID, 0, otpWord 16 s / 2
      ^ 16), (F.SUBSYS_SUBSYS_VENDOR, 0, otpWord 16 s), (F.JTAG_STATUS_DISABLED, 0, if (List.range 8).all (fun w => otpWord (8 + w) s == 0) = true ∨
      (otpWord 17 s).testBit 0 = true then 1 else 0), (F.LDR_STATUS_KEY_BLANK, 0, if keyBlank s then 1 else 0), (F.LDR_STATUS_SIDEBAND_UP, 0, n)] =
      s1)) ∧
    (∃ (s : State), works (.slotReadComplete false) s = true ∧ startState s = 3 ∧ s.terminal = false ∧ s.ldr.held = false) ∧
    (∃ (s : State), works (.slotReadComplete true) s = true ∧ startState s = 3 ∧ s.terminal = false ∧ s.ldr.held = false) ∧
    (∃ (s : State) (e : SlotEnd) (s1 : State), works .authDone s = true ∧ startState s = 4 ∧ s.terminal = false ∧ s.ldr.held = false ∧ authSlot
      s.ldr.trying s = .error e ∧ setSlotResult s.ldr.trying e s = s1) ∧
    (∃ (s : State) (recs : List Rec) (x : State × Option (Nat × Nat)), works .authDone s = true ∧ startState s = 4 ∧ s.terminal = false ∧ s.ldr.held =
      false ∧ authSlot s.ldr.trying s = .ok recs ∧ applyRecords s.ldr.trying recs recTypes (beginLoad s.ldr.trying s) = x) ∧
    (∃ (s : State) (x : Nat × Nat), works .loadComplete s = true ∧ startState s = 5 ∧ s.terminal = false ∧ s.ldr.held = false ∧ s.ldr.trained = true ∧
      s.fld F.SLOT_RESULT_RESULT s.ldr.trying ≠ 10 ∧ s.ldr.refused = some x) ∧
    (∃ (s : State), works .loadComplete s = true ∧ startState s = 5 ∧ s.terminal = false ∧ s.ldr.held = false ∧ s.ldr.trained = true ∧ s.fld
      F.SLOT_RESULT_RESULT s.ldr.trying ≠ 10 ∧ s.ldr.refused = none ∧ crossRefusal s.ldr.trying s = none ∧ s.ldr.trying = 0) ∧
    (∃ (s : State), works .rollbackDone s = true ∧ startState s = 5 ∧ s.terminal = false ∧ s.ldr.held = false ∧ s.fld F.SLOT_RESULT_RESULT
      s.ldr.trying = 10) ∧
    (∃ (s s2 : State), works .trainDone s = true ∧ startState s = 6 ∧ s.terminal = false ∧ s.ldr.held = false ∧ s.ldr.calibrated = true ∧
      ((enabledDies s).foldl (fun s d => s.setFld F.RLF_STATUS_TRAINED d 1) s).setFlds [(F.DIE_STATUS_LINK_UP, 0, s.fld F.DIE_STATUS_ENABLED 0),
      (F.LDR_STATUS_STATE, 0, 7)] = s2) ∧
    (∃ (s : State), works .planTimeout s = true ∧ startState s = 7 ∧ s.terminal = false ∧ s.ldr.held = false) :=
  ⟨⟨startsAt 2, 15, (by decide +kernel), (by decide +kernel), (by decide +kernel), (by decide +kernel)⟩,
   ⟨startsAt 2, 15, _, (by decide +kernel), (by decide +kernel), (by decide +kernel), (by decide +kernel), rfl⟩,
   ⟨startsAt 3, (by decide +kernel), (by decide +kernel), (by decide +kernel), (by decide +kernel)⟩,
   ⟨startsAt 3, (by decide +kernel), (by decide +kernel), (by decide +kernel), (by decide +kernel)⟩,
   ⟨startsAt 4, (3, 0, 0), _, (by decide +kernel), (by decide +kernel), (by decide +kernel), (by decide +kernel), (error_of (by decide +kernel)), rfl⟩,
   ⟨slotWritten, slotRecords, _, (by decide +kernel), (by decide +kernel), (by decide +kernel), (by decide +kernel), (ok_of (by decide +kernel)), rfl⟩,
   ⟨loadRefused, (0x40, 2), (by decide +kernel), (by decide +kernel), (by decide +kernel), (by decide +kernel), (by decide +kernel),
    (by decide +kernel), (by decide +kernel)⟩,
   ⟨loadSound, (by decide +kernel), (by decide +kernel), (by decide +kernel), (by decide +kernel), (by decide +kernel), (by decide +kernel),
    (by decide +kernel), (by decide +kernel), (by decide +kernel)⟩,
   ⟨(startsAt 5).setFld F.SLOT_RESULT_RESULT 0 10, (by decide +kernel), (by decide +kernel), (by decide +kernel), (by decide +kernel),
    (by decide +kernel)⟩,
   ⟨calibratedPart, _, (by decide +kernel), (by decide +kernel), (by decide +kernel), (by decide +kernel), (by decide +kernel), rfl⟩,
   ⟨startsAt 7, (by decide +kernel), (by decide +kernel), (by decide +kernel), (by decide +kernel)⟩⟩

theorem witness_RecoveryRowsComplete_1 :
    (∃ (s : State) (q : Requester), works (.rcvRead q) s = true ∧ s.fld F.RCV_STATUS_BUSY 0 ≠ 1 ∧ s.safe = true ∧ rcvLenOk s = true ∧ s.fld F.RCV_ADDR
      0 + s.fld F.RCV_LEN 0 ≤ 0x8000000) ∧
    (∃ (s : State) (q : Requester), works (.rcvRead q) s = true ∧ s.fld F.RCV_STATUS_BUSY 0 ≠ 1 ∧ ((s.safe = false ∨ rcvLenOk s = false))) ∧
    (∃ (s : State) (q : Requester) (a n : Nat), works (.rcvProgram q) s = true ∧ s.fld F.RCV_STATUS_BUSY 0 ≠ 1 ∧ s.fld F.RCV_ADDR 0 = a ∧ s.fld
      F.RCV_LEN 0 = n ∧ rcvLenOk s = true ∧ rcvMay a n s = true ∧ a % 256 = 0 ∧ n % 256 = 0) ∧
    (∃ (s : State) (q : Requester) (a n : Nat), works (.rcvProgram q) s = true ∧ s.fld F.RCV_STATUS_BUSY 0 ≠ 1 ∧ s.fld F.RCV_ADDR 0 = a ∧ s.fld
      F.RCV_LEN 0 = n ∧ rcvLenOk s = true ∧ rcvMay a n s = true ∧ ((a % 256 ≠ 0 ∨ n % 256 ≠ 0))) ∧
    (∃ (s : State) (q : Requester), works (.rcvProgram q) s = true ∧ s.fld F.RCV_STATUS_BUSY 0 ≠ 1 ∧ ((rcvLenOk s = false ∨ rcvMay (s.fld F.RCV_ADDR
      0) (s.fld F.RCV_LEN 0) s = false))) ∧
    (∃ (s : State) (q : Requester) (a : Nat), works (.rcvErase q) s = true ∧ s.fld F.RCV_STATUS_BUSY 0 ≠ 1 ∧ rcvLenOk s = true ∧ s.fld F.RCV_ADDR 0 =
      a ∧ rcvMay a 1 s = true ∧ a % 65536 = 0) ∧
    (∃ (s : State) (q : Requester) (a : Nat), works (.rcvErase q) s = true ∧ s.fld F.RCV_STATUS_BUSY 0 ≠ 1 ∧ rcvLenOk s = true ∧ s.fld F.RCV_ADDR 0 =
      a ∧ rcvMay a 1 s = true ∧ a % 65536 ≠ 0) ∧
    (∃ (s : State) (q : Requester), works (.rcvErase q) s = true ∧ s.fld F.RCV_STATUS_BUSY 0 ≠ 1 ∧ ((rcvLenOk s = false ∨ rcvMay (s.fld F.RCV_ADDR 0)
      1 s = false))) ∧
    (∃ (s : State) (q : Requester) (e : SlotEnd), works (.rcvCheck q) s = true ∧ s.fld F.RCV_STATUS_BUSY 0 ≠ 1 ∧ rcvLenOk s = true ∧ s.safe = true ∧
      s.fld F.RCV_ADDR 0 = 0 ∧ authSlot 0 s = .error e) ∧
    (∃ (s : State) (q : Requester) (recs : List Rec), works (.rcvCheck q) s = true ∧ s.fld F.RCV_STATUS_BUSY 0 ≠ 1 ∧ rcvLenOk s = true ∧ s.safe = true
      ∧ s.fld F.RCV_ADDR 0 = 0x3000000 ∧ authSlot 1 s = .ok recs) ∧
    (∃ (s : State) (q : Requester), works (.rcvCheck q) s = true ∧ s.fld F.RCV_STATUS_BUSY 0 ≠ 1 ∧ ((rcvLenOk s = false ∨ s.safe = false))) ∧
    (∃ (s : State) (q : Requester), works (.rcvRestart q) s = true ∧ s.fld F.RCV_STATUS_BUSY 0 ≠ 1 ∧ s.safe = true ∧ rcvLenOk s = true) :=
  ⟨⟨inSafe 16, .jtag, (by decide +kernel), (by decide +kernel), (by decide +kernel), (by decide +kernel), (by decide +kernel)⟩,
   ⟨up0, .jtag, (by decide +kernel), (by decide +kernel), (by decide +kernel)⟩,
   ⟨inSafe 256, .jtag, 0, 256, (by decide +kernel), (by decide +kernel), (by decide +kernel), (by decide +kernel), (by decide +kernel),
    (by decide +kernel), (by decide +kernel), (by decide +kernel)⟩,
   ⟨inSafe 255, .jtag, 0, 255, (by decide +kernel), (by decide +kernel), (by decide +kernel), (by decide +kernel), (by decide +kernel),
    (by decide +kernel), (by decide +kernel)⟩,
   ⟨up0, .jtag, (by decide +kernel), (by decide +kernel), (by decide +kernel)⟩,
   ⟨inSafe 1, .jtag, 0, (by decide +kernel), (by decide +kernel), (by decide +kernel), (by decide +kernel), (by decide +kernel), (by decide +kernel)⟩,
   ⟨(inSafe 1).setFld F.RCV_ADDR 0 256, .jtag, 256, (by decide +kernel), (by decide +kernel), (by decide +kernel), (by decide +kernel),
    (by decide +kernel), (by decide +kernel)⟩,
   ⟨up0, .jtag, (by decide +kernel), (by decide +kernel), (by decide +kernel)⟩,
   ⟨inSafe 1, .jtag, (3, 0, 0), (by decide +kernel), (by decide +kernel), (by decide +kernel), (by decide +kernel), (by decide +kernel), (error_of
    (by decide +kernel))⟩,
   ⟨slotBWritten, .jtag, slotRecords, (by decide +kernel), (by decide +kernel), (by decide +kernel), (by decide +kernel), (by decide +kernel), (ok_of
    (by decide +kernel))⟩,
   ⟨up0, .jtag, (by decide +kernel), (by decide +kernel), (by decide +kernel)⟩,
   ⟨inSafe 1, .jtag, (by decide +kernel), (by decide +kernel), (by decide +kernel), (by decide +kernel)⟩⟩

theorem witness_RecoveryRowsComplete_2 :
    (∃ (s : State) (q : Requester), works (.rcvRestart q) s = true ∧ s.fld F.RCV_STATUS_BUSY 0 ≠ 1 ∧ ((rcvLenOk s = false ∨ s.safe = false))) ∧
    (∃ (s : State) (r : RcvRun), works (.rcvCommandEnd false) s = true ∧ s.ldr.rcvRun = some r) ∧
    (∃ (s : State) (r : RcvRun), works (.rcvCommandEnd true) s = true ∧ s.ldr.rcvRun = some r ∧ s.ldr.rcvResult = 0 ∧ r.op = 3) ∧
    (∃ (s : State) (q : Requester) (key : Nat), works (.reload q key) s = true ∧ key = 0xA5C3) ∧
    (∃ (s : State) (q : Requester) (key : Nat), works (.reload q key) s = true ∧ key ≠ 0xA5C3) :=
  ⟨⟨up0, .jtag, (by decide +kernel), (by decide +kernel), (by decide +kernel)⟩,
   ⟨erasing, { op := 3, addr := 0, len := 1 }, (by decide +kernel), (by decide +kernel)⟩,
   ⟨erasing, { op := 3, addr := 0, len := 1 }, (by decide +kernel), (by decide +kernel), (by decide +kernel), (by decide +kernel)⟩,
   ⟨up0, .jtag, 0xA5C3, (by decide +kernel), (by decide +kernel)⟩,
   ⟨up0, .jtag, 7, (by decide +kernel), (by decide +kernel)⟩⟩

theorem witness_HostLinkRowsComplete_1 :
    (∃ (s : State) (rate width : Nat), works (.pcieLinkUp rate width) s = true ∧ 1 ≤ rate ∧ rate ≤ 5 ∧ [1, 2, 4, 8, 16].contains width = true) ∧
    (∃ (s s1 : State), works .pcieLinkDown s = true ∧ s.setFlds [(F.LINK_STATUS_UP, 0, 0), (F.LINK_STATUS_RATE, 0, 0), (F.LINK_STATUS_WIDTH, 0, 0),
      (F.LINK_STATUS_L1, 0, 0)] = s1) ∧
    (∃ (s : State) (f d : Nat), works (.configurationRequest f (.read d)) s = true ∧ f < 2 ∧ s.fld F.LINK_STATUS_UP 0 ≠ 0 ∧ s.hif.enumerated = true) ∧
    (∃ (s : State) (f : Nat) (c : CfgCap) (w : Nat), works (.configurationRequest f (.capability c w)) s = true ∧ f < 2 ∧ s.fld F.LINK_STATUS_UP 0 ≠ 0
      ∧ s.hif.enumerated = true) ∧
    (∃ (s : State) (f n v : Nat), works (.configurationRequest f (.bar n v)) s = true ∧ f < 2 ∧ s.fld F.LINK_STATUS_UP 0 ≠ 0 ∧ s.hif.enumerated =
      true) ∧
    (∃ (s : State) (f : Nat) (r : CfgReq), works (.configurationRequest f r) s = true ∧ f < 2 ∧ s.fld F.LINK_STATUS_UP 0 ≠ 0 ∧ s.hif.enumerated =
      false ∧ s.safe = false) ∧
    (∃ (s : State) (o n : Nat) (ue : Bool) (a : Nat), works (.bar2Read o n ue) s = true ∧ bar2Up s = true ∧ bar2Addr o s = a) ∧
    (∃ (s : State) (o n : Nat) (ue : Bool), works (.bar2Read o n ue) s = true ∧ bar2Up s = false) ∧
    (∃ (s : State) (o : Nat) (bs : List Byte) (a : Nat), works (.bar2Write o bs) s = true ∧ bar2Up s = true ∧ bar2Addr o s = a) ∧
    (∃ (s : State) (o : Nat) (bs : List Byte), works (.bar2Write o bs) s = true ∧ bar2Up s = false) ∧
    (∃ (s : State) (q : Requester) (v : Nat), works (.pf1WinWrite q v) s = true ∧ q ≠ .pf1) ∧
    (∃ (s : State) (_v : Nat), answers .pf1 .PF1_WIN 0 s = true) :=
  ⟨⟨up0, 5, 16, (by decide +kernel), (by decide +kernel), (by decide +kernel), (by decide +kernel)⟩,
   ⟨up0, _, (by decide +kernel), rfl⟩,
   ⟨hostUp, 1, 0, (by decide +kernel), (by decide +kernel), (by decide +kernel), (by decide +kernel)⟩,
   ⟨hostUp, 1, .msix, 0, (by decide +kernel), (by decide +kernel), (by decide +kernel), (by decide +kernel)⟩,
   ⟨hostUp, 1, 0, 0, (by decide +kernel), (by decide +kernel), (by decide +kernel), (by decide +kernel)⟩,
   ⟨hostEarly, 1, .read 0, (by decide +kernel), (by decide +kernel), (by decide +kernel), (by decide +kernel), (by decide +kernel)⟩,
   ⟨hostUp, 64, 8, false, 64, (by decide +kernel), (by decide +kernel), (by decide +kernel)⟩,
   ⟨up0, 64, 8, false, (by decide +kernel), (by decide +kernel)⟩,
   ⟨hostUp, 64, [1, 2], 64, (by decide +kernel), (by decide +kernel), (by decide +kernel)⟩,
   ⟨up0, 64, [1, 2], (by decide +kernel), (by decide +kernel)⟩,
   ⟨up0, .jtag, 3, (by decide +kernel), (by decide +kernel)⟩,
   ⟨hostUp, 3, (by decide +kernel)⟩⟩

theorem witness_HostLinkRowsComplete_2 :
    (∃ (s : State) (f v lo hi data : Nat) (mask : Bool) (h : HifSt), works (.msixUnmask f v lo hi data mask) s = true ∧ f < 2 ∧ v < vectorCount f ∧
      answersMem f s = true ∧ s.safe = false ∧
      { s.hif with msixWord := tset 0 (tset 0 (tset 0 s.hif.msixWord (4 * (f * 128 + v)) (lo % 2 ^ 32)) (4 * (f * 128 + v) + 1) (hi % 2 ^ 32)) (4 * (f * 128 + v) + 2) (data % 2 ^ 32), msixUnmasked := tset false s.hif.msixUnmasked (f * 128 + v) (!mask) }
      = h) ∧
    (∃ (s : State), works .l1Entry s = true ∧ s.fld F.LINK_STATUS_UP 0 = 1 ∧ s.fld F.LINK_STATUS_L1 0 = 0 ∧ s.hif.tlpWait = [] ∧ s.hif.aspmL1 = true) ∧
    (∃ (s s1 : State), works .l1Exit s = true ∧ s.fld F.LINK_STATUS_L1 0 ≠ 0 ∧ s.setFld F.LINK_STATUS_L1 0 0 = s1) ∧
    (∃ (s : State) (f : Nat) (en clear : Bool), works (.d3hotEntry f en clear) s = true ∧ f < 2 ∧ funcAnswers f s = true) ∧
    (∃ (s : State) (f : Nat) (en clear : Bool), works (.d0Entry f en clear) s = true ∧ f < 2 ∧ funcAnswers f s = true) ∧
    (∃ (s : State) (f : Nat), works (.pmeRepeat f) s = true ∧ f < 2 ∧ tget false s.hif.pmeStatus f = true) ∧
    (∃ (s : State) (f : Nat), works (.functionLevelReset f) s = true ∧ f < 2 ∧ funcAnswers f s = true) ∧
    (∃ (s : State) (f : Nat), works (.flrDone f) s = true ∧ f < 2 ∧ tget false s.hif.flr f = true) ∧
    (∃ (s : State) (r : Nat), works (.completionTimeout r) s = true ∧ r < 146) ∧
    (∃ (s : State) (r : Nat), works (.completionStatusError r) s = true ∧ r < 146) ∧
    (∃ (s : State) (f : Nat), works (.tlpError f (.correctable)) s = true ∧ f < 2) ∧
    (∃ (s : State) (f : Nat), works (.tlpError f (.poisonedWrite)) s = true ∧ f < 2) :=
  ⟨⟨hostUp, 0, 5, 1, 2, 3, false, _, (by decide +kernel), (by decide +kernel), (by decide +kernel), (by decide +kernel), (by decide +kernel), rfl⟩,
   ⟨aspmOn, (by decide +kernel), (by decide +kernel), (by decide +kernel), (by decide +kernel), (by decide +kernel)⟩,
   ⟨aspmOn.setFld F.LINK_STATUS_L1 0 1, _, (by decide +kernel), (by decide +kernel), rfl⟩,
   ⟨hostUp, 1, true, false, (by decide +kernel), (by decide +kernel), (by decide +kernel)⟩,
   ⟨hostUp, 1, true, false, (by decide +kernel), (by decide +kernel), (by decide +kernel)⟩,
   ⟨pmeWaits, 1, (by decide +kernel), (by decide +kernel), (by decide +kernel)⟩,
   ⟨hostUp, 1, (by decide +kernel), (by decide +kernel), (by decide +kernel)⟩,
   ⟨flrFunction 1 hostUp, 1, (by decide +kernel), (by decide +kernel), (by decide +kernel)⟩,
   ⟨up0, 7, (by decide +kernel), (by decide +kernel)⟩,
   ⟨up0, 7, (by decide +kernel), (by decide +kernel)⟩,
   ⟨up0, 1, (by decide +kernel), (by decide +kernel)⟩,
   ⟨up0, 1, (by decide +kernel), (by decide +kernel)⟩⟩

theorem witness_HostLinkRowsComplete_3 :
    (∃ (s : State) (f : Nat), works (.tlpError f (.ecrc)) s = true ∧ f < 2) ∧
    (∃ (s : State) (f : Nat), works (.tlpError f (.unsupported)) s = true ∧ f < 2) ∧
    (∃ (s : State) (f : Nat), works (.tlpError f (.unexpectedCompletion)) s = true ∧ f < 2) ∧
    (∃ (s : State) (f : Nat), works (.tlpError f (.fatal)) s = true ∧ f < 2) :=
  ⟨⟨up0, 1, (by decide +kernel), (by decide +kernel)⟩,
   ⟨up0, 1, (by decide +kernel), (by decide +kernel)⟩,
   ⟨up0, 1, (by decide +kernel), (by decide +kernel)⟩,
   ⟨up0, 1, (by decide +kernel), (by decide +kernel)⟩⟩

theorem witness_HostRingRowsComplete_1 :
    (∃ (s : State) (r : Nat) (descs : List (List Byte)) (h : HostRx) (parts : List (Nat × List Byte)) (s1 : State), works (.receiveDmaComplete r
      descs) s = true ∧ s.dp.hostRx.find? (fun h => h.ring == r) = some h ∧ s.fld F.LINK_STATUS_L1 0 ≠ 1 ∧ funcUp (ringFunc r s) s = true ∧ fillDescs
      (descs.take h.need) h.bytes = some parts ∧ (s.setFld F.RING_HEAD r ((s.fld F.RING_HEAD r + parts.length) % ringSize r s)).addWrap F.RING_FRAMES
      r 1 = s1) ∧
    (∃ (s : State) (r : Nat) (descs : List (List Byte)) (h : HostRx), works (.receiveDmaComplete r descs) s = true ∧ s.dp.hostRx.find? (fun h =>
      h.ring == r) = some h ∧ s.fld F.LINK_STATUS_L1 0 ≠ 1 ∧ funcUp (ringFunc r s) s = true ∧ fillDescs (descs.take h.need) h.bytes = none) ∧
    (∃ (s : State) (f : Nat) (descs : List (List Byte)) (data : List Byte) (ue : Option Nat) (r : Nat) (h : HostTx) (s0 : State), works
      (.transmitFrameFetch f descs data ue) s = true ∧ txPick s = some r ∧ s.runs = true ∧ s.fld F.LINK_STATUS_L1 0 ≠ 1 ∧ frameAt f s = none ∧
      descs.isEmpty = false ∧ data.length = descs.foldl (fun a d => a + leNat (slice d 8 2)) 0 ∧ txInFlight r s + descs.length ≤ ringPosted r s ∧
      { ring := r, descs := (List.range descs.length).map (fun i => ringAddr r (s.fld F.RING_HEAD r + txInFlight r s + i) s), frame := f } = h ∧
      s.withHif { s.hif with txLast := r - 64 } = s0 ∧ txFrameOk descs data s = false) ∧
    (∃ (s : State) (f : Nat) (descs : List (List Byte)) (data : List Byte) (ue : Option Nat) (r : Nat) (h : HostTx) (s0 : State) (x : State × Frame)
      (mk n : State × List Copy) (a : State × Bool), works (.transmitFrameFetch f descs data ue) s = true ∧ txPick s = some r ∧ s.runs = true ∧ s.fld
      F.LINK_STATUS_L1 0 ≠ 1 ∧ frameAt f s = none ∧ descs.isEmpty = false ∧ data.length = descs.foldl (fun a d => a + leNat (slice d 8 2)) 0 ∧
      txInFlight r s + descs.length ≤ ringPosted r s ∧
      { ring := r, descs := (List.range descs.length).map (fun i => ringAddr r (s.fld F.RING_HEAD r + txInFlight r s + i) s), frame := f } = h ∧
      s.withHif { s.hif with txLast := r - 64 } = s0 ∧ txFrameOk descs data s = true ∧ bitsOf (leNat (slice (descs.headD []) 12 2)) 15 1 = 0 ∧
      injectFrame f 512 data { queue := leNat (slice (descs.headD []) 11 1), dest := .port (bitsOf (leNat (slice (descs.headD []) 12 2)) 0 14) } (some
      (leNat (slice (descs.headD []) 14 1))) s0 = x ∧ makeCopies f x.2 ue x.1 = mk ∧ numberCopies mk.2 mk.1 = n ∧ admitAll false true (n.2.map (fun c
      => finishCopy x.2 x.2.tIn c n.1)) n.1 = a) ∧
    (∃ (s : State) (r : Nat) (h : HostTx) (s2 : State), works (.transmitWriteback r) s = true ∧ s.hif.txDone.find? (fun t => t.ring == r) = some h ∧
      s.fld F.LINK_STATUS_L1 0 ≠ 1 ∧ s.dp.held.any (fun c => c.frame == h.frame && !h.bad) = false ∧ h.bad = false ∧ h.refused = false ∧ (s.setFld
      F.RING_HEAD r ((s.fld F.RING_HEAD r + h.descs.length) % ringSize r s)).addWrap F.RING_FRAMES r 1 = s2) ∧
    (∃ (s : State) (q : Requester) (r v : Nat), works (.ringTailWrite q r v) s = true ∧ r < 146 ∧ q ≠ .pf1) ∧
    (∃ (s : State) (r _v : Nat), r < 146 ∧ answers .pf1 .RING_TAIL r s = true ∧ pf1Ring r s = true) ∧
    (∃ (s : State) (q : Requester) (r w : Nat) (s1 s2 : State), works (.ringEnable q r w) s = true ∧ r < 146 ∧ q ≠ .pf1 ∧ s.fld F.RING_CFG_EN r ≠ 1 ∧
      ringCfgPut r w s = s1 ∧ s1.setFlds [(F.RING_CFG_EN, r, 1), (F.RING_CFG_STOPPED, r, 0), (F.ERR_CAUSE, r, 0), (F.RING_HEAD, r, s1.fld F.RING_TAIL
      r)] = s2 ∧ isEventRing r = false) ∧
    (∃ (s : State) (q : Requester) (r w : Nat) (s1 : State), works (.ringDisable q r w) s = true ∧ r < 146 ∧ q ≠ .pf1 ∧ s.fld F.RING_CFG_EN r = 1 ∧
      ringCfgPut r w s = s1) ∧
    (∃ (s : State) (r : Nat), works (.ringStopped r) s = true ∧ tget false s.hif.stopping r = true ∧ ringBusy r s = false) ∧
    (∃ (s : State) (r : Nat), works (.moderationTimerExpiry r) s = true ∧ tget false s.hif.ringTimer r = true ∧ 0 < tget 0 s.hif.ringPend r) ∧
    (∃ (s : State) (q : Requester) (len : Nat), works (.mbxSubmit q len) s = true ∧ s.fld F.MBX_STATUS_STATE 0 ≠ 1 ∧ s.fld F.MBX_STATUS_STATE 0 ≠ 2 ∧
      8 ≤ len ∧ len ≤ 4096 ∧ len % 8 = 0 ∧ s.safe = false ∧ inUnitReset 0 s = false) :=
  ⟨⟨receiving, 3, [rxDesc], stagedRx, [(0x1000, List.replicate 64 7)], _, (by decide +kernel), (by decide +kernel), (by decide +kernel),
    (by decide +kernel), (by decide +kernel), rfl⟩,
   ⟨receiving, 3, [], stagedRx, (by decide +kernel), (by decide +kernel), (by decide +kernel), (by decide +kernel), (by decide +kernel)⟩,
   ⟨transmitting, 5, [txDesc 8], List.replicate 8 1, none, 67, _, _, (by decide +kernel), (by decide +kernel), (by decide +kernel),
    (by decide +kernel), (by decide +kernel), (by decide +kernel), (by decide +kernel), (by decide +kernel), rfl, rfl, (by decide +kernel)⟩,
   ⟨transmitting, 5, [txDesc 60], List.replicate 60 1, none, 67, _, _, _, _, _, _, (by decide +kernel), (by decide +kernel), (by decide +kernel),
    (by decide +kernel), (by decide +kernel), (by decide +kernel), (by decide +kernel), (by decide +kernel), rfl, rfl, (by decide +kernel),
    (by decide +kernel), rfl, rfl, rfl, rfl⟩,
   ⟨writingBack, 67, { ring := 67, descs := [0x2000], frame := 5 }, _, (by decide +kernel), (by decide +kernel), (by decide +kernel),
    (by decide +kernel), (by decide +kernel), (by decide +kernel), rfl⟩,
   ⟨up0, .jtag, 3, 1, (by decide +kernel), (by decide +kernel), (by decide +kernel)⟩,
   ⟨hostUp, 140, 1, (by decide +kernel), (by decide +kernel), (by decide +kernel)⟩,
   ⟨up0, .jtag, 3, 0x60000, _, _, (by decide +kernel), (by decide +kernel), (by decide +kernel), (by decide +kernel), rfl, rfl, (by decide +kernel)⟩,
   ⟨up0.setFld F.RING_CFG_EN 3 1, .jtag, 3, 0, _, (by decide +kernel), (by decide +kernel), (by decide +kernel), (by decide +kernel), rfl⟩,
   ⟨stoppingRing, 3, (by decide +kernel), (by decide +kernel), (by decide +kernel)⟩,
   ⟨moderated, 3, (by decide +kernel), (by decide +kernel), (by decide +kernel)⟩,
   ⟨up0, .jtag, 4096, (by decide +kernel), (by decide +kernel), (by decide +kernel), (by decide +kernel), (by decide +kernel), (by decide +kernel),
    (by decide +kernel), (by decide +kernel)⟩⟩

theorem witness_HostRingRowsComplete_2 :
    (∃ (s : State) (q : Requester) (len : Nat), works (.mbxSubmit q len) s = true ∧ s.fld F.MBX_STATUS_STATE 0 ≠ 1 ∧ s.fld F.MBX_STATUS_STATE 0 ≠ 2 ∧
      ((len < 8 ∨ 4096 < len ∨ len % 8 ≠ 0))) ∧
    (∃ (s : State) (x : State × Nat × Nat × Nat), works (.mbxRequestTake false) s = true ∧ mbxUp s = true ∧ s.fld F.MBX_STATUS_STATE 0 = 1 ∧ mbxServe
      ((List.range (s.hif.mbxLen / 4)).flatMap (fun w => toLe 4 (s.fld F.MBX_REQ w))) s = x) ∧
    (∃ (s : State), works (.mbxRequestTake true) s = true ∧ mbxUp s = true) :=
  ⟨⟨up0, .jtag, 4104, (by decide +kernel), (by decide +kernel), (by decide +kernel), (by decide +kernel)⟩,
   ⟨requested, _, (by decide +kernel), (by decide +kernel), (by decide +kernel), rfl⟩,
   ⟨requested, (by decide +kernel), (by decide +kernel)⟩⟩

theorem witness_SidebandAndFuseRowsComplete_1 :
    (∃ (s : State) (o a : Nat) (s1 : State), works (.smbusReadStart true o) s = true ∧ s.ldr.held = false ∧ reach .smbus o s = some a ∧ linkWaits a s
      = false ∧ readAt .smbus a s = s1) ∧
    (∃ (s : State) (o a : Nat), works (.smbusReadStart true o) s = true ∧ s.ldr.held = false ∧ reach .smbus o s = some a ∧ linkWaits a s = true) ∧
    (∃ (s : State) (o : Nat), works (.smbusReadStart true o) s = true ∧ s.ldr.held = false ∧ reach .smbus o s = none) ∧
    (∃ (s : State) (o : Nat), works (.smbusReadStart false o) s = true) ∧
    (∃ (s : State) (v : Nat), works .smbusReadReady s = true ∧ s.ldr.smbRead = some v) ∧
    (∃ (s : State) (v : Nat), works .smbusBlockRead s = true ∧ s.ldr.held = false ∧ s.ldr.smbData = some v) ∧
    (∃ (s : State) (n : Nat), works .smbusBlockRead s = true ∧ s.ldr.held = false ∧ s.ldr.smbData = none ∧ s.dp.fresh = n) ∧
    (∃ (s : State) (o v : Nat), works (.smbusWrite true o v) s = true ∧ s.ldr.held = false) ∧
    (∃ (s : State) (o v : Nat), works (.smbusWrite false o v) s = true) ∧
    (∃ (s : State), works .smbusAlertResponse s = true ∧ s.ldr.held = false) ∧
    (∃ (s : State) (o v : Nat), works (.jtagRegisterAccess o (some v)) s = true) ∧
    (∃ (s : State) (o : Nat), works (.jtagRegisterAccess o (none)) s = true) :=
  ⟨⟨up0, 0, 0, _, (by decide +kernel), (by decide +kernel), (by decide +kernel), (by decide +kernel), rfl⟩,
   ⟨retraining0, regOffset .PORT_CFG 0, regOffset .PORT_CFG 0, (by decide +kernel), (by decide +kernel), (by decide +kernel), (by decide +kernel)⟩,
   ⟨up0, 2 ^ 28, (by decide +kernel), (by decide +kernel), (by decide +kernel)⟩,
   ⟨up0, 0, (by decide +kernel)⟩,
   ⟨readStarted, 7, (by decide +kernel), (by decide +kernel)⟩,
   ⟨readReady, 7, (by decide +kernel), (by decide +kernel), (by decide +kernel)⟩,
   ⟨up0, 0, (by decide +kernel), (by decide +kernel), (by decide +kernel), (by decide +kernel)⟩,
   ⟨up0, 0, 1, (by decide +kernel), (by decide +kernel)⟩,
   ⟨up0, 0, 1, (by decide +kernel)⟩,
   ⟨up0, (by decide +kernel), (by decide +kernel)⟩,
   ⟨up0, 0, 1, (by decide +kernel)⟩,
   ⟨up0, 0, (by decide +kernel)⟩⟩

theorem witness_SidebandAndFuseRowsComplete_2 :
    (∃ (s : State) (v : Nat) (s1 : State), answers .jtag .JTAG_RESPONSE 3 s = true ∧ s.setFld F.JTAG_RESPONSE 3 v = s1) ∧
    (∃ (s s1 : State), works .jtagUnlockResult s = true ∧ s.ldr.jtagTry = true ∧ s.fld F.JTAG_STATUS_DISABLED 0 ≠ 1 ∧ s.fld F.JTAG_STATUS_LOCKOUT 0 ≠
      1 ∧ unlockMatches s = true ∧ s.withLdr { s.ldr with jtagTry := false } = s1) ∧
    (∃ (s s1 : State), works .jtagUnlockResult s = true ∧ s.ldr.jtagTry = true ∧ s.fld F.JTAG_STATUS_DISABLED 0 ≠ 1 ∧ s.fld F.JTAG_STATUS_LOCKOUT 0 ≠
      1 ∧ unlockMatches s = false ∧ s.fld F.JTAG_STATUS_FAILS 0 ≤ 1 ∧ s.withLdr { s.ldr with jtagTry := false } = s1) ∧
    (∃ (s : State), works .jtagUnlockResult s = true ∧ s.ldr.jtagTry = true ∧ ((s.fld F.JTAG_STATUS_DISABLED 0 = 1 ∨ s.fld F.JTAG_STATUS_LOCKOUT 0 =
      1))) ∧
    (∃ (s : State) (q : Requester) (key n : Nat), works (.otpRead q key) s = true ∧ key = 0xB10C ∧ s.fld F.LDR_STATUS_STATE 0 = 8 ∧ s.fld
      F.OTP_STATUS_BUSY 0 ≠ 1 ∧ s.fld F.OTP_ADDR 0 = n) ∧
    (∃ (s : State) (q : Requester) (key : Nat), works (.otpRead q key) s = true ∧ key ≠ 0xB10C) ∧
    (∃ (s : State) (q : Requester) (key back n : Nat), works (.otpProgram q key back) s = true ∧ key = 0xB10C ∧ s.fld F.LDR_STATUS_STATE 0 = 8 ∧ s.fld
      F.OTP_STATUS_BUSY 0 ≠ 1 ∧ s.fld F.OTP_ADDR 0 = n ∧ otpWord n s = 0 ∧ s.fld F.OTP_DATA 0 ≠ 0 ∧ factoryWord n = false ∧ back % 2 ^ 32 = s.fld
      F.OTP_DATA 0) ∧
    (∃ (s : State) (q : Requester) (key back n : Nat), works (.otpProgram q key back) s = true ∧ key = 0xB10C ∧ s.fld F.LDR_STATUS_STATE 0 = 8 ∧ s.fld
      F.OTP_STATUS_BUSY 0 ≠ 1 ∧ s.fld F.OTP_ADDR 0 = n ∧ otpWord n s = 0 ∧ s.fld F.OTP_DATA 0 ≠ 0 ∧ factoryWord n = false ∧ back % 2 ^ 32 ≠ s.fld
      F.OTP_DATA 0) ∧
    (∃ (s : State) (q : Requester) (key back : Nat), works (.otpProgram q key back) s = true ∧ key = 0xB10C ∧ s.fld F.LDR_STATUS_STATE 0 = 8 ∧ s.fld
      F.OTP_STATUS_BUSY 0 ≠ 1 ∧ ((otpWord (s.fld F.OTP_ADDR 0) s ≠ 0 ∨ s.fld F.OTP_DATA 0 = 0 ∨ factoryWord (s.fld F.OTP_ADDR 0) = true))) ∧
    (∃ (s : State) (r : Nat), works .otpCommandEnd s = true ∧ s.ldr.otpRun = some r) ∧
    (∃ (s : State) (pins : List (Pin × Bool)), works (.boundaryScanInstruction pins) s = true ∧ tapUp s = true) ∧
    (∃ (s : State), works .trstNAssert s = true) :=
  ⟨⟨up0, 5, _, (by decide +kernel), rfl⟩,
   ⟨goodTry, _, (by decide +kernel), (by decide +kernel), (by decide +kernel), (by decide +kernel), (by decide +kernel), rfl⟩,
   ⟨badTry, _, (by decide +kernel), (by decide +kernel), (by decide +kernel), (by decide +kernel), (by decide +kernel), (by decide +kernel), rfl⟩,
   ⟨badTry.setFld F.JTAG_STATUS_LOCKOUT 0 1, (by decide +kernel), (by decide +kernel), (by decide +kernel)⟩,
   ⟨up0, .jtag, 0xB10C, 0, (by decide +kernel), (by decide +kernel), (by decide +kernel), (by decide +kernel), (by decide +kernel)⟩,
   ⟨up0, .jtag, 5, (by decide +kernel), (by decide +kernel)⟩,
   ⟨fuseData, .jtag, 0xB10C, 5, 0, (by decide +kernel), (by decide +kernel), (by decide +kernel), (by decide +kernel), (by decide +kernel),
    (by decide +kernel), (by decide +kernel), (by decide +kernel), (by decide +kernel)⟩,
   ⟨fuseData, .jtag, 0xB10C, 4, 0, (by decide +kernel), (by decide +kernel), (by decide +kernel), (by decide +kernel), (by decide +kernel),
    (by decide +kernel), (by decide +kernel), (by decide +kernel), (by decide +kernel)⟩,
   ⟨up0, .jtag, 0xB10C, 4, (by decide +kernel), (by decide +kernel), (by decide +kernel), (by decide +kernel), (by decide +kernel)⟩,
   ⟨otpBegin 2 up0, 2, (by decide +kernel), (by decide +kernel)⟩,
   ⟨up0, [], (by decide +kernel), (by decide +kernel)⟩,
   ⟨up0, (by decide +kernel)⟩⟩

end Sys2Proof.Tests
end

/-! PROOF. The latch of wide counters (00_scope.md R14): what a read of either word gives its requester. -/

namespace Sys2Proof.Machine

/-! ### What requesters hold -/

/-- What the requesters hold of their reads: their latches (00 R14) and the values returned to them. -/
def State.replies (s : State) : Tab (Option (Nat × List Nat)) × Tab Nat := (s.latch, s.readOut)

@[simp] theorem replies_setFld (f : Fld) (i v : Nat) (s : State) : (s.setFld f i v).replies = s.replies := by rfl

@[simp] theorem replies_setCell (r : Reg) (lo i v : Nat) (s : State) : (s.setCell r lo i v).replies = s.replies := by rfl

@[simp] theorem replies_setFlds (l : List (Fld × Nat × Nat)) (s : State) : (s.setFlds l).replies = s.replies := by simp [State.replies]

/-- A fold of updates that each keep the replies keeps them. -/
theorem replies_foldl {α : Type} {g : State → α → State} (h : ∀ s a, (g s a).replies = s.replies) (l : List α) (s : State) :
    (l.foldl g s).replies = s.replies := by
  induction l generalizing s with
  | nil => rfl
  | cons a l ih => rw [List.foldl_cons, ih, h]

@[simp] theorem replies_raiseSrc (n : Nat) (s : State) : (raiseSrc n s).replies = s.replies := by
  unfold raiseSrc
  repeat' split
  all_goals simp

@[simp] theorem replies_pmcAdd (c k n : Nat) (s : State) : (pmcAdd c k n s).replies = s.replies := by
  unfold pmcAdd
  simp only
  repeat' split
  all_goals simp

@[simp] theorem replies_pmcThread (t ev n : Nat) (s : State) : (pmcThread t ev n s).replies = s.replies := by
  unfold pmcThread
  extract_lets
  split
  · rfl
  · exact replies_foldl (fun s k => by split <;> simp) _ s

@[simp] theorem replies_privViolation (q : Requester) (write : Bool) (off : Nat) (s : State) :
    (privViolation q write off s).replies = s.replies := by
  have h (t : State) (l : List (Fld × Nat × Nat)) : ((t.bump F.PRIV_VIOL_COUNT 0).setFlds l).replies = t.replies := replies_setFlds l _
  cases q with
  | thread t => exact (h _ _).trans (replies_pmcThread t 27 1 s)
  | pf0 | pf1 | smbus | jtag => exact h _ _

@[simp] theorem replies_clearRc (a : RegAt) (s : State) : (clearRc a s).replies = s.replies := by
  unfold clearRc
  split
  · simp
  · exact replies_foldl (fun s f => by split <;> simp) _ s

/-! ### A read of a wide counter (00 R14) -/

theorem isWide_words {r : Reg} (h : isWide r = true) : r.words = 2 := by
  unfold isWide at h
  split at h <;> simp_all

/-- The live words of a 64-bit counter: its low half, and its high half as the requester's latch shows it. -/
theorem liveWord_wide {r : Reg} (h : isWide r = true) (q : Requester) (i w : Nat) (s : State) :
    liveWord q ⟨r, i, w⟩ s = if w = 1 then latched q (cellKey r 0 i) 0 (regWord r i s / 2 ^ 32 % 2 ^ 32) s else regWord r i s % 2 ^ 32 := by
  unfold liveWord
  split
  case h_30 => rfl
  all_goals (subst_vars; exact absurd h (by decide))

/-- The low word of a 64-bit counter latches the high one; the high word latches nothing. -/
theorem latchWords_wide {r : Reg} (h : isWide r = true) (q : Requester) (i w : Nat) (s : State) :
    latchWords q ⟨r, i, w⟩ s = if w = 0 then some [regWord r i s / 2 ^ 32 % 2 ^ 32] else none := by
  unfold latchWords
  split
  case h_8 => simp [isWide_words h]
  all_goals (subst_vars; exact absurd h (by decide))

/-- What a read of a word of a 64-bit counter gives its requester. -/
theorem replies_readReg_wide {r : Reg} (h : isWide r = true) (q : Requester) (i w : Nat) (s : State) :
    (readReg q ⟨r, i, w⟩ s).replies =
      (if w = 0 then tset none s.latch q.code (some (cellKey r 0 i, [regWord r i s / 2 ^ 32 % 2 ^ 32])) else s.latch,
        tset 0 s.readOut q.code (liveWord q ⟨r, i, w⟩ s &&& shownBits (privileged q (blockOf (regOffset r i + 4 * w)) s) ⟨r, i, w⟩)) := by
  unfold readReg
  extract_lets o priv s1 s2
  split
  case h_5 =>
    refine Eq.trans (b := s2.replies) ?_ ?_
    · repeat' split
      all_goals simp
    · by_cases hw : w = 0
      · simp only [s2, latchWords_wide h, if_pos hw]; rfl
      · simp only [s2, latchWords_wide h, if_neg hw]; rfl
  all_goals (subst_vars; exact absurd h (by decide))

theorem latch_readReg_low {r : Reg} (h : isWide r = true) (q : Requester) (i : Nat) (s : State) :
    (readReg q ⟨r, i, 0⟩ s).latch = tset none s.latch q.code (some (cellKey r 0 i, [regWord r i s / 2 ^ 32 % 2 ^ 32])) :=
  congrArg Prod.fst (replies_readReg_wide h q i 0 s)

theorem outOf_readReg_high {r : Reg} (h : isWide r = true) (q : Requester) (i : Nat) (s : State) :
    outOf q (readReg q ⟨r, i, 1⟩ s) = latched q (cellKey r 0 i) 0 (regWord r i s / 2 ^ 32 % 2 ^ 32) s &&&
      shownBits (privileged q (blockOf (regOffset r i + 4)) s) ⟨r, i, 1⟩ := by
  have hr : (readReg q ⟨r, i, 1⟩ s).readOut = _ := congrArg Prod.snd (replies_readReg_wide h q i 1 s)
  rw [outOf, hr, tget_tset_same, liveWord_wide h, if_pos rfl]

theorem latched_of_held {q : Requester} {key : Nat} {ws : List Nat} {s : State} (h : tget none s.latch q.code = some (key, ws))
    (i live : Nat) : latched q key i live s = ws.getD i 0 := by
  simp [latched, h]

theorem latched_of_not_held {q : Requester} {key : Nat} {s : State} (h : ∀ ws, tget none s.latch q.code ≠ some (key, ws))
    (i live : Nat) : latched q key i live s = live := by
  unfold latched
  split
  case h_1 k ws hk => exact if_neg fun e : k = key => h ws (e ▸ hk)
  case h_2 => rfl

/-! ### The latches of the requesters -/

theorem Requester.code_thread {t : Nat} (h : t < 32) : (Requester.thread t).code = t := Nat.mod_eq_of_lt h

theorem Requester.code_of_not_thread : ∀ q ∈ [Requester.pf0, .pf1, .smbus, .jtag], 32 ≤ q.code := by decide

/-- Settles O19: a read of a word of a wide counter goes through what it gives its requester, and the codes that index the latches differ. -/
theorem wideCounterLatch : Obligations.WideCounterLatch := by
  refine ⟨fun s q r i hr => ⟨?_, fun q' hq => ?_, fun hi hk => ?_, fun hk => ?_⟩, by decide, fun t u ht hu => ⟨fun hne => ?_, fun q hq => ?_⟩⟩
  · rw [latch_readReg_low hr, tget_tset_same]
  · rw [latch_readReg_low hr, tget_tset_other _ _ _ _ hq.symm]
  · rw [outOf_readReg_high hr, latched_of_held hk]; rfl
  · rw [outOf_readReg_high hr, latched_of_not_held hk]
  · rwa [Requester.code_thread ht, Requester.code_thread hu]
  · have := Requester.code_of_not_thread q hq
    rw [Requester.code_thread ht]; omega

end Sys2Proof.Machine

/-! PROOF. What a search finds (04_associative_search.md R92): the entries that may win, in address order, and the winner among them. -/

namespace Sys2Proof.Machine

/-! ### The order of the valid entries -/

/-- The keys of a table in canonical form rise along the list. -/
theorem pairwise_of_tsortedFrom {α : Type} {t : Tab α} {lo : Nat} (h : tsortedFrom lo t = true) :
    t.Pairwise (fun x y => x.1 < y.1) ∧ ∀ x ∈ t, lo ≤ x.1 := by
  induction t generalizing lo with
  | nil => simp
  | cons e t ih =>
    obtain ⟨k, v⟩ := e
    simp only [tsortedFrom, Bool.and_eq_true, decide_eq_true_eq] at h
    obtain ⟨hlo, hrest⟩ := h
    obtain ⟨hp, hk⟩ := ih hrest
    refine ⟨List.pairwise_cons.mpr ⟨hk, hp⟩, List.forall_mem_cons.mpr ⟨hlo, fun x hx => ?_⟩⟩
    have := hk x hx
    omega

/-- The valid entries of a partition stand in the order of their addresses. -/
theorem validEntries_pairwise {s : State} (h : tsortedFrom 0 s.tb.tcam = true) (d : Nat) (p : Part) :
    (validEntries d p s).Pairwise (fun x y => x.1 < y.1) :=
  (pairwise_of_tsortedFrom h).1.filterMap _ fun kr kr' hlt x hx x' hx' => by
    simp only [Option.ite_none_right_eq_some, Option.map_eq_some_iff] at hx hx'
    obtain ⟨⟨hd, _⟩, _, _, rfl⟩ := hx
    obtain ⟨⟨hd', _⟩, _, _, rfl⟩ := hx'
    simp only
    omega

/-! ### The winner of a list of entries -/

/-- Entry `w` wins against entry `x` under R92, or is `x`: the lower address in order mode, else the larger priority and the lower address among
equals. -/
def WinsOver (ordered : Bool) (w x : Nat × TcamEntry) : Prop :=
  if ordered then w.1 ≤ x.1 else x.2.prio < w.2.prio ∨ (x.2.prio = w.2.prio ∧ w.1 ≤ x.1)

@[simp] theorem winsOver_ordered {w x : Nat × TcamEntry} : WinsOver true w x ↔ w.1 ≤ x.1 := Iff.rfl

@[simp] theorem winsOver_priority {w x : Nat × TcamEntry} :
    WinsOver false w x ↔ x.2.prio < w.2.prio ∨ (x.2.prio = w.2.prio ∧ w.1 ≤ x.1) := Iff.rfl

@[simp] theorem tcamWinner_eq_none {ordered : Bool} {l : List (Nat × TcamEntry)} : tcamWinner ordered l = none ↔ l = [] := by
  cases l with
  | nil => simp [tcamWinner]
  | cons x rest =>
    simp only [tcamWinner]
    repeat' split
    all_goals simp

/-- In order mode the first entry wins. -/
theorem tcamWinner_cons_ordered (x : Nat × TcamEntry) (rest : List (Nat × TcamEntry)) : tcamWinner true (x :: rest) = some x := rfl

/-- In priority mode the first entry wins, unless the winner of the others has a larger priority. -/
theorem tcamWinner_cons_priority {x w : Nat × TcamEntry} {rest : List (Nat × TcamEntry)} (h : tcamWinner false (x :: rest) = some w) :
    (w = x ∧ ∀ y, tcamWinner false rest = some y → y.2.prio ≤ x.2.prio) ∨ (tcamWinner false rest = some w ∧ x.2.prio < w.2.prio) := by
  simp only [tcamWinner, Bool.false_eq_true, if_false] at h
  cases hr : tcamWinner false rest with
  | none => simp_all
  | some y =>
    by_cases hlt : x.2.prio < y.2.prio <;> simp only [hr, hlt, if_true, if_false, Option.some.injEq] at h <;> subst h
    · exact .inr ⟨rfl, hlt⟩
    · exact .inl ⟨rfl, by simpa using hlt⟩

/-- The winner is an entry of the list, and of entries in address order it wins over each. -/
theorem tcamWinner_spec {ordered : Bool} {l : List (Nat × TcamEntry)} {w : Nat × TcamEntry} (hl : l.Pairwise (fun x y => x.1 < y.1))
    (h : tcamWinner ordered l = some w) : w ∈ l ∧ ∀ x ∈ l, WinsOver ordered w x := by
  induction l generalizing w with
  | nil => cases h
  | cons x rest ih =>
    obtain ⟨hx, hrest⟩ := List.pairwise_cons.mp hl
    cases ordered with
    | true =>
      obtain rfl : x = w := Option.some.inj h
      exact ⟨List.mem_cons_self, List.forall_mem_cons.mpr ⟨Nat.le_refl _, fun y hy => Nat.le_of_lt (hx y hy)⟩⟩
    | false =>
      obtain ⟨rfl, hle⟩ | ⟨hw, hlt⟩ := tcamWinner_cons_priority h
      · refine ⟨List.mem_cons_self, List.forall_mem_cons.mpr ⟨.inr ⟨rfl, Nat.le_refl _⟩, fun y hy => ?_⟩⟩
        cases hr : tcamWinner false rest with
        | none => simp [tcamWinner_eq_none.mp hr] at hy
        | some z =>
          have hz := hle z hr
          have hzy := winsOver_priority.mp ((ih hrest hr).2 y hy)
          have := hx y hy
          rw [winsOver_priority]
          omega
      · obtain ⟨hmem, hall⟩ := ih hrest hw
        exact ⟨List.mem_cons_of_mem x hmem, List.forall_mem_cons.mpr ⟨.inl hlt, hall⟩⟩

/-! ### The search -/

/-- Whether an entry takes part in a search (R90, R110): it matches the key, and its group of blocks is in service. -/
def mayWin (d : Nat) (p : Part) (key gmask : Nat) (s : State) (x : Nat × TcamEntry) : Bool :=
  x.2.matchesKey key gmask && !groupOut d p.g x.1 s

theorem mayWin_iff {d key gmask : Nat} {p : Part} {s : State} {x : Nat × TcamEntry} :
    mayWin d p key gmask s x = true ↔ x.2.matchesKey key gmask = true ∧ groupOut d p.g x.1 s = false := by
  simp [mayWin]

/-- A search returns the address and the action of the winner among the candidates. -/
theorem tcamSearch_result (d : Nat) (p : Part) (key gmask : Nat) (s : State) :
    (tcamSearch d p key gmask [] s).2 =
      (tcamWinner p.ordered ((validEntries d p s).filter (mayWin d p key gmask s))).map (fun x => (x.1, x.2.action)) := by
  unfold tcamSearch mayWin
  simp only [List.contains_nil, Bool.not_false, Bool.and_true]
  split <;> simp [*]

/-- Settles O16: the winner of the candidates, which stand in address order, is an entry that wins over each of them. -/
theorem tcamSearchWinner : Obligations.TcamSearchWinner := by
  intro s d key gmask p hs
  rw [tcamSearch_result]
  refine ⟨by simp [mayWin], fun a act h => ?_⟩
  obtain ⟨⟨a, e⟩, hw, hres⟩ := Option.map_eq_some_iff.mp h
  obtain ⟨rfl, rfl⟩ := Prod.mk.inj hres
  obtain ⟨hmem, hwins⟩ := tcamWinner_spec ((validEntries_pairwise hs d p).filter _) hw
  obtain ⟨hvalid, hcand⟩ := List.mem_filter.mp hmem
  obtain ⟨hmatch, hin⟩ := mayWin_iff.mp hcand
  exact ⟨e, hvalid, hmatch, hin, rfl, fun x hx hm hg => hwins x (List.mem_filter.mpr ⟨hx, mayWin_iff.mpr ⟨hm, hg⟩⟩)⟩

end Sys2Proof.Machine

/-! PROOF. The form of a route entry (04_associative_search.md R97): its rank and the bits of its mask. -/

namespace Sys2Proof.Machine

/-! ### Runs of ones -/

/-- A run of `n` ones from bit `k` on, put above a number of `k` bits. -/
theorem testBit_ones_add (n : Nat) {k m : Nat} (h : m < 2 ^ k) (i : Nat) :
    ((2 ^ n - 1) * 2 ^ k + m).testBit i = (decide (k ≤ i ∧ i < k + n) || m.testBit i) := by
  rw [Nat.mul_comm, Nat.testBit_two_pow_mul_add _ h, Nat.testBit_two_pow_sub_one]
  by_cases hi : i < k
  · have hno : ¬ (k ≤ i ∧ i < k + n) := fun hk => Nat.not_lt_of_le hk.1 hi
    rw [if_pos hi, decide_eq_false hno, Bool.false_or]
  · have hm : m.testBit i = false := Nat.testBit_lt_two_pow (Nat.lt_of_lt_of_le h (Nat.pow_le_pow_right Nat.two_pos (by omega)))
    simp only [hi, hm, if_false, Bool.or_false, decide_eq_decide]
    omega

theorem ones_add_lt (n : Nat) {k m : Nat} (h : m < 2 ^ k) : (2 ^ n - 1) * 2 ^ k + m < 2 ^ (k + n) := by
  have hn : 2 ^ n - 1 + 1 = 2 ^ n := Nat.sub_add_cancel Nat.one_le_two_pow
  calc (2 ^ n - 1) * 2 ^ k + m < (2 ^ n - 1) * 2 ^ k + 2 ^ k := by omega
    _ = (2 ^ n - 1 + 1) * 2 ^ k := (Nat.succ_mul _ _).symm
    _ = 2 ^ (k + n) := by rw [hn, Nat.pow_add, Nat.mul_comm]

/-! ### The mask of a route -/

/-- The type bits, the VID bits and the PREFIX_LEN bits of a mask of `w` bits with a destination of `dw` bits are apart. -/
theorem testBit_typeVidPrefix {w dw pl : Nat} (ve : Nat) (hpl : pl ≤ dw) (hw : dw + 16 ≤ w) (i : Nat) :
    (0xF * 2 ^ (w - 4) + (if ve = 1 then 0xFFF * 2 ^ (w - 16) else 0) + (2 ^ pl - 1) * 2 ^ (dw - pl)).testBit i =
      (decide (w - 4 ≤ i ∧ i < w) || (decide (ve = 1) && decide (w - 16 ≤ i ∧ i < w - 4)) || decide (dw - pl ≤ i ∧ i < dw)) := by
  have hzero : 0 < 2 ^ (dw - pl) := Nat.two_pow_pos _
  have hprefix : (2 ^ pl - 1) * 2 ^ (dw - pl) < 2 ^ (w - 16) :=
    Nat.lt_of_lt_of_le (ones_add_lt pl hzero) (Nat.pow_le_pow_right Nat.two_pos (by omega))
  have hvid : (if ve = 1 then 0xFFF * 2 ^ (w - 16) else 0) + (2 ^ pl - 1) * 2 ^ (dw - pl) < 2 ^ (w - 4) := by
    split
    · exact Nat.lt_of_lt_of_le (ones_add_lt 12 hprefix) (Nat.pow_le_pow_right Nat.two_pos (by omega))
    · rw [Nat.zero_add]
      exact Nat.lt_of_lt_of_le hprefix (Nat.pow_le_pow_right Nat.two_pos (by omega))
  rw [Nat.add_assoc, show (0xF : Nat) = 2 ^ 4 - 1 from rfl, testBit_ones_add 4 hvid, Nat.sub_add_cancel (by omega), Bool.or_assoc]
  congr 1
  have hbits := testBit_ones_add pl hzero i
  rw [Nat.add_zero, Nat.zero_testBit, Bool.or_false, Nat.sub_add_cancel hpl] at hbits
  by_cases hve : ve = 1
  · rw [if_pos hve, show (0xFFF : Nat) = 2 ^ 12 - 1 from rfl, testBit_ones_add 12 hprefix, hbits, show w - 16 + 12 = w - 4 by omega]
    simp [hve]
  · rw [if_neg hve, Nat.zero_add, hbits]
    simp [hve]

/-- The bits of a route's mask, by the widths of the key and of the destination in a partition of its kind. -/
theorem testBit_routeMask {kind w dw pl : Nat} (hw : (if kind = 2 then 160 else 320) = w) (hdw : (if kind = 2 then 32 else 128) = dw) (ve : Nat)
    (hpl : pl ≤ dw) (i : Nat) :
    (routeMask kind pl ve).testBit i =
      (decide (w - 4 ≤ i ∧ i < w) || (decide (ve = 1) && decide (w - 16 ≤ i ∧ i < w - 4)) || decide (dw - pl ≤ i ∧ i < dw)) := by
  have hwide : dw + 16 ≤ w := by
    subst hw hdw
    split <;> decide
  rw [routeMask, hw, hdw]
  exact testBit_typeVidPrefix ve hpl hwide i

/-! ### A route of the image -/

theorem routeEntry_prio (b : List Byte) (o : Nat) :
    (routeEntry b o).prio = 2 * leNat (slice b (o + 1) 1) + leNat (slice b (o + 3) 1) := rfl

theorem routeEntry_mask (b : List Byte) (o : Nat) :
    (routeEntry b o).mask = routeMask (routeKind b o) (leNat (slice b (o + 1) 1)) (leNat (slice b (o + 3) 1)) := rfl

/-- Settles O17: the runs of ones of the mask are those of the route's kind, PREFIX_LEN and VID_EN. -/
theorem routeEntryForm : Obligations.RouteEntryForm := by
  rintro b o pl ve rfl rfl hve
  rw [routeEntry_prio, routeEntry_mask]
  refine ⟨fun hk hpl => ⟨rfl, by omega, fun i => ?_⟩, fun hk hpl => ⟨rfl, by omega, fun i => ?_⟩⟩
  · rw [hk]
    exact testBit_routeMask (w := 160) rfl rfl _ hpl i
  · rw [hk]
    exact testBit_routeMask (w := 320) rfl rfl _ hpl i

end Sys2Proof.Machine

/-! PROOF. The CHANNEL faults (12_management_engine.md R318): which threads may SEND and RECV on a channel. -/

namespace Sys2Proof.Machine

/-! ### An instruction that faults -/

/-- An instruction that issues and whose effect is a thread fault ends in that fault, in the state in which it was issued (R319). -/
theorem runInsn_faults {t cause : Nat} {i : Issue} {op : MeOp} {s : State} (hi : issues t i op s = true)
    (hf : effOf t op (issued t i s) = .fault cause) : runInsn t i op s = threadFault t cause (issued t i s) := by
  rw [runInsn_issues hi, hf]

/-! ### SEND and RECV of a part with power -/

theorem exec_send_works {t rd rs word ch : Nat} {i : Issue} {close : Bool} {s : State} (hw : works (.send t i rd rs close word ch) s = true) :
    exec (.send t i rd rs close word ch) s = .next (runInsn t i (.send rd rs false close word ch) s) :=
  congrArg Host.Outcome.next (powered_runs hw)

theorem exec_recv_works {t rd rs word ch : Nat} {i : Issue} {close : Bool} {s : State} (hw : works (.recv t i rd rs close word ch) s = true) :
    exec (.recv t i rd rs close word ch) s = .next (runInsn t i (.recv rd rs false close word ch) s) :=
  congrArg Host.Outcome.next (powered_runs hw)

/-! ### Who may use a channel -/

/-- A SEND that R318 refuses: the channel is disabled, or the thread is neither its writer of record nor the holder of its staged words. -/
theorem effOf_send_refused {t ch : Nat} {s : State}
    (h : s.fld F.CHAN_CFG0_ENABLE ch = 0 ∨ (s.fld F.CHAN_CFG0_WRITER ch ≠ t ∧ (chanAt ch s).holder ≠ some t)) (rd rs : Nat) (close : Bool)
    (word : Nat) : effOf t (.send rd rs false close word ch) s = .fault 6 := by
  change effSend t rd rs close word ch s = .fault 6
  exact if_pos (h.imp_right (And.imp_left beq_false_of_ne))

/-- A RECV that R318 refuses: the channel is disabled, or the thread is not its reader. -/
theorem effOf_recv_refused {t ch : Nat} {s : State} (h : s.fld F.CHAN_CFG0_ENABLE ch = 0 ∨ s.fld F.CHAN_CFG0_READER ch ≠ t) (rd rs : Nat)
    (close : Bool) (word : Nat) : effOf t (.recv rd rs false close word ch) s = .fault 6 := by
  change effRecv t rd rs close word ch s = .fault 6
  exact if_pos h

theorem exec_send_refused {t rd rs word ch : Nat} {i : Issue} {close : Bool} {s : State} (hw : works (.send t i rd rs close word ch) s = true)
    (hi : issues t i (.send rd rs false close word ch) s = true)
    (h : (issued t i s).fld F.CHAN_CFG0_ENABLE ch = 0 ∨
      ((issued t i s).fld F.CHAN_CFG0_WRITER ch ≠ t ∧ (chanAt ch (issued t i s)).holder ≠ some t)) :
    exec (.send t i rd rs close word ch) s = .next (threadFault t 6 (issued t i s)) := by
  rw [exec_send_works hw, runInsn_faults hi (effOf_send_refused h rd rs close word)]

theorem exec_recv_refused {t rd rs word ch : Nat} {i : Issue} {close : Bool} {s : State} (hw : works (.recv t i rd rs close word ch) s = true)
    (hi : issues t i (.recv rd rs false close word ch) s = true)
    (h : (issued t i s).fld F.CHAN_CFG0_ENABLE ch = 0 ∨ (issued t i s).fld F.CHAN_CFG0_READER ch ≠ t) :
    exec (.recv t i rd rs close word ch) s = .next (threadFault t 6 (issued t i s)) := by
  rw [exec_recv_works hw, runInsn_faults hi (effOf_recv_refused h rd rs close word)]

/-- Settles O15: each clause is one of the reasons for which R318 refuses a SEND or a RECV. -/
theorem channelFaults : Obligations.ChannelFaults := by
  refine ⟨?disabledSend, ?strangerSend, ?disabledRecv, ?strangerRecv⟩
  case disabledSend =>
    rintro s t i rd rs close word ch _ hw hi rfl hoff
    exact exec_send_refused hw hi (.inl hoff)
  case strangerSend =>
    rintro s t i rd rs close word ch _ hw hi rfl hholder hwriter
    exact exec_send_refused hw hi (.inr ⟨hwriter, hholder⟩)
  case disabledRecv =>
    rintro s t i rd rs close word ch _ hw hi rfl hoff
    exact exec_recv_refused hw hi (.inl hoff)
  case strangerRecv =>
    rintro s t i rd rs close word ch _ hw hi rfl hreader
    exact exec_recv_refused hw hi (.inr hreader)

end Sys2Proof.Machine

/-! PROOF. Branches and jumps (13_me_instruction_set.md R341): where an instruction that retires leaves the PC and its link register. -/

namespace Sys2Proof.Machine

/-! ### An instruction that retires -/

/-- An instruction that issues and whose effect is its retirement retires with that effect (R336). -/
theorem runInsn_retires {t : Nat} {i : Issue} {op : MeOp} {s u : State} (hi : issues t i op s = true)
    (hr : effOf t op (issued t i s) = .retire u) : runInsn t i op s = retires t i op s u := by
  rw [runInsn_issues hi, hr]

/-- A jump to a multiple of 4 retires there. -/
theorem retireJump_aligned {t target : Nat} {s : State} (h : target % 4 = 0) : retireJump t target s = .retire (jumpsTo t target s) :=
  if_neg (not_not_intro h)

theorem effOf_branch_taken {t k ra rb off : Nat} {s : State} (hb : branchTaken k (gpr t ra s) (gpr t rb s) = true)
    (h : (pcOf t s + 4 * sext 16 off) % 2 ^ 64 % 4 = 0) :
    effOf t (.branch k ra rb off) s = .retire (jumpsTo t ((pcOf t s + 4 * sext 16 off) % 2 ^ 64) s) :=
  (if_pos hb).trans (retireJump_aligned h)

theorem effOf_branch_not_taken {t k ra rb : Nat} {s : State} (hb : branchTaken k (gpr t ra s) (gpr t rb s) = false) (off : Nat) :
    effOf t (.branch k ra rb off) s = .retire (goesOn t s) :=
  if_neg (Bool.eq_false_iff.mp hb)

/-! ### The jumps of a part with power -/

theorem exec_branch_powered {t k ra rb off : Nat} {i : Issue} {s : State} (h : (!s.ldr.held) = true) :
    exec (.branch t i k ra rb off) s = .next (runInsn t i (.branch k ra rb off) s) :=
  congrArg Host.Outcome.next (powered_runs h)

theorem exec_jmp_powered {t off : Nat} {i : Issue} {s : State} (h : (!s.ldr.held) = true) :
    exec (.jmp t i off) s = .next (runInsn t i (.jmp off) s) :=
  congrArg Host.Outcome.next (powered_runs h)

theorem exec_call_powered {t off : Nat} {i : Issue} {s : State} (h : (!s.ldr.held) = true) :
    exec (.call t i off) s = .next (runInsn t i (.call off) s) :=
  congrArg Host.Outcome.next (powered_runs h)

theorem exec_jr_powered {t rd ra imm : Nat} {i : Issue} {s : State} (h : (!s.ldr.held) = true) :
    exec (.jr t i rd ra imm) s = .next (runInsn t i (.jr rd ra imm) s) :=
  congrArg Host.Outcome.next (powered_runs h)

/-- A CALL to a multiple of 4 jumps there, with its return address in g31. -/
theorem exec_call_aligned {t off : Nat} {i : Issue} {s : State} (hp : (!s.ldr.held) = true) (hi : issues t i (.call off) s = true)
    (h : (pcOf t (issued t i s) + 4 * sext 26 off) % 2 ^ 64 % 4 = 0) :
    exec (.call t i off) s = .next (retires t i (.call off) s (jumpsTo t ((pcOf t (issued t i s) + 4 * sext 26 off) % 2 ^ 64)
      (setGpr t 31 (pcOf t (issued t i s) + 4) (issued t i s)))) := by
  rw [exec_call_powered hp, runInsn_retires hi (retireJump_aligned h)]

/-- Settles O46: each clause is a jump to a multiple of 4, or the branch that goes on. -/
theorem jumpInsnsComplete : Obligations.JumpInsnsComplete := by
  refine ⟨?taken, ?notTaken, ?jmp, ?call, ?jr⟩
  case taken =>
    rintro s t i k ra rb off _ hw hi rfl hb h
    rw [exec_branch_powered hw, runInsn_retires hi (effOf_branch_taken hb h)]
  case notTaken =>
    rintro s t i k ra rb off _ hw hi rfl hb
    rw [exec_branch_powered hw, runInsn_retires hi (effOf_branch_not_taken hb off)]
  case jmp =>
    rintro s t i off _ hw hi rfl h
    rw [exec_jmp_powered hw, runInsn_retires hi (retireJump_aligned h)]
  case call =>
    rintro s t i off _ hw hi rfl h
    exact exec_call_aligned hw hi h
  case jr =>
    rintro s t i rd ra imm _ hw hi rfl h
    rw [exec_jr_powered hw, runInsn_retires hi (retireJump_aligned h)]

end Sys2Proof.Machine

/-! PROOF. The general registers (13_me_instruction_set.md R334): reads and writes, START, and the return address that CALL leaves in g31. -/

namespace Sys2Proof.Machine

/-! ### Reads and writes -/

@[simp] theorem gpr_zero (t : Nat) (s : State) : gpr t 0 s = 0 := rfl

@[simp] theorem setGpr_zero (t v : Nat) (s : State) : setGpr t 0 v s = s := rfl

theorem gpr_setGpr_same {r : Nat} (hr : 0 < r) (t v : Nat) (s : State) : gpr t r (setGpr t r v s) = v % 2 ^ 64 := by
  simp [gpr, setGpr, Nat.ne_of_gt hr]

/-- A write leaves every other register of the thread and the registers of every other thread alone. -/
theorem gpr_setGpr_other {t x r k : Nat} (hr : r < 32) (hk : k < 32) (h : x ≠ t ∨ k ≠ r) (v : Nat) (s : State) :
    gpr x k (setGpr t r v s) = gpr x k s := by
  rcases Nat.eq_zero_or_pos r with rfl | hr0
  · rw [setGpr_zero]
  · have hkey : t * 32 + r ≠ x * 32 + k := by omega
    simp [gpr, setGpr, Nat.ne_of_gt hr0, tget_tset_other _ _ _ _ hkey]

/-! ### Register files -/

/-- The general registers and the program counters of the threads. -/
def State.threadRegs (s : State) : Tab Nat × Tab Nat := (s.me.gpr, s.me.pc)

theorem threadRegs_of_me {s u : State} (h : u.me = s.me) : u.threadRegs = s.threadRegs := by
  rw [State.threadRegs, State.threadRegs, h]

theorem gpr_of_threadRegs {s u : State} (h : u.threadRegs = s.threadRegs) (t r : Nat) : gpr t r u = gpr t r s := by
  rw [gpr, gpr, show u.me.gpr = s.me.gpr from congrArg Prod.fst h]

theorem pcOf_of_threadRegs {s u : State} (h : u.threadRegs = s.threadRegs) (t : Nat) : pcOf t u = pcOf t s := by
  rw [pcOf, pcOf, show u.me.pc = s.me.pc from congrArg Prod.snd h]

/-- A fold of updates that each keep the threads' registers keeps them. -/
theorem threadRegs_foldl {α : Type} {g : State → α → State} (h : ∀ s a, (g s a).threadRegs = s.threadRegs) (l : List α) (s : State) :
    (l.foldl g s).threadRegs = s.threadRegs := by
  induction l generalizing s with
  | nil => rfl
  | cons a l ih => rw [List.foldl_cons, ih, h]

/-! ### Events and thread states -/

theorem raiseSrc_me (n : Nat) (s : State) : (raiseSrc n s).me = s.me := by
  unfold raiseSrc
  repeat' split
  all_goals rfl

theorem pmcAdd_me (c k n : Nat) (s : State) : (pmcAdd c k n s).me = s.me := by
  unfold pmcAdd
  simp only
  repeat' split
  all_goals simp [raiseSrc_me]

@[simp] theorem threadRegs_pmcThread (t ev n : Nat) (s : State) : (pmcThread t ev n s).threadRegs = s.threadRegs := by
  unfold pmcThread
  extract_lets
  split
  · rfl
  · refine threadRegs_foldl (fun s k => ?_) _ s
    split
    · exact threadRegs_of_me (pmcAdd_me _ _ _ s)
    · rfl

@[simp] theorem threadRegs_setThreadState (t v : Nat) (s : State) : (setThreadState t v s).threadRegs = s.threadRegs := by
  unfold setThreadState
  extract_lets
  split <;> rfl

@[simp] theorem threadRegs_haltDue (t : Nat) (s : State) : (haltDue t s).threadRegs = s.threadRegs := by
  unfold haltDue
  split
  · exact threadRegs_setThreadState t 3 _
  · rfl

/-! ### The issue and the retirement of an instruction -/

@[simp] theorem threadRegs_issueWord (mc t : Nat) (s : State) : (issueWord mc t s).threadRegs = s.threadRegs := by
  unfold issueWord
  split
  · exact threadRegs_pmcThread t 23 1 s
  · rfl

@[simp] theorem threadRegs_issueMcOf (c : Nat) (s : State) : (issueMcOf c s).threadRegs = s.threadRegs :=
  threadRegs_foldl (fun s t => threadRegs_issueWord (coreMc c _) t s) _ s

@[simp] theorem threadRegs_issueUntil (t n fuel : Nat) (s : State) : (issueUntil t n fuel s).threadRegs = s.threadRegs := by
  induction fuel generalizing s with
  | zero => rfl
  | succ fuel ih =>
    rw [issueUntil]
    split
    · rfl
    · rw [ih, threadRegs_issueMcOf]

@[simp] theorem threadRegs_issueWords (t n : Nat) (s : State) : (issueWords t n s).threadRegs = s.threadRegs := by
  unfold issueWords
  split
  · rfl
  · extract_lets s1 s2
    change s2.threadRegs = s.threadRegs
    simp [s2, s1]

@[simp] theorem threadRegs_routineTemps (t w n : Nat) (s : State) : (routineTemps t w n s).threadRegs = s.threadRegs := by
  unfold routineTemps
  extract_lets
  split <;> rfl

/-- The issue of an instruction's words leaves every register and PC alone. -/
theorem threadRegs_issued (t : Nat) (i : Issue) (s : State) : (issued t i s).threadRegs = s.threadRegs := by
  rw [issued, threadRegs_routineTemps, threadRegs_issueWords]
  rfl

@[simp] theorem threadRegs_retireCounts (t pc w path : Nat) (i : Issue) (s : State) :
    (retireCounts t pc w path i s).threadRegs = s.threadRegs := by
  unfold retireCounts
  extract_lets c op cls s1 n record
  have h1 : s1.threadRegs = s.threadRegs := by simp [s1]
  repeat' split
  all_goals exact h1

/-- What a retirement counts and carries out leaves every register and PC as the instruction set them. -/
theorem threadRegs_retires (t : Nat) (i : Issue) (op : MeOp) (s u : State) : (retires t i op s u).threadRegs = u.threadRegs := by
  rw [retires, retired, threadRegs_haltDue, threadRegs_retireCounts]
  rfl

theorem gpr_jumpsTo (x r t target : Nat) (s : State) : gpr x r (jumpsTo t target s) = gpr x r s :=
  gpr_of_threadRegs (threadRegs_pmcThread t 15 1 s) x r

/-! ### START and CALL -/

/-- A key that no entry of a table has reads the default. -/
theorem tget_of_not_mem {α : Type} (d : α) {m : Tab α} {k : Nat} (h : ∀ e ∈ m, e.1 ≠ k) : tget d m k = d := by
  induction m with
  | nil => rfl
  | cons e m ih =>
    obtain ⟨j, v⟩ := e
    have hj : j ≠ k := h (j, v) List.mem_cons_self
    have hm : tget d m k = d := ih fun e he => h e (List.mem_cons_of_mem _ he)
    simp [tget, hj, hm]

theorem gpr_startThread {r : Nat} (hr : r < 32) (t : Nat) (s : State) : gpr t r (startThread t s) = 0 := by
  rw [startThread, gpr_of_threadRegs (threadRegs_setThreadState t 1 _), gpr]
  split
  · rfl
  · refine tget_of_not_mem 0 fun e he hk => ?_
    have ht : e.1 / 32 ≠ t := by simpa using (List.mem_filter.mp he).2
    omega

theorem aligned_of_fetchFault_eq_zero {t : Nat} {s : State} (h : fetchFault t s = 0) : pcOf t s % 4 = 0 := by
  refine Decidable.byContradiction fun hpc => ?_
  by_cases hview : mayFetch t (pcOf t s) s = false
  · rw [fetchFault, if_pos hview] at h
    exact absurd h (by decide)
  · rw [fetchFault, if_neg hview, if_pos hpc] at h
    exact absurd h (by decide)

/-- An instruction that issues stands at a multiple of 4: a misaligned PC is an ALIGN fault (12_management_engine.md Table 12.5). -/
theorem pcOf_aligned_of_issues {t : Nat} {i : Issue} {op : MeOp} {s : State} (h : issues t i op s = true) : pcOf t s % 4 = 0 := by
  simp only [issues, Bool.and_eq_true, beq_iff_eq] at h
  obtain ⟨⟨⟨⟨_, hfetch⟩, _⟩, _⟩, _⟩ := h
  exact aligned_of_fetchFault_eq_zero hfetch

/-- A CALL that issues retires with its return address in g31: its target is a multiple of 4, as its own address is. -/
theorem exec_call_links {t off : Nat} {i : Issue} {s : State} (hp : s.ldr.held = false) (hi : issues t i (.call off) s = true) :
    ∃ u, exec (.call t i off) s = .next u ∧ gpr t 31 u = (pcOf t s + 4) % 2 ^ 64 := by
  have hpc : pcOf t (issued t i s) = pcOf t s := pcOf_of_threadRegs (threadRegs_issued t i s) t
  have hal : (pcOf t (issued t i s) + 4 * sext 26 off) % 2 ^ 64 % 4 = 0 := by
    have := pcOf_aligned_of_issues hi
    omega
  refine ⟨_, exec_call_aligned (congrArg (!·) hp) hi hal, ?_⟩
  rw [gpr_of_threadRegs (threadRegs_retires _ _ _ _ _), gpr_jumpsTo, gpr_setGpr_same (by decide), hpc]

/-- Settles O14: the registers by their reads and writes, START and CALL by what they leave in them. -/
theorem generalRegisters : Obligations.GeneralRegisters := fun s t v =>
  ⟨gpr_zero t s, setGpr_zero t v s, fun _ hr => gpr_setGpr_same hr t v s, fun _ _ _ hr hk h => gpr_setGpr_other hr hk h v s,
    fun _ hr => gpr_startThread hr t s, fun _ _ hp hi => exec_call_links hp hi⟩

end Sys2Proof.Machine

/-! PROOF. The Terminal state (15_faults.md R386; 17_startup_image.md R421): what the commands leave of FLT_STATUS.TERMINAL, and
the one command that clears it. -/

namespace Sys2Proof.Machine

/-! ### The bit and the register cells -/

/-- The field stands in another cell than FLT_STATUS.TERMINAL. -/
@[simp] def Fld.sparesTerminal (f : Fld) : Bool := decide (f.lo < 64) && (f.reg != .FLT_STATUS || f.lo != 31)

/-- The Terminal state stands in the register cells alone. -/
theorem terminal_congr {s t : State} (h : t.regs = s.regs) : t.terminal = s.terminal := by
  rw [State.terminal, State.terminal, fld_congr h]

theorem terminal_setCell {f : Fld} (hf : f.sparesTerminal = true) (i v : Nat) (s : State) :
    (s.setCell f.reg f.lo i v).terminal = s.terminal := by
  simp only [Fld.sparesTerminal, Bool.and_eq_true, Bool.or_eq_true, decide_eq_true_eq, bne_iff_ne] at hf
  have hne : (f.reg, f.lo, i) ≠ (Reg.FLT_STATUS, 31, 0) := by
    intro he
    simp only [Prod.mk.injEq] at he
    exact hf.2.elim (· he.1) (· he.2.1)
  unfold State.terminal State.fld
  rw [cell_setCell_other s v hf.1 (by decide) hne]

@[simp] theorem terminal_setFld {f : Fld} (hf : f.sparesTerminal = true) (i v : Nat) (s : State) :
    (s.setFld f i v).terminal = s.terminal :=
  terminal_setCell hf ..

@[simp] theorem terminal_setFlds {l : List (Fld × Nat × Nat)} (hl : l.all (fun x => x.1.sparesTerminal) = true) (s : State) :
    (s.setFlds l).terminal = s.terminal := by
  induction l generalizing s with
  | nil => rfl
  | cons x l ih =>
    simp only [List.all_cons, Bool.and_eq_true] at hl
    rw [State.setFlds_cons, ih hl.2, terminal_setFld hl.1]

@[simp] theorem terminal_bump {f : Fld} (hf : f.sparesTerminal = true) (i : Nat) (s : State) : (s.bump f i).terminal = s.terminal :=
  terminal_setFld hf ..

@[simp] theorem terminal_lower {f : Fld} (hf : f.sparesTerminal = true) (i n : Nat) (s : State) : (s.lower f i n).terminal = s.terminal :=
  terminal_setFld hf ..

@[simp] theorem terminal_addWrap {f : Fld} (hf : f.sparesTerminal = true) (i n : Nat) (s : State) : (s.addWrap f i n).terminal = s.terminal :=
  terminal_setFld hf ..

@[simp] theorem terminal_ite (c : Prop) [Decidable c] (a b : State) :
    (if c then a else b).terminal = if c then a.terminal else b.terminal := apply_ite ..

/-- A fold of updates that each keep the Terminal state keeps it. -/
@[simp] theorem terminal_foldl {α : Type} {g : State → α → State} {l : List α}
    (h : ∀ s, ∀ a ∈ l, (g s a).terminal = s.terminal) (s : State) : (l.foldl g s).terminal = s.terminal :=
  List.foldlRecOn l g (motive := fun t => t.terminal = s.terminal) rfl fun t ht a ha => (h t a ha).trans ht

/-! ### Updates of the other parts of the state -/

/-- An update of any part but the registers. -/
@[simp] theorem terminal_same (s : State) (p : List Instr) (w : Nat) (tb : Tables) (dp : DataPath) (f : FaultSt) (pl : PlnSt) (ti : TimeSt)
    (te : TelSt) (h sr : Tab Byte) (ic : IntcSt) (m : MeSt) (d : DramSt) (hi : HifSt) (l : LdrSt) (ev : Tab Nat)
    (la : Tab (Option (Nat × List Nat))) (ro : Tab Nat) :
    (State.mk p s.regs w tb dp f pl ti te h sr ic m d hi l ev la ro).terminal = s.terminal := rfl

@[simp] theorem terminal_withHif (h : HifSt) (s : State) : (s.withHif h).terminal = s.terminal := rfl
@[simp] theorem terminal_withMe (m : MeSt) (s : State) : (s.withMe m).terminal = s.terminal := rfl
@[simp] theorem terminal_withTime (t : TimeSt) (s : State) : (s.withTime t).terminal = s.terminal := rfl
@[simp] theorem terminal_withLdr (l : LdrSt) (s : State) : (s.withLdr l).terminal = s.terminal := rfl
@[simp] theorem terminal_setOut (q : Requester) (v : Nat) (s : State) : (setOut q v s).terminal = s.terminal := rfl
@[simp] theorem terminal_setLatch (q : Requester) (k : Nat) (ws : List Nat) (s : State) : (setLatch q k ws s).terminal = s.terminal := rfl
@[simp] theorem terminal_raiseFault (n d x : Nat) (s : State) : (raiseFault n d x s).terminal = s.terminal := terminal_congr rfl
@[simp] theorem terminal_raiseFaultMe (n d x : Nat) (s : State) : (raiseFaultMe n d x s).terminal = s.terminal := terminal_congr rfl
@[simp] theorem terminal_dramWrite (c a : Nat) (bs : List Byte) (s : State) : (dramWrite c a bs s).terminal = s.terminal := terminal_congr rfl
@[simp] theorem terminal_dramRequest (c : Nat) (w : Bool) (a n : Nat) (s : State) : (dramRequest c w a n s).terminal = s.terminal :=
  terminal_congr rfl
@[simp] theorem terminal_sidePut (a : SideAccess) (s : State) : (sidePut a s).terminal = s.terminal := terminal_congr rfl

/-! ### Interrupts, messages and the rings of the host interface -/

@[simp] theorem terminal_raiseSrc (n : Nat) (s : State) : (raiseSrc n s).terminal = s.terminal := by
  simp [raiseSrc]

@[simp] theorem terminal_setLevel (n : Nat) (on : Bool) (s : State) : (setLevel n on s).terminal = s.terminal := by
  simp [setLevel]

@[simp] theorem terminal_sendTlp (k : Nat) (s : State) : (sendTlp k s).terminal = s.terminal := by
  simp [sendTlp]

@[simp] theorem terminal_signalVector (f v : Nat) (s : State) : (signalVector f v s).terminal = s.terminal := by
  simp [signalVector, sendPme, sendMsix]

@[simp] theorem terminal_flushVector (f v : Nat) (s : State) : (flushVector f v s).terminal = s.terminal := by
  simp [flushVector, sendMsix]

@[simp] theorem terminal_flushVectors (f : Nat) (s : State) : (flushVectors f s).terminal = s.terminal := by
  simp [flushVectors]

@[simp] theorem terminal_ringSignal (r : Nat) (s : State) : (ringSignal r s).terminal = s.terminal := by
  simp [ringSignal]

@[simp] theorem terminal_ringComplete (r : Nat) (s : State) : (ringComplete r s).terminal = s.terminal := by
  simp [ringComplete]

@[simp] theorem terminal_postWrites (f : Nat) (ws : List (Nat × List Byte)) (s : State) : (postWrites f ws s).terminal = s.terminal := by
  simp [postWrites, moreWrites]

@[simp] theorem terminal_eventPut (e ty : Nat) (body : List Byte) (s : State) : (eventPut e ty body s).terminal = s.terminal := by
  simp [eventPut]

@[simp] theorem terminal_eventOn (e ty : Nat) (body : List Byte) (s : State) : (eventOn e ty body s).terminal = s.terminal := by
  simp [eventOn, eventLoss]

@[simp] theorem terminal_eventRecord (ty : Nat) (body : List Byte) (s : State) : (eventRecord ty body s).terminal = s.terminal := by
  simp [eventRecord]

/-! ### The shared buffer -/

@[simp] theorem terminal_pfcUpdate (p n : Nat) (s : State) : (pfcUpdate p n s).terminal = s.terminal := by
  unfold pfcUpdate
  extract_lets mode i used mask act
  split
  · rfl
  · cases act <;> simp [pfcAsk, ctrlRequest, setPortSt, xoffPut]

@[simp] theorem terminal_settle (f : Nat) (s : State) : (settle f s).terminal = s.terminal := by
  unfold settle
  split
  · rfl
  · simp [setFrame, dropFrame]

@[simp] theorem terminal_dropStaged (sel : HostRx → Bool) (s : State) : (dropStaged sel s).terminal = s.terminal := by
  simp [dropStaged]

/-! ### The host interface (18_host_interface.md) -/

@[simp] theorem terminal_complete (n : Nat) (p : Bool) (s : State) : (complete n p s).terminal = s.terminal := terminal_congr rfl

@[simp] theorem terminal_pcieLinkUp (rate width : Nat) (s : State) : (pcieLinkUp rate width s).terminal = s.terminal := by
  simp [pcieLinkUp]

@[simp] theorem terminal_aerLog (f b : Nat) (uncorr : Bool) (s : State) : (aerLog f b uncorr s).terminal = s.terminal := by
  simp [aerLog]

@[simp] theorem terminal_memRefused (f : Nat) (s : State) : (memRefused f s).terminal = s.terminal := by
  simp [memRefused]

@[simp] theorem terminal_configWrite (f : Nat) (r : CfgReq) (s : State) : (configWrite f r s).terminal = s.terminal := by
  cases r <;> simp [configWrite]

@[simp] theorem terminal_configurationRequest (f : Nat) (r : CfgReq) (s : State) : (configurationRequest f r s).terminal = s.terminal := by
  cases r <;> simp [configurationRequest]

@[simp] theorem terminal_dramRequests (c : Nat) (w : Bool) (a n : Nat) (s : State) : (dramRequests c w a n s).terminal = s.terminal :=
  terminal_foldl (fun s _ _ => terminal_dramRequest _ _ _ _ s) s

@[simp] theorem terminal_bar2Put (a : Nat) (bs : List Byte) (s : State) : (bar2Put a bs s).terminal = s.terminal :=
  terminal_foldl (fun s _ _ => terminal_dramWrite _ _ _ s) s

@[simp] theorem terminal_bar2Read (o n : Nat) (ue : Bool) (s : State) : (bar2Read o n ue s).terminal = s.terminal := by
  simp [bar2Read]

@[simp] theorem terminal_bar2Write (o : Nat) (bs : List Byte) (s : State) : (bar2Write o bs s).terminal = s.terminal := by
  simp [bar2Write]

@[simp] theorem terminal_ringStopped (r : Nat) (s : State) : (ringStopped r s).terminal = s.terminal := by
  simp [ringStopped]

@[simp] theorem terminal_ringError (r cause : Nat) (s : State) : (ringError r cause s).terminal = s.terminal := by
  simp [ringError]

@[simp] theorem terminal_moderationExpiry (r : Nat) (s : State) : (moderationExpiry r s).terminal = s.terminal := by
  simp [moderationExpiry]

@[simp] theorem terminal_msixUnmask (f v lo hi data : Nat) (mask : Bool) (s : State) :
    (msixUnmask f v lo hi data mask s).terminal = s.terminal := by
  simp [msixUnmask]

@[simp] theorem terminal_l1Entry (s : State) : (l1Entry s).terminal = s.terminal := by
  simp [l1Entry]

@[simp] theorem terminal_l1Exit (s : State) : (l1Exit s).terminal = s.terminal := by
  simp [l1Exit]

@[simp] theorem terminal_setD (f v : Nat) (s : State) : (setD f v s).terminal = s.terminal := by
  unfold setD
  split <;> simp

@[simp] theorem terminal_pmcsr (f d : Nat) (pmeEn clear : Bool) (s : State) : (pmcsr f d pmeEn clear s).terminal = s.terminal := by
  simp [pmcsr]

@[simp] theorem terminal_pmeRepeat (f : Nat) (s : State) : (pmeRepeat f s).terminal = s.terminal := by
  simp [pmeRepeat, sendPme]

@[simp] theorem terminal_clearRing (r : Nat) (s : State) : (clearRing r s).terminal = s.terminal :=
  (terminal_withHif ..).trans (terminal_setFlds (by simp) s)

@[simp] theorem terminal_flrFunction (f : Nat) (s : State) : (flrFunction f s).terminal = s.terminal := by
  simp [flrFunction]

@[simp] theorem terminal_functionLevelReset (f : Nat) (s : State) : (functionLevelReset f s).terminal = s.terminal := by
  simp [functionLevelReset]

@[simp] theorem terminal_flrDone (f : Nat) (s : State) : (flrDone f s).terminal = s.terminal := by
  simp [flrDone]

@[simp] theorem terminal_pcieLinkDown (s : State) : (pcieLinkDown s).terminal = s.terminal := by
  simp [pcieLinkDown]

@[simp] theorem terminal_completionTimeout (r : Nat) (s : State) : (completionTimeout r s).terminal = s.terminal := by
  simp [completionTimeout]

@[simp] theorem terminal_completionStatusError (r : Nat) (s : State) : (completionStatusError r s).terminal = s.terminal := by
  simp [completionStatusError]

@[simp] theorem terminal_tlpError (f : Nat) (e : TlpErr) (s : State) : (tlpError f e s).terminal = s.terminal := by
  cases e <;> simp [tlpError]

/-! ### The fault unit, the fuses and the recovery mailbox (15_faults.md; 17_startup_image.md; 19_register_map.md) -/

@[simp] theorem terminal_setWords {f : Fld} (hf : f.sparesTerminal = true) (i : Nat) (ws : List Nat) (s : State) :
    (setWords f i ws s).terminal = s.terminal :=
  terminal_foldl (fun _ _ _ => terminal_setFld hf ..) s

@[simp] theorem terminal_recordEvent (e : FaultEv) (cls : Nat) (conseq esc : Bool) (s : State) :
    (recordEvent e cls conseq esc s).terminal = s.terminal := by
  simp [recordEvent]

@[simp] theorem terminal_captureFirst (e : FaultEv) (cls : Nat) (esc : Bool) (s : State) : (captureFirst e cls esc s).terminal = s.terminal := by
  simp [captureFirst]

@[simp] theorem terminal_escalate (e : FaultEv) (s : State) : (escalate e s).1.terminal = s.terminal := by
  unfold escalate
  extract_lets _ _ _ _ _ _ _ s1
  split <;> simp [s1]

@[simp] theorem terminal_commitEvent (e : FaultEv) (s : State) : (commitEvent e s).1.terminal = s.terminal := by
  unfold commitEvent
  simp only
  split <;> simp

@[simp] theorem terminal_commitList (l : List FaultEv) (s : State) : (commitList l s).1.terminal = s.terminal := by
  induction l generalizing s with
  | nil => rfl
  | cons e l ih => simp [commitList, ih]

/-- In the Terminal state no reaction is taken: neither a chip reset nor any other. -/
theorem takeReactions_of_terminal {s : State} (hs : s.terminal = true) (l : List (FaultEv × Nat × Nat)) : takeReactions l s = s := if_pos hs

theorem faultCommit_keeps_terminal {s : State} (hs : s.terminal = true) : (faultCommit s).terminal = true := by
  unfold faultCommit
  split
  · exact hs
  · extract_lets now later _ committed
    have hc : committed.1.terminal = true := by simp [committed, hs]
    rw [takeReactions_of_terminal hc, hc]

@[simp] theorem terminal_tempSensorRead (i : Nat) (deg : Int) (s : State) : (tempSensorRead i deg s).terminal = s.terminal := by
  simp [tempSensorRead]

@[simp] theorem terminal_conseqWindowClose (u : Nat) (s : State) : (conseqWindowClose u s).terminal = s.terminal := by
  simp [conseqWindowClose, windowClose, showWindows]

@[simp] theorem terminal_hifResetEnd (rate width : Nat) (s : State) : (hifResetEnd rate width s).terminal = s.terminal := by
  simp [hifResetEnd, unitEnd]

@[simp] theorem terminal_drawChallenge (s : State) : (drawChallenge s).terminal = s.terminal := by
  simp [drawChallenge]

@[simp] theorem terminal_jtagUnlockResult (s : State) : (jtagUnlockResult s).terminal = s.terminal := by
  simp [jtagUnlockResult]

@[simp] theorem terminal_otpFinish (s : State) : (otpFinish s).terminal = s.terminal := by
  unfold otpFinish
  split <;> simp

@[simp] theorem terminal_rcvFinish (late : Bool) (s : State) : (rcvFinish late s).terminal = s.terminal := by
  unfold rcvFinish
  split <;> simp

/-! ### Reads and writes of registers -/

@[simp] theorem terminal_pmcAdd (c k n : Nat) (s : State) : (pmcAdd c k n s).terminal = s.terminal := by
  simp [pmcAdd]

@[simp] theorem terminal_pmcThread (t ev n : Nat) (s : State) : (pmcThread t ev n s).terminal = s.terminal := by
  simp [pmcThread]

@[simp] theorem terminal_privViolation (q : Requester) (write : Bool) (off : Nat) (s : State) :
    (privViolation q write off s).terminal = s.terminal := by
  cases q <;> simp [privViolation]

@[simp] theorem terminal_claimRead (q : Requester) (j : Nat) (s : State) : (claimRead q j s).terminal = s.terminal := by
  simp [claimRead]

@[simp] theorem terminal_supNoteRead (q : Requester) (s : State) : (supNoteRead q s).terminal = s.terminal := by
  simp [supNoteRead]

@[simp] theorem terminal_syncInRead (q : Requester) (n : Nat) (s : State) : (syncInRead q n s).terminal = s.terminal := by
  simp [syncInRead]

@[simp] theorem terminal_ptpInfoRead (q : Requester) (d : Nat) (s : State) : (ptpInfoRead q d s).terminal = s.terminal := by
  simp [ptpInfoRead]

/-- No read clears TERMINAL: no field that a read clears shares its cell. -/
theorem rcFields_spare_terminal (r : Reg) : (r.fields.all fun f => f.acc != .RC || Fld.sparesTerminal ⟨r, f.hi, f.lo⟩) = true := by
  cases r <;> rfl

@[simp] theorem terminal_clearRc (a : RegAt) (s : State) : (clearRc a s).terminal = s.terminal := by
  unfold clearRc
  split
  · simp
  · refine terminal_foldl (fun t f hf => ?_) s
    have hspares := List.all_eq_true.mp (rcFields_spare_terminal a.reg) f hf
    by_cases hrc : f.acc = .RC
    · simp only [hrc] at hspares ⊢
      exact terminal_setCell hspares ..
    · simp [hrc]

@[simp] theorem terminal_readReg (q : Requester) (a : RegAt) (s : State) : (readReg q a s).terminal = s.terminal := by
  unfold readReg
  simp only
  split
  case h_5 => cases latchWords q a s <;> simp
  all_goals simp

@[simp] theorem terminal_readAt (q : Requester) (o : Nat) (s : State) : (readAt q o s).terminal = s.terminal := by
  cases h : regAt o <;> simp [readAt, h]

@[simp] theorem terminal_unanswered (q : Requester) (s : State) : (unanswered q s).terminal = s.terminal := by
  cases q <;> simp [unanswered]

@[simp] theorem terminal_regRead (q : Requester) (o : Nat) (s : State) : (regRead q o s).terminal = s.terminal := by
  cases h : reach q o s <;> simp [regRead, h]

theorem writeAt_of_terminal {s : State} (hs : s.terminal = true) (q : Requester) (o w : Nat) : writeAt q o w s = s :=
  if_pos (.inl hs)

/-! ### Actions that keep the Terminal state -/

/-- The action leaves a part Terminal that is so. -/
def KeepsTerminal (act : State → State) : Prop := ∀ s, s.terminal = true → (act s).terminal = true

/-- The command always acts, and its action keeps the Terminal state. -/
def RowKeepsTerminal (c : Instr) : Prop := ∃ act, KeepsTerminal act ∧ ∀ s, exec c s = .next (act s)

theorem KeepsTerminal.of_eq {act : State → State} (h : ∀ s, (act s).terminal = s.terminal) : KeepsTerminal act :=
  fun s hs => (h s).trans hs

/-- What stands still in the Terminal state keeps it. -/
theorem KeepsTerminal.of_still {act : State → State} (h : ∀ s, s.terminal = true → act s = s) : KeepsTerminal act :=
  fun s hs => (h s hs).symm ▸ hs

theorem keepsTerminal_engine {act : State → State} : KeepsTerminal (engine act) := .of_still fun _ hs => if_pos (.inr (.inl hs))

theorem keepsTerminal_clocked {act : State → State} : KeepsTerminal (clocked act) := .of_still fun _ hs => if_pos (.inr hs)

theorem keepsTerminal_powered {act : State → State} (h : KeepsTerminal act) : KeepsTerminal (powered act) := fun s hs => by
  simp [powered, hs, h s hs]

theorem keepsTerminal_inStart {n : Nat} {act : State → State} : KeepsTerminal (inStart n act) :=
  .of_still fun s hs => if_neg (by simp [hs])

/-- No instruction issues in the Terminal state. -/
theorem coreRuns_of_terminal {s : State} (hs : s.terminal = true) (t : Nat) : coreRuns t s = false := by
  simp [coreRuns, hs]

theorem keepsTerminal_runInsn {t : Nat} {i : Issue} {op : MeOp} : KeepsTerminal (runInsn t i op) :=
  .of_still fun _ hs => if_pos (.inr (.inr (.inl (coreRuns_of_terminal hs t))))

theorem keepsTerminal_wfeWake {t : Nat} {i : Issue} : KeepsTerminal (wfeWake t i) :=
  .of_still fun _ hs => if_pos (.inr (.inr (.inl (coreRuns_of_terminal hs t))))

/-! ### Register accesses -/

theorem keepsTerminal_regWrite {q : Requester} {o w : Nat} : KeepsTerminal (regWrite q o w) := fun s hs => by
  cases h : reach q o s <;> simp [regWrite, h, hs, writeAt_of_terminal hs]

theorem keepsTerminal_sizedWrite {q : Requester} {n o w : Nat} : KeepsTerminal (sizedWrite q n o w) := fun s hs => by
  simp [sizedWrite, hs, keepsTerminal_regWrite s hs]

theorem lands_of_terminal {s : State} (hs : s.terminal = true) (q : Requester) (r : Reg) (i : Nat) : lands q r i s = false := by
  simp [lands, hs]

theorem keepsTerminal_writeRow {q : Requester} {r : Reg} {i : Nat} {act : State → State} : KeepsTerminal (writeRow q r i act) :=
  fun s hs => by simp [writeRow, lands_of_terminal hs, hs]

theorem keepsTerminal_pdRow {q : Requester} {r : Reg} {i w : Nat} {act : State → State} : KeepsTerminal (pdRow q r i w act) :=
  fun s hs => by simp [pdRow, lands_of_terminal hs, hs]

theorem keepsTerminal_windowRow {q : Requester} {r : Reg} {j : Nat} {act : State → State} : KeepsTerminal (windowRow q r j act) :=
  fun s hs => by simp [windowRow, keepsTerminal_writeRow s hs, hs]

theorem keepsTerminal_pdWindow {q : Requester} {r : Reg} {d j w : Nat} {act : State → State} : KeepsTerminal (pdWindow q r d j w act) :=
  fun s hs => by simp [pdWindow, keepsTerminal_pdRow s hs, hs]

@[simp] theorem terminal_readRow (q : Requester) (r : Reg) (i : Nat) (s : State) : (readRow q r i s).terminal = s.terminal := by
  simp [readRow]

@[simp] theorem terminal_sizedRead (q : Requester) (n o : Nat) (s : State) : (sizedRead q n o s).terminal = s.terminal := by
  simp [sizedRead]

theorem keepsTerminal_jtagAccess {o : Nat} {data : Option Nat} : KeepsTerminal (jtagAccess o data) := by
  cases data with
  | none => exact .of_eq fun s => terminal_regRead ..
  | some v => exact keepsTerminal_regWrite

@[simp] theorem terminal_smbusReadStart (good : Bool) (o : Nat) (s : State) : (smbusReadStart good o s).terminal = s.terminal := by
  cases h : reach .smbus o s <;> simp [smbusReadStart, smbusFetch, h]

@[simp] theorem terminal_smbusReadReady (s : State) : (smbusReadReady s).terminal = s.terminal := by
  unfold smbusReadReady
  split <;> simp

@[simp] theorem terminal_smbusBlockRead (s : State) : (smbusBlockRead s).terminal = s.terminal := by
  cases h : s.ldr.smbData <;> simp [smbusBlockRead, h]

theorem keepsTerminal_smbusWrite {good : Bool} {o v : Nat} : KeepsTerminal (smbusWrite good o v) := fun s hs => by
  simp [smbusWrite, hs, keepsTerminal_regWrite s hs]

/-! ### The supplies and the reset condition (17_startup_image.md R420, R421) -/

theorem tryLeave_of_terminal {s : State} (hs : s.terminal = true) : tryLeave s = s := if_neg (by simp [hs])

theorem resetNEdge_of_terminal {s : State} (hs : s.terminal = true) (low : Bool) :
    resetNEdge low s = s.withLdr { s.ldr with resetLow := low } := by
  cases low with
  | true => exact if_pos (.inl hs)
  | false => exact tryLeave_of_terminal hs

theorem resetHoldExpiry_of_terminal {s : State} (hs : s.terminal = true) :
    resetHoldExpiry s = s.withLdr { s.ldr with settling := false } := tryLeave_of_terminal hs

theorem keepsTerminal_baseTrainingDone {failed : List Nat} : KeepsTerminal (baseTrainingDone failed) :=
  .of_still fun _ hs => if_pos (.inr (.inr (.inl hs)))

@[simp] theorem terminal_settleTerminal (s : State) : (settleTerminal s).terminal = s.terminal := by
  simp [settleTerminal]

/-- RESET_HELD is left for FUSE_LOAD once the reset condition does not hold. -/
theorem tryLeave_enters_fuseLoad {s : State} (hheld : s.ldr.held = true) (hs : s.terminal = false) (hc : resetCondition s.ldr = false) :
    (tryLeave s).ldr.held = false ∧ (tryLeave s).fld F.LDR_STATUS_STATE 0 = 2 := by
  rw [tryLeave, if_pos ⟨hheld, hs, hc⟩]
  exact ⟨rfl, fld_setFld_lo _ _ _ _ (by decide) (by decide) (by decide)⟩

/-- A sample that ends the Terminal state is the one by which a rail stops being good, and it leads to RESET_HELD. -/
theorem railSample_leaves_terminal {i : Nat} {uv : Int} {s : State} (hs : s.terminal = true) (ht : (railSample i uv s).terminal = false) :
    railReading i uv = .out ∧ tget false s.ldr.railBad i = false ∧ (railSample i uv s).ldr.held = true := by
  unfold railSample at ht ⊢
  split at ht
  case isTrue => simp [hs] at ht
  case isFalse hi =>
    rw [if_neg hi]
    simp only at ht ⊢
    cases hread : railReading i uv with
    | absolute => simp [hread, hs] at ht
    | good => simp [hread, hs] at ht
    | out =>
      simp only [hread] at ht ⊢
      split at ht
      case isFalse => simp [hs] at ht
      case isTrue hbad =>
        rw [if_pos hbad, if_neg (by simp [hs])]
        exact ⟨trivial, hbad.2, rfl⟩

/-! ### The commands by their kind -/

/-- A command of the data path acts through its gate. -/
theorem dataPath_acts {c : Instr} (h : rowKind c = .dataPath) : ∃ act, ∀ s, exec c s = .next (engine act s) := by
  cases c <;> cases h <;> exact ⟨_, fun _ => rfl⟩

/-- A clocked command acts through its gate. -/
theorem clock_acts {c : Instr} (h : rowKind c = .clock) : ∃ act, ∀ s, exec c s = .next (clocked act s) := by
  cases c <;> cases h <;> exact ⟨_, fun _ => rfl⟩

theorem read_acts {c : Instr} (h : rowKind c = .read) : ∃ q r i, ∀ s, exec c s = .next (readRow q r i s) := by
  cases c <;> cases h <;> exact ⟨_, _, _, fun _ => rfl⟩

theorem write_keepsTerminal {c : Instr} (h : rowKind c = .write) : RowKeepsTerminal c := by
  cases c <;> cases h
  case adminUpWrite | sdTxEqWrite => exact ⟨_, keepsTerminal_pdRow, fun _ => rfl⟩
  case tcamRead | tcamWrite | tcamClear | tcamMove | tcamInsert | tcamDelete | tcamSearch | emRead | emLookup | emInsert | emDelete | emFlush =>
    exact ⟨_, keepsTerminal_pdWindow, fun _ => rfl⟩
  case rwRead | rwWrite | scRead | scWrite | scChange => exact ⟨_, keepsTerminal_windowRow, fun _ => rfl⟩
  all_goals exact ⟨_, keepsTerminal_writeRow, fun _ => rfl⟩

theorem power_keepsTerminal {c : Instr} (h : rowKind c = .power) : RowKeepsTerminal c := by
  cases c <;> cases h
  case wfeWake => exact ⟨_, keepsTerminal_powered keepsTerminal_wfeWake, fun _ => rfl⟩
  case alu | aluImmediate | shiftImmediate | lui | orsh | slti | load | store | branch | jmp | call | jr | amoSwap | amoCas | amoFadd | amoFand
      | amoFor | send | recv | poolRecv | poolSend | wfe | timer | sample | devr | devw | devsync =>
    exact ⟨_, keepsTerminal_powered keepsTerminal_runInsn, fun _ => rfl⟩
  all_goals exact ⟨_, keepsTerminal_powered (.of_eq (by simp [pllLockLoss, d3hotEntry, d0Entry])), fun _ => rfl⟩

theorem other_keepsTerminal {c : Instr} (h : rowKind c = .other) (hr : ∀ i uv, c ≠ .railSample i uv) : RowKeepsTerminal c := by
  cases c <;> cases h
  case railSample i uv => exact absurd rfl (hr i uv)
  case registerWrite => exact ⟨_, keepsTerminal_sizedWrite, fun _ => rfl⟩
  case bufConfigWrite => exact ⟨_, keepsTerminal_regWrite, fun _ => rfl⟩
  case jtagRegisterAccess => exact ⟨_, keepsTerminal_jtagAccess, fun _ => rfl⟩
  case smbusWrite => exact ⟨_, keepsTerminal_smbusWrite, fun _ => rfl⟩
  case faultCommit => exact ⟨_, fun s hs => (terminal_settleTerminal _).trans (faultCommit_keeps_terminal hs), fun _ => rfl⟩
  case baseTrainingDone => exact ⟨_, keepsTerminal_baseTrainingDone, fun _ => rfl⟩
  case resetNEdge low => exact ⟨_, fun s hs => (congrArg State.terminal (resetNEdge_of_terminal hs low)).trans hs, fun _ => rfl⟩
  case resetHoldExpiry => exact ⟨_, fun s hs => (congrArg State.terminal (resetHoldExpiry_of_terminal hs)).trans hs, fun _ => rfl⟩
  case finalCalibrationDone | fuseLoadDone | slotReadComplete | authDone | loadComplete | rollbackDone | trainDone | planTimeout =>
    exact ⟨_, keepsTerminal_inStart, fun _ => rfl⟩
  all_goals exact ⟨_, .of_eq (by simp [smbusAlert, boundaryScan, trstAssert]), fun _ => rfl⟩

/-- Every command but a sample of a rail keeps the Terminal state. -/
theorem row_keepsTerminal {c : Instr} (hr : ∀ i uv, c ≠ .railSample i uv) : RowKeepsTerminal c := by
  cases h : rowKind c with
  | dataPath =>
    obtain ⟨act, hact⟩ := dataPath_acts h
    exact ⟨_, keepsTerminal_engine, hact⟩
  | clock =>
    obtain ⟨act, hact⟩ := clock_acts h
    exact ⟨_, keepsTerminal_clocked, hact⟩
  | power => exact power_keepsTerminal h
  | write => exact write_keepsTerminal h
  | read =>
    obtain ⟨q, r, i, hact⟩ := read_acts h
    exact ⟨_, .of_eq (terminal_readRow q r i), hact⟩
  | other => exact other_keepsTerminal h hr

/-- A command that ends the Terminal state is a sample by which a rail stops being good. -/
theorem exec_leaves_terminal {c : Instr} {s t : State} (hs : s.terminal = true) (he : exec c s = .next t) (ht : t.terminal = false) :
    ∃ i uv, c = .railSample i uv ∧ railReading i uv = .out ∧ tget false s.ldr.railBad i = false ∧ t.ldr.held = true := by
  by_cases hr : ∃ i uv, c = .railSample i uv
  · obtain ⟨i, uv, rfl⟩ := hr
    cases he
    exact ⟨i, uv, rfl, railSample_leaves_terminal hs ht⟩
  · obtain ⟨act, hkeep, hact⟩ := row_keepsTerminal fun i uv hc => hr ⟨i, uv, hc⟩
    have htt : act s = t := Host.Outcome.next.inj ((hact s).symm.trans he)
    exact absurd (hkeep s hs) (by simp [htt, ht])

/-- Settles O25: RESET_HELD is left by `tryLeave`, and of all commands a rail that stops being good alone ends the Terminal state. -/
theorem terminalLeft : Obligations.TerminalLeft :=
  ⟨fun _ hheld hs hc => ⟨_, rfl, tryLeave_enters_fuseLoad hheld hs hc⟩,
   fun _ hheld hs hc => ⟨_, rfl, tryLeave_enters_fuseLoad hheld hs hc⟩,
   fun _ low hs => congrArg _ (resetNEdge_of_terminal hs low),
   fun _ _ _ hs he ht => exec_leaves_terminal hs he ht⟩

end Sys2Proof.Machine

/-! PROOF. The encoding of the management engine's instructions (13_me_instruction_set.md R335, R336): an instruction is what its word decodes to, and a
legal word is the word of the instruction it decodes to. -/

namespace Sys2Proof.Machine

/-! ### The fields of a word of formats R, I and C -/

@[simp] theorem opcode_word3 (op a b low : Nat) : word3 op a b low / 67108864 % 64 = op % 64 := by
  unfold word3; omega

@[simp] theorem fieldA_word3 (op a b low : Nat) : bitsOf (word3 op a b low) 21 5 = a % 32 := by
  unfold bitsOf word3; omega

@[simp] theorem fieldB_word3 (op a b low : Nat) : bitsOf (word3 op a b low) 16 5 = b % 32 := by
  unfold bitsOf word3; omega

@[simp] theorem low_word3 (op a b low : Nat) : word3 op a b low % 65536 = low % 65536 := by
  unfold word3; omega

@[simp] theorem func_word3 (op a b low : Nat) : word3 op a b low % 2048 = low % 2048 := by
  unfold word3; omega

@[simp] theorem fieldC_word3 (op a b low : Nat) : bitsOf (word3 op a b low) 11 5 = low / 2048 % 32 := by
  unfold bitsOf word3; omega

@[simp] theorem channel_word3 (op a b low : Nat) : word3 op a b low % 256 = low % 256 := by
  unfold word3; omega

@[simp] theorem wordIndex_word3 (op a b low : Nat) : bitsOf (word3 op a b low) 10 4 = low / 1024 % 16 := by
  unfold bitsOf word3; omega

@[simp] theorem poolBit_word3 (op a b low : Nat) : (word3 op a b low).testBit 15 = decide (low / 32768 % 2 = 1) := by
  rw [Nat.testBit_eq_decide_div_mod_eq]; unfold word3; congr 1; simp only [eq_iff_iff]; omega

@[simp] theorem closeBit_word3 (op a b low : Nat) : (word3 op a b low).testBit 14 = decide (low / 16384 % 2 = 1) := by
  rw [Nat.testBit_eq_decide_div_mod_eq]; unfold word3; congr 1; simp only [eq_iff_iff]; omega

/-- The fields of a word of format J. -/
theorem opcode_jump {off : Nat} (h : off < 2 ^ 26) (op : Nat) : (op * 2 ^ 26 + off) / 2 ^ 26 % 64 = op % 64 := by omega

theorem target_jump {off : Nat} (h : off < 2 ^ 26) (op : Nat) : (op * 2 ^ 26 + off) % 2 ^ 26 = off := by omega

theorem word3_lt (op a b low : Nat) : word3 op a b low < 2 ^ 32 := by
  unfold word3; omega

/-- A word of 32 bits is made of its opcode, its two register fields and its low half. -/
theorem word3_fields {w : Nat} (hw : w < 2 ^ 32) : word3 (w / 2 ^ 26) (bitsOf w 21 5) (bitsOf w 16 5) (w % 65536) = w := by
  unfold word3 bitsOf; omega

theorem bit_decide {n : Nat} : bit (decide (n % 2 = 1)) = n % 2 := by
  rcases Nat.mod_two_eq_zero_or_one n with h | h <;> simp [bit, h]

/-! ### Decode of encode -/

theorem lt_six_cases {k : Nat} (hk : k < 6) : k = 0 ∨ k = 1 ∨ k = 2 ∨ k = 3 ∨ k = 4 ∨ k = 5 := by omega

theorem decodeMe_encodeMe {x : MeOp} (hx : meOpInRange x = true) : decodeMe (encodeMe x) = x := by
  cases x <;> simp only [meOpInRange, Bool.and_eq_true, decide_eq_true_eq] at hx
  case aluImm k _ _ _ | shiftImm k _ _ _ | slti k _ _ _ | load k _ _ _ | store k _ _ _ | branch k _ _ _ =>
    obtain ⟨⟨⟨hk, ha⟩, hb⟩, himm⟩ := hx
    have hcases := lt_six_cases (Nat.lt_of_lt_of_le hk (by decide))
    revert hk
    obtain rfl | rfl | rfl | rfl | rfl | rfl := hcases <;>
      simp [encodeMe, decodeMe, Nat.mod_eq_of_lt ha, Nat.mod_eq_of_lt hb, Nat.mod_eq_of_lt himm]
  case lui | orsh | jr | wfe | timer | sample | devr | devw =>
    obtain ⟨⟨ha, hb⟩, himm⟩ := hx
    simp [encodeMe, decodeMe, Nat.mod_eq_of_lt ha, Nat.mod_eq_of_lt hb, Nat.mod_eq_of_lt himm]
  case alu | amo =>
    simp [encodeMe, decodeMe]
    omega
  case send rd rs pool close word ch | recv rd rs pool close word ch =>
    simp [encodeMe, decodeMe]
    cases pool <;> cases close <;> simp [bit] <;> omega
  case jmp | call =>
    have hoff := Nat.mod_eq_of_lt hx
    simp only [encodeMe, decodeMe, opcode_jump hx, target_jump hx, hoff]
    simp
  case devsync => rfl

theorem encodeMe_lt (x : MeOp) : encodeMe x < 2 ^ 32 := by
  cases x
  case jmp off | call off => simp only [encodeMe]; omega
  case devsync => decide
  all_goals exact word3_lt ..

/-! ### Encode of decode -/

theorem bitsOf_lt (v lo n : Nat) : bitsOf v lo n < 2 ^ n := Nat.mod_lt _ (Nat.two_pow_pos n)

theorem ite_eq_true_iff {c : Prop} [Decidable c] {a b : Bool} : (if c then a else b) = true ↔ (c ∧ a = true) ∨ (¬ c ∧ b = true) := by
  split <;> simp [*]

/-- The opcodes of Table 13.2; in format C bits 9:8 of a legal word are 0, and DEVSYNC has no fields. -/
theorem legalWord_opcode {w : Nat} (hl : legalWord w = true) :
    w / 2 ^ 26 = 0x00 ∨ (0x01 ≤ w / 2 ^ 26 ∧ w / 2 ^ 26 ≤ 0x04) ∨ (0x05 ≤ w / 2 ^ 26 ∧ w / 2 ^ 26 ≤ 0x07) ∨ w / 2 ^ 26 = 0x08 ∨ w / 2 ^ 26 = 0x09 ∨
    (0x0A ≤ w / 2 ^ 26 ∧ w / 2 ^ 26 ≤ 0x0B) ∨ (0x10 ≤ w / 2 ^ 26 ∧ w / 2 ^ 26 ≤ 0x14) ∨ (0x18 ≤ w / 2 ^ 26 ∧ w / 2 ^ 26 ≤ 0x1B) ∨
    (0x20 ≤ w / 2 ^ 26 ∧ w / 2 ^ 26 ≤ 0x25) ∨ w / 2 ^ 26 = 0x28 ∨ w / 2 ^ 26 = 0x29 ∨ w / 2 ^ 26 = 0x2A ∨ w / 2 ^ 26 = 0x30 ∨
    (w / 2 ^ 26 = 0x34 ∧ bitsOf (w % 65536) 8 2 = 0) ∨ (w / 2 ^ 26 = 0x35 ∧ bitsOf (w % 65536) 8 2 = 0) ∨ w / 2 ^ 26 = 0x38 ∨ w / 2 ^ 26 = 0x39 ∨
    w / 2 ^ 26 = 0x3A ∨ w / 2 ^ 26 = 0x3C ∨ w / 2 ^ 26 = 0x3D ∨ (w / 2 ^ 26 = 0x3E ∧ w % 2 ^ 26 = 0) := by
  simp only [legalWord, ite_eq_true_iff, Bool.and_eq_true, beq_iff_eq, Bool.false_eq_true, and_false, or_false] at hl
  generalize w / 2 ^ 26 = op at *
  omega

/-- The low half of format R from its fields. -/
theorem registerFields {low : Nat} (hlow : low < 65536) : low / 2048 % 32 * 2048 + low % 2048 % 2048 = low := by omega

/-- The low half of format C from its fields, where bits 9:8 are 0. -/
theorem channelFields {low : Nat} (hlow : low < 65536) (h : bitsOf low 8 2 = 0) :
    low / 32768 % 2 * 32768 + low / 16384 % 2 * 16384 + low / 1024 % 16 % 16 * 1024 + low % 256 % 256 = low := by
  unfold bitsOf at h; omega

/-- A legal word is the word of an operation with fields in range. -/
theorem exists_op_of_legalWord {w : Nat} (hw : w < 2 ^ 32) (hl : legalWord w = true) : ∃ x, meOpInRange x = true ∧ encodeMe x = w := by
  have hopcode := legalWord_opcode hl
  have hfields := word3_fields hw
  have hjump : w / 2 ^ 26 * 2 ^ 26 + w % 2 ^ 26 % 2 ^ 26 = w := by omega
  have hoff : w % 2 ^ 26 < 2 ^ 26 := Nat.mod_lt _ (by decide)
  have ha : bitsOf w 21 5 < 32 := bitsOf_lt w 21 5
  have hb : bitsOf w 16 5 < 32 := bitsOf_lt w 16 5
  have hlow : w % 65536 < 65536 := Nat.mod_lt _ (by decide)
  generalize w / 2 ^ 26 = op at *
  generalize bitsOf w 21 5 = a at *
  generalize bitsOf w 16 5 = b at *
  generalize w % 65536 = low at *
  generalize w % 2 ^ 26 = off at *
  rcases hopcode with h | h | h | h | h | h | h | h | h | h | h | h | h | ⟨h, h0⟩ | ⟨h, h0⟩ | h | h | h | h | h | ⟨h, h0⟩
  · exact ⟨.alu a b (low / 2048) (low % 2048), by simp [meOpInRange]; omega, by rw [encodeMe, registerFields hlow, ← h, hfields]⟩
  · exact ⟨.aluImm (op - 0x01) a b low, by simp [meOpInRange]; omega, hfields ▸ congrArg (word3 · a b low) (by omega)⟩
  · exact ⟨.shiftImm (op - 0x05) a b low, by simp [meOpInRange]; omega, hfields ▸ congrArg (word3 · a b low) (by omega)⟩
  · exact ⟨.lui a b low, by simp [meOpInRange]; omega, hfields ▸ h ▸ rfl⟩
  · exact ⟨.orsh a b low, by simp [meOpInRange]; omega, hfields ▸ h ▸ rfl⟩
  · exact ⟨.slti (op - 0x0A) a b low, by simp [meOpInRange]; omega, hfields ▸ congrArg (word3 · a b low) (by omega)⟩
  · exact ⟨.load (op - 0x10) a b low, by simp [meOpInRange]; omega, hfields ▸ congrArg (word3 · a b low) (by omega)⟩
  · exact ⟨.store (op - 0x18) a b low, by simp [meOpInRange]; omega, hfields ▸ congrArg (word3 · a b low) (by omega)⟩
  · exact ⟨.branch (op - 0x20) a b low, by simp [meOpInRange]; omega, hfields ▸ congrArg (word3 · a b low) (by omega)⟩
  · exact ⟨.jmp off, decide_eq_true hoff, hjump ▸ h ▸ rfl⟩
  · exact ⟨.call off, decide_eq_true hoff, hjump ▸ h ▸ rfl⟩
  · exact ⟨.jr a b low, by simp [meOpInRange]; omega, hfields ▸ h ▸ rfl⟩
  · exact ⟨.amo (low % 2048) a b (low / 2048), by simp [meOpInRange]; omega, by rw [encodeMe, registerFields hlow, ← h, hfields]⟩
  · refine ⟨.send a b (decide (low / 32768 % 2 = 1)) (decide (low / 16384 % 2 = 1)) (low / 1024 % 16) (low % 256), by simp [meOpInRange]; omega, ?_⟩
    rw [encodeMe, bit_decide, bit_decide, channelFields hlow h0, ← h, hfields]
  · refine ⟨.recv a b (decide (low / 32768 % 2 = 1)) (decide (low / 16384 % 2 = 1)) (low / 1024 % 16) (low % 256), by simp [meOpInRange]; omega, ?_⟩
    rw [encodeMe, bit_decide, bit_decide, channelFields hlow h0, ← h, hfields]
  · exact ⟨.wfe a b low, by simp [meOpInRange]; omega, hfields ▸ h ▸ rfl⟩
  · exact ⟨.timer a b low, by simp [meOpInRange]; omega, hfields ▸ h ▸ rfl⟩
  · exact ⟨.sample a b low, by simp [meOpInRange]; omega, hfields ▸ h ▸ rfl⟩
  · exact ⟨.devr a b low, by simp [meOpInRange]; omega, hfields ▸ h ▸ rfl⟩
  · exact ⟨.devw a b low, by simp [meOpInRange]; omega, hfields ▸ h ▸ rfl⟩
  · exact ⟨.devsync, rfl, by rw [← hjump, h, h0]; rfl⟩

theorem encodeMe_decodeMe {w : Nat} (hw : w < 2 ^ 32) (hl : legalWord w = true) : encodeMe (decodeMe w) = w ∧ meOpInRange (decodeMe w) = true := by
  obtain ⟨x, hx, rfl⟩ := exists_op_of_legalWord hw hl
  rw [decodeMe_encodeMe hx]
  exact ⟨rfl, hx⟩

/-- Settles O23: each format is decoded and encoded field by field. -/
theorem meDecodeEncode : Obligations.MeDecodeEncode :=
  ⟨fun _ hx => ⟨decodeMe_encodeMe hx, encodeMe_lt _⟩, fun _ => encodeMe_decodeMe⟩

/-- Settles O24: the five words, computed. -/
theorem meEncodingWords : Obligations.MeEncodingWords := by
  unfold Obligations.MeEncodingWords
  decide

end Sys2Proof.Machine

/-! PROOF. The canonical form of the byte memories and the queue: what keeps both (12_management_engine.md R311; 16_dram.md R403; 17_startup_image.md R443;
19_register_map.md R484). -/

namespace Sys2Proof.Machine

/-- The queue and the four byte memories: what `State.mems` reads of a state. -/
abbrev Mems := List Instr × Tab Byte × Tab Byte × Tab Byte × Tab Nat

/-- `n` has the queue of `m`, and memories in canonical form if those of `m` are. -/
def Follows (m n : Mems) : Prop := n.1 = m.1 ∧ (memsWf m = true → memsWf n = true)

namespace Follows

variable {m n o : Mems}

@[simp] theorem refl (m : Mems) : Follows m m := ⟨rfl, id⟩

theorem trans (h : Follows m n) (h' : Follows n o) : Follows m o := ⟨h'.1.trans h.1, fun hm => h'.2 (h.2 hm)⟩

@[simp] theorem ite_iff {c : Prop} [Decidable c] : Follows m (if c then n else o) ↔ (c → Follows m n) ∧ (¬c → Follows m o) := by
  split <;> simp [*]

theorem cond {c : Prop} [Decidable c] {s t : State} (hs : Follows m s.mems) (ht : Follows m t.mems) : Follows m (if c then s else t).mems := by
  split <;> assumption

theorem foldl {α : Type} {g : State → α → State} (hg : ∀ s a, Follows m s.mems → Follows m (g s a).mems) {s : State} (l : List α)
    (h : Follows m s.mems) : Follows m (l.foldl g s).mems :=
  List.foldlRecOn l g (motive := fun t => Follows m t.mems) h fun t ht a _ => hg t a ht

end Follows

theorem memsWf_iff {p : List Instr} {sram hbm flash : Tab Byte} {otp : Tab Nat} :
    memsWf (p, sram, hbm, flash, otp) = true ↔ twf 0 sram = true ∧ twf 0 hbm = true ∧ twf 0xFF flash = true ∧ twf 0 otp = true := by
  simp [memsWf, and_assoc]

theorem twf_filter {α : Type} [DecidableEq α] {d : α} {t : Tab α} (p : Nat × α → Bool) (h : twf d t = true) : twf d (t.filter p) = true := by
  simp only [twf, Bool.and_eq_true, List.all_eq_true, decide_eq_true_eq] at h ⊢
  exact ⟨tsortedFrom_filter p h.1, fun e he => h.2 e (List.mem_filter.mp he).1⟩

theorem twf_hbmPut (s : State) (a : Nat) (bs : List Byte) {t : Tab Byte} (h : twf 0 t = true) : twf 0 (hbmPut s a bs t) = true := by
  induction bs generalizing a t with
  | nil => exact h
  | cons b bs ih =>
    refine ih _ ?_
    split
    · exact twf_tset _ _ h
    · exact h

section
variable {m : Mems} {s : State}

/-! ### Writes of one memory -/

/-- A state follows `m` where its queue and each of its memories do. -/
theorem Follows.of_parts (h : Follows m s.mems) {t : State} (hpending : t.pending = s.pending) (hsram : twf 0 s.sram = true → twf 0 t.sram = true)
    (hhbm : twf 0 s.hbm = true → twf 0 t.hbm = true) (hflash : twf 0xFF s.ldr.flash = true → twf 0xFF t.ldr.flash = true)
    (hotp : twf 0 s.ldr.otp = true → twf 0 t.ldr.otp = true) : Follows m t.mems := by
  refine h.trans ⟨hpending, ?_⟩
  simp only [State.mems, memsWf_iff]
  exact fun ⟨ha, hb, hc, hd⟩ => ⟨hsram ha, hhbm hb, hflash hc, hotp hd⟩

@[simp] theorem follows_hbmWrite (a : Nat) (bs : List Byte) (h : Follows m s.mems) : Follows m (hbmWrite a bs s).mems :=
  h.of_parts rfl id (twf_hbmPut s a bs) id id

theorem follows_sramWrite (a : Nat) (bs : List Byte) (h : Follows m s.mems) : Follows m ({ s with sram := writeBytes s.sram a bs } : State).mems :=
  h.of_parts rfl (twf_writeBytes a bs) id id id

@[simp] theorem follows_dramWrite (cls a : Nat) (bs : List Byte) (h : Follows m s.mems) : Follows m (dramWrite cls a bs s).mems := by
  simp [dramWrite, h]

/-! ### Gates, effects and lists -/

@[simp] theorem follows_gated (q : Requester) (off : Nat) {act : State → State} (hact : ∀ s, Follows m s.mems → Follows m (act s).mems)
    (h : Follows m s.mems) : Follows m (gated q off act s).mems := by
  simp [gated, h, hact s h]

@[simp] theorem follows_debugWrite (q : Requester) {act : State → State} (hact : ∀ s, Follows m s.mems → Follows m (act s).mems)
    (h : Follows m s.mems) : Follows m (debugWrite q act s).mems := by
  simp [debugWrite, h, hact s h]

@[simp] theorem follows_otpGate (q : Requester) (key : Nat) {act : State → State} (hact : ∀ s, Follows m s.mems → Follows m (act s).mems)
    (h : Follows m s.mems) : Follows m (otpGate q key act s).mems :=
  follows_gated q _ (fun s hs => by simp [hs, hact s hs]) h

@[simp] theorem follows_rcvStart (q : Requester) (op : Nat) {act : State → State × Nat} (hact : ∀ s, Follows m s.mems → Follows m (act s).1.mems)
    (h : Follows m s.mems) : Follows m (rcvStart q op act s).mems :=
  follows_gated q _ (fun s hs => by simp [hs, hact s hs]) h

@[simp] theorem follows_inStart (n : Nat) {act : State → State} (hact : ∀ s, Follows m s.mems → Follows m (act s).mems)
    (h : Follows m s.mems) : Follows m (inStart n act s).mems := by
  simp [inStart, h, hact s h]

/-- The state that an effect leaves follows `m`. -/
def Eff.Follows (m : Mems) : Eff → Prop
  | .retire t | .hold t => Machine.Follows m t.mems
  | .fault _ => True

@[simp] theorem Eff.follows_retire {t : State} : (Eff.retire t).Follows m ↔ Machine.Follows m t.mems := .rfl

@[simp] theorem Eff.follows_hold {t : State} : (Eff.hold t).Follows m ↔ Machine.Follows m t.mems := .rfl

@[simp] theorem Eff.follows_fault {c : Nat} : (Eff.fault c).Follows m := trivial

@[simp] theorem Eff.follows_ite {c : Prop} [Decidable c] {a b : Eff} :
    (if c then a else b).Follows m ↔ (c → a.Follows m) ∧ (¬c → b.Follows m) := by
  split <;> simp [*]

theorem follows_keep {ok : Bool} {t : State} (h : Follows m s.mems) (ht : keep ok s = some t) : Follows m t.mems :=
  mems_keep ht ▸ h

theorem follows_loadEach {α : Type} {f : α → State → Option State} (hf : ∀ a s t, Follows m s.mems → f a s = some t → Follows m t.mems) (l : List α)
    (h : Follows m s.mems) {t : State} (ht : loadEach f l s = some t) : Follows m t.mems := by
  induction l generalizing s with
  | nil => cases ht; exact h
  | cons a l ih =>
    obtain ⟨s1, h1, h2⟩ := Option.bind_eq_some_iff.mp ht
    exact ih (hf a s s1 h h1) h2


@[simp] theorem follows_ringGate (q : Requester) (reg : Reg) (r : Nat) {act : State → State} (hact : ∀ s, Follows m s.mems → Follows m (act s).mems)
    (h : Follows m s.mems) : Follows m (ringGate q reg r act s).mems := by
  simp [ringGate, h, hact s h, follows_gated q _ hact h]

/-! ### The operations that may reach a write of a memory, callees first -/

@[simp] theorem follows_journalRec (ty trigger flags plan subject reason : Nat) (vals : List Nat) (h : Follows m s.mems) :
    Follows m (journalRec ty trigger flags plan subject reason vals s).mems := by
  simp [journalRec, h]

@[simp] theorem follows_abortRecord (pl : Plan) (p cause : Nat) (h : Follows m s.mems) :
    Follows m (abortRecord pl p cause s).mems := by
  simp [abortRecord, h]

@[simp] theorem follows_headroomPort (only : Nat → Nat → Bool) (why : Nat × Nat) (p : Nat) (h : Follows m s.mems) :
    Follows m (headroomPort only why p s).mems := by
  simp +contextual [headroomPort, h, Follows.foldl]

@[simp] theorem follows_hhDelete (d key : Nat) (h : Follows m s.mems) :
    Follows m (hhDelete d key s).mems := by
  unfold hhDelete
  split <;> simp [h]

@[simp] theorem follows_hhInsert (d key : Nat) (h : Follows m s.mems) :
    Follows m (hhInsert d key s).mems := by
  unfold hhInsert
  (repeat' split) <;> simp +contextual [h, Follows.foldl]

@[simp] theorem follows_hhAct (h : Follows m s.mems) :
    Follows m (hhAct s).mems := by
  exact .foldl (fun _ _ hs => follows_hhInsert _ _ hs) _ (.foldl (fun _ _ hs => follows_hhDelete _ _ hs) _ h)

@[simp] theorem follows_alphaQueue (p n : Nat) (h : Follows m s.mems) :
    Follows m (alphaQueue p n s).mems := by
  simp [alphaQueue, h]

@[simp] theorem follows_alphaAct (h : Follows m s.mems) :
    Follows m (alphaAct s).mems := by
  rw [alphaAct, mems_beginBufPeriod]
  exact .foldl (fun _ _ hs => .foldl (fun _ _ hs => follows_alphaQueue _ _ hs) _ hs) _ h

@[simp] theorem follows_actDirect (h : Follows m s.mems) :
    Follows m (actDirect s).mems := by
  unfold actDirect
  extract_lets p s1 s2 s3
  have h1 : Follows m s1.mems := by simp [s1, h]
  have h2 : Follows m s2.mems := .cond (.foldl (fun _ _ hs => .cond (follows_headroomPort _ _ _ hs) hs) _ h1) h1
  have h3 : Follows m s3.mems := .cond (follows_hhAct h2) h2
  exact .cond (follows_alphaAct h3) h3

@[simp] theorem follows_nearSetStatic (d a : Nat) (e : EmEntry) (h : Follows m s.mems) :
    Follows m (nearSetStatic d a e s).mems := by
  simp [nearSetStatic, h]

/-- A near entry goes to the static or to the learned half of the table by its own mark. -/
@[simp] theorem follows_nearPut {c : Prop} [Decidable c] (d a : Nat) (e : EmEntry) (h : Follows m s.mems) :
    Follows m ((if c then nearSetStatic else nearSet) d a e s).mems := by
  split <;> simp [h]

@[simp] theorem follows_nearErase (d a : Nat) (h : Follows m s.mems) :
    Follows m (nearErase d a s).mems := by
  simp [nearErase, h]

@[simp] theorem follows_laybyMove (d b n : Nat) (h : Follows m s.mems) : Follows m (laybyMove d b n s).mems := by
  induction n generalizing s with
  | zero => exact h
  | succ n ih =>
    rw [laybyMove]
    split
    · exact h
    · refine ih (follows_nearErase _ _ ?_)
      simp [h]

@[simp] theorem follows_deleteLearned (d : Nat) (sel : EmEntry → Bool) (h : Follows m s.mems) :
    Follows m (deleteLearned d sel s).mems := by
  exact .foldl (fun _ _ hs => follows_laybyMove _ _ _ hs) _ (.foldl (fun _ _ hs => follows_nearErase _ _ hs) _ h)

@[simp] theorem follows_flushPort (p : Nat) (h : Follows m s.mems) :
    Follows m (flushPort p s).mems := by
  simp +contextual [flushPort, h, Follows.foldl]

@[simp] theorem follows_portDown (p : Nat) (cause : DownCause) (h : Follows m s.mems) :
    Follows m (portDown p cause s).mems := by
  simp +contextual [portDown, h, Follows.foldl]

@[simp] theorem follows_adminUpWrite (q : Requester) (p : Nat) (v : Bool) (h : Follows m s.mems) :
    Follows m (adminUpWrite q p v s).mems := by
  simp +contextual [adminUpWrite, h]

@[simp] theorem follows_agePass (d : Nat) (hits : List Nat) (h : Follows m s.mems) :
    Follows m (agePass d hits s).mems := by
  exact .foldl (fun _ _ hs => follows_laybyMove _ _ _ hs) _ (.foldl (fun _ _ hs => by split <;> simp [hs]) _ h)

@[simp] theorem follows_alphaAdjust (h : Follows m s.mems) :
    Follows m (alphaAdjust s).mems := by
  simp [alphaAdjust, h]

@[simp] theorem follows_anew (h : Follows m s.mems) :
    Follows m (anew s).mems := by
  exact h.of_parts rfl (fun _ => rfl) (fun _ => rfl) (fun _ => rfl) (fun _ => rfl)

@[simp] theorem follows_journal (ty subject : Nat) (vals : List Nat) (h : Follows m s.mems) :
    Follows m (journal ty subject vals s).mems := by
  simp [journal, h]

@[simp] theorem follows_quarantine (p : Nat) (h : Follows m s.mems) :
    Follows m (quarantine p s).mems := by
  simp [quarantine, h]

@[simp] theorem follows_applyDue (h : Follows m s.mems) :
    Follows m (applyDue s).mems := by
  simp +contextual [applyDue, h, Follows.foldl]

@[simp] theorem follows_loadExtThreads (b : List Byte) (n o : Nat) (h : Follows m s.mems) : Follows m (loadExtThreads b n o s).1.mems := by
  induction n generalizing o s with
  | zero => exact h
  | succ n ih => exact ih _ (follows_sramWrite _ _ (by simp [h]))

@[simp] theorem follows_loadExtension (b : List Byte) (h : Follows m s.mems) :
    Follows m (loadExtension b s).mems := by
  simp +contextual [loadExtension, h, Follows.foldl]

@[simp] theorem follows_loadFirmware (b : List Byte) (h : Follows m s.mems) :
    Follows m (loadFirmware b s).mems := by
  rw [loadFirmware, mems_setFlds]
  exact follows_sramWrite _ _ (by simp [mems_fold, h])

@[simp] theorem follows_meBlockReset (h : Follows m s.mems) :
    Follows m (meBlockReset s).mems := by
  unfold meBlockReset
  split
  · exact h
  · extract_lets s0 s1 s2 _ me _ s3 s4 s5 s6
    have h4 : Follows m s4.mems := by simp [s4, s3, s2, s1, s0, mems_fold, h]
    have h5 : Follows m s5.mems := by simp [s5, h4]
    simp [s6, mems_fold, h5]

@[simp] theorem follows_dieReset (d : Nat) (h : Follows m s.mems) :
    Follows m (dieReset d s).mems := by
  simp +contextual [dieReset, h, Follows.foldl]

@[simp] theorem follows_blockReset (e : FaultEv) (h : Follows m s.mems) :
    Follows m (blockReset e s).mems := by
  unfold blockReset
  split <;> simp [h]

@[simp] theorem follows_reactTo (e : FaultEv) (cls bits : Nat) (block : Bool) (h : Follows m s.mems) :
    Follows m (reactTo e cls bits block s).mems := by
  simp [reactTo, h]

@[simp] theorem follows_loseDram (h : Follows m s.mems) :
    Follows m (loseDram s).mems := by
  exact h.of_parts rfl id (fun _ => rfl) id id

@[simp] theorem follows_enterTerminal (h : Follows m s.mems) :
    Follows m (enterTerminal s).mems := by
  simp [enterTerminal, h]

@[simp] theorem follows_chipReset (cause : Nat) (h : Follows m s.mems) :
    Follows m (chipReset cause s).mems := by
  have h1 : Follows m ({ anew s with regs := keptRegs s, ldr := keptLdr s.ldr } : State).mems :=
    h.of_parts rfl (fun _ => rfl) (fun _ => rfl) (by simp [keptLdr]) (by simp [keptLdr])
  simp [chipReset, h1]

@[simp] theorem follows_takeReactions (l : List (FaultEv × Nat × Nat)) (h : Follows m s.mems) :
    Follows m (takeReactions l s).mems := by
  unfold takeReactions
  split
  · exact h
  · extract_lets chip last s1 _ rest
    have h1 : Follows m s1.mems := .foldl (fun _ _ hs => follows_reactTo _ _ _ _ hs) _ h
    have hrest : Follows m rest.1.mems := by simp [rest, h1]
    simp [h1, hrest]

@[simp] theorem follows_commitAll (h : Follows m s.mems) :
    Follows m (commitAll s).mems := by
  simp [commitAll, h]

@[simp] theorem follows_applyReached (h : Follows m s.mems) :
    Follows m (applyReached s).mems := by
  simp [applyReached, h]

@[simp] theorem follows_loadStore (stores : List Nat) (base : Nat) (b : List Byte) (h : Follows m s.mems) :
    Follows m (loadStore stores base b s).mems := by
  simp +contextual [loadStore, h, Follows.foldl]

theorem follows_loadDispatch (b : List Byte) (h : Follows m s.mems) {t : State} (ht : loadDispatch b s = some t) :
    Follows m t.mems := by
  exact follows_keep (follows_loadStore _ _ _ h) ht

theorem follows_loadNano (b : List Byte) (h : Follows m s.mems) {t : State} (ht : loadNano b s = some t) :
    Follows m t.mems := by
  exact follows_keep (follows_loadStore _ _ _ h) ht

theorem follows_loadHoriz (b : List Byte) (h : Follows m s.mems) {t : State} (ht : loadHoriz b s = some t) :
    Follows m t.mems := by
  exact follows_keep (follows_loadStore _ _ _ h) ht

theorem follows_loadFirmwareRec (b : List Byte) (h : Follows m s.mems) {t : State} (ht : loadFirmwareRec b s = some t) :
    Follows m t.mems := by
  exact follows_keep (follows_hbmWrite _ _ (follows_loadFirmware _ h)) ht

theorem follows_loadExtensionRec (b : List Byte) (h : Follows m s.mems) {t : State} (ht : loadExtensionRec b s = some t) :
    Follows m t.mems := by
  unfold loadExtensionRec at ht
  split at ht
  · cases ht
  · exact follows_keep (follows_hbmWrite _ _ (follows_loadExtension _ h)) ht

@[simp] theorem follows_retireNext (t : Nat) (h : Follows m s.mems) : (retireNext t s).Follows m := by
  simp [retireNext, h]

@[simp] theorem follows_retireReg (t rd v : Nat) (h : Follows m s.mems) : (retireReg t rd v s).Follows m := by
  simp [retireReg, h]

@[simp] theorem follows_effLoad (t k rd ra imm : Nat) (h : Follows m s.mems) : (effLoad t k rd ra imm s).Follows m := by
  simp [effLoad, h]

@[simp] theorem follows_meWrite (a : Nat) (bs : List Byte) (h : Follows m s.mems) :
    Follows m (meWrite a bs s).mems := by
  exact .cond (follows_sramWrite _ _ h) (follows_dramWrite _ _ _ h)

@[simp] theorem follows_effStore (t k rs ra imm : Nat) (h : Follows m s.mems) : (effStore t k rs ra imm s).Follows m := by
  simp [effStore, h]

@[simp] theorem follows_retireJump (t target : Nat) (h : Follows m s.mems) : (retireJump t target s).Follows m := by
  simp [retireJump, h]

@[simp] theorem follows_effAmo (t func rd ra rb : Nat) (h : Follows m s.mems) : (effAmo t func rd ra rb s).Follows m := by
  unfold effAmo
  extract_lets a old s1 s2
  have h1 : Follows m s1.mems := by simp [s1, h]
  have h2 : Follows m s2.mems := by simp only [s2]; split <;> simp [h1]
  simp [h2]

@[simp] theorem follows_effPoolSend (t rd rs : Nat) (h : Follows m s.mems) : (effPoolSend t rd rs s).Follows m := by
  simp [effPoolSend, h]

@[simp] theorem follows_effSend (t rd rs : Nat) (close : Bool) (word ch : Nat) (h : Follows m s.mems) : (effSend t rd rs close word ch s).Follows m := by
  simp [effSend, h]

@[simp] theorem follows_effPoolRecv (t rd rs : Nat) (h : Follows m s.mems) : (effPoolRecv t rd rs s).Follows m := by
  unfold effPoolRecv
  (repeat' split) <;> simp [h]

@[simp] theorem follows_effRecv (t rd rs : Nat) (close : Bool) (word ch : Nat) (h : Follows m s.mems) : (effRecv t rd rs close word ch s).Follows m := by
  unfold effRecv
  extract_lets c
  split
  · simp
  · split
    · simp [h]
    · simp [h]

@[simp] theorem follows_effWfe (t rd ra : Nat) (h : Follows m s.mems) : (effWfe t rd ra s).Follows m := by
  simp [effWfe, h]

@[simp] theorem follows_effTimer (t ra : Nat) (h : Follows m s.mems) : (effTimer t ra s).Follows m := by
  simp [effTimer, h]

@[simp] theorem follows_holds (t op : Nat) (h : Follows m s.mems) : (holds t op s).Follows m := by
  simp [holds, h]

@[simp] theorem follows_effDevr (t rd ra imm : Nat) (h : Follows m s.mems) : (effDevr t rd ra imm s).Follows m := by
  simp [effDevr, h]

@[simp] theorem follows_effDevw (t rd ra imm : Nat) (h : Follows m s.mems) : (effDevw t rd ra imm s).Follows m := by
  simp [effDevw, h]

@[simp] theorem follows_effDevsync (t : Nat) (h : Follows m s.mems) : (effDevsync t s).Follows m := by
  simp [effDevsync, h]

@[simp] theorem follows_effOf (t : Nat) (op : MeOp) (h : Follows m s.mems) : (effOf t op s).Follows m := by
  unfold effOf
  split <;> simp [h]

@[simp] theorem follows_executeOne (t : Nat) (i : Issue) (op : MeOp) (h : Follows m s.mems) :
    Follows m (executeOne t i op s).mems := by
  unfold executeOne
  extract_lets w s1
  have h1 : Follows m s1.mems := by simp [s1, h]
  have he := follows_effOf t op h1
  split
  · simp [h]
  · split
    · exact h
    · split
      · simp [h1]
      · simp [h1]
      · split
        · simp [h1]
        case _ heq => rw [heq] at he; simp_all
        case _ heq => rw [heq] at he; simp_all

@[simp] theorem follows_dbgStep (q : Requester) (t : Nat) (i : Issue) (op : MeOp) (h : Follows m s.mems) :
    Follows m (dbgStep q t i op s).mems := by
  simp +contextual [dbgStep, h]

theorem follows_mePut (q : Requester) (r : Reg) (i w : Nat) (h : Follows m s.mems) {t : State} (ht : mePut q r i w s = some t) :
    Follows m t.mems := by
  unfold mePut at ht
  split at ht <;> cases ht
  case h_7.refl => split <;> simp +contextual [h]
  all_goals simp +contextual [h]

@[simp] theorem follows_dieHoldPut (d : Nat) (on : Bool) (h : Follows m s.mems) :
    Follows m (dieHoldPut d on s).mems := by
  simp [dieHoldPut, h]

@[simp] theorem follows_resetCtrl (w : Nat) (h : Follows m s.mems) :
    Follows m (resetCtrl w s).mems := by
  unfold resetCtrl
  split
  · exact h
  · extract_lets s1 s2
    have h1 : Follows m s1.mems := .foldl (fun _ _ hs => follows_dieHoldPut _ _ hs) _ h
    have h2 : Follows m s2.mems := .cond (follows_meBlockReset h1) h1
    exact .cond (by simp [h2]) h2

@[simp] theorem follows_otpProgram (q : Requester) (key readBack : Nat) (h : Follows m s.mems) :
    Follows m (otpProgram q key readBack s).mems := by
  refine follows_otpGate q key (fun s hs => ?_) h
  extract_lets w v r
  split
  · simp [hs]
  · split
    · simp [hs]
    · rw [mems_otpBegin]
      exact hs.of_parts rfl id id id (twf_tset _ _)

@[simp] theorem follows_discardPlan (h : Follows m s.mems) :
    Follows m (discardPlan s).mems := by
  unfold discardPlan
  split <;> simp [h]

@[simp] theorem follows_freeze (h : Follows m s.mems) :
    Follows m (freeze s).mems := by
  unfold freeze
  (repeat' split) <;> simp [h]

@[simp] theorem follows_quarantineEnds (p : Nat) (h : Follows m s.mems) :
    Follows m (quarantineEnds p s).mems := by
  simp [quarantineEnds, h]

@[simp] theorem follows_unfreeze (h : Follows m s.mems) :
    Follows m (unfreeze s).mems := by
  unfold unfreeze
  extract_lets s0 s1 _ s2
  have h0 : Follows m s0.mems := by simp [s0, h]
  have h1 : Follows m s1.mems := .cond (by simp [h0]) h0
  have h2 : Follows m s2.mems := .foldl (fun _ _ hs => follows_quarantineEnds _ hs) _ (by simp [h1])
  exact .cond h2 (follows_applyDue h2)

@[simp] theorem follows_ctrlWrite (w : Nat) (h : Follows m s.mems) :
    Follows m (ctrlWrite w s).mems := by
  simp [ctrlWrite, h]

@[simp] theorem follows_plnCtrlWrite (q : Requester) (w : Nat) (h : Follows m s.mems) :
    Follows m (plnCtrlWrite q w s).mems := by
  simp +contextual [plnCtrlWrite, h]

@[simp] theorem follows_wredAll (why : Nat × Nat) (h : Follows m s.mems) :
    Follows m (wredAll why s).mems := by
  unfold wredAll
  split
  · exact h
  · refine .foldl (fun _ _ hs => .foldl (fun _ _ hs => ?_) _ hs) _ h
    simp [hs]

@[simp] theorem follows_headroomAll (only : Nat → Nat → Bool) (why : Nat × Nat) (h : Follows m s.mems) :
    Follows m (headroomAll only why s).mems := by
  simp +contextual [headroomAll, h, Follows.foldl]

@[simp] theorem follows_qMinAll (pl : Plan) (only : Nat → Nat → Bool) (h : Follows m s.mems) :
    Follows m (qMinAll pl only s).mems := by
  refine .foldl (fun _ _ hs => .foldl (fun _ _ hs => ?_) _ hs) _ h
  exact .cond hs (by simp [hs])

@[simp] theorem follows_commitRecords (c : Commit) (h : Follows m s.mems) :
    Follows m (commitRecords c s).mems := by
  unfold commitRecords
  extract_lets pl s1 s2
  have h1 : Follows m s1.mems := .foldl (fun _ _ hs => .cond (by simp [hs]) (by simp [hs])) _ h
  have h2 : Follows m s2.mems := .foldl (fun _ _ hs => .cond hs (.cond (by simp [hs]) (.cond (by simp [hs]) hs))) _ h1
  simp [h2]

@[simp] theorem follows_planInForce (c : Commit) (h : Follows m s.mems) :
    Follows m (planInForce c s).mems := by
  simp [planInForce, h]

@[simp] theorem follows_commitFirst (pl : Plan) (h : Follows m s.mems) :
    Follows m (commitFirst pl s).mems := by
  unfold commitFirst
  extract_lets s1 s2 s3
  have h2 : Follows m s2.mems := by simp [s2, s1, mems_fold, h]
  exact follows_planInForce _ (follows_wredAll _ (follows_headroomAll _ _ (follows_qMinAll _ _ h2)))

@[simp] theorem follows_prepare (pl : Plan) (tc : Nat) (h : Follows m s.mems) :
    Follows m (prepare pl tc s).mems := by
  unfold prepare
  extract_lets ports s1 blocked s2 s3q s3 s4
  have h2 : Follows m s2.mems := by simp [s2, s1, mems_fold, h]
  have h3q : Follows m s3q.mems := by simp [s3q, h2]
  have h3 : Follows m s3.mems := .cond (by simp [h3q]) h3q
  simp [s4, mems_fold, h3]

@[simp] theorem follows_tryCommit (pl : Plan) (first : Bool) (h : Follows m s.mems) :
    Follows m (tryCommit pl first s).mems := by
  unfold tryCommit
  extract_lets tc s1
  have h1 : Follows m s1.mems := by simp [s1, h]
  split
  · exact h1
  · split
    · simp [h1]
    · refine .cond ?_ ?_ <;> simp [h1]

@[simp] theorem follows_planApprove (q : Requester) (h : Follows m s.mems) :
    Follows m (planApprove q s).mems := by
  refine follows_gated q _ (fun s hs => ?_) h
  split
  · simp [hs]
  · extract_lets _ s1
    have h1 : Follows m s1.mems := by simp [s1, hs]
    exact .cond (.foldl (fun _ _ ht => by simp [ht]) _ h1) (.cond (by simp [h1]) (by simp [h1]))

@[simp] theorem follows_planReject (q : Requester) (h : Follows m s.mems) :
    Follows m (planReject q s).mems := by
  exact follows_gated q _ (fun s hs => by split <;> simp [hs]) h

@[simp] theorem follows_reload (q : Requester) (key : Nat) (h : Follows m s.mems) :
    Follows m (reload q key s).mems := by
  simp +contextual [reload, h]

@[simp] theorem follows_flashWrite (a : Nat) (bs : List Byte) (h : Follows m s.mems) :
    Follows m (flashWrite a bs s).mems := by
  exact h.of_parts rfl id id (fun hf => List.foldlRecOn _ _ (motive := fun t => twf 0xFF t = true) hf fun _ ht _ _ => twf_tset _ _ ht) id

@[simp] theorem follows_rcvProgram (q : Requester) (h : Follows m s.mems) :
    Follows m (rcvProgram q s).mems := by
  refine follows_rcvStart q 2 (fun s hs => ?_) h
  extract_lets a n
  split
  · exact hs
  · split
    · exact hs
    · exact follows_flashWrite _ _ hs

@[simp] theorem follows_rcvErase (q : Requester) (h : Follows m s.mems) :
    Follows m (rcvErase q s).mems := by
  refine follows_rcvStart q 3 (fun s hs => ?_) h
  extract_lets a out
  split
  · exact hs
  · split
    · exact hs
    · exact hs.of_parts rfl id id (twf_filter _) id

@[simp] theorem follows_rcvRestart (q : Requester) (h : Follows m s.mems) :
    Follows m (rcvRestart q s).mems := by
  simp +contextual [rcvRestart, h]

theorem follows_hubPut (q : Requester) (r : Reg) (i w : Nat) (h : Follows m s.mems) {t : State} (ht : hubPut q r i w s = some t) :
    Follows m t.mems := by
  unfold hubPut at ht
  split at ht <;> cases ht
  case h_3.refl => split <;> simp +contextual [h]
  case h_17.refl => split <;> simp +contextual [h]
  all_goals simp +contextual [h]

@[simp] theorem follows_writeReg (q : Requester) (a : RegAt) (w : Nat) (h : Follows m s.mems) :
    Follows m (writeReg q a w s).mems := by
  unfold writeReg
  extract_lets r i
  split
  case h_1 hw => exact mems_windowPut _ _ _ _ _ _ hw ▸ h
  case h_2 =>
    split
    case h_1 hw => exact follows_mePut _ _ _ _ h hw
    case h_2 =>
      split
      case h_1 hw => exact follows_hubPut _ _ _ _ h hw
      case h_2 =>
        refine .cond h (follows_gated _ _ (fun s hs => ?_) h)
        split
        case h_1 hw => exact mems_bufferPut _ _ _ _ _ hw ▸ hs
        case h_2 =>
          split
          case h_1 hw => exact mems_egressPut _ _ _ _ _ hw ▸ hs
          case h_2 => simp [hs]

@[simp] theorem follows_writeAt (q : Requester) (o w : Nat) (h : Follows m s.mems) :
    Follows m (writeAt q o w s).mems := by
  unfold writeAt
  (repeat' split) <;> simp [h]

@[simp] theorem follows_nearPlace (d a key : Nat) (action : BitVec 48) (static hit : Bool) (h : Follows m s.mems) :
    Follows m (nearPlace d a key action static hit s).mems := by
  simp [nearPlace, h]

@[simp] theorem follows_nearInsert (d key : Nat) (act : BitVec 48) (h : Follows m s.mems) :
    Follows m (nearInsert d key act s).1.mems := by
  unfold nearInsert
  split
  · exact h
  · simp [h]
  · split
    · exact h
    · extract_lets both s1
      have h1 : Follows m s1.mems := .foldl (fun _ _ hs => .cond (by simp [hs]) hs) _ h
      simp [h1]

@[simp] theorem follows_farPut (d key a : Nat) (e : EmEntry) (h : Follows m s.mems) :
    Follows m (farPut d key a e s).mems := by
  simp [farPut, h]

@[simp] theorem follows_farInsert (d key : Nat) (act : BitVec 48) (h : Follows m s.mems) :
    Follows m (farInsert d key act s).1.mems := by
  unfold farInsert
  split <;> simp [h]

@[simp] theorem follows_emOpInsert (c : EmCmd) (h : Follows m s.mems) :
    Follows m (emOpInsert c s).1.mems := by
  unfold emOpInsert
  (repeat' split) <;> simp [h]

@[simp] theorem follows_nearDelete (d a : Nat) (h : Follows m s.mems) :
    Follows m (nearDelete d a s).mems := by
  simp [nearDelete, h]

@[simp] theorem follows_emOpDelete (c : EmCmd) (h : Follows m s.mems) :
    Follows m (emOpDelete c s).1.mems := by
  unfold emOpDelete
  (repeat' split) <;> simp [h]

@[simp] theorem follows_emOpFlush (c : EmCmd) (h : Follows m s.mems) :
    Follows m (emOpFlush c s).1.mems := by
  unfold emOpFlush
  split <;> simp [h]

@[simp] theorem follows_emEffect (c : EmCmd) (ue : Bool) (h : Follows m s.mems) :
    Follows m (emEffect c ue s).1.mems := by
  unfold emEffect
  split <;> simp [h]

@[simp] theorem follows_emFinish (d j : Nat) (ue : Bool) (h : Follows m s.mems) :
    Follows m (emFinish d j ue s).mems := by
  unfold emFinish
  split <;> simp [h]

theorem follows_loadCommand (a : RegAt) (w : Nat) (h : Follows m s.mems) {t : State} (ht : loadCommand a w s = some t) :
    Follows m t.mems := by
  unfold loadCommand at ht
  dsimp only at ht
  split at ht
  case h_1 => exact follows_keep (by simp [h]) ht
  case h_2 => exact follows_keep (by simp [h]) ht
  case h_3 =>
    split at ht
    · exact mems_loadRw _ _ _ t ht ▸ h
    · exact follows_keep (by simp [h]) ht
  case h_4 => exact follows_keep (by simp [h]) ht
  case h_5 =>
    split at ht <;> cases ht
    exact h
  case h_6 => cases ht; simp [h]

theorem follows_loadWrite (o w : Nat) (h : Follows m s.mems) {t : State} (ht : loadWrite o w s = some t) :
    Follows m t.mems := by
  unfold loadWrite at ht
  dsimp only at ht
  split at ht
  · cases ht
  · split at ht
    · cases ht; exact h
    · split at ht
      · cases ht
      · obtain ⟨s1, h1, rfl⟩ := Option.map_eq_some_iff.mp ht
        rw [mems_fold _ (by simp)]
        exact follows_loadCommand _ _ h h1

theorem follows_loadWrites (b : List Byte) (n o : Nat) (h : Follows m s.mems) {t : State} (ht : loadWrites b n o s = some t) : Follows m t.mems := by
  induction n generalizing o s with
  | zero => cases ht; exact h
  | succ n ih =>
    obtain ⟨s1, h1, h2⟩ := Option.bind_eq_some_iff.mp ht
    exact ih _ (follows_loadWrite _ _ h h1) h2

theorem follows_loadGeneric (b : List Byte) (h : Follows m s.mems) {t : State} (ht : loadGeneric b s = some t) :
    Follows m t.mems := by
  unfold loadGeneric at ht
  extract_lets n at ht
  split at ht
  · cases ht
  · obtain ⟨s1, h1, h2⟩ := Option.bind_eq_some_iff.mp ht
    exact follows_keep (follows_loadWrites _ _ _ h h1) h2

theorem follows_putIdent (b : List Byte) (d : Nat) (h : Follows m s.mems) {t : State} (ht : putIdent b d s = some t) :
    Follows m t.mems := by
  unfold putIdent at ht
  extract_lets key at ht
  split at ht
  · cases ht; simp [h]
  · cases ht

theorem follows_loadDecl (b : List Byte) (h : Follows m s.mems) {t : State} (ht : loadDecl b s = some t) :
    Follows m t.mems := by
  unfold loadDecl at ht
  split at ht
  · obtain ⟨s1, h1, rfl⟩ := Option.map_eq_some_iff.mp ht
    rw [mems_putDecl]
    exact follows_loadEach (fun _ _ _ hs => follows_putIdent _ _ hs) _ h h1
  · cases ht

theorem follows_loadDecls (b : List Byte) (h : Follows m s.mems) {t : State} (ht : loadDecls b s = some t) :
    Follows m t.mems := by
  unfold loadDecls at ht
  extract_lets n bodies at ht
  split at ht
  · exact follows_loadEach (fun _ _ _ hs => follows_loadDecl _ hs) _ h ht
  · cases ht

theorem follows_putStatic (e : List Byte) (d : Nat) (h : Follows m s.mems) {t : State} (ht : putStatic e d s = some t) :
    Follows m t.mems := by
  unfold putStatic at ht
  extract_lets key at ht
  split at ht
  · cases ht; simp [h]
  · cases ht

theorem follows_loadStatic (e : List Byte) (h : Follows m s.mems) {t : State} (ht : loadStatic e s = some t) :
    Follows m t.mems := by
  unfold loadStatic at ht
  extract_lets k at ht
  split at ht
  · exact follows_loadEach (fun _ _ _ hs => follows_putStatic _ _ hs) _ h ht
  · cases ht

theorem follows_loadNear (b : List Byte) (h : Follows m s.mems) {t : State} (ht : loadNear b s = some t) :
    Follows m t.mems := by
  unfold loadNear at ht
  extract_lets age fl n ok s1 at ht
  split at ht
  · exact follows_loadEach (fun _ _ _ hs => follows_loadStatic _ hs) _ (by simp [s1, mems_fold, h]) ht
  · cases ht

theorem follows_loadFarEntry (d : Nat) (e : List Byte) (h : Follows m s.mems) {t : State} (ht : loadFarEntry d e s = some t) :
    Follows m t.mems := by
  unfold loadFarEntry at ht
  extract_lets key at ht
  split at ht
  · exact follows_keep (follows_farPut _ _ _ _ h) ht
  · cases ht

theorem follows_loadFar (b : List Byte) (h : Follows m s.mems) {t : State} (ht : loadFar b s = some t) :
    Follows m t.mems := by
  unfold loadFar at ht
  extract_lets n s1 at ht
  split at ht
  · exact follows_loadEach (fun _ _ _ hs => follows_loadFarEntry _ _ hs) _ (by simp [s1, mems_fold, h]) ht
  · cases ht

theorem follows_applyRecord (ty : Nat) (b : List Byte) (h : Follows m s.mems) {t : State} (ht : applyRecord ty b s = some t) :
    Follows m t.mems := by
  unfold applyRecord at ht
  split at ht
  · exact mems_loadIdentity _ _ t ht ▸ h
  · exact follows_loadDispatch _ h ht
  · exact follows_loadNano _ h ht
  · exact follows_loadHoriz _ h ht
  · exact follows_loadFirmwareRec _ h ht
  · exact follows_loadExtensionRec _ h ht
  · exact mems_loadPorts _ _ t ht ▸ h
  · exact mems_loadRouting _ _ t ht ▸ h
  · exact mems_loadHost _ _ t ht ▸ h
  · exact follows_loadGeneric _ h ht
  · exact mems_loadParse _ _ t ht ▸ h
  · exact mems_loadClass _ _ t ht ▸ h
  · exact follows_loadDecls _ h ht
  · exact follows_loadNear _ h ht
  · exact follows_loadFar _ h ht
  · exact mems_loadBuffer _ _ t ht ▸ h
  · exact mems_loadSched _ _ t ht ▸ h
  · exact mems_loadPolicy _ _ t ht ▸ h
  · cases ht; exact h

@[simp] theorem follows_applyRecords (slot : Nat) (recs : List Rec) (l : List (Nat × Bool × Nat)) (h : Follows m s.mems) :
    Follows m (applyRecords slot recs l s).1.mems := by
  induction l generalizing s with
  | nil => exact h
  | cons x l ih =>
    rw [applyRecords]
    split
    · exact ih (.cond (follows_hbmWrite _ _ h) h)
    · split
      · exact h
      case h_2 s1 h1 =>
        have h1 := follows_applyRecord _ _ (.cond (by simp [h]) h) h1
        exact ih (.cond (by simp [h1]) h1)

@[simp] theorem follows_approveTimeout (h : Follows m s.mems) :
    Follows m (approveTimeout s).mems := by
  simp [approveTimeout, h]

@[simp] theorem follows_clearFar (h : Follows m s.mems) :
    Follows m (clearFar s).mems := by
  exact h.of_parts rfl id (twf_filter _) id id

@[simp] theorem follows_beginLoad (slot : Nat) (h : Follows m s.mems) :
    Follows m (beginLoad slot s).mems := by
  simp +contextual [beginLoad, h, Follows.foldl]

@[simp] theorem follows_authDone (h : Follows m s.mems) :
    Follows m (authDone s).mems := by
  refine follows_inStart 4 (fun s hs => ?_) h
  extract_lets slot
  split
  · simp [hs]
  · exact mems_withLdr _ _ rfl rfl ▸ follows_applyRecords _ _ _ (follows_beginLoad _ hs)

@[simp] theorem follows_bar2Put (a : Nat) (bs : List Byte) (h : Follows m s.mems) :
    Follows m (bar2Put a bs s).mems := by
  simp +contextual [bar2Put, h, Follows.foldl]

@[simp] theorem follows_bar2Write (o : Nat) (bs : List Byte) (h : Follows m s.mems) :
    Follows m (bar2Write o bs s).mems := by
  simp [bar2Write, h]

@[simp] theorem follows_nearUe (d a : Nat) (h : Follows m s.mems) :
    Follows m (nearUe d a s).mems := by
  simp [nearUe, h]

@[simp] theorem follows_nearLookup (d key : Nat) (ue : List Nat) (h : Follows m s.mems) :
    Follows m (nearLookup d key ue s).1.mems := by
  simp +contextual [nearLookup, h, Follows.foldl]

@[simp] theorem follows_sourceHitKey (d key port : Nat) (ue : List Nat) (h : Follows m s.mems) :
    Follows m (sourceHitKey d key port ue s).2.mems := by
  unfold sourceHitKey
  have hl := follows_nearLookup d key ue h
  split
  case h_1 heq => rw [heq] at hl; exact hl
  case h_2 heq =>
    rw [heq] at hl
    simp [apply_ite, hl]

@[simp] theorem follows_sourceHit (d vid sa port : Nat) (ue : List Nat) (h : Follows m s.mems) :
    Follows m (sourceHit d vid sa port ue s).2.mems := by
  simp [sourceHit, h]

@[simp] theorem follows_forward (port : Nat) (nearUe : List Nat) (tcamUe : List (Nat × Bool)) (nhUe : Bool) (c : Cls) (h : Follows m s.mems) :
    Follows m (forward port nearUe tcamUe nhUe c s).1.mems := by
  unfold forward
  split <;> simp [h]

@[simp] theorem follows_learnAndWait (d f : Nat) (req : Option LearnReq) (ctxUe : Bool) {y : State × Frame} (h : Follows m y.1.mems) :
    Follows m (learnAndWait d f req ctxUe y).mems := by
  simp [learnAndWait, h]

@[simp] theorem follows_forwardFrame (f now len : Nat) (fr : Frame) (p : ParseSt) (u : LookupUe) (x : ActUe) (c0 : Cls) (h : Follows m s.mems) :
    Follows m (forwardFrame f now len fr p u x c0 s).mems := by
  unfold forwardFrame
  extract_lets port d learn hit r c req fr2
  have hhit : Follows m hit.2.mems := by simp only [hit]; split <;> simp [h]
  have hr : Follows m r.1.mems := by simp [r, hhit]
  simp [apply_ite, hr]

@[simp] theorem follows_classifiedFrame (f now len : Nat) (fr : Frame) (p : ParseSt) (u : LookupUe) (x : ActUe) {r : State × Option Cls}
    (h : Follows m r.1.mems) : Follows m (classifiedFrame f now len fr p u x r).mems := by
  unfold classifiedFrame
  split <;> simp [h]

@[simp] theorem follows_streamHandle (port : Nat) (p : ParseSt) (nearUe : List Nat) (h : Follows m s.mems) :
    Follows m (streamHandle port p nearUe s).1.mems := by
  unfold streamHandle
  split <;> simp [h]

@[simp] theorem follows_ruleResult (port : Nat) {rr : State × Option (Nat × Word)} (c : Cls) (h : Follows m rr.1.mems) :
    Follows m (ruleResult port rr c).1.mems := by
  unfold ruleResult
  (repeat' split) <;> simp [h]

@[simp] theorem follows_classify (port : Nat) (p : ParseSt) (nearUe : List Nat) (tcamUe : List (Nat × Bool)) (h : Follows m s.mems) :
    Follows m (classify port p nearUe tcamUe s).1.mems := by
  simp [classify, h]

@[simp] theorem follows_commitApply (h : Follows m s.mems) :
    Follows m (commitApply s).mems := by
  unfold commitApply
  split
  · exact h
  · split
    · exact h
    · extract_lets lost s1 _ why was s2 s3
      have h1 : Follows m s1.mems := by simp [s1, mems_fold, h]
      have h2 : Follows m s2.mems := by
        simp only [s2]
        rw [mems_fold _ (fun s x => by simp [mems_ite])]
        exact h
      have h3 : Follows m s3.mems := .cond (follows_wredAll _ (follows_headroomAll _ _ h2)) h2
      exact .cond (by simp [h1]) (follows_planInForce _ (follows_qMinAll _ _ h3))

@[simp] theorem follows_receive513 (c : Copy) (fr : Frame) (bs : List Byte) (h : Follows m s.mems) :
    Follows m (receive513 c fr bs s).mems := by
  simp [receive513, h]

@[simp] theorem follows_dequeueHost (c0 : Copy) (fr : Frame) (ecc : Ecc) (bufLen : Nat) (h : Follows m s.mems) :
    Follows m (dequeueHost c0 fr ecc bufLen s).mems := by
  simp [dequeueHost, h]

@[simp] theorem follows_regWrite (q : Requester) (o w : Nat) (h : Follows m s.mems) :
    Follows m (regWrite q o w s).mems := by
  unfold regWrite
  (repeat' split) <;> simp [h]

@[simp] theorem follows_devwTake (c : Nat) (h : Follows m s.mems) :
    Follows m (devwTake c s).mems := by
  unfold devwTake
  split <;> simp [h]

@[simp] theorem follows_dieHoldWrite (q : Requester) (key d : Nat) (on : Bool) (h : Follows m s.mems) :
    Follows m (dieHoldWrite q key d on s).mems := by
  simp +contextual [dieHoldWrite, h]

@[simp] theorem follows_dieReadmit (d : Nat) (ok : Bool) (h : Follows m s.mems) :
    Follows m (dieReadmit d ok s).mems := by
  simp +contextual [dieReadmit, h, Follows.foldl]

@[simp] theorem follows_egressLearn (t : TxCopy) (fr : Frame) (h : Follows m s.mems) :
    Follows m (egressLearn t fr s).mems := by
  simp [egressLearn, h]

@[simp] theorem follows_enterHeld (h : Follows m s.mems) :
    Follows m (enterHeld s).mems := by
  exact h.of_parts rfl (fun _ => rfl) (fun _ => rfl) (by simp [enterHeld, keptLdr]) (by simp [enterHeld, keptLdr])

@[simp] theorem follows_offerPlan (pl0 : Plan) (wait : Bool) (h : Follows m s.mems) :
    Follows m (offerPlan pl0 wait s).mems := by
  simp [offerPlan, h]

@[simp] theorem follows_plannerTurn (h : Follows m s.mems) :
    Follows m (plannerTurn s).mems := by
  unfold plannerTurn
  extract_lets sd s0 _ p detour s1
  have hd : Follows m sd.mems := by simp [sd, h]
  have h0 : Follows m s0.mems := .cond (by simp [hd]) hd
  have h1 : Follows m s1.mems := .cond (by simp [h0]) h0
  refine .cond h0 (.cond (by simp [h0]) ?_)
  clear_value detour
  split <;> simp [h1]

@[simp] theorem follows_plannerAct (h : Follows m s.mems) :
    Follows m (plannerAct s).mems := by
  unfold plannerAct
  (repeat' split) <;> simp [h]

@[simp] theorem follows_seeDowns (h : Follows m s.mems) :
    Follows m (seeDowns s).mems := by
  simp +contextual [seeDowns, h, Follows.foldl]

@[simp] theorem follows_shedLevel (slots : Nat) (h : Follows m s.mems) :
    Follows m (shedLevel slots s).mems := by
  simp [shedLevel, h]

@[simp] theorem follows_plannerEpoch (delays : List (Nat × Nat)) (slots : Nat) (h : Follows m s.mems) :
    Follows m (plannerEpoch delays slots s).mems := by
  refine .cond h ?_
  extract_lets s1 _ s2
  have h2 : Follows m s2.mems := by simp [s2, s1, h]
  exact follows_plannerAct ((mems_hhSurvey _).symm ▸ follows_seeDowns (follows_shedLevel _ h2))

@[simp] theorem follows_epochWork (delays : List (Nat × Nat)) (h : Follows m s.mems) :
    Follows m (epochWork delays s).mems := by
  simp [epochWork, h]

@[simp] theorem follows_epochBoundary (delays : List (Nat × Nat)) (h : Follows m s.mems) :
    Follows m (epochBoundary delays s).mems := by
  simp [epochBoundary, h]

@[simp] theorem follows_exportComplete (d0 d1 : List Byte) (h : Follows m s.mems) :
    Follows m (exportComplete d0 d1 s).mems := by
  unfold exportComplete
  split <;> simp [h]

@[simp] theorem follows_faultCommit (h : Follows m s.mems) :
    Follows m (faultCommit s).mems := by
  unfold faultCommit
  split <;> simp [h]

@[simp] theorem follows_tick (h : Follows m s.mems) :
    Follows m (tick s).mems := by
  simp [tick, h]

@[simp] theorem follows_idle (h : Follows m s.mems) :
    Follows m (idle s).mems := by
  unfold idle clocked
  split
  · exact h
  · exact follows_tick h

@[simp] theorem follows_jtagAccess (o : Nat) (data : Option Nat) (h : Follows m s.mems) :
    Follows m (jtagAccess o data s).mems := by
  unfold jtagAccess
  split <;> simp [h]

@[simp] theorem follows_learnInsert (d key : Nat) (r : LearnReq) (h : Follows m s.mems) :
    Follows m (learnInsert d key r s).1.mems := by
  unfold learnInsert
  extract_lets max
  split
  · simp [h]
  · split <;> simp [h]

@[simp] theorem follows_learnActKey (d key : Nat) (r : LearnReq) (ue : List Nat) (h : Follows m s.mems) :
    Follows m (learnActKey d key r ue s).1.mems := by
  unfold learnActKey
  have hl := follows_nearLookup d key ue h
  split
  case h_1 heq => rw [heq] at hl; exact follows_learnInsert _ _ _ hl
  case h_2 heq =>
    rw [heq] at hl
    split
    · simp [hl]
    · split
      · simp [hl]
      · split
        · simp [hl]
        · simp [apply_ite, hl]

@[simp] theorem follows_learnAct (d : Nat) (r : LearnReq) (ue : List Nat) (h : Follows m s.mems) :
    Follows m (learnAct d r ue s).1.mems := by
  simp [learnAct, h]

@[simp] theorem follows_learnHead (d : Nat) (ue : List Nat) (h : Follows m s.mems) :
    Follows m (learnHead d ue s).mems := by
  unfold learnHead
  split <;> simp [h]

@[simp] theorem follows_leaveHeld (h : Follows m s.mems) :
    Follows m (leaveHeld s).mems := by
  exact h.of_parts rfl (fun _ => rfl) (fun _ => rfl) (by simp [leaveHeld, keptLdr]) (by simp [leaveHeld, keptLdr])

@[simp] theorem follows_linkDown (p : Nat) (h : Follows m s.mems) :
    Follows m (linkDown p s).mems := by
  simp [linkDown, h]

theorem follows_mbxIdents (h' : Nat) (old l : List (Nat × Nat)) (h : Follows m s.mems) {t : State} (ht : mbxIdents h' old l s = some t) :
    Follows m t.mems := by
  induction l generalizing s with
  | nil => cases ht; exact h
  | cons x l ih =>
    rw [mbxIdents] at ht
    split at ht
    · exact ih h ht
    · split at ht
      · exact ih (follows_nearPlace _ _ _ _ _ _ h) ht
      · cases ht

@[simp] theorem follows_mbxUnident (l : List (Nat × Nat)) (h : Follows m s.mems) :
    Follows m (mbxUnident l s).mems := by
  exact .foldl (fun _ _ hs => by split <;> simp [hs]) _ h

theorem follows_mbxDecl (replace : Bool) (b : List Byte) (h : Follows m s.mems) {t : State} (ht : mbxDecl replace b s = .ok t) : Follows m t.mems := by
  unfold mbxDecl at ht
  extract_lets h' old new have_ at ht
  split at ht
  · cases ht
  · split at ht
    · cases ht
    · split at ht
      · cases ht
      · split at ht
        · cases ht
        case h_2 s1 heq =>
          have h1 := follows_mbxIdents _ _ _ h heq
          extract_lets s2 s3 at ht
          have h3 : Follows m s3.mems := by simp [s3, s2, h1]
          split at ht
          · cases ht
          · split at ht
            · cases ht
            · split at ht
              · rw [← Except.ok.inj ht]; exact h3
              · rw [← Except.ok.inj ht]; simp [h3]

theorem follows_mbxDelete (b : List Byte) (h : Follows m s.mems) {t : State} (ht : mbxDelete b s = .ok t) : Follows m t.mems := by
  unfold mbxDelete at ht
  extract_lets h' at ht
  split at ht
  · cases ht
  · cases ht; simp [h]

theorem follows_mbxEntry (e : MbxEntry) (h : Follows m s.mems) {t : State} (ht : mbxEntry e s = .ok t) : Follows m t.mems := by
  unfold mbxEntry at ht
  split at ht
  · cases ht
  · split at ht
    · exact follows_mbxDecl _ _ h ht
    · exact follows_mbxDecl _ _ h ht
    · exact follows_mbxDelete _ h ht
    · exact mems_mbxPolicy _ _ _ ht ▸ h

theorem follows_mbxRun (fuel i : Nat) (b : List Byte) (h : Follows m s.mems) {t : State} (ht : mbxRun fuel i b s = .ok t) : Follows m t.mems := by
  induction fuel generalizing i b s with
  | zero => cases ht; exact h
  | succ fuel ih =>
    rw [mbxRun] at ht
    split at ht
    · cases ht; exact h
    · split at ht
      · cases ht
      · split at ht
        · cases ht
        case h_2 s1 h1 => exact ih _ _ (follows_mbxEntry _ h h1) ht

@[simp] theorem follows_mbxServe (b : List Byte) (h : Follows m s.mems) :
    Follows m (mbxServe b s).1.mems := by
  unfold mbxServe
  split
  · exact h
  · split
    · exact h
    case h_2 s1 h1 => simp [follows_mbxRun _ _ _ h h1]

@[simp] theorem follows_mbxTakeChannel (h : Follows m s.mems) :
    Follows m (mbxTakeChannel s).mems := by
  unfold mbxTakeChannel
  split
  · exact h
  · extract_lets other c _ s0
    have h0 : Follows m s0.mems := by simp [s0, h]
    refine .cond h ?_
    split
    · exact h0
    · extract_lets b seq need s1 x
      have h1 : Follows m s1.mems := by simp [s1, h0]
      have hx : Follows m x.1.mems := by simp only [x]; split <;> simp [h1]
      simp [hx]

@[simp] theorem follows_mbxTakeHost (h : Follows m s.mems) :
    Follows m (mbxTakeHost s).mems := by
  simp [mbxTakeHost, h]

@[simp] theorem follows_mbxRequestTake (channel : Bool) (h : Follows m s.mems) :
    Follows m (mbxRequestTake channel s).mems := by
  simp [mbxRequestTake, h]

@[simp] theorem follows_meReset (q : Requester) (key : Nat) (h : Follows m s.mems) :
    Follows m (meReset q key s).mems := by
  simp +contextual [meReset, h]

@[simp] theorem follows_parsedFrame (f now len : Nat) (fr : Frame) (p : ParseSt) (u : LookupUe) (x : ActUe) (h : Follows m s.mems) :
    Follows m (parsedFrame f now len fr p u x s).mems := by
  simp [parsedFrame, h]

@[simp] theorem follows_pipelineEntry (f : Nat) (win : List Byte) (len : Nat) (u : LookupUe) (x : ActUe) (h : Follows m s.mems) :
    Follows m (pipelineEntry f win len u x s).mems := by
  unfold pipelineEntry
  split <;> simp [h]

@[simp] theorem follows_quarantineExpiry (p : Nat) (h : Follows m s.mems) :
    Follows m (quarantineExpiry p s).mems := by
  simp [quarantineExpiry, h]

@[simp] theorem follows_railSample (i : Nat) (uv : Int) (h : Follows m s.mems) :
    Follows m (railSample i uv s).mems := by
  refine .cond h ?_
  extract_lets l n l1 scan s1 l1' l2
  have hflash : l2.flash = s.ldr.flash := by simp only [l2]; split <;> rfl
  have hotp : l2.otp = s.ldr.otp := by simp only [l2]; split <;> rfl
  split
  · exact .cond h (by simp [h])
  · have h1 : Follows m s1.mems := mems_withLdr s _ rfl rfl ▸ h
    exact .cond (.cond h1 (by simp [h1])) (mems_withLdr s _ rfl rfl ▸ h)
  · rw [mems_settleTerminal]
    exact mems_withLdr s _ hflash hotp ▸ h

theorem follows_takeRequest (c : Nat) (h : Follows m s.mems) {r : DramReq} {t : State} (ht : takeRequest c s = some (r, t)) : Follows m t.mems := by
  unfold takeRequest at ht
  obtain ⟨x, -, hx⟩ := Option.map_eq_some_iff.mp ht
  split at hx
  · cases hx; exact h
  · dsimp only at hx
    split at hx <;> cases hx <;> exact h

@[simp] theorem follows_takeBack (c : Nat) (r : DramReq) (h : Follows m s.mems) :
    Follows m (takeBack c r s).mems := by
  refine .foldl (fun s o hs => ?_) _ h
  split
  · simp [hs]
  · exact hs.of_parts rfl id (twf_tset _ _) id id

@[simp] theorem follows_requestIssue (c : Nat) (ecc : Ecc) (parity : Bool) (h : Follows m s.mems) :
    Follows m (requestIssue c ecc parity s).mems := by
  unfold requestIssue
  extract_lets st
  split
  · exact h
  · split
    · exact h
    case h_2 r s1 heq =>
      have h1 := follows_takeRequest c h heq
      extract_lets s2 s3
      have h2 : Follows m s2.mems := by simp [s2, h1]
      have h3 : Follows m s3.mems := .cond h2 (by rw [mems_eccError]; exact .cond (follows_takeBack _ _ h2) h2)
      exact .cond (by simp [h1]) (.cond (by simp [h3]) h3)

@[simp] theorem follows_tryLeave (h : Follows m s.mems) :
    Follows m (tryLeave s).mems := by
  simp [tryLeave, h]

@[simp] theorem follows_resetHoldExpiry (h : Follows m s.mems) :
    Follows m (resetHoldExpiry s).mems := by
  exact follows_tryLeave (mems_withLdr s _ rfl rfl ▸ h)

@[simp] theorem follows_resetNEdge (low : Bool) (h : Follows m s.mems) :
    Follows m (resetNEdge low s).mems := by
  unfold resetNEdge
  have h1 : Follows m (s.withLdr { s.ldr with resetLow := low }).mems := mems_withLdr s _ rfl rfl ▸ h
  exact .cond (.cond h1 (follows_enterHeld h1)) (follows_tryLeave h1)

@[simp] theorem follows_sideAct (a : SideAccess) (h : Follows m s.mems) :
    Follows m (sideAct a s).mems := by
  unfold sideAct
  split <;> simp [h]

@[simp] theorem follows_retrainEnd (d : Nat) (ok : Bool) (h : Follows m s.mems) :
    Follows m (retrainEnd d ok s).mems := by
  simp +contextual [retrainEnd, h, Follows.foldl]

@[simp] theorem follows_rollback (h : Follows m s.mems) :
    Follows m (rollback s).mems := by
  exact follows_clearFar (h.of_parts rfl (fun _ => rfl) id id id)

@[simp] theorem follows_rollbackDone (h : Follows m s.mems) :
    Follows m (rollbackDone s).mems := by
  simp +contextual [rollbackDone, h]

@[simp] theorem follows_runInsn (t : Nat) (i : Issue) (op : MeOp) (h : Follows m s.mems) :
    Follows m (runInsn t i op s).mems := by
  simp [runInsn, h]

@[simp] theorem follows_takeCopy (c : Copy) (ecc : Ecc) (cell bufLen : Nat) (h : Follows m s.mems) :
    Follows m (takeCopy c ecc cell bufLen s).mems := by
  unfold takeCopy
  split
  · simp [h]
  · extract_lets r
    have hr : Follows m r.1.mems := by simp [r, h]
    split
    · simp [hr]
    · split
      · simp [hr]
      · simp [hr]

@[simp] theorem follows_schedulerSelect (p : Nat) (ecc : Ecc) (cell bufLen : Nat) (h : Follows m s.mems) :
    Follows m (schedulerSelect p ecc cell bufLen s).mems := by
  unfold schedulerSelect
  split
  · exact h
  · extract_lets s1 r
    have h1 : Follows m s1.mems := .cond (by simp [mems_fold, h]) h
    have hr : Follows m r.1.mems := by simp [r, h1]
    split
    · exact .cond (by simp [hr]) hr
    · simp [hr]

@[simp] theorem follows_sendDone (t : TxCopy) (fr : Frame) (h : Follows m s.mems) :
    Follows m (sendDone t fr s).mems := by
  simp [sendDone, h]

@[simp] theorem follows_sizedWrite (q : Requester) (n o w : Nat) (h : Follows m s.mems) :
    Follows m (sizedWrite q n o w s).mems := by
  simp [sizedWrite, h]

@[simp] theorem follows_smbusWrite (good : Bool) (o v : Nat) (h : Follows m s.mems) :
    Follows m (smbusWrite good o v s).mems := by
  simp [smbusWrite, h]

@[simp] theorem follows_surveyRecord (h : Follows m s.mems) :
    Follows m (surveyRecord s).mems := by
  simp [surveyRecord, h]

@[simp] theorem follows_synthesisDone (h : Follows m s.mems) :
    Follows m (synthesisDone s).mems := by
  simp [synthesisDone, h]

@[simp] theorem follows_tx513RecordTake (f : Nat) (h : Follows m s.mems) :
    Follows m (tx513RecordTake f s).mems := by
  simp [tx513RecordTake, h]

@[simp] theorem follows_txEnd (id : Nat) (h : Follows m s.mems) :
    Follows m (txEnd id s).mems := by
  unfold txEnd
  split
  · exact h
  · extract_lets d s0
    have h0 : Follows m s0.mems := by simp [s0, h]
    split
    · exact h
    · split
      · exact h0
      · split
        · exact h0
        · split
          · simp [h0]
          · exact .cond h0 (by simp [h0])

end

end Sys2Proof.Machine

/-! PROOF. The canonical form of the byte memories and the queue through a step (12_management_engine.md R311; 16_dram.md R403; 17_startup_image.md R443;
19_register_map.md R484; 95_what_each_step_holds.md), and the commands that store nothing. -/

namespace Sys2Proof.Machine

section
variable {m : Mems} {s : State}

/-! ### The gates of the rows -/

theorem follows_powered {act : State → State} (hact : ∀ s, Follows m s.mems → Follows m (act s).mems) (h : Follows m s.mems) :
    Follows m (powered act s).mems :=
  .cond h (hact s h)

theorem follows_clocked {act : State → State} (hact : ∀ s, Follows m s.mems → Follows m (act s).mems) (h : Follows m s.mems) :
    Follows m (clocked act s).mems :=
  .cond h (hact s h)

theorem follows_engine {act : State → State} (hact : ∀ s, Follows m s.mems → Follows m (act s).mems) (h : Follows m s.mems) :
    Follows m (engine act s).mems :=
  .cond h (hact s h)

theorem follows_writeRow (q : Requester) (r : Reg) (i : Nat) {act : State → State} (hact : ∀ s, Follows m s.mems → Follows m (act s).mems)
    (h : Follows m s.mems) : Follows m (writeRow q r i act s).mems := by
  simp [writeRow, h, hact s h]

theorem follows_pdRow (q : Requester) (r : Reg) (i w : Nat) {act : State → State} (hact : ∀ s, Follows m s.mems → Follows m (act s).mems)
    (h : Follows m s.mems) : Follows m (pdRow q r i w act s).mems := by
  simp [pdRow, h, hact s h]

end

/-! ### Every command -/

/-- Every command answers, and the state it answers has the queue it was given and memories in canonical form if they were. -/
theorem exec_follows (c : Instr) (s : State) : ∃ t, exec c s = .next t ∧ Follows s.mems t.mems := by
  cases c <;> exact ⟨_, rfl, by
    simp +contextual [follows_powered, follows_clocked, follows_engine, follows_writeRow, follows_pdRow, mems_pdWindow,
      mems_windowRow, mems_rwStart, mems_scStart]⟩

/-- A command of storesNothing answers a state with the queue and the memories it was given. -/
theorem exec_mems (c : Instr) (s : State) (h : storesNothing c = true) : ∃ t, exec c s = .next t ∧ t.mems = s.mems := by
  cases c <;> simp [storesNothing] at h <;> exact ⟨_, rfl, by
    simp [mems_powered, mems_clocked, mems_engine, mems_writeRow, mems_pdRow, mems_windowRow, mems_pdWindow, mems_rwStart, mems_scStart, mems_gated]⟩

/-- A step answers what the front of the queue answers on the rest, and its state follows the state with the rest of the queue. -/
theorem step_follows {s t : State} (h : step s = .next t) : Follows ({ s with pending := s.pending.drop 1 } : State).mems t.mems := by
  unfold step at h
  split at h
  case h_1 hp =>
    cases h
    refine follows_idle ?_
    rw [hp]
    exact ⟨hp, id⟩
  case h_2 c rest hp =>
    obtain ⟨u, hu, hf⟩ := exec_follows c { s with pending := rest }
    cases hu.symm.trans h
    rw [hp]
    exact hf

/-! ### The obligations -/

/-- Settles O3: every row is total, and none writes the queue. -/
theorem everyCommandAnswers : Obligations.EveryCommandAnswers := by
  intro c s
  obtain ⟨t, ht, hqueue, -⟩ := exec_follows c s
  exact ⟨t, ht, hqueue⟩

/-- Settles O5: a step follows the state without the front of its queue, whose memories are those of the state. -/
theorem stepKeepsMemoryForm : Obligations.StepKeepsMemoryForm :=
  fun _ _ hwf h => (step_follows h).2 hwf

/-- Settles O6: a step follows the state without the front of its queue. -/
theorem queueIsFifo : Obligations.QueueIsFifo :=
  fun _ _ h => (step_follows h).1

/-- Settles O10: the commands that store nothing keep the four memories themselves. -/
theorem memoryFrame : Obligations.MemoryFrame := by
  intro c s t hc h a
  obtain ⟨u, hu, hm⟩ := exec_mems c s hc
  cases hu.symm.trans h
  simp only [State.mems, Prod.mk.injEq] at hm
  obtain ⟨-, hsram, hhbm, hflash, hotp⟩ := hm
  rw [hsram, hhbm, hflash, hotp]
  exact ⟨rfl, rfl, rfl, rfl⟩

end Sys2Proof.Machine

/-! PROOF. A step and its queue (95_what_each_step_holds.md; 01_architecture.md), the state after reset (17_startup_image.md R421), the bytes of the SRAM
(12_management_engine.md R311; 13_me_instruction_set.md R338), the form of a route key (04_associative_search.md Table 4.2), the numbers of the ports
(01_architecture.md R22), the source that a claim takes (14_interrupts.md R370, R371) and the order of the held fault events (15_faults.md R387). -/

namespace Sys2Proof.Machine

/-! ### A step -/

/-- Settles O1, by the equation of step for a queue that is not empty. -/
theorem stepTakesFront : Obligations.StepTakesFront := by
  intro c rest s h
  simp only [step, h]

/-- Settles O2: on an empty queue a step is the idle row, which is a tick behind the gate of the clocked parts. -/
theorem emptyQueueTicks : Obligations.EmptyQueueTicks := by
  intro s h
  simp only [step, h, idle, clocked]

/-- Settles O4: every register of State.reset reads its reset value. -/
theorem resetState : Obligations.ResetState :=
  ⟨rfl, by decide, by decide, by decide, fun _ _ => rfl, fun _ => rfl, fun _ => rfl, fun _ _ => rfl, fun _ => rfl, by decide⟩

/-! ### The bytes of the SRAM -/

/-- A write below the DRAM region writes the SRAM alone. -/
theorem meWrite_sram {a : Nat} (h : a < 0x40000000) (bs : List Byte) (s : State) : meWrite a bs s = { s with sram := writeBytes s.sram a bs } :=
  if_pos h

/-- A read below the DRAM region reads the SRAM. -/
theorem meRead_sram {a : Nat} (h : a < 0x40000000) (n : Nat) (s : State) : meRead a n s = readBytes s.sram a n :=
  if_pos h

/-- A write of no byte leaves what a read of the SRAM returns. -/
theorem meRead_meWrite_nil {b : Nat} (hb : b < 0x40000000) (a n : Nat) (s : State) : meRead b n (meWrite a [] s) = meRead b n s := by
  rw [meRead_sram hb, meRead_sram hb, meWrite]
  split <;> rfl

/-- Settles O12: a write of some byte starts in the SRAM, where reads and writes are those of a byte table. -/
theorem storeThenLoad : Obligations.StoreThenLoad := by
  intro s a bs h
  rcases bs with - | ⟨x, xs⟩
  · refine ⟨?_, fun b _ hb => meRead_meWrite_nil hb a 1 s⟩
    rw [meRead]
    split <;> rfl
  · have ha : a < 0x40000000 := by rw [List.length_cons] at h; omega
    rw [meWrite_sram ha, meRead_sram ha]
    refine ⟨readBytes_writeBytes _ _ _, fun b hb hlt => ?_⟩
    rw [meRead_sram hlt, meRead_sram hlt, readBytes, readBytes, tget_writeBytes_other _ _ _ _ hb]
    rfl

/-! ### Route keys and port numbers -/

/-- Settles O18: the key of each kind is a sum of multiples of powers of two whose summands do not overlap. -/
theorem routeKeyForm : Obligations.RouteKeyForm := by
  intro c hv
  constructor <;> intro hd
  · simp only [routeKey, if_true, bitsOf]
    omega
  · simp only [routeKey, if_neg (show ¬ 3 = 2 by decide), bitsOf]
    omega

/-- Settles O20: the numbers of a port are quotients and remainders. -/
theorem portNumbers : Obligations.PortNumbers := by
  intro p hp
  refine ⟨rfl, rfl, ?_, ?_, ?_⟩ <;> simp only [dieOf, pipeOf] <;> omega

/-! ### The source that a claim takes -/

/-- The source of the two that a claim by target `j` prefers, `best` having the lower number; 0 is no source. -/
def claimStep (j : Nat) (s : State) (best n : Nat) : Nat :=
  if deliveredTo j n s then (if best = 0 ∨ s.fld F.SRC_CFG_PRIORITY best < s.fld F.SRC_CFG_PRIORITY n then n else best) else best

/-- `r` is the source of `l` that a claim by target `j` takes. -/
def Claims (j : Nat) (s : State) (l : List Nat) (r : Nat) : Prop :=
  (r = 0 ∧ ∀ n ∈ l, deliveredTo j n s = false) ∨
  (r ∈ l ∧ deliveredTo j r s = true ∧ ∀ m ∈ l, deliveredTo j m s = true →
    s.fld F.SRC_CFG_PRIORITY m < s.fld F.SRC_CFG_PRIORITY r ∨ (s.fld F.SRC_CFG_PRIORITY m = s.fld F.SRC_CFG_PRIORITY r ∧ r ≤ m))

/-- The next source in the order of their numbers is taken where it is delivered and the one taken so far is none or has a lower priority. -/
theorem claims_append {j : Nat} {s : State} {l : List Nat} {r n : Nat} (hl : ∀ m ∈ l, m < n) (hpos : ∀ m ∈ l, 0 < m) (h : Claims j s l r) :
    Claims j s (l ++ [n]) (claimStep j s r n) := by
  unfold claimStep Claims
  simp only [List.mem_append, List.mem_singleton]
  cases hd : deliveredTo j n s
  case false =>
    rcases h with ⟨h0, hnone⟩ | ⟨hmem, hdel, hbest⟩
    · left
      refine ⟨by simp [h0], fun m hm => ?_⟩
      rcases hm with hm | rfl
      · exact hnone m hm
      · exact hd
    · right
      refine ⟨by simp [hmem], by simp [hdel], fun m hm hmd => ?_⟩
      rcases hm with hm | rfl
      · simpa using hbest m hm hmd
      · rw [hd] at hmd; cases hmd
  case true =>
    right
    rcases h with ⟨h0, hnone⟩ | ⟨hmem, hdel, hbest⟩
    · refine ⟨by simp [h0], by simp [h0, hd], fun m hm hmd => ?_⟩
      rcases hm with hm | rfl
      · rw [hnone m hm] at hmd; cases hmd
      · simp [h0]
    · have hr := hpos r hmem
      by_cases hlt : s.fld F.SRC_CFG_PRIORITY r < s.fld F.SRC_CFG_PRIORITY n
      · simp only [if_true, hlt, or_true]
        refine ⟨trivial, hd, fun m hm hmd => ?_⟩
        rcases hm with hm | rfl
        · have := hbest m hm hmd; omega
        · exact .inr ⟨rfl, Nat.le_refl _⟩
      · have hn : ¬ (r = 0 ∨ s.fld F.SRC_CFG_PRIORITY r < s.fld F.SRC_CFG_PRIORITY n) := by omega
        simp only [if_true, if_neg hn]
        refine ⟨.inl hmem, hdel, fun m hm hmd => ?_⟩
        rcases hm with hm | rfl
        · exact hbest m hm hmd
        · have := hl r hmem; omega

/-- A pass over sources in the order of their numbers goes on from the one that a claim takes among those before them. -/
theorem claims_foldl {j : Nat} {s : State} (l : List Nat) {before : List Nat} {r : Nat} (hl : (before ++ l).Pairwise (· < ·))
    (hpos : ∀ m ∈ before ++ l, 0 < m) (h : Claims j s before r) : Claims j s (before ++ l) (l.foldl (claimStep j s) r) := by
  induction l generalizing before r with
  | nil => simpa using h
  | cons n l ih =>
    have hlt := (List.pairwise_append.mp hl).2.2
    have hstep := claims_append (fun m hm => hlt m hm n List.mem_cons_self) (fun m hm => hpos m (List.mem_append_left _ hm)) h
    rw [List.append_cons] at hl hpos ⊢
    exact ih hl hpos hstep

theorem mem_allSources {n : Nat} : n ∈ allSources ↔ n < 385 ∧ srcExists n = true := by
  simp [allSources]

theorem allSources_pos {n : Nat} (h : n ∈ allSources) : 0 < n :=
  Nat.pos_of_ne_zero fun h0 => absurd (mem_allSources.mp h).2 (by rw [h0]; decide)

/-- The value of a claim is the source that a claim takes among all sources. -/
theorem claims_claimValue (j : Nat) (s : State) : Claims j s allSources (claimValue j s) :=
  claims_foldl (before := []) allSources (List.pairwise_lt_range.filter _) (fun _ => allSources_pos) (.inl ⟨rfl, fun _ h => nomatch h⟩)

/-- Settles O21: of the two cases of Claims the one is that of a quiet request line. -/
theorem claimPicksHighest : Obligations.ClaimPicksHighest := by
  intro j s
  rcases claims_claimValue j s with ⟨h0, hnone⟩ | ⟨hmem, hdel, hbest⟩
  · have hline : requestLine j s = false := by simpa [requestLine] using hnone
    exact ⟨iff_of_true h0 hline, fun h => absurd h0 h⟩
  · have hpos := allSources_pos hmem
    have hline : requestLine j s = true := List.any_eq_true.mpr ⟨_, hmem, hdel⟩
    refine ⟨iff_of_false (by omega) (by simp [hline]), fun _ => ⟨(mem_allSources.mp hmem).2, hdel, fun m hm hlt hmd => ?_⟩⟩
    exact hbest m (mem_allSources.mpr ⟨hlt, hm⟩) hmd

/-! ### The order of the held fault events -/

/-- The order of R387: by stamp, then by falling class, then by die, then by source. -/
theorem evBefore_iff (a b : FaultEv) : evBefore a b = true ↔
    a.stamp < b.stamp ∨ (a.stamp = b.stamp ∧ (faultClass b.src < faultClass a.src ∨
      (faultClass a.src = faultClass b.src ∧ (a.die < b.die ∨ (a.die = b.die ∧ a.src ≤ b.src))))) := by
  unfold evBefore
  split
  · simp; omega
  · split
    · simp; omega
    · split <;> simp <;> omega

theorem evBefore_trans {a b c : FaultEv} (hab : evBefore a b = true) (hbc : evBefore b c = true) : evBefore a c = true := by
  rw [evBefore_iff] at *
  omega

theorem evBefore_of_not {a b : FaultEv} (h : ¬ evBefore a b = true) : evBefore b a = true := by
  rw [evBefore_iff] at *
  omega

theorem insertEv_perm (e : FaultEv) (l : List FaultEv) : (insertEv e l).Perm (e :: l) := by
  induction l with
  | nil => exact .refl _
  | cons x l ih =>
    rw [insertEv]
    split
    · exact .refl _
    · exact (ih.cons x).trans (.swap e x l)

/-- An event inserted into an ordered list leaves it ordered. -/
theorem insertEv_pairwise (e : FaultEv) {l : List FaultEv} (hl : l.Pairwise (fun a b => evBefore a b = true)) :
    (insertEv e l).Pairwise (fun a b => evBefore a b = true) := by
  induction l with
  | nil => exact List.pairwise_singleton _ _
  | cons x l ih =>
    obtain ⟨hx, hl'⟩ := List.pairwise_cons.mp hl
    rw [insertEv]
    split
    · next hex =>
      refine List.pairwise_cons.mpr ⟨fun y hy => ?_, hl⟩
      rcases List.mem_cons.mp hy with rfl | hy
      · exact hex
      · exact evBefore_trans hex (hx y hy)
    · next hex =>
      refine List.pairwise_cons.mpr ⟨fun y hy => ?_, ih hl'⟩
      rcases List.mem_cons.mp ((insertEv_perm e l).mem_iff.mp hy) with rfl | hy
      · exact evBefore_of_not hex
      · exact hx y hy

/-- Events inserted one by one into an ordered list: all of them are there, in order. -/
theorem foldl_insertEv (l : List FaultEv) {held : List FaultEv} (hheld : held.Pairwise (fun a b => evBefore a b = true)) :
    (l.foldl (fun a e => insertEv e a) held).Perm (held ++ l) ∧
    (l.foldl (fun a e => insertEv e a) held).Pairwise (fun a b => evBefore a b = true) := by
  induction l generalizing held with
  | nil => exact ⟨by simp, hheld⟩
  | cons e l ih =>
    obtain ⟨hperm, hpairwise⟩ := ih (insertEv_pairwise e hheld)
    exact ⟨hperm.trans (((insertEv_perm e held).append_right l).trans List.perm_middle.symm), hpairwise⟩

/-- Settles O22: an insertion sort by a total and transitive order. -/
theorem faultOrder : Obligations.FaultOrder := by
  intro l
  simp only [← evBefore_iff]
  exact foldl_insertEv l List.Pairwise.nil

end Sys2Proof.Machine

/-! PROOF. Register accesses that do not reach their register, and writes of the observer view (00_scope.md R13; 18_host_interface.md R448, R449, R465;
19_register_map.md R474; 17_startup_image.md R420). -/

namespace Sys2Proof.Machine

/-! ### Accesses that do not come to the device -/

/-- The state after an access of `q` that does not come to the device. -/
def unreached (q : Requester) (s : State) : State := if busUp q s = true then s else unanswered q s

section
variable {q q' : Requester} {r r' : Reg} {i i' d j : Nat} {s : State}

theorem writeRow_unreached (h : some (q, r, i) = some (q', r', i')) (ha : arrives q' r' i' s = false) (act : State → State) :
    writeRow q r i act s = unreached q' s := by
  cases h
  simp [writeRow, lands, ha, unreached]

theorem pdRow_unreached (h : some (q, r, i) = some (q', r', i')) (ha : arrives q' r' i' s = false) (w : Nat) (act : State → State) :
    pdRow q r i w act s = unreached q' s := by
  cases h
  simp [pdRow, lands, ha, unreached]

theorem readRow_unreached (h : some (q, r, i) = some (q', r', i')) (ha : arrives q' r' i' s = false) : readRow q r i s = unreached q' s := by
  cases h
  simp [readRow, ha, unreached]

theorem windowRow_unreached (h : window q r 0 j = some (q', r', i')) (ha : arrives q' r' i' s = false) (act : State → State) :
    windowRow q r j act s = unreached q' s := by
  unfold window at h
  split at h
  next hj => rw [windowRow, if_pos hj]; exact writeRow_unreached (by simpa using h) ha act
  next => cases h

theorem pdWindow_unreached (h : window q r d j = some (q', r', i')) (ha : arrives q' r' i' s = false) (w : Nat) (act : State → State) :
    pdWindow q r d j w act s = unreached q' s := by
  unfold window at h
  split at h
  next hj => rw [pdWindow, if_pos hj]; exact pdRow_unreached h ha w act
  next => cases h

end

/-- A register access that does not come to the device leaves the state of `unreached`. -/
theorem exec_unreached {c : Instr} {q : Requester} {r : Reg} {i : Nat} {s : State} (h : accessOf c = some (q, r, i)) (ha : arrives q r i s = false) :
    exec c s = .next (unreached q s) := by
  cases c
  case privViolLastRead | syncInTsRead | ptpTxInfoRead | supNoteRead | claim => exact congrArg _ (readRow_unreached h ha)
  case adminUpWrite | sdTxEqWrite => exact congrArg _ (pdRow_unreached h ha _ _)
  case tcamRead | tcamWrite | tcamClear | tcamMove | tcamInsert | tcamDelete | tcamSearch | emRead | emLookup | emInsert | emDelete | emFlush =>
    exact congrArg _ (pdWindow_unreached h ha _ _)
  case rwRead | rwWrite | scRead | scWrite | scChange => exact congrArg _ (windowRow_unreached h ha _)
  case editCfgWrite | gclChangeReq | gclCancel | rateAdjWrite | timeStep | timeSet | planApprove | planReject | freeze | unfreeze | replan
    | ssIndexWrite | threadStart | threadStop | chanCfgWrite | dbgHalt | dbgStep | dbgResume | dbgAbort | rx513TailWrite | tx513HeadWrite | ucReload
    | ucScrub | ucRdAddrWrite | pmcWrite | smpCfgWrite | smpTailWrite | complete | srcMaskWrite | srcEnableWrite | swRaise | firstClear
    | faultNRelease | srcReactWrite | dieHoldSet | dieHoldClear | meReset | hifReset | channelRetrain | rcvRead | rcvProgram | rcvErase | rcvCheck
    | rcvRestart | reload | pf1WinWrite | ringTailWrite | ringEnable | ringDisable | mbxSubmit | jtagResponseSubmit | otpRead | otpProgram =>
    exact congrArg _ (writeRow_unreached h ha _)
  all_goals cases h

/-- Settles O8: unanswered refuses an access of PF0 or PF1 to a part that is not held, and changes nothing otherwise. -/
theorem unreachedAccess : Obligations.UnreachedAccess := by
  intro c q r i s h ha
  rw [exec_unreached h ha]
  refine ⟨fun hkept => ?_, fun hbus hheld hq => ?_, fun hbus hheld hq => ?_⟩
  · rcases hkept with hbus | hheld | ⟨hpf0, hpf1⟩
    · simp [unreached, hbus]
    · simp [unreached, unanswered, hheld]
    · cases q <;> simp_all [unreached, unanswered]
  · subst hq; simp [unreached, hbus, unanswered, hheld]
  · subst hq; simp [unreached, hbus, unanswered, hheld]

/-! ### Writes of the observer view -/

section
variable {q : Requester} {r : Reg} {i : Nat} {s : State}

/-- A write that comes at once to its register acts. -/
theorem writeRow_answers (h : answers q r i s = true) (act : State → State) : writeRow q r i act s = act s := by
  simp only [answers, Bool.and_eq_true] at h
  rw [writeRow, if_pos h.1]

theorem pdRow_answers (h : answers q r i s = true) (w : Nat) (act : State → State) : pdRow q r i w act s = act s := by
  simp only [answers, Bool.and_eq_true, Bool.not_eq_true'] at h
  rw [pdRow, if_neg (by simp [h.1]), if_neg (by simp [h.2])]

/-- What holds of a write that comes at once to its register, in the observer view: `gated` counts a violation. -/
structure Observes (q : Requester) (r : Reg) (i : Nat) (s : State) : Prop where
  answers : answers q r i s = true
  unprivileged : privileged q (blockOf (regOffset r i)) s = false

theorem Observes.lands (h : Observes q r i s) : lands q r i s = true := by
  have := h.answers
  simp only [Machine.answers, Bool.and_eq_true] at this
  exact this.1

theorem Observes.has (h : Observes q r i s) : regHas r i = true := by
  have := h.lands
  simp only [Machine.lands, arrives, Bool.and_eq_true] at this
  obtain ⟨⟨⟨⟨⟨⟨⟨hhas, -⟩, -⟩, -⟩, -⟩, -⟩, -⟩, -⟩ := this
  exact hhas

theorem Observes.runs (h : Observes q r i s) : s.terminal = false := by
  have := h.lands
  simp only [Machine.lands, Bool.and_eq_true, Bool.not_eq_true'] at this
  obtain ⟨⟨⟨⟨⟨-, ht⟩, -⟩, -⟩, -⟩, -⟩ := this
  exact ht

theorem Observes.gated (h : Observes q r i s) (act : State → State) : gated q (regOffset r i) act s = privViolation q true (regOffset r i) s := by
  have hl := h.lands
  simp only [Machine.lands, Bool.and_eq_true, Bool.or_eq_true, decide_eq_true_eq] at hl
  obtain ⟨⟨-, hd⟩, -⟩ := hl
  have hdie : ¬ (13 ≤ blockOf (regOffset r i) ∧ s.dieUp (blockOf (regOffset r i) - 13) = false) := by
    rintro ⟨hb, hdown⟩
    rcases hd with hd | hd
    · omega
    · rw [hdown] at hd; cases hd
  rw [Machine.gated, h.runs, if_neg (by simp), if_neg hdie, h.unprivileged, if_neg (by simp)]

/-- A gated write of an element below its bound. -/
theorem Observes.guarded (h : Observes q r i s) {n j : Nat} (hj : j < n) (act : State → State) :
    (if n ≤ j then s else Machine.gated q (regOffset r i) act s) = privViolation q true (regOffset r i) s :=
  (if_neg (by omega)).trans (h.gated act)

/-- The gates of the rows write nothing in the observer view but the violation. -/
theorem Observes.otpGate (h : Observes q .OTP_CMD 0 s) (key : Nat) (act : State → State) :
    otpGate q key act s = privViolation q true (regOffset .OTP_CMD 0) s :=
  h.gated _

theorem Observes.rcvStart (h : Observes q .RCV_CMD 0 s) (op : Nat) (act : State → State × Nat) :
    rcvStart q op act s = privViolation q true (regOffset .RCV_CMD 0) s :=
  h.gated _

theorem Observes.ringGate (h : Observes q r i s) (hi : i < 146) (hq : q ≠ .pf1) (act : State → State) :
    ringGate q r i act s = privViolation q true (regOffset r i) s := by
  rw [Machine.ringGate, if_neg (by omega), if_neg (by simp [hq])]
  exact h.gated act

/-- A debugger is privileged, so that a debug write of the observer view is a violation. -/
theorem Observes.debugWrite (h : Observes q .DBG_CMD 0 s) (act : State → State) :
    debugWrite q act s = privViolation q true (regOffset .DBG_CMD 0) s := by
  have hblock : blockOf (regOffset .DBG_CMD 0) = 6 := by decide +kernel
  have hpriv := h.unprivileged
  have hdebugger : debugger q s = false := by
    cases q <;> simp_all [debugger, privileged]
  rw [hblock] at hpriv
  simp [Machine.debugWrite, hdebugger, h.runs, hpriv]

theorem Observes.debugGuarded (h : Observes q .DBG_CMD 0 s) {t : Nat} (ht : t < 32) (act : State → State) :
    (if 32 ≤ t then s else Machine.debugWrite q act s) = privViolation q true (regOffset .DBG_CMD 0) s :=
  (if_neg (by omega)).trans (h.debugWrite act)

/-- A word written at the offset of a writable register without a rule of its own is gated. -/
theorem Observes.writeAt (h : Observes q r i s) (hr : regAt (regOffset r i) = some ⟨r, i, 0⟩) (hw : r.writable = true) {v : Nat}
    (hwindow : ∀ w, windowPut q r i w s = none) (hme : ∀ w, mePut q r i w s = none) (hhub : ∀ w, hubPut q r i w s = none) :
    writeAt q (regOffset r i) v s = privViolation q true (regOffset r i) s := by
  have hl := h.lands
  simp only [Machine.lands, Bool.and_eq_true, Bool.not_eq_true', Bool.or_eq_true, decide_eq_true_eq] at hl
  obtain ⟨⟨⟨⟨⟨-, hterminal⟩, hreach⟩, hsafe⟩, hdie⟩, hjoined⟩ := hl
  rw [writeAt_reaches hterminal hsafe hdie hr hjoined hreach]
  simp only [writeReg, hwindow, hme, hhub, hw, Bool.true_eq_false, if_false, Nat.mul_zero, Nat.add_zero]
  exact h.gated _

/-- A window of a command that is an access is one of the two. -/
theorem window_eq_some {d j : Nat} {q' : Requester} {r' : Reg} (h : window q r d j = some (q', r', i)) : j < 2 ∧ q' = q ∧ r' = r ∧ i = d * 2 + j := by
  unfold window at h
  split at h
  next hj => cases h; exact ⟨hj, rfl, rfl, rfl⟩
  next => cases h

theorem Observes.windowRow {j : Nat} (h : Observes q r j s) (hj : j < 2) (act : State → State) : windowRow q r j act s = act s := by
  rw [Machine.windowRow, if_pos hj, writeRow_answers h.answers]

theorem Observes.pdWindow {d j w : Nat} (h : Observes q r (d * 2 + j) s) (hj : j < 2) (act : State → State) : pdWindow q r d j w act s = act s := by
  rw [Machine.pdWindow, if_pos hj, pdRow_answers h.answers]

end

theorem regHas_escReact {i : Nat} (h : regHas .ESC_REACT i = true) : i < 5 := by
  have hplaces : (regInfo .ESC_REACT).places = [⟨1312256, [(5, 4)], 0⟩] := rfl
  rw [regHas, hplaces] at h
  simpa [Place.size] using h

/-- A write of the observer view to a register that it may not write leaves the violation. -/
theorem exec_observed {c : Instr} {q : Requester} {r : Reg} {i : Nat} {s : State} (hwf : wellFormed c = true) (h : accessOf c = some (q, r, i))
    (hrow : rowKind c = .write) (hmay : observerMay c = false) (ho : Observes q r i s) :
    exec c s = .next (privViolation q true (regOffset r i) s) := by
  cases c
  case tcamRead | tcamWrite | tcamClear | tcamMove | tcamInsert | tcamDelete | tcamSearch | emRead | emLookup | emInsert | emDelete | emFlush =>
    obtain ⟨hj, rfl, rfl, rfl⟩ := window_eq_some h
    exact congrArg _ ((ho.pdWindow hj _).trans (ho.gated _))
  case rwRead | rwWrite | scRead | scWrite | scChange =>
    obtain ⟨hj, rfl, rfl, rfl⟩ := window_eq_some h
    simp only [Nat.zero_mul, Nat.zero_add] at ho ⊢
    exact congrArg _ ((ho.windowRow hj _).trans (ho.gated _))
  case adminUpWrite | sdTxEqWrite =>
    cases h
    exact congrArg _ ((pdRow_answers ho.answers _ _).trans (ho.gated _))
  case gclChangeReq | gclCancel | rateAdjWrite | timeStep | timeSet | planApprove | planReject | freeze | unfreeze | replan | rx513TailWrite
    | tx513HeadWrite | swRaise | firstClear | faultNRelease | dieHoldSet | dieHoldClear | meReset | hifReset | rcvRead | rcvProgram | rcvErase
    | rcvCheck | rcvRestart | reload | mbxSubmit | otpRead | otpProgram =>
    cases h
    exact congrArg _ ((writeRow_answers ho.answers _).trans (ho.gated _))
  case threadStart | threadStop | chanCfgWrite | ucReload | ucScrub | ucRdAddrWrite | smpCfgWrite | smpTailWrite | channelRetrain =>
    cases h
    simp only [wellFormed, Bool.and_eq_true, decide_eq_true_eq] at hwf
    exact congrArg _ ((writeRow_answers ho.answers _).trans (ho.guarded (by omega) _))
  case dbgHalt | dbgStep | dbgResume | dbgAbort =>
    cases h
    simp only [wellFormed, decide_eq_true_eq] at hwf
    exact congrArg _ ((writeRow_answers ho.answers _).trans (ho.debugGuarded hwf _))
  case ringTailWrite | ringEnable | ringDisable =>
    cases h
    simp only [wellFormed, Bool.and_eq_true, decide_eq_true_eq] at hwf
    simp only [observerMay, beq_eq_false_iff_ne] at hmay
    exact congrArg _ ((writeRow_answers ho.answers _).trans (ho.ringGate hwf.1 hmay _))
  case pf1WinWrite =>
    cases h
    simp only [observerMay, beq_eq_false_iff_ne] at hmay
    refine congrArg _ ((writeRow_answers ho.answers _).trans ?_)
    rw [pf1WinWrite, if_neg hmay, ho.gated]
  case srcMaskWrite | srcEnableWrite =>
    cases h
    simp only [observerMay, Bool.not_eq_false'] at hmay
    refine congrArg _ ((writeRow_answers ho.answers _).trans ?_)
    simp only [srcMaskWrite, srcEnableWrite, hmay, if_true, ho.gated]
  case jtagResponseSubmit =>
    cases h
    simp only [observerMay, beq_eq_false_iff_ne] at hmay
    have hblock : blockOf (regOffset .JTAG_RESPONSE 3) = 0 := by decide +kernel
    have hpriv := ho.unprivileged
    rw [hblock] at hpriv
    refine congrArg _ ((writeRow_answers ho.answers _).trans ?_)
    rw [jtagResponse, ho.runs, if_neg (by simp), if_neg hmay, hpriv, if_neg (by simp)]
  case srcReactWrite esc n w =>
    cases h
    simp only [observerMay, beq_eq_false_iff_ne] at hmay
    simp only [wellFormed, Bool.and_eq_true, decide_eq_true_eq] at hwf
    refine congrArg _ ((writeRow_answers ho.answers _).trans ?_)
    have hhas := ho.has
    cases esc
    case false =>
      rw [srcReactWrite, if_neg (by decide), if_neg (by omega)]
      exact ho.gated _
    case true =>
      have hn : i < 5 := regHas_escReact hhas
      rw [srcReactWrite, if_pos rfl, if_neg (by omega)]
      exact ho.gated _
  case editCfgWrite rtag v =>
    cases h
    refine congrArg _ ((writeRow_answers ho.answers _).trans ?_)
    cases rtag <;> simp only [Bool.false_eq_true, if_false, if_true] at ho ⊢
    · exact ho.writeAt (by decide +kernel) rfl (fun _ => rfl) (fun _ => rfl) (fun _ => rfl)
    · exact ho.writeAt (by decide +kernel) rfl (fun _ => rfl) (fun _ => rfl) (fun _ => rfl)
  case pmcWrite hi v =>
    cases h
    simp only [wellFormed, Bool.and_eq_true, decide_eq_true_eq] at hwf
    refine congrArg _ ((writeRow_answers ho.answers _).trans ?_)
    rw [pmcWrite, if_neg (by omega), ho.gated]
  case complete | ssIndexWrite => cases hmay
  all_goals cases hrow

/-- Settles O9: a write that comes at once to its register, in the observer view, meets the hypotheses of Observes. -/
theorem observerWritesViolate : Obligations.ObserverWritesViolate :=
  fun _ _ _ _ _ hwf h hrow hmay hanswers hpriv => exec_observed hwf h hrow hmay ⟨hanswers, hpriv⟩

end Sys2Proof.Machine

/-! PROOF. What exec answers for a command that works: the state that its operation leaves. Each row stands behind the gate of its part
(notes/assumptions/1.md to 5.md; 15_faults.md R386; 17_startup_image.md R420, R441), and a command that works passes it. -/

namespace Sys2Proof.Machine

section
variable {f : State → State} {s t : State} {q : Requester} {r : Reg} {i w d j : Nat}

/-- The answer of a row. -/
abbrev Answer := Host.Outcome State Fault Refusal

theorem engine_next (hw : (!s.ldr.held && !s.terminal && !s.safe) = true) (h : f s = t) : (.next (engine f s) : Answer) = .next t :=
  congrArg _ ((engine_runs hw).trans h)

theorem clocked_next (hw : (!s.ldr.held && !s.terminal) = true) (h : f s = t) : (.next (clocked f s) : Answer) = .next t :=
  congrArg _ ((clocked_runs hw).trans h)

theorem powered_next (hw : (!s.ldr.held) = true) (h : f s = t) : (.next (powered f s) : Answer) = .next t :=
  congrArg _ ((powered_runs hw).trans h)

theorem writeRow_next (hw : (answers q r i s && privileged q (blockOf (regOffset r i)) s) = true) (h : f s = t) :
    (.next (writeRow q r i f s) : Answer) = .next t :=
  congrArg _ ((writeRow_runs hw).1.trans h)

theorem pdRow_next (hw : (answers q r i s && privileged q (blockOf (regOffset r i)) s) = true) (h : f s = t) :
    (.next (pdRow q r i w f s) : Answer) = .next t :=
  congrArg _ ((pdRow_runs hw).1.trans h)

theorem windowRow_next (hw : (match window q r 0 j with
      | some (q, r, i) => answers q r i s && privileged q (blockOf (regOffset r i)) s | none => false) = true) (h : f s = t) :
    (.next (windowRow q r j f s) : Answer) = .next t :=
  congrArg _ ((windowRow_runs hw).1.trans h)

theorem pdWindow_next (hw : (match window q r d j with
      | some (q, r, i) => answers q r i s && privileged q (blockOf (regOffset r i)) s | none => false) = true) (h : f s = t) :
    (.next (pdWindow q r d j w f s) : Answer) = .next t :=
  congrArg _ ((pdWindow_runs hw).1.trans h)

theorem readRow_next (hw : answers q r i s = true) (hr : regAt (regOffset r i) = some ⟨r, i, 0⟩) (ha : regOffset r i % 4 = 0)
    (h : readReg q ⟨r, i, 0⟩ s = t) : (.next (readRow q r i s) : Answer) = .next t :=
  congrArg _ ((readRow_runs hw hr ha).trans h)

/-- A register that answers is of a part that runs: the Terminal state answers none. -/
theorem runs_of_answers (ha : answers q r i s = true) : s.terminal = false := by
  simp only [answers, lands, Bool.and_eq_true, Bool.not_eq_true'] at ha
  obtain ⟨⟨⟨⟨⟨⟨-, hterminal⟩, -⟩, -⟩, -⟩, -⟩, -⟩ := ha
  exact hterminal

theorem terminal_of_answers (hw : (answers q r i s && privileged q (blockOf (regOffset r i)) s) = true) : s.terminal = false :=
  runs_of_answers ((Bool.and_eq_true_iff.mp hw).1)

/-- A write row whose register answers acts, whatever the view of its requester. -/
theorem answered_next (ha : answers q r i s = true) (h : f s = t) : (.next (writeRow q r i f s) : Answer) = .next t :=
  congrArg _ ((if_pos ((Bool.and_eq_true_iff.mp ha).1)).trans h)

/-- A gated write of a register that answers in the privileged view acts. -/
theorem gated_runs (hw : (answers q r i s && privileged q (blockOf (regOffset r i)) s) = true) (g : State → State) :
    gated q (regOffset r i) g s = g s :=
  (answers_gated hw).2.2 g

end

section
variable {t : Nat} {i : Issue} {op : MeOp} {s s1 u : State}

/-- An instruction that issues and has its effect retires. -/
theorem insn_retires (hw : (!s.ldr.held) = true) (hi : issues t i op s = true) (h1 : issued t i s = s1) (he : effOf t op s1 = .retire u) :
    (.next (powered (runInsn t i op) s) : Answer) = .next (retires t i op s u) :=
  powered_next hw (runInsn_retires hi (h1 ▸ he))

/-- An instruction that issues and does not end holds its thread. -/
theorem insn_waits (hw : (!s.ldr.held) = true) (hi : issues t i op s = true) (h1 : issued t i s = s1) (he : effOf t op s1 = .hold u) :
    (.next (powered (runInsn t i op) s) : Answer) = .next (waits t s u) :=
  powered_next hw (by rw [runInsn_issues hi, h1, he])

end

end Sys2Proof.Machine

/-! PROOF. The arithmetic instructions (13_me_instruction_set.md Table 13.2, R334). -/

namespace Sys2Proof.Machine

/-- Settles O44: the effect of every row is the retirement with its result in rd, by the definition of effOf. -/
theorem arithmeticInsnsComplete : Obligations.ArithmeticInsnsComplete := by
  refine ⟨?alu, ?addi, ?andi, ?ori, ?xori, ?shli, ?shri, ?sari, ?lui, ?orsh, ?slti, ?sltiu⟩
  case alu =>
    intro s t i rd ra rb func s1 hw hi h1
    exact insn_retires hw hi h1 rfl
  all_goals
    intro s t i rd ra imm s1 hw hi h1
    exact insn_retires hw hi h1 rfl
end Sys2Proof.Machine

/-! PROOF. Loads, stores and atomic operations (13_me_instruction_set.md R338, R339; 12_management_engine.md R311). -/

namespace Sys2Proof.Machine

section
variable {t k rd ra rb rs imm a func : Nat} {s : State}

/-- An aligned load inside the view writes what it read to rd. -/
theorem effOf_load (ha : effAddr t ra imm s = a) (halign : a % (loadSize k).1 = 0) (hmay : mayLoad t a s = true) :
    effOf t (.load k rd ra imm) s =
      retireReg t rd (if (loadSize k).2 then sext 32 (leNat (meRead a (loadSize k).1 s)) else leNat (meRead a (loadSize k).1 s))
        (noteRead t a (loadSize k).1 s) := by
  simp only [effOf, effLoad, ha, halign, hmay, ne_eq, not_true, if_false, Bool.true_eq_false]

/-- An aligned store inside the view writes the low bytes of its register. -/
theorem effOf_store (ha : effAddr t ra imm s = a) (halign : a % 2 ^ (3 - k % 4) = 0) (hmay : mayStore t a s = true) :
    effOf t (.store k rs ra imm) s =
      retireNext t (meWrite a (toLe (2 ^ (3 - k % 4)) (gpr t rs s)) (if a < 0x40000000 then s else pmcThread t 16 1 s)) := by
  simp only [effOf, effStore, ha, halign, hmay, ne_eq, not_true, if_false, Bool.true_eq_false]

/-- An aligned atomic operation inside the view returns the old value, and writes the new one where it has one. -/
theorem effOf_amo (ha : gpr t ra s = a) (halign : a % 8 = 0) (hmay : mayAmo t a s = true) :
    effOf t (.amo func rd ra rb) s = retireReg t rd (leNat (meRead a 8 s))
      (match amoNew func (leNat (meRead a 8 s)) (gpr t rb s) (gpr t rd s) with
        | some v => meWrite a (toLe 8 v) (noteRead t a 8 s)
        | none => noteRead t a 8 s) := by
  simp only [effOf, effAmo, ha, halign, hmay, ne_eq, not_true, if_false, Bool.true_eq_false] <;> rfl

end

/-- Settles O45: the cases of a load are signed and unsigned, of a store its region, of an atomic operation its function and, for CAS, whether the old
value is the expected one. -/
theorem memoryInsnsComplete : Obligations.MemoryInsnsComplete := by
  refine ⟨?loadUnsigned, ?loadSigned, ?storeSram, ?storeDram, ?swap, ?fadd, ?fand, ?for_, ?casEqual, ?casOther⟩
  case loadUnsigned | loadSigned =>
    intro s t i k rd ra imm s1 a hw hi h1 ha halign hmay hsigned
    refine insn_retires hw hi h1 ((effOf_load ha halign hmay).trans ?_)
    simp only [hsigned, if_true, Bool.false_eq_true, if_false]
    rfl
  case storeSram =>
    intro s t i k rs ra imm s1 a hw hi h1 ha halign hmay hsram
    refine insn_retires hw hi h1 ((effOf_store ha halign hmay).trans ?_)
    rw [if_pos hsram]
    rfl
  case storeDram =>
    intro s t i k rs ra imm s1 a hw hi h1 ha halign hmay hdram
    refine insn_retires hw hi h1 ((effOf_store ha halign hmay).trans ?_)
    rw [if_neg (Nat.not_lt.mpr hdram)]
    rfl
  case swap | fadd | fand | for_ =>
    rintro s t i rd ra rb s1 a old hw hi h1 ha halign hmay rfl
    exact insn_retires hw hi h1 (effOf_amo ha halign hmay)
  case casEqual | casOther =>
    intro s t i rd ra rb s1 a hw hi h1 ha halign hmay hold
    refine insn_retires hw hi h1 ((effOf_amo ha halign hmay).trans ?_)
    simp only [amoNew, hold, if_true, if_false]
    rfl
end Sys2Proof.Machine

/-! PROOF. SEND and RECV (13_me_instruction_set.md R344; 12_management_engine.md R315, R316). -/

namespace Sys2Proof.Machine

section
variable {t rd rs ch word : Nat} {close : Bool} {s : State}

/-- A register of a thread holds no field of the register map. -/
theorem setGpr_fld (t r v : Nat) (s : State) (f : Fld) (i : Nat) : (setGpr t r v s).fld f i = s.fld f i := by
  unfold setGpr
  split <;> rfl

/-- A channel that no other thread holds is not busy for `t`. -/
theorem holder_free {h : Option Nat} (hholder : h = none ∨ h = some t) : ¬ (h.isSome = true ∧ h ≠ some t) := by
  rcases hholder with rfl | rfl <;> simp

/-- The channel with the word staged. -/
def stagedChan (t rs ch word : Nat) (s : State) : State :=
  putChan ch { chanAt ch s with
    staging := tset 0 (chanAt ch s).staging word (gpr t rs s), written := setBit (chanAt ch s).written word true, holder := some t }
    (max (s.fld F.CHAN_STATUS_STAGED ch) (word + 1)) s

/-- What a SEND of the writer to an enabled channel that no other thread holds leaves. -/
theorem effSend_writer (henable : s.fld F.CHAN_CFG0_ENABLE ch ≠ 0) (hwriter : s.fld F.CHAN_CFG0_WRITER ch = t)
    (hholder : (chanAt ch s).holder = none ∨ (chanAt ch s).holder = some t) :
    effSend t rd rs close word ch s =
      if close = false then retireReg t rd 0 (stagedChan t rs ch word s)
      else if s.fld F.CHAN_CFG0_DEPTH ch ≤ (chanAt ch s).queue.length then retireReg t rd 1 (pmcThread t 24 1 (stagedChan t rs ch word s))
      else if msgShare t s = false then retireReg t rd 2 (pmcThread t 25 1 ((stagedChan t rs ch word s).bump F.SHARE_REFUSED 0))
      else
        let msg := (List.range (word + 1)).map (fun i => tget 0 (tset 0 (chanAt ch s).staging word (gpr t rs s)) i)
        let s1 := takeMsg t (putChan ch { staging := [], holder := none, queue := (chanAt ch s).queue ++ [(t, msg)] } 0 s)
        let s2 := raiseEvent (s.fld F.CHAN_CFG0_READER ch) (s.fld F.CHAN_CFG1_RD_EVENT ch) s1
        retireReg t rd 0 (if 224 ≤ ch ∧ s.fld F.CHAN_CFG0_READER ch = 2 then s2.withHif { s2.hif with mbxChan := s2.hif.mbxChan ++ [ch] } else s2) := by
  rw [effSend, if_neg (by simp [henable, hwriter]), if_neg (holder_free hholder)]
  rfl

/-- A RECV of the reader of an enabled channel takes the front of its queue. -/
theorem effRecv_reader (henable : s.fld F.CHAN_CFG0_ENABLE ch ≠ 0) (hreader : s.fld F.CHAN_CFG0_READER ch = t) :
    effRecv t rd rs close word ch s = (match (chanAt ch s).queue with
      | [] => retireReg t rs 4 (setGpr t rd 0 (pmcThread t 26 1 s))
      | (w, msg) :: rest =>
        let s1 := setGpr t rd (msg.getD word 0) s
        retireReg t rs 0 (if close then
            raiseEvent (s.fld F.CHAN_CFG0_WRITER ch) (s.fld F.CHAN_CFG1_WR_EVENT ch)
              (returnMsg w (putChan ch { chanAt ch s with queue := rest } (s.fld F.CHAN_STATUS_STAGED ch) s1))
          else s1)) := by
  rw [effRecv, if_neg (by simp [henable, hreader])] <;> rfl

/-- A pool RECV whose share holds takes a free buffer. -/
theorem effOf_poolRecv_free {b : Nat} (hshare : bufShare t s = true)
    (hfree : (List.range 1024).find? (fun b => (tget none s.me.bufHolder b).isNone) = some b) :
    effOf t (.recv rd rs true true 0 0) s = retireReg t rs 0 (setGpr t rd b (takeBuf t b s)) := by
  generalize hl : List.range 1024 = l at hfree
  show effPoolRecv t rd rs s = _
  unfold effPoolRecv
  rw [if_neg (by rw [hshare]; decide), hl, hfree]

/-- A pool RECV beyond its share is refused; the buffer number it answers is the configuration's. -/
theorem effOf_poolRecv_refused (hshare : bufShare t s = false) :
    effOf t (.recv rd rs true true 0 0) s = retireReg t rs 2 (setGpr t rd (Config.refusedBuffer s.dp.fresh).toNat
      (pmcThread t 25 1 ({ s with dp := { s.dp with fresh := s.dp.fresh + 1 } }.bump F.SHARE_REFUSED 0))) := by
  show effPoolRecv t rd rs s = _
  unfold effPoolRecv
  rw [if_pos hshare]

end

/-- Settles O47: a channel held by another thread is busy; otherwise a SEND ends by the cases of effSend_writer, a RECV by those of its queue. -/
theorem channelInsnsComplete : Obligations.ChannelInsnsComplete := by
  refine ⟨?sendBusy, ?sendStaged, ?sendFull, ?sendShare, ?sendClosed, ?recvEmpty, ?recvWord, ?recvClosed, ?poolRecv, ?poolRecvShare, ?poolSend⟩
  case sendBusy =>
    intro s t i rd rs close word ch s1 u hw hi h1 henable hwriter hholder hother
    refine insn_retires hw hi h1 ?_
    simp [effOf, effSend, henable, hwriter, hholder, hother]
    rfl
  case sendStaged =>
    rintro s t i rd rs word ch s1 s2 hw hi h1 henable hwriter hholder rfl
    exact insn_retires hw hi h1 ((effSend_writer henable hwriter hholder).trans (if_pos rfl))
  case sendFull =>
    rintro s t i rd rs word ch s1 s2 hw hi h1 henable hwriter hholder rfl hfull
    exact insn_retires hw hi h1 ((effSend_writer henable hwriter hholder).trans (if_pos hfull))
  case sendShare =>
    rintro s t i rd rs word ch s1 s2 hw hi h1 henable hwriter hholder rfl hroom hshare
    exact insn_retires hw hi h1 ((effSend_writer henable hwriter hholder).trans ((if_neg (Nat.not_le.mpr hroom)).trans (if_pos hshare)))
  case sendClosed =>
    rintro s t i rd rs word ch s1 s2 hw hi h1 henable hwriter hholder hroom hshare hch rfl
    refine insn_retires hw hi h1 ((effSend_writer henable hwriter hholder).trans ?_)
    rw [if_neg (by decide), if_neg (Nat.not_le.mpr hroom), if_neg (by simp [hshare])]
    simp only [Nat.not_le.mpr hch, false_and, if_false]
    rfl
  case recvEmpty =>
    intro s t i rd rs close word ch s1 hw hi h1 henable hreader hqueue
    refine insn_retires hw hi h1 ((effRecv_reader henable hreader).trans ?_)
    rw [hqueue]
    rfl
  case recvWord =>
    intro s t i rd rs word ch s1 u msg more hw hi h1 henable hreader hqueue
    refine insn_retires hw hi h1 ((effRecv_reader henable hreader).trans ?_)
    rw [hqueue]
    rfl
  case recvClosed =>
    rintro s t i rd rs word ch s1 u msg more s2 hw hi h1 henable hreader hqueue rfl
    refine insn_retires hw hi h1 ((effRecv_reader henable hreader).trans ?_)
    rw [hqueue]
    simp only [setGpr_fld, if_true]
    rfl
  case poolRecv =>
    intro s t i rd rs s1 b hw hi h1 hshare hfree
    exact insn_retires hw hi h1 (effOf_poolRecv_free hshare hfree)
  case poolRecvShare =>
    intro s t i rd rs s1 hw hi h1 hshare
    exact insn_retires hw hi h1 (effOf_poolRecv_refused hshare)
  case poolSend =>
    rintro s t i rd rs s1 b hw hi h1 rfl hb hholds
    exact insn_retires hw hi h1 (if_pos ⟨hb, hholds⟩)
end Sys2Proof.Machine

/-! PROOF. WFE, TIMER, SAMPLE and the device instructions (13_me_instruction_set.md R342 to R346; 12_management_engine.md R313). -/

namespace Sys2Proof.Machine

section
variable {t rd ra imm a : Nat} {s : State}

/-- A device read inside the register map holds its thread. -/
theorem effOf_devr (ha : effAddr t ra imm s = a) (halign : a % 4 = 0) (hmap : a < 0x4000000) :
    effOf t (.devr rd ra imm) s = holds t 0x3C (s.withMe { s.me with devr := tset none s.me.devr t (some (rd, a)) }) := by
  simp only [effOf, effDevr, ha, halign, Nat.not_le.mpr hmap, ne_eq, not_true, if_false]

/-- A device write inside the register map joins the queue of its core, or holds its thread where the queue is full. -/
theorem effOf_devw (ha : effAddr t ra imm s = a) (halign : a % 4 = 0) (hmap : a < 0x4000000) :
    effOf t (.devw rd ra imm) s = if 16 ≤ (tget [] s.me.devw (t / 8)).length then holds t 0x3D s
      else retireNext t (s.withMe { s.me with
        devw := tset [] s.me.devw (t / 8) (tget [] s.me.devw (t / 8) ++ [(t, a, gpr t rd s % 2 ^ 32)]) }) := by
  simp only [effOf, effDevw, ha, halign, Nat.not_le.mpr hmap, ne_eq, not_true, if_false]

end

/-- Settles O48: what an instruction waits for is there or not. -/
theorem waitingInsnsComplete : Obligations.WaitingInsnsComplete := by
  refine ⟨?wfeTakes, ?wfeWaits, ?wfeWake, ?timerStops, ?timerRuns, ?timerExpiry, ?sample, ?devr, ?devrRetire, ?devwPosted, ?devwFull, ?devwTakes,
    ?devsyncDone, ?devsyncWaits⟩
  case wfeTakes =>
    rintro s t i rd ra imm s1 m hw hi h1 rfl hm
    exact insn_retires hw hi h1 (if_pos hm)
  case wfeWaits =>
    rintro s t i rd ra imm s1 mask s2 hw hi h1 rfl hm rfl
    exact insn_waits hw hi h1 (if_neg (not_not_intro hm))
  case wfeWake =>
    rintro s t i m hw ht hwait hcore rfl hm
    refine powered_next hw ?_
    simp only [wfeWake, Nat.not_le.mpr ht, hwait, hcore, hm, ne_eq, not_true, Bool.true_eq_false, or_self, if_false]
  case timerStops =>
    intro s t i rd ra imm s1 hw hi h1 hzero
    refine insn_retires hw hi h1 ?_
    simp only [effOf, effTimer, hzero, if_true]
    rfl
  case timerRuns =>
    intro s t i rd ra imm s1 hw hi h1 hcount
    refine insn_retires hw hi h1 ?_
    simp only [effOf, effTimer, hcount, if_false]
    rfl
  case timerExpiry =>
    intro s t n hw htimer
    refine engine_next hw ?_
    simp only [timerExpiry, htimer]
  case sample =>
    intro s t i rd ra imm s1 hw hi h1
    exact insn_retires hw hi h1 rfl
  case devr =>
    intro s t i rd ra imm s1 a hw hi h1 ha halign hmap
    exact insn_waits hw hi h1 (effOf_devr ha halign hmap)
  case devrRetire =>
    intro s t i rd a hw hread hbefore hlink
    refine engine_next hw ?_
    simp only [devrRetire, hread, hbefore, hlink, Bool.false_eq_true, or_self, if_false]
  case devwPosted =>
    intro s t i rd ra imm s1 a hw hi h1 ha halign hmap hroom
    exact insn_retires hw hi h1 ((effOf_devw ha halign hmap).trans (if_neg (Nat.not_le.mpr hroom)))
  case devwFull =>
    intro s t i rd ra imm s1 a hw hi h1 ha halign hmap hfull
    exact insn_waits hw hi h1 ((effOf_devw ha halign hmap).trans (if_pos hfull))
  case devwTakes =>
    intro s c t a v more hw hqueue hlink
    refine engine_next hw ?_
    simp only [devwTake, hqueue, hlink, Bool.false_eq_true, if_false]
  case devsyncDone =>
    intro s t i s1 hw hi h1 hnone
    exact insn_retires hw hi h1 (if_neg (by simp [hnone]))
  case devsyncWaits =>
    intro s t i s1 hw hi h1 hany
    exact insn_waits hw hi h1 (if_pos hany)
end Sys2Proof.Machine

/-! PROOF. Register accesses that reach a register (00_scope.md R7 to R14; 19_register_map.md R474 to R482). -/

namespace Sys2Proof.Machine

section
variable {q : Requester} {o v a : Nat} {s : State}

/-- A write of a word at an offset that the requester reaches is made there, or waits for the link. -/
theorem regWrite_reach (hbus : busUp q s = true) (hreach : reach q o s = some a) :
    regWrite q o v s = if linkWaits a s then sidePut { req := q, off := a, word := some (v % 2 ^ 32) } s else writeAt q a v s := by
  rw [regWrite, if_neg (by simp [hbus]), hreach]

/-- A write in the Terminal state or at the offset of no register is discarded. -/
theorem writeAt_discarded (h : s.terminal = true ∨ regAt a = none) : writeAt q a v s = s := by
  rcases h with h | h
  · rw [writeAt, if_pos (.inl h)]
  · simp only [writeAt, h, ite_self]

/-- A privileged write of Q_MIN changes the reserve of its queue. -/
theorem writeReg_qMin {i w : Nat} (hterminal : s.terminal = false) (hpriv : privileged q (blockOf (regOffset .Q_MIN i)) s = true)
    (hblock : blockOf (regOffset .Q_MIN i) < 13) : writeReg q ⟨.Q_MIN, i, 0⟩ w s = qMinChange i (w % 2 ^ 20) s := by
  have hwritable : Reg.Q_MIN.writable = true := by decide
  simp only [writeReg, windowPut, mePut, hubPut, bufferPut, hwritable, Bool.true_eq_false, if_false]
  rw [gated, if_neg (by simp [hterminal]), if_neg (by simp; omega)]
  simp only [Nat.mul_zero, Nat.add_zero]
  rw [if_pos hpriv]

end

/-- Settles O26, by where the access goes, its size, and the view of the requester. -/
theorem registerAccessesComplete : Obligations.RegisterAccessesComplete := by
  refine ⟨?written, ?discarded, ?waits, ?writeSize, ?qMin, ?wideRead, ?wideSize, ?clearingRead, ?observerRead, ?clearingSize, ?violLast⟩
  case written =>
    intro s q o v a r _ hcomes hterminal
    exact congrArg Host.Outcome.next ((if_pos rfl).trans (regWrite_reaches hcomes hterminal))
  case discarded =>
    intro s q o v a _ hbus hreach hlink h
    refine congrArg Host.Outcome.next ((if_pos rfl).trans ((regWrite_reach hbus hreach).trans ?_))
    rw [hlink, if_neg (by decide), writeAt_discarded h]
  case waits =>
    intro s q o v a _ hbus hreach hlink
    exact congrArg Host.Outcome.next ((if_pos rfl).trans ((regWrite_reach hbus hreach).trans (if_pos hlink)))
  case writeSize =>
    intro s q n o v _ hsize hbus
    exact congrArg Host.Outcome.next ((if_neg hsize).trans (if_pos hbus))
  case qMin =>
    intro s q o v a i _ hcomes hterminal hpriv hblock
    refine congrArg Host.Outcome.next ((regWrite_reaches hcomes hterminal).trans ?_)
    rw [writeReg_qMin hterminal hpriv hblock, Nat.mod_mod_of_dvd v (by decide)]
  case wideRead =>
    intro s q o a r i ws _ hcomes hplain hlatch hpriv
    refine congrArg Host.Outcome.next ((if_pos rfl).trans ((regRead_reaches hcomes).trans ?_))
    rw [readReg_plain hplain, hlatch, hpriv]
    rfl
  case wideSize | clearingSize =>
    intro s q n o _ hsize hbus
    exact congrArg Host.Outcome.next ((if_neg hsize).trans (if_pos hbus))
  case clearingRead =>
    intro s q o a r i _ hcomes hplain hlatch hpriv
    refine congrArg Host.Outcome.next ((if_pos rfl).trans ((regRead_reaches hcomes).trans ?_))
    rw [readReg_plain hplain, hlatch, hpriv]
    rfl
  case observerRead =>
    intro s q o a r i _ hcomes hplain hlatch hpriv hnoP
    refine congrArg Host.Outcome.next ((if_pos rfl).trans ((regRead_reaches hcomes).trans ?_))
    rw [readReg_plain hplain, hlatch, hpriv, hnoP]
    rfl
  case violLast =>
    rintro s q s1 hw hpriv rfl
    have hblock : blockOf (regOffset .PRIV_VIOL_LAST 0) = 0 := by decide +kernel
    refine readRow_next hw (by decide +kernel) (by decide +kernel) ?_
    rw [readReg_plain (by decide), hblock, hpriv]
    simp only [if_true, latchWords]

end Sys2Proof.Machine

/-! PROOF. Ports: received frames, MAC control frames, the state of a link, flushes and holds (01_architecture.md, 02_ports.md, 07_shared_buffer.md,
08_egress_scheduling.md, 09_time_base.md, 20_electrical_package.md). -/

namespace Sys2Proof.Machine

/-- A frame without an end, on an Ethernet port, that still receives or is longer than its window may end. -/
theorem rxEnd_proceeds {fr : Frame} {bs : List Byte} (hport : fr.port < 512) (hlen : fr.len = none) (hstage : fr.stage = .receiving ∨ 192 < bs.length) :
    ¬ (512 ≤ fr.port ∨ fr.len.isSome = true ∨ (fr.stage ≠ .receiving ∧ bs.length ≤ 192)) := by
  rintro (h | h | ⟨hr, hs⟩)
  · omega
  · simp [hlen] at h
  · rcases hstage with hstage | hstage
    · exact hr hstage
    · omega

/-- Settles O27, by the checks at the start of a frame, the check of its tail and the result of a fragment. -/
theorem receivedFramesComplete : Obligations.ReceivedFramesComplete := by
  refine ⟨?start, ?endGood, ?endMacControl, ?endPtp, ?endBad, ?ptp, ?fragmentJoined, ?fragmentAssemblyErr, ?fragmentSmdErr, ?lateFragment, ?lateSmdErr⟩
  case start =>
    intro s f p frags hw hruns hport hlink hframe hpreempt
    refine engine_next hw ?_
    rw [rxStart, if_neg]
    rintro (h | h | h | h | ⟨hfrags, h⟩)
    · simp [hruns] at h
    · omega
    · omega
    · simp [hframe] at h
    · have := hpreempt hfrags
      omega
  case endGood =>
    intro s f bs codeErr corr uncorr fr hw hFrameAt hPort hLen hStage hRxCheck hIsMacControl hIsPtp
    refine engine_next hw ?_
    simp only [rxEnd, hFrameAt, if_neg (rxEnd_proceeds hPort hLen hStage), hRxCheck, hIsMacControl, hIsPtp, Bool.false_eq_true, if_false]
  case endMacControl =>
    intro s f bs codeErr corr uncorr fr hw hFrameAt hPort hLen hStage hRxCheck hIsMacControl
    refine engine_next hw ?_
    simp only [rxEnd, hFrameAt, if_neg (rxEnd_proceeds hPort hLen hStage), hRxCheck, hIsMacControl, if_true]
  case endPtp =>
    intro s f bs codeErr corr uncorr fr hw hFrameAt hPort hLen hStage hRxCheck hIsMacControl hIsPtp
    refine engine_next hw ?_
    simp only [rxEnd, hFrameAt, if_neg (rxEnd_proceeds hPort hLen hStage), hRxCheck, hIsMacControl, hIsPtp, Bool.false_eq_true, if_false, if_true]
  case endBad =>
    rintro s f bs codeErr corr uncorr fr c hw hFrameAt hPort hLen hStage hcheck hbad
    refine engine_next hw ?_
    simp only [rxEnd, hFrameAt, if_neg (rxEnd_proceeds hPort hLen hStage), hcheck]
  case ptp =>
    intro s f bs fr hw hFrameAt hLen hRxCheck hIsPtp
    refine engine_next hw ?_
    simp [ptpReceived, hFrameAt, hLen, hRxCheck, hIsPtp]
  case fragmentJoined =>
    intro s f bs fr hw hFrameAt hFragments hLen hStage
    refine engine_next hw ?_
    simp [fragmentReceived, hFrameAt, hFragments, hLen, hStage]
  case fragmentAssemblyErr =>
    intro s f bs fr hw hFrameAt hFragments hLen hStage
    refine engine_next hw ?_
    simp [fragmentReceived, hFrameAt, hFragments, hLen, hStage]
  case fragmentSmdErr =>
    intro s f bs fr hw hFrameAt hFragments hLen hStage
    refine engine_next hw ?_
    simp [fragmentReceived, hFrameAt, hFragments, hLen, hStage]
  case lateFragment =>
    intro s f bs fr hw hFrameAt hFragments hLen hStage
    refine engine_next hw ?_
    simp [fragmentReceived, hFrameAt, hFragments, hLen, hStage]
  case lateSmdErr =>
    intro s f bs fr hw hFrameAt hFragments hLen hStage hStage2
    refine engine_next hw ?_
    simp [fragmentReceived, hFrameAt, hFragments, hLen, hStage, hStage2]

/-- Settles O28, by the flow mode of the port and the control frame. -/
theorem macControlCompletes : Obligations.MacControlCompletes := by
  refine ⟨?pauseObeyed, ?pauseCounted, ?pfcObeyed, ?pfcCounted, ?otherControl, ?pauseExpiry, ?sendPause, ?sendPfc, ?refreshPfc, ?refreshPause⟩
  case pauseObeyed =>
    intro s p l quanta hw hLinkUp hFlowMode
    refine engine_next hw ?_
    simp [pauseReceived, hLinkUp, hFlowMode]
  case pauseCounted =>
    intro s p l quanta hw hLinkUp hFlowMode
    refine engine_next hw ?_
    simp [pauseReceived, hLinkUp, hFlowMode]
  case pfcObeyed =>
    intro s p l enables quanta hw hLinkUp hFlowMode
    refine engine_next hw ?_
    simp [pfcReceived, hLinkUp, hFlowMode]
  case pfcCounted =>
    intro s p l enables quanta hw hLinkUp hFlowMode
    refine engine_next hw ?_
    simp [pfcReceived, hLinkUp, hFlowMode]
  case otherControl =>
    intro s p l hw hLinkUp
    refine engine_next hw ?_
    simp [controlOther, countRx, hLinkUp]
  case pauseExpiry =>
    intro s p n hw
    exact engine_next hw rfl
  case sendPause =>
    intro s p mask quanta rest hw hPortSt hPortSt2 hFlowMode
    refine engine_next hw ?_
    simp [pfcTransmit, hPortSt, hPortSt2, hFlowMode]
  case sendPfc =>
    intro s p mask quanta rest hw hPortSt hPortSt2 hFlowMode
    refine engine_next hw ?_
    simp [pfcTransmit, hPortSt, hPortSt2, hFlowMode]
  case refreshPfc =>
    intro s p n hw hStatusXoff hFlowMode
    refine engine_next hw ?_
    simp [pfcRefresh, hStatusXoff, hFlowMode]
  case refreshPause =>
    intro s p hw hStatusXoff hFlowMode
    refine engine_next hw ?_
    simp [pfcRefresh, hStatusXoff, hFlowMode]

theorem lanesOf_group {p : Nat} {s : State} (h : s.fld F.PORT_CFG_MODE p = 6) : lanesOf p s = [p, p + 1, p + 2, p + 3] := if_pos h

theorem lanesOf_single {p : Nat} {s : State} (h : s.fld F.PORT_CFG_MODE p ≠ 6) : lanesOf p s = [p] := if_neg h

/-- Settles O29, by the mode of the port and its lanes. -/
theorem linkStateCompletes : Obligations.LinkStateCompletes := by
  refine ⟨?pathEthernet, ?pathSgmii, ?pathGroup, ?pathLane, ?adaptedPort, ?adaptedLane, ?anComplete, ?sgmiiUp, ?sgmiiDown, ?declaredUp, ?declaredDown,
    ?adminUp, ?adminDown, ?pllLost, ?pllLocked⟩
  case pathEthernet =>
    rintro s p lanes order skew lfSets rf s1 s2 hw hLaneOfGroup hPortExists hCfgMode hCfgMode2 rfl rfl
    refine engine_next hw ?_
    have hmode : ¬ s.fld F.PORT_CFG_MODE p < 4 := by omega
    simp only [rxPathStatus, hLaneOfGroup, hPortExists, lanesOf_single hCfgMode2, hCfgMode2, hmode, Bool.true_eq_false, Bool.false_eq_true, and_false,
      if_false, if_true, List.foldl_cons, List.foldl_nil]
    simp [hCfgMode2]
  case pathSgmii =>
    rintro s p lanes order skew lfSets rf s1 s2 hw hLaneOfGroup hPortExists hCfgMode rfl rfl
    refine engine_next hw ?_
    rcases hCfgMode with hmode | hmode <;>
      simp [rxPathStatus, hLaneOfGroup, hPortExists, hmode, lanesOf]
  case pathGroup =>
    rintro s p lanes order skew lfSets rf s1 s2 hw hLaneOfGroup hPortExists hCfgMode hLanesAlign rfl rfl
    refine engine_next hw ?_
    simp only [rxPathStatus, hLaneOfGroup, hPortExists, lanesOf_group hCfgMode, hLanesAlign, hCfgMode, Bool.true_eq_false, Bool.false_eq_true, if_false,
      if_true]
    simp
  case pathLane =>
    intro s p signal lock lanes order skew lfSets rf hw hLaneOfGroup
    refine engine_next hw ?_
    simp [rxPathStatus, hLaneOfGroup]
  case adaptedPort =>
    intro s p hw hLaneOfGroup hPortExists hCfgMode hSignalDetect
    refine engine_next hw ?_
    simp [adaptationDone, hLaneOfGroup, hPortExists, lanesOf_single hCfgMode, laneAdapted, hSignalDetect]
  case adaptedLane =>
    intro s p hw hLaneOfGroup hSignalDetect
    refine engine_next hw ?_
    simp [adaptationDone, hLaneOfGroup, laneAdapted, hSignalDetect]
  case anComplete =>
    intro s p rf hw hPortExists hCfgMode hAnEn hPcsLock
    refine engine_next hw ?_
    simp [anComplete, hPortExists, hCfgMode, hAnEn, hPcsLock]
  case sgmiiUp =>
    intro s p hw hPortExists hCfgMode
    refine engine_next hw ?_
    simp [sgmiiWord, hPortExists, hCfgMode]
  case sgmiiDown =>
    intro s p up full gig hw hPortExists hCfgMode hUp
    refine engine_next hw ?_
    simp [sgmiiWord, hPortExists, hCfgMode, hUp]
  case declaredUp =>
    intro s p hw hUpConditions hLinkUp
    refine engine_next hw ?_
    rw [linkUp, if_neg (by simp [hUpConditions, hLinkUp])]
    rfl
  case declaredDown =>
    intro s p hw hLinkUp hLinkConditions
    refine engine_next hw ?_
    simp [linkDown, hLinkUp, hLinkConditions]
  case adminUp =>
    intro s q p hw hJoinedLane
    refine pdRow_next hw ?_
    simp [adminUpWrite, gated_runs hw, hJoinedLane]
  case adminDown =>
    intro s q p hw hJoinedLane hAdminUp
    refine pdRow_next hw ?_
    simp [adminUpWrite, gated_runs hw, hJoinedLane, hAdminUp]
  case pllLost =>
    intro s d r hw
    refine clocked_next hw ?_
    simp [quadPll]
  case pllLocked =>
    intro s d r hw
    refine clocked_next hw ?_
    simp [quadPll]

/-- A hold that is asked for or that the gate list needs is due. -/
theorem holdTake_due {p : Nat} {s : State} (h : (tget none s.dp.holdAt p).isSome = true ∨ (preemptActive p s = true ∧
      holdAhead p (nsUp (s.work + blockingOf p s + epsilonOf p s)) s 1024 (s.work / nsUnit) = true)) :
    holdTake p s =
      if s.fld F.MM_STATUS_HOLD p = 1 then { s with dp := { s.dp with holdAt := tset none s.dp.holdAt p none } } else holdNow p s := by
  have hdue : ((tget none s.dp.holdAt p).isSome ||
      (preemptActive p s && holdAhead p (nsUp (s.work + blockingOf p s + epsilonOf p s)) s 1024 (s.work / nsUnit))) = true := by
    simpa using h
  simp only [holdTake, hdue, Bool.true_eq_false, if_false]

/-- Settles O30: ; a hold that is due acts by the preemptable frame on the wire. -/
theorem portFlushAndHoldComplete : Obligations.PortFlushAndHoldComplete := by
  refine ⟨?drained, ?flushStart, ?flushComplete, ?verifyAgain, ?verifyFails, ?verified, ?holdIdleWire, ?holdCuts, ?holdUncut, ?holdBeforeFragment,
    ?holdAgain, ?holdRelease, ?sdTxEqWrite⟩
  case drained =>
    intro s p hw hPortSt hAny
    refine engine_next hw ?_
    simp [txDrainIdle, hPortSt, hAny]
  case flushStart =>
    intro s p hw hPortSt
    refine engine_next hw ?_
    rw [flushStart, if_neg (by simp [hPortSt])]
    rfl
  case flushComplete =>
    intro s p hw
    refine engine_next hw ?_
    simp [flushComplete]
  case verifyAgain =>
    intro s p hw hLinkUp hVerifyStatus hVerifyLimit
    refine engine_next hw ?_
    simp [verifyTimer, hLinkUp, hVerifyStatus, Nat.not_le.mpr hVerifyLimit]
  case verifyFails =>
    intro s p hw hLinkUp hVerifyStatus hVerifyLimit
    refine engine_next hw ?_
    simp [verifyTimer, hLinkUp, hVerifyStatus, hVerifyLimit]
  case verified =>
    intro s p hw hVerifyStatus
    refine engine_next hw ?_
    simp [respondReceived, hVerifyStatus]
  case holdIdleWire =>
    rintro s p s1 s2 hw hdue hhold rfl rfl hwire
    refine engine_next hw ((holdTake_due hdue).trans ((if_neg hhold).trans ?_))
    simp only [holdNow, hwire]
  case holdCuts =>
    rintro s p s1 s2 t c hw hdue hhold rfl rfl hwire hfrag hcut
    refine engine_next hw ((holdTake_due hdue).trans ((if_neg hhold).trans ?_))
    simp only [holdNow, hwire, Nat.not_le.mpr hfrag, if_false, hcut]
  case holdUncut =>
    rintro s p s1 s2 t hw hdue hhold rfl rfl hwire hfrag hcut
    refine engine_next hw ((holdTake_due hdue).trans ((if_neg hhold).trans ?_))
    simp only [holdNow, hwire, Nat.not_le.mpr hfrag, if_false, hcut]
  case holdBeforeFragment =>
    rintro s p s1 s2 t hw hdue hhold rfl rfl hwire hfrag
    refine engine_next hw ((holdTake_due hdue).trans ((if_neg hhold).trans ?_))
    simp only [holdNow, hwire, hfrag, if_true]
  case holdAgain =>
    intro s p hw hdue hhold
    exact engine_next hw ((holdTake_due hdue).trans (if_pos hhold))
  case holdRelease =>
    intro s p hw
    refine engine_next hw ?_
    simp [holdRelease]
  case sdTxEqWrite =>
    intro s q p w hw hBitsOf hBitsOf2
    refine pdRow_next hw ?_
    simp [sdTxEqWrite, gated_runs hw, Nat.not_lt.mpr hBitsOf, Nat.not_lt.mpr hBitsOf2]

end Sys2Proof.Machine

/-! PROOF. Commands of the TCAM and of the exact-match tables, the scrubber, learning and ageing (04_associative_search.md R92 to R110;
05_exact_match_learning.md R113 to R135). -/

namespace Sys2Proof.Machine

/-- The end of the oldest command of a die's engine writes the result fields of its window. -/
theorem tcamFinish_ends {d j : Nat} {ue : List (Nat × Bool)} {c : TcamCmd} {s s0 s1 : State} {e : CmdEnd}
    (hc : s.tb.tcamRun.find? (fun c => c.d == d) = some c) (hj : c.j = j)
    (h0 : { s with tb := { s.tb with tcamRun := s.tb.tcamRun.filter (fun x => x != c) } } = s0) (he : tcamEffect c ue s0 = (s1, e)) :
    tcamFinish d j ue s = putEnd F.TCAM_STATUS_BUSY F.TCAM_STATUS_RESULT (some F.TCAM_STATUS_MOVES) (some F.TCAM_STATUS_HIT)
      (some F.TCAM_STATUS_RESULT_ADDR) (d * 2 + j) e (if e.result = 0 then tcamTraffic d (tcamDest c s ++ tcamFrom c s) s1 else s1) := by
  subst h0
  simp only [tcamFinish, hc, hj, he, ne_eq, not_true, if_false]

/-- A command that ends with RESULT 0 also counts its traffic. -/
theorem tcamFinish_done {d j : Nat} {ue : List (Nat × Bool)} {c : TcamCmd} {s s0 s1 : State} {e : CmdEnd}
    (hc : s.tb.tcamRun.find? (fun c => c.d == d) = some c) (hj : c.j = j)
    (h0 : { s with tb := { s.tb with tcamRun := s.tb.tcamRun.filter (fun x => x != c) } } = s0) (he : tcamEffect c ue s0 = (s1, e))
    (hresult : e.result = 0) :
    tcamFinish d j ue s = putEnd F.TCAM_STATUS_BUSY F.TCAM_STATUS_RESULT (some F.TCAM_STATUS_MOVES) (some F.TCAM_STATUS_HIT)
      (some F.TCAM_STATUS_RESULT_ADDR) (d * 2 + j) e (tcamTraffic d (tcamDest c s ++ tcamFrom c s) s1) := by
  rw [tcamFinish_ends hc hj h0 he, if_pos hresult]

section
variable {c : TcamCmd} {ue : List (Nat × Bool)} {s s1 : State} {p : Part} {e : Nat}

theorem tcamEffect_read (hop : c.op = 1) (hp : partAt c.d c.addr s = some (p, e)) (hg : groupOut c.d p.g c.addr s = false) :
    tcamEffect c ue s = (tcamDataPut c.d c.j (tcamEntry c.d p.g c.addr s) s, endWith 0) := by
  simp [tcamEffect, hop, tcamOpRead, hp, hg]

/-- A write of a route ends where its form and its place in the order are right. -/
theorem tcamEffect_write (hop : c.op = 2) (hp : partAt c.d c.addr s = some (p, e)) (hg : groupOut c.d p.g c.addr s = false)
    (hroute : p.routes = true → (c.entry p.g).valid = true →
      routeForm p.kind (c.entry p.g) = true ∧ keepsOrder (validEntries c.d p s) c.addr (c.entry p.g).prio = true) :
    tcamEffect c ue s = (tcamPutEntry c.d p.g c.addr (c.entry p.g) s, endWith 0) := by
  have hform : ¬ (p.routes = true ∧ (c.entry p.g).valid = true ∧ routeForm p.kind (c.entry p.g) = false) :=
    fun ⟨hr, hv, hf⟩ => by simp [(hroute hr hv).1] at hf
  have horder : ¬ (p.routes = true ∧ (c.entry p.g).valid = true ∧ keepsOrder (validEntries c.d p s) c.addr (c.entry p.g).prio = false) :=
    fun ⟨hr, hv, hf⟩ => by simp [(hroute hr hv).2] at hf
  simp only [tcamEffect, hop, tcamOpWrite, hp, hg, hform, horder, Bool.false_eq_true, if_false]

theorem tcamEffect_clear (hop : c.op = 3) (hp : partAt c.d c.addr s = some (p, e)) (hg : groupOut c.d p.g c.addr s = false) :
    tcamEffect c ue s = (tcamClearEntry c.d p.g c.addr s, endWith 0) := by
  simp [tcamEffect, hop, tcamOpClear, hp, hg]

/-- A move of a valid entry to a free place that keeps the order of the routes ends. -/
theorem tcamEffect_move {eb : Nat} (hop : c.op = 4) (hp : partAt c.d c.addr s = some (p, e)) (hg : groupOut c.d p.g c.addr s = false)
    (hv : (tcamEntry c.d p.g c.addr s).valid = true) (hdst : p.entry? c.dst = some eb) (hgd : groupOut c.d p.g c.dst s = false)
    (hfree : (tcamRow c.d c.dst s).valid = false)
    (hroute : p.routes = true → keepsOrder (validEntries c.d p s) c.dst (tcamEntry c.d p.g c.addr s).prio = true) :
    tcamEffect c ue s = (tcamMoves c.d p [(e, eb)] s, endWith 0) := by
  have horder : ¬ (p.routes = true ∧ keepsOrder (validEntries c.d p s) c.dst (tcamEntry c.d p.g c.addr s).prio = false) :=
    fun ⟨hr, hf⟩ => by simp [hroute hr] at hf
  simp only [tcamEffect, hop, tcamOpMove, hp, hg, hv, hdst, hgd, hfree, horder, Bool.false_eq_true, Bool.true_eq_false, if_false]

end

/-- Settles O32: a command of an idle window joins the engine, and at its end acts by its operation. -/
theorem tcamCommandsComplete : Obligations.TcamCommandsComplete := by
  refine ⟨?joinRead, ?joinWrite, ?joinClear, ?joinMove, ?joinInsert, ?joinDelete, ?joinSearch, ?endRead, ?endWrite, ?endClear, ?endMove, ?endInsert,
    ?endDelete, ?endHit, ?endMiss, ?endRefused⟩
  case joinRead =>
    intro s q d j hw hserves hidle
    exact pdWindow_next hw (tcamStart_runs hw hidle hserves (by decide))
  case joinWrite =>
    intro s q d j hw hserves hidle
    exact pdWindow_next hw (tcamStart_runs hw hidle hserves (by decide))
  case joinClear =>
    intro s q d j hw hserves hidle
    exact pdWindow_next hw (tcamStart_runs hw hidle hserves (by decide))
  case joinMove =>
    intro s q d j hw hserves hidle
    exact pdWindow_next hw (tcamStart_runs hw hidle hserves (by decide))
  case joinInsert =>
    intro s q d j part hw hserves hidle
    exact pdWindow_next hw (tcamStart_runs hw hidle hserves (by decide))
  case joinDelete =>
    intro s q d j part hw hserves hidle
    exact pdWindow_next hw (tcamStart_runs hw hidle hserves (by decide))
  case joinSearch =>
    intro s q d j part hw hserves hidle
    exact pdWindow_next hw (tcamStart_runs hw hidle hserves (by decide))
  case endRead =>
    intro s d j ue c s0 p e hw hc hj h0 hop hp hg
    exact clocked_next hw (tcamFinish_done hc hj h0 (tcamEffect_read hop hp hg) rfl)
  case endWrite =>
    intro s d j ue c s0 p e hw hc hj h0 hop hp hg hroute
    exact clocked_next hw (tcamFinish_done hc hj h0 (tcamEffect_write hop hp hg hroute) rfl)
  case endClear =>
    intro s d j ue c s0 p e hw hc hj h0 hop hp hg
    exact clocked_next hw (tcamFinish_done hc hj h0 (tcamEffect_clear hop hp hg) rfl)
  case endMove =>
    intro s d j ue c s0 p ea eb hw hc hj h0 hop hp hg hv hdst hgd hfree hroute
    exact clocked_next hw (tcamFinish_done hc hj h0 (tcamEffect_move hop hp hg hv hdst hgd hfree hroute) rfl)
  case endInsert =>
    intro s d j ue c s0 p s1 e hw hc hj h0 hop hp hinsert hresult
    refine clocked_next hw (tcamFinish_done hc hj h0 ?_ hresult)
    simp only [tcamEffect, hop, tcamOpInsert, hp, hinsert]
  case endDelete =>
    intro s d j ue c s0 p s1 e hw hc hj h0 hop hp hdelete hresult
    refine clocked_next hw (tcamFinish_done hc hj h0 ?_ hresult)
    simp only [tcamEffect, hop, tcamOpDelete, hp, hdelete]
  case endHit =>
    intro s d j ue c s0 p s1 a act hw hc hj h0 hop hp hsearch
    refine clocked_next hw (tcamFinish_done hc hj h0 ?_ rfl)
    simp only [tcamEffect, hop, tcamOpSearch, hp, hsearch]
  case endMiss =>
    intro s d j ue c s0 p s1 hw hc hj h0 hop hp hsearch
    refine clocked_next hw (tcamFinish_done hc hj h0 ?_ rfl)
    simp only [tcamEffect, hop, tcamOpSearch, hp, hsearch]
  case endRefused =>
    intro s d j ue c s0 s1 e hw hc hj h0 he hresult
    exact clocked_next hw ((tcamFinish_ends hc hj h0 he).trans (by rw [if_neg hresult]))

/-- Settles O33, by what the scrubber found in its row and how the repair ended. -/
theorem tcamScrubAndRepairComplete : Obligations.TcamScrubAndRepairComplete := by
  refine ⟨?same, ?sweepEnds, ?deferred, ?shadowUe, ?differs, ?repaired, ?failed⟩
  case same =>
    intro s d hw hScrubAt hStatusState hRowBusy
    refine clocked_next hw ?_
    simp [tcamScrub, hScrubAt, hStatusState, hRowBusy]
  case sweepEnds =>
    intro s d hw hScrubAt hStatusState hRowBusy
    refine clocked_next hw ?_
    simp [tcamScrub, hScrubAt, hStatusState, hRowBusy]
  case deferred =>
    intro s d hw hScrubAt hStatusState
    refine clocked_next hw ?_
    simp [tcamScrub, hScrubAt, hStatusState]
  case shadowUe =>
    intro s d hw hScrubAt hStatusState hRowBusy
    refine clocked_next hw ?_
    simp [tcamScrub, hScrubAt, hStatusState, hRowBusy]
  case differs =>
    intro s d ok hw hScrubAt hStatusState hRowBusy
    refine clocked_next hw ?_
    simp [tcamScrub, hScrubAt, hStatusState, hRowBusy]
  case repaired =>
    intro s d b hw hStatusState
    refine clocked_next hw ?_
    simp [tcamRepairEnd, hStatusState]
  case failed =>
    intro s d b hw hStatusState
    refine clocked_next hw ?_
    simp [tcamRepairEnd, hStatusState]

/-- The end of a running command of a window writes the result fields of the window. -/
theorem emFinish_ends {d j : Nat} {ue : Bool} {c : EmCmd} {s s0 s1 : State} {e : CmdEnd} (hc : emRunning d j s = some c)
    (h0 : { s with tb := { s.tb with emRun := s.tb.emRun.filter (fun x => x != c) } } = s0) (he : emEffect c ue s0 = (s1, e)) :
    emFinish d j ue s = putEnd F.EM_STATUS_BUSY F.EM_STATUS_RESULT none (some F.EM_STATUS_HIT) (some F.EM_STATUS_RESULT_ADDR) (d * 2 + j) e
      (emTraffic c e s s1) := by
  subst h0
  simp only [emFinish, hc, he]

/-- The request at the head of the queue of its die is taken where a token is left. -/
theorem learnHead_takes {d : Nat} {ue : List Nat} {r : LearnReq} {rest : List (Nat × LearnReq)} {s : State} (hq : s.dp.learnQ = (d, r) :: rest)
    (htoken : tget 0 s.dp.learnSpent d < 64) :
    learnHead d ue s =
      let l := learnAct d r ue { s with dp := { s.dp with learnQ := rest } }
      if l.2 then { l.1 with dp := { l.1.dp with learnSpent := tset 0 l.1.dp.learnSpent d (tget 0 l.1.dp.learnSpent d + 1) } } else l.1 := by
  simp only [learnHead, hq, List.find?_cons, beq_self_eq_true, Nat.not_le.mpr htoken, if_false, dropFirst, if_true]

/-- A pass over a table of one learned entry of its die. -/
theorem agePass_one {d x : Nat} {hits : List Nat} {e : EmEntry} {s : State} (hnear : s.tb.near = [(x, e)]) (hd : x / 2 ^ 20 = d)
    (hlearned : e.learned = true) (hentry : nearAt d (x % 2 ^ 20) s = e) :
    agePass d hits s = match agedEntry e (hits.contains (x % 2 ^ 20)) with
      | some e => nearSet d (x % 2 ^ 20) e s
      | none => laybyMove d (if x % 2 ^ 20 < 0x80000 then x % 2 ^ 20 / 4 else nearBucket d (nearKey d (x % 2 ^ 20) s) s) 4
          ((nearErase d (x % 2 ^ 20) s).bump F.AGED d) := by
  simp only [agePass, hnear, List.filterMap_cons, List.filterMap_nil, hd, hlearned, and_self, if_true, List.foldl_cons, List.foldl_nil,
    List.filter_cons, List.filter_nil, hentry]
  cases agedEntry e (hits.contains (x % 2 ^ 20)) <;> rfl

/-- Settles O34: a command of an idle window joins the engine, and at its end acts by its operation; learning by what the head request met, ageing
by whether the entry was hit. -/
theorem exactMatchCommandsComplete : Obligations.ExactMatchCommandsComplete := by
  refine ⟨?joinRead, ?joinLookup, ?joinInsert, ?joinDelete, ?joinFlush, ?endReadNear, ?endReadFar, ?endReadUe, ?endHit, ?endMiss, ?endRefused, ?endLookupUe,
    ?endInsert, ?endDelete, ?endFlush, ?learnFree, ?learnSpends, ?refill, ?ageKeeps, ?ageDeletes⟩
  case joinRead =>
    intro s q d j table hw hserves hidle
    exact pdWindow_next hw (emStart_runs hw hidle hserves (by decide))
  case joinLookup =>
    intro s q d j table hw hserves hidle
    exact pdWindow_next hw (emStart_runs hw hidle hserves (by decide))
  case joinInsert =>
    intro s q d j table hw hserves hidle
    exact pdWindow_next hw (emStart_runs hw hidle hserves (by decide))
  case joinDelete =>
    intro s q d j table hw hserves hidle
    exact pdWindow_next hw (emStart_runs hw hidle hserves (by decide))
  case joinFlush =>
    intro s q d j table hw hserves hidle
    exact pdWindow_next hw (emStart_runs hw hidle hserves (by decide))
  case endReadNear =>
    intro s d j c s0 hw hc h0 hop htable haddr
    refine clocked_next hw (emFinish_ends hc h0 ?_)
    simp [emEffect, hop, emOpRead, htable, Nat.not_le.mpr haddr]
  case endReadFar =>
    intro s d j c s0 hw hc h0 hop htable haddr
    refine clocked_next hw (emFinish_ends hc h0 ?_)
    simp [emEffect, hop, emOpRead, htable, Nat.not_le.mpr haddr]
  case endReadUe =>
    intro s d j c s0 hw hc h0 hop htable haddr
    refine clocked_next hw (emFinish_ends hc h0 ?_)
    simp [emEffect, hop, emOpRead, htable, Nat.not_le.mpr haddr]
  case endHit =>
    intro s d j c s0 a e hw hc h0 hop hkey hfind
    refine clocked_next hw (emFinish_ends hc h0 ?_)
    simp [emEffect, hop, emOpLookup, hkey, hfind]
  case endMiss =>
    intro s d j c s0 hw hc h0 hop hkey hfind
    refine clocked_next hw (emFinish_ends hc h0 ?_)
    simp [emEffect, hop, emOpLookup, hkey, hfind]
  case endRefused =>
    intro s d j ue c s0 hw hc h0 hop hkey
    refine clocked_next hw (emFinish_ends hc h0 ?_)
    simp [emEffect, hop, emOpLookup, hkey]
  case endLookupUe =>
    intro s d j c s0 hw hc h0 hop hkey
    refine clocked_next hw (emFinish_ends hc h0 ?_)
    simp [emEffect, hop, emOpLookup, hkey]
  case endInsert =>
    intro s d j ue c s0 s1 e hw hc h0 hop hentry hinsert
    refine clocked_next hw (emFinish_ends hc h0 ?_)
    simp only [emEffect, hop, emOpInsert, hentry, Bool.true_eq_false, if_false, hinsert]
  case endDelete =>
    intro s d j ue c s0 a e hw hc h0 hop hkey hfind
    refine clocked_next hw (emFinish_ends hc h0 ?_)
    simp [emEffect, hop, emOpDelete, hkey, hfind]
  case endFlush =>
    intro s d j ue c s0 hw hc h0 hop htable
    refine clocked_next hw (emFinish_ends hc h0 ?_)
    simp [emEffect, hop, emOpFlush, htable]
  case learnFree =>
    rintro s d ue r rest s1 hw hq htoken rfl hfree
    refine engine_next hw ((learnHead_takes hq htoken).trans ?_)
    simp [hfree]
  case learnSpends =>
    rintro s d ue r rest s1 s2 hw hq htoken rfl hspends
    refine engine_next hw ((learnHead_takes hq htoken).trans ?_)
    simp [hspends]
  case refill =>
    intro s d hw
    refine clocked_next hw ?_
    simp [learnRefill]
  case ageKeeps =>
    rintro s d hits x a e hw hnear hd rfl hentry hlearned hlock hhit
    refine clocked_next hw ((agePass_one hnear hd hlearned hentry).trans ?_)
    rw [agedEntry, if_neg (not_not_intro hlock), if_pos hhit]
  case ageDeletes =>
    rintro s d hits x a e hw hnear hd rfl hentry hlearned hlock hhit
    refine clocked_next hw ((agePass_one hnear hd hlearned hentry).trans ?_)
    rw [agedEntry, if_neg (not_not_intro hlock), if_neg (by rw [hhit]; decide)]

end Sys2Proof.Machine

/-! PROOF. The hub input stage and its holds, the junctions between the dies, and the scheduler (01_architecture.md, 02_ports.md,
06_rewrite_replication_mirroring.md, 07_shared_buffer.md, 08_egress_scheduling.md). -/

namespace Sys2Proof.Machine

/-- A classified frame whose header is at the hub, with no earlier frame of its port before it, passes the input stage. -/
theorem hubInput_passes {f : Nat} {scUe ctxUe : Bool} {replUe : Option Nat} {s s1 : State} {fr : Frame} (hframe : frameAt f s = some fr)
    (hstage : fr.stage = .classified) (hheader : headerUp f ctxUe s = s1) (hup : waitsUp f true s1 = false) (hfree : inputBlocked f fr s1 = false) :
    hubInput f scUe replUe ctxUe s =
      inputStage f scUe replUe (firstCell f { s1 with dp := { s1.dp with arrived := s1.dp.arrived.filter (fun g => g != f) } }) := by
  subst hheader
  simp only [hubInput, hframe, hstage, hup, hfree, ne_eq, not_true, Bool.false_eq_true, or_self, if_false]

/-- Settles O35, by what the policing answers and by the end of a hold. -/
theorem hubInputAndHoldComplete : Obligations.HubInputAndHoldComplete := by
  refine ⟨?policed, ?admitted, ?retry, ?expiry, ?lastCell, ?eligible⟩
  case policed =>
    rintro s f scUe replUe ctxUe fr0 s1 s2 fr s3 hw hframe0 hstage hheader hup hfree rfl hframe hpolice
    refine engine_next hw ((hubInput_passes hframe0 hstage hheader hup hfree).trans ?_)
    simp only [inputStage, hframe, hpolice]
  case admitted =>
    rintro s f scUe replUe ctxUe fr0 s1 s2 fr s3 fr' s4 hw hframe0 hstage hheader hup hfree rfl hframe hpolice rfl
    refine engine_next hw ((hubInput_passes hframe0 hstage hheader hup hfree).trans ?_)
    simp only [inputStage, hframe, hpolice]
  case retry =>
    rintro s q c fr r hw hFind hFrameAt rfl hWantsHold
    refine engine_next hw ?_
    simp [holdRetry, hFind, hFrameAt, hWantsHold]
  case expiry =>
    intro s f hw
    refine engine_next hw ?_
    simp [holdExpiry]
  case lastCell =>
    rintro s f fr0 s1 fr l hw hFrameAt hLen hLastCell hCells rfl hFrameAt2 hLen2 hWaitsUp
    refine engine_next hw ?_
    simp [lastCell, hFrameAt, hLen, hLastCell, hCells, hFrameAt2, hLen2, hWaitsUp]
  case eligible =>
    intro s f fr hw hFrameAt
    refine engine_next hw ?_
    simp [frameEligible, hFrameAt]

/-- A copy whose flits have all crossed to its die is edited there. -/
theorem egressArrival_edits {x : Nat} {ue : Option Nat} {ctxUe : Bool} {s s1 : State} {t0 t : TxCopy} {fr : Frame}
    (h0 : s.dp.tx.find? (fun t => t.copy.id == x) = some t0) (hnew : t0.edited = false) (hcarry : linkCarry (dieOf t0.copy.port) 1 x true ctxUe s = s1)
    (hdown : flitWaits (dieOf t0.copy.port) 1 x true s1 = false) (ht : s1.dp.tx.find? (fun t => t.copy.id == x) = some t)
    (hframe : frameAt t.copy.frame s1 = some fr) : egressArrival x ue ctxUe s = editArrived t fr ue s1 := by
  subst hcarry
  simp only [egressArrival, h0, hnew, hdown, ht, hframe, Bool.false_eq_true, if_false]

/-- A frame that has ended and whose flits have all crossed is done. -/
theorem txEnd_done {x : Nat} {s s1 : State} {t0 t : TxCopy} {fr : Frame} (h0 : s.dp.tx.find? (fun t => t.copy.id == x) = some t0)
    (hstage : t0.stage = .sending) (hended : t0.ended = true) (hcarry : linkCarry (dieOf t0.copy.port) 1 x false false s = s1)
    (hdown : flitWaits (dieOf t0.copy.port) 1 x false s1 = false) (ht : s1.dp.tx.find? (fun t => t.copy.id == x) = some t)
    (hframe : frameAt t.copy.frame s1 = some fr) (hlen : fr.len ≠ none) : txEnd x s = sendDone t fr s1 := by
  subst hcarry
  simp only [txEnd, h0, hstage, hended, hdown, ht, hframe, hlen, ne_eq, not_true, Bool.true_eq_false, Bool.false_eq_true, or_self, if_false]

/-- Settles O36, by the end of the junction and by what the scheduler finds. -/
theorem junctionsAndSchedulerComplete : Obligations.JunctionsAndSchedulerComplete := by
  refine ⟨?installUp, ?installDown, ?ackCurrent, ?ackOld, ?inval, ?replay, ?eighthFailure, ?trained, ?linkDead, ?averages, ?takesUpper, ?takes, ?resumes,
    ?edited, ?editUe, ?sent⟩
  case installUp =>
    rintro s x s1 fr i hw rfl hFrameAt hCoding hPort hbound
    refine engine_next hw ?_
    simp [contextInstall, hFrameAt, hCoding, Nat.not_le.mpr hPort, Nat.not_lt.mpr hbound]
  case installDown =>
    rintro s x t s1 fr i hw hFind rfl hCoding hFrameAt hbound
    refine engine_next hw ?_
    simp [contextInstall, hFind, hCoding, hFrameAt, Nat.not_lt.mpr hbound]
  case ackCurrent =>
    intro s d j i gen hw hack hgen hsent
    refine engine_next hw ?_
    simp only [ctxAck, hack, Bool.true_eq_false, if_false]
    exact if_pos ⟨hgen, hsent⟩
  case ackOld =>
    intro s d j i gen hw hack hgen
    refine engine_next hw ?_
    simp only [ctxAck, hack, hgen, Bool.true_eq_false, false_and, if_false]
  case inval =>
    intro s d j i hw hinval
    refine engine_next hw ?_
    simp only [ctxInval, hinval, Bool.true_eq_false, if_false]
  case replay =>
    intro s d j bs hw hRetraining hLength hFlitGood hFlitFails
    refine engine_next hw ?_
    simp [flitCrcError, hRetraining, hLength, hFlitGood, Nat.not_le.mpr hFlitFails]
  case eighthFailure =>
    intro s d j bs hw hRetraining hLength hFlitGood hbound
    refine engine_next hw ?_
    simp [flitCrcError, hRetraining, hLength, hFlitGood, hbound]
  case trained =>
    rintro s d s1 s2 hw hretraining hdead rfl rfl
    refine clocked_next hw ?_
    simp only [retrainEnd, linkRetrained, hretraining, hdead, Bool.true_eq_false, Bool.false_eq_true, or_self, if_false, if_true]
  case linkDead =>
    rintro s d s1 hw hretraining hdead rfl
    refine clocked_next hw ?_
    simp only [retrainEnd, linkRetrained, hretraining, hdead, Bool.true_eq_false, Bool.false_eq_true, or_self, if_false]
  case averages =>
    intro s hw
    refine engine_next hw ?_
    simp [qAvgUpdate]
  case takesUpper =>
    intro s p ecc cell bufLen c s1 hw hport hselect
    refine engine_next hw ?_
    have hp : ¬ 514 ≤ p := by omega
    have hq : ¬ p < 512 := by omega
    simp only [schedulerSelect, hp, hq, if_false, hselect]
  case takes =>
    intro s p ecc cell bufLen c s1 hw hport hselect
    refine engine_next hw ?_
    have hp : ¬ 514 ≤ p := by omega
    simp only [schedulerSelect, hp, hport, if_false, if_true, hselect]
  case resumes =>
    intro s p ecc cell bufLen s1 hw hport hselect hup htrained
    refine engine_next hw ?_
    have hp : ¬ 514 ≤ p := by omega
    simp only [schedulerSelect, hp, hport, if_false, if_true, hselect, hup, htrained, and_self]
  case edited =>
    rintro s x ctxUe t0 s1 t fr te hw h0 hnew hcarry hdown ht hframe hkept hfits rfl
    refine engine_next hw ((egressArrival_edits h0 hnew hcarry hdown ht hframe).trans ?_)
    simp only [editArrived, hkept]
    exact if_neg hfits
  case editUe =>
    rintro s x ctxUe k t0 s1 t fr hw h0 hnew hcarry hdown ht rfl hframe
    exact engine_next hw (egressArrival_edits h0 hnew hcarry hdown ht hframe)
  case sent =>
    intro s x t0 s1 t fr hw h0 hstage hended hcarry hdown ht hframe hlen hstomp hlong hfrags
    refine engine_next hw ((txEnd_done h0 hstage hended hcarry hdown ht hframe hlen).trans ?_)
    simp only [sendDone, hstomp, hlong, hfrags, Bool.false_eq_true, Nat.lt_irrefl, if_false]

end Sys2Proof.Machine

/-! PROOF. Table windows and gates: the rewrite window and the edit configuration, gate lists, the stream window, stream gates and shapers
(06_rewrite_replication_mirroring.md R143 to R151; 08_egress_scheduling.md R200 to R230). -/

namespace Sys2Proof.Machine

section
variable {q : Requester} {j table : Nat} {op : State → State × CmdEnd} {s s1 u : State} {e : CmdEnd}

/-- The answer to a command of an idle rewrite window is pending in it, with what the command did. -/
theorem rwStart_next (hw : (match window q .RW_CMD 0 j with
      | some (q, r, i) => answers q r i s && privileged q (blockOf (regOffset r i)) s | none => false) = true)
    (hserves : windowServes q j = true) (hidle : s.fld F.RW_STATUS_BUSY j = 0) (h1 : s.setFld F.RW_STATUS_BUSY j 1 = s1) (hop : op s1 = (u, e)) :
    (.next (windowRow q .RW_CMD j (rwStart q j op) s) : Answer) = .next (rwPends j e u) :=
  windowRow_next hw ((rwStart_runs hw hidle hserves).trans (by rw [h1, hop]))

/-- The same for a stream window, whose tables are seven. -/
theorem scStart_next (hw : (match window q .SC_CMD 0 j with
      | some (q, r, i) => answers q r i s && privileged q (blockOf (regOffset r i)) s | none => false) = true)
    (hserves : windowServes q j = true) (htable : table < 7) (hidle : s.fld F.SC_STATUS_BUSY j = 0) (h1 : s.setFld F.SC_STATUS_BUSY j 1 = s1)
    (hop : op s1 = (u, e)) : (.next (windowRow q .SC_CMD j (scStart q j table op) s) : Answer) = .next (scPends j e u) :=
  windowRow_next hw ((scStart_runs hw hidle (Nat.ne_of_lt htable) hserves).trans (by rw [h1, hop]))

end

/-- Settles O37, by the index of the command, the check of its form and the two registers. -/
theorem rewriteWindowAndEditCfgComplete : Obligations.RewriteWindowAndEditCfgComplete := by
  refine ⟨?read, ?readBeyond, ?readUe, ?write, ?writeRefused, ?ends, ?editCfg, ?rtagCfg⟩
  case read =>
    intro s q j table s1 hw hserves hidle h1 hindex
    refine rwStart_next hw hserves hidle h1 ?_
    simp only [rwOpRead, Nat.not_le.mpr hindex, Bool.false_eq_true, if_false]
  case readBeyond =>
    intro s q j table ue s1 hw hserves hidle h1 hindex
    exact rwStart_next hw hserves hidle h1 (if_pos hindex)
  case readUe =>
    intro s q j table s1 hw hserves hidle h1 hindex
    refine rwStart_next hw hserves hidle h1 ?_
    simp only [rwOpRead, Nat.not_le.mpr hindex, if_false, if_true]
  case write =>
    intro s q j table s1 hw hserves hidle h1 hcheck
    refine rwStart_next hw hserves hidle h1 ?_
    simp only [rwOpWrite, hcheck]
  case writeRefused =>
    intro s q j table s1 r hw hserves hidle h1 hcheck hr
    refine rwStart_next hw hserves hidle h1 ?_
    simp only [rwOpWrite, hcheck]
  case ends =>
    intro s j e hw hend
    refine clocked_next hw ?_
    simp only [rwFinish, hend, putEnd]
  case editCfg =>
    intro s q v hw hv
    refine congrArg _ ((writeAt_plain hw (by decide +kernel) (by decide +kernel) hv rfl rfl rfl rfl rfl).trans ?_)
    simp [putFields, Reg.fields, regInfo, putField, fieldBits, State.setFld, bitsOf, Fld.width]
  case rtagCfg =>
    intro s q v hw hv hseq hflag
    refine congrArg _ ((writeAt_plain hw (by decide +kernel) (by decide +kernel) hv rfl rfl rfl rfl rfl).trans ?_)
    simp only [bitsOf] at hseq hflag
    simp at hseq hflag
    simp [putFields, Reg.fields, regInfo, putField, fieldBits, State.setFlds, State.setFld, bitsOf, hseq, hflag, Fld.width]

/-- Writing the initial gates and noting a foreign change leave CHANGE_PENDING as it is. -/
theorem changePending_noteForeign (p q gates : Nat) (s : State) :
    (noteForeign q (s.setFld F.GCL_CTRL_INIT_GATES q gates)).fld F.GCL_STATUS_CHANGE_PENDING p = s.fld F.GCL_STATUS_CHANGE_PENDING p := by
  rw [noteForeign_fld, fld_setFld_reg _ _ _ _ (by decide) (by decide) (by decide)]

/-- Settles O38, by the pending change and by the operation of the entry that begins. -/
theorem gateListsComplete : Obligations.GateListsComplete := by
  refine ⟨?request, ?requestRefused, ?cancel, ?apply, ?entry, ?entryUe, ?entryHold, ?entryRelease, ?wheel⟩
  case request =>
    intro s q p gates hw hpending
    refine writeRow_next hw ((gated_runs hw _).trans ?_)
    simp [gclCtrl, changePending_noteForeign, hpending]
  case requestRefused =>
    intro s q p gates hw hpending
    refine writeRow_next hw ((gated_runs hw _).trans ?_)
    simp [gclCtrl, changePending_noteForeign, hpending]
  case cancel =>
    intro s q p gates r hw hpending hintime
    refine writeRow_next hw ((gated_runs hw _).trans ?_)
    simp [gclCtrl, gclCancelOk, gclDrop, hpending, hintime]
  case apply =>
    intro s p r hw hGclPending
    refine clocked_next hw ?_
    simp [gclApply, hGclPending]
  case entry =>
    rintro s p x r k hw hGclOper hbound hGateEn rfl hPreemptActive
    refine engine_next hw ?_
    simp [gateEntryBegin, hGclOper, Nat.not_le.mpr hbound, hGateEn, hPreemptActive]
  case entryUe =>
    rintro s p x r k s1 hw hGclOper hbound hGateEn rfl hPreemptActive rfl
    refine engine_next hw ?_
    simp [gateEntryBegin, hGclOper, Nat.not_le.mpr hbound, hGateEn, hPreemptActive]
  case entryHold =>
    rintro s p x r k hw hGclOper hbound hGateEn rfl hPreemptActive hBitsOf hStatusHold
    refine engine_next hw ?_
    simp [gateEntryBegin, hGclOper, Nat.not_le.mpr hbound, hGateEn, hPreemptActive, hBitsOf, hStatusHold]
  case entryRelease =>
    rintro s p x r k hw hGclOper hbound hGateEn rfl hPreemptActive hBitsOf
    refine engine_next hw ?_
    simp [gateEntryBegin, hGclOper, Nat.not_le.mpr hbound, hGateEn, hPreemptActive, hBitsOf]
  case wheel =>
    intro s p hw
    refine engine_next hw ?_
    simp [slotAdvance]

section
variable {j : Nat} {s : State}

/-- What a write of a stream table stores: the DATA words over the words of the entry, as the table merges them. -/
abbrev scNew (table j : Nat) (s : State) (w : Nat) : Nat :=
  scMerge table w (scWord table (s.fld F.SC_INDEX j) w s) (s.fld F.SC_DATA (j * 8 + w))

theorem scOpWrite_context (hindex : s.fld F.SC_INDEX j < scCount 0) (hform : ctxOk (scNew 0 j s) = true) :
    scOpWrite j 0 s = (if bitsOf (scWord 0 (s.fld F.SC_INDEX j) 4 s) 22 9 ≠ bitsOf (scNew 0 j s 4) 22 9 then
        recReset (s.fld F.SC_INDEX j) (scPut 0 (s.fld F.SC_INDEX j) ((List.range 8).map (scNew 0 j s)) s)
      else scPut 0 (s.fld F.SC_INDEX j) ((List.range 8).map (scNew 0 j s)) s, endWith 0) := by
  simp only [scOpWrite, Nat.not_le.mpr hindex, if_false, hform, Bool.true_eq_false]
  split <;> rfl

end

/-- Settles O39, by the table and the check of the command's entry, the gate's state and the shapers. -/
theorem streamTablesComplete : Obligations.StreamTablesComplete := by
  refine ⟨?read, ?readUe, ?writePlain, ?writeContext, ?writeContextResets, ?writeGate, ?writeEntry, ?writeMeter, ?writeBeyond, ?change, ?ends, ?apply,
    ?entry, ?regionFree, ?wheelEmpty, ?wheelReady, ?ledQuiet, ?ledRaises, ?depths⟩
  case read =>
    intro s q j table s1 hw hserves htable hidle h1 hindex
    refine scStart_next hw hserves htable hidle h1 ?_
    simp only [scOpRead, Nat.not_le.mpr hindex, Bool.false_eq_true, if_false]
  case readUe =>
    intro s q j table s1 hw hserves htable hidle h1 hindex
    refine scStart_next hw hserves htable hidle h1 ?_
    simp only [scOpRead, Nat.not_le.mpr hindex, if_false, if_true]
  case writePlain =>
    intro s q j table s1 hw hserves hplain htable hidle h1 hindex
    refine scStart_next hw hserves htable hidle h1 ((if_neg (Nat.not_le.mpr hindex)).trans ?_)
    match table, hplain, htable with
    | 4, _, _ => rfl
    | 5, _, _ => rfl
    | 6, _, _ => rfl
  case writeContext =>
    intro s q j s1 hw hserves hidle h1 hindex hform hsame
    refine scStart_next hw hserves (by decide) hidle h1 ((scOpWrite_context hindex hform).trans ?_)
    rw [if_neg (not_not_intro hsame)]
  case writeContextResets =>
    intro s q j s1 hw hserves hidle h1 hindex hform hother
    refine scStart_next hw hserves (by decide) hidle h1 ((scOpWrite_context hindex hform).trans ?_)
    rw [if_pos hother]
  case writeGate =>
    intro s q j s1 hw hserves hidle h1 hindex hpending
    refine scStart_next hw hserves (by decide) hidle h1 ((if_neg (Nat.not_le.mpr hindex)).trans ?_)
    simp only [hpending, Option.isSome_none, Bool.false_eq_true, false_and, if_false]
  case writeEntry =>
    intro s q j s1 hw hserves hidle h1 hindex hfree
    refine scStart_next hw hserves (by decide) hidle h1 ((if_neg (Nat.not_le.mpr hindex)).trans ?_)
    simp only [hfree, Bool.false_eq_true, if_false]
  case writeMeter =>
    intro s q j s1 hw hserves hidle h1 hindex hform
    refine scStart_next hw hserves (by decide) hidle h1 ((if_neg (Nat.not_le.mpr hindex)).trans ?_)
    simp only [hform, Bool.true_eq_false, if_false]
  case writeBeyond =>
    intro s q j table s1 hw hserves htable hidle h1 hindex
    exact scStart_next hw hserves htable hidle h1 (if_pos hindex)
  case change =>
    rintro s q j s1 g base hw hserves hidle h1 rfl hgate hpending hform hstart
    refine scStart_next hw hserves (by decide) hidle h1 ?_
    simp only [scOpChange, ne_eq, not_true, Nat.not_le.mpr hgate, hpending, Option.isSome_none, hform, hstart, Bool.false_eq_true, Bool.true_eq_false,
      if_false]
  case ends =>
    intro s j e hw hend
    refine clocked_next hw ?_
    simp only [scFinish, hend, putEnd]
  case apply =>
    intro s g r hw hGateSt
    refine clocked_next hw ?_
    simp [streamGateApply, hGateSt]
  case entry =>
    intro s g x r hw hGateSt hbound
    refine clocked_next hw ?_
    simp [streamGateEntry, hGateSt, hbound]
  case regionFree =>
    intro s g hw
    refine clocked_next hw ?_
    simp [streamGateRelease]
  case wheelEmpty =>
    intro s hw hShapers
    refine engine_next hw ?_
    simp [shaperWheel, hShapers]
  case wheelReady =>
    intro s x e k s0 hw hshapers hwait hnear hdue h0 hready
    refine engine_next hw ?_
    unfold shaperWheel
    dsimp only at h0 ⊢
    rw [h0, hshapers]
    simp only [List.foldl_cons, List.foldl_nil, hwait, hnear, hdue, hready, if_true, Bool.false_eq_true, if_false]
  case ledQuiet =>
    intro s x hw hScFld hbound
    refine engine_next hw ?_
    simp [ledEvaluate, hScFld, hbound]
  case ledRaises =>
    intro s x hw hon hshort
    refine engine_next hw ?_
    simp only [ledEvaluate, hon, Nat.one_ne_zero, if_false, if_pos hshort]
  case depths =>
    intro s hw
    refine engine_next hw ?_
    simp [depthSample]

end Sys2Proof.Machine

/-! PROOF. Time, the Planner and the microcode stores (09_time_base.md; 10_planner.md; 11_telemetry.md; 13_me_instruction_set.md R349 to R357). -/

namespace Sys2Proof.Machine

section
variable {d n : Nat} {q : Requester} {s : State}

/-- A beacon reaches the follower of a die that is up and whose link is trained. -/
theorem beacon_heard (hd : d < 4) (hup : s.dieUp d = true) (htrained : tget false s.dp.retraining d = false) :
    ¬ (4 ≤ d ∨ s.dieUp d = false ∨ tget false s.dp.retraining d = true) := by
  simp [Nat.not_le.mpr hd, hup, htrained]

theorem syncInTsRead_next (hw : answers q .SYNC_IN_TS_NS n s = true) (hn : n < 4) :
    (.next (readRow q .SYNC_IN_TS_NS n s) : Answer) = .next (syncInRead q n s) :=
  readRow_next hw ((by decide +kernel : ∀ n < 4, regAt (regOffset .SYNC_IN_TS_NS n) = some ⟨.SYNC_IN_TS_NS, n, 0⟩) n hn)
    ((by decide +kernel : ∀ n < 4, regOffset .SYNC_IN_TS_NS n % 4 = 0) n hn) (by simp only [readReg])

theorem ptpTxInfoRead_next (hw : answers q .PTP_TX_INFO d s = true) (hd : d < 4) :
    (.next (readRow q .PTP_TX_INFO d s) : Answer) = .next (ptpInfoRead q d s) :=
  readRow_next hw ((by decide +kernel : ∀ d < 4, regAt (regOffset .PTP_TX_INFO d) = some ⟨.PTP_TX_INFO, d, 0⟩) d hd)
    ((by decide +kernel : ∀ d < 4, regOffset .PTP_TX_INFO d % 4 = 0) d hd) (by simp only [readReg])

/-- The die of a PTP_TX_INFO register that answers is up. -/
theorem dieUp_of_ptpTxInfo (hw : answers q .PTP_TX_INFO d s = true) (hd : d < 4) : s.dieUp d = true := by
  have hblock := (by decide +kernel : ∀ d < 4, blockOf (regOffset .PTP_TX_INFO d) = 13 + d) d hd
  simp only [answers, lands, Bool.and_eq_true, Bool.or_eq_true, hblock] at hw
  obtain ⟨⟨⟨-, hdie⟩, -⟩, -⟩ := hw
  have hup := hdie.resolve_left fun h => absurd (of_decide_eq_true h) (by omega)
  rwa [Nat.add_sub_cancel_left] at hup

end

/-- Settles O40, by what a beacon, a pin or a timer finds. -/
theorem clockAndPinsComplete : Obligations.ClockAndPinsComplete := by
  refine ⟨?beaconLocked, ?beaconUnlocks, ?beaconGood, ?beaconLocks, ?rate, ?rateRefused, ?step, ?set, ?rateApplies, ?stepApplies, ?ppsEdge, ?ppsClose,
    ?ppsLossServo, ?ppsLoss, ?syncEdge, ?syncOverflow, ?syncMerged, ?syncRead, ?syncObserved, ?ptpRead, ?ptpObserved, ?ppsOut, ?syncOutLevel, ?syncOutFalls,
    ?syncOutRises, ?syncTimeout, ?holdoverLimit, ?pll, ?epoch⟩
  case beaconLocked =>
    intro s d e hw hd hup htrained hlock hclose
    refine clocked_next hw ?_
    simp [timeBeacon, beacon_heard hd hup htrained, hlock, Nat.not_lt.mpr hclose]
  case beaconUnlocks =>
    rintro s d e s1 hw hd hup htrained hlock hfar rfl
    refine clocked_next hw ?_
    simp [timeBeacon, beacon_heard hd hup htrained, hlock, hfar]
  case beaconGood =>
    intro s d e n hw hd hup htrained hlock hgood hpos hn hclose
    refine clocked_next hw ?_
    have hnear : ¬ 2 * nsUnit < e.natAbs := by omega
    simp [timeBeacon, beacon_heard hd hup htrained, hlock, hgood, Nat.ne_of_gt hpos, hnear, Nat.not_lt.mpr hclose, hn]
  case beaconLocks =>
    rintro s d e s1 hw hd hup htrained hlock hgood hclose rfl
    refine clocked_next hw ?_
    have hnear : ¬ 2 * nsUnit < e.natAbs := by omega
    simp [timeBeacon, beacon_heard hd hup htrained, hlock, hgood, hnear, Nat.not_lt.mpr hclose]
  case rate =>
    intro s q v hw hrange
    exact writeRow_next hw ((gated_runs hw _).trans (if_neg (Nat.not_lt.mpr hrange)))
  case rateRefused =>
    intro s q v hw hrange
    exact writeRow_next hw ((gated_runs hw _).trans (if_pos hrange))
  case step =>
    intro s q hw hidle
    refine writeRow_next hw ((gated_runs hw _).trans ?_)
    rw [timeStep, if_neg (by rw [hidle]; decide)]
  case set =>
    intro s q hw hidle hns
    refine writeRow_next hw ((gated_runs hw _).trans (if_neg ?_))
    rintro (h | h)
    · simp [hidle] at h
    · exact absurd h (Nat.not_lt.mpr hns)
  case rateApplies =>
    intro s r a hw hrate hstep
    refine clocked_next hw ?_
    simp [applyReached, applyInstantReached, hrate, hstep]
  case stepApplies =>
    rintro s v a s2 s3 hw hrate hstep rfl rfl hdone
    refine clocked_next hw ?_
    simp only [applyReached, applyInstantReached, hrate, hstep, Option.map_none, Option.map_some, Bool.false_eq_true, if_false, hdone,
      Option.isSome_some, Option.isNone_none, and_self, if_true]
  case ppsEdge =>
    rintro s t s1 hw hInCfg hPpsLast hInLost rfl rfl
    refine clocked_next hw ?_
    simp [ppsInEdge, hInCfg, hPpsLast, hInLost]
  case ppsClose =>
    rintro s t l hw hon hlast rfl hl ht
    refine clocked_next hw ?_
    simp only [ppsInEdge, hon, hlast, hl, ht, decide_true, Bool.and_self, if_true, Nat.one_ne_zero, if_false]
  case ppsLossServo =>
    intro s hw hWorkSource
    refine clocked_next hw ?_
    simp [ppsInLoss, hWorkSource]
  case ppsLoss =>
    intro s hw hWorkSource
    refine clocked_next hw ?_
    simp [ppsInLoss, hWorkSource]
  case syncEdge =>
    rintro s n rising t hw hn hedge hlast hroom rfl
    refine clocked_next hw ?_
    simp only [syncInEdge, Nat.not_le.mpr hn, hedge, hlast, Nat.not_le.mpr hroom, Bool.true_eq_false, Bool.false_eq_true, or_self, if_false]
    rfl
  case syncOverflow =>
    rintro s n rising t hw hn hInCfg hSyncLast hbound rfl
    refine clocked_next hw ?_
    simp [syncInEdge, Nat.not_le.mpr hn, hInCfg, hSyncLast, hbound]
  case syncMerged =>
    rintro s n rising t l hw hn hedge hlast rfl hl ht
    refine clocked_next hw ?_
    simp only [syncInEdge, Nat.not_le.mpr hn, hedge, hlast, hl, ht, decide_true, Bool.and_self, Bool.true_eq_false, or_self, if_false, if_true]
  case syncRead =>
    intro s q n hw hn hview
    refine (syncInTsRead_next hw hn).trans ?_
    rw [syncInRead, if_neg (Nat.not_le.mpr hn)]
    exact congrArg _ (if_pos hview)
  case syncObserved =>
    intro s q n hw hn hview
    refine (syncInTsRead_next hw hn).trans ?_
    rw [syncInRead, if_neg (Nat.not_le.mpr hn)]
    exact congrArg _ (if_neg (Bool.eq_false_iff.mp hview))
  case ptpRead =>
    intro s q d hw hd hview
    refine (ptpTxInfoRead_next hw hd).trans ?_
    simp [ptpInfoRead, Nat.not_le.mpr hd, dieUp_of_ptpTxInfo hw hd, hview]
  case ptpObserved =>
    intro s q d hw hd hview
    refine (ptpTxInfoRead_next hw hd).trans ?_
    simp [ptpInfoRead, Nat.not_le.mpr hd, dieUp_of_ptpTxInfo hw hd, hview]
  case ppsOut =>
    intro s rising hw hCfgEn
    refine clocked_next hw ?_
    simp [ppsOutEdge, hCfgEn]
  case syncOutLevel =>
    intro s n rising hw hn hCfgMode
    refine clocked_next hw ?_
    simp [syncOutEdge, Nat.not_le.mpr hn, hCfgMode]
  case syncOutFalls =>
    intro s n hw hn hCfgMode
    refine clocked_next hw ?_
    simp [syncOutEdge, Nat.not_le.mpr hn, hCfgMode]
  case syncOutRises =>
    rintro s n s1 hw hn hCfgMode rfl
    refine clocked_next hw ?_
    simp [syncOutEdge, Nat.not_le.mpr hn, hCfgMode]
  case syncTimeout =>
    intro s hw hWorkSource
    refine clocked_next hw ?_
    simp [syncReceiptTimeout, hWorkSource]
  case holdoverLimit =>
    intro s hw hStatusState
    refine clocked_next hw ?_
    simp [holdoverExpiry, hStatusState]
  case pll =>
    intro s which hw
    refine powered_next hw ?_
    simp [pllLockLoss]
  case epoch =>
    intro s delays hw
    exact clocked_next hw rfl

/-- Settles O41, by the state of the planner and the plan it holds. -/
theorem plannerRowsComplete : Obligations.PlannerRowsComplete := by
  refine ⟨?synthesisOffers, ?synthesisRests, ?commitAsksAgain, ?commitInForce, ?quarantineEnds, ?quarantineFrozen, ?returnHold, ?alphaActs, ?alphaWaits,
    ?survey, ?approve, ?approveQuarantine, ?approveStale, ?reject, ?rejectStale, ?approveTimeout, ?freeze, ?unfreeze, ?replan, ?ssIndexWrite, ?trapToken,
    ?exportBlock⟩
  case synthesisOffers =>
    intro s hw hRunning hCommitting hWaiting hStatusState hEnables
    refine engine_next hw ?_
    simp [synthesisDone, hRunning, hCommitting, hWaiting, hStatusState, hEnables]
  case synthesisRests =>
    intro s hw hRunning hCommitting hWaiting hStatusState hEnables
    refine engine_next hw ?_
    simp [synthesisDone, hRunning, hCommitting, hWaiting, hStatusState, hEnables]
  case commitAsksAgain =>
    intro s c hw hCommit hPlanState hAny hFilter
    refine engine_next hw ?_
    simp [commitApply, hCommit, hPlanState, hAny, hFilter]
  case commitInForce =>
    rintro s c s1 hw hcommit hstate hpending hlost hforce rfl
    refine engine_next hw ?_
    have hsome : s.pln.inForce.isNone = false := by rw [← Option.not_isSome, hforce]; rfl
    simp [commitApply, hcommit, hstate, hpending, hlost, hsome]
  case quarantineEnds =>
    intro s p hw hp hquar hthawed
    refine engine_next hw ?_
    simp [quarantineExpiry, quarantineEnds, Nat.not_le.mpr hp, hquar, hthawed]
  case quarantineFrozen =>
    intro s p hw hp hQuarantined hThawed
    refine engine_next hw ?_
    simp [quarantineExpiry, Nat.not_le.mpr hp, hQuarantined, hThawed]
  case returnHold =>
    intro s p hw haway hup hnew
    refine engine_next hw ?_
    rw [returnHoldExpiry, if_neg (by rw [haway, hup, hnew]; decide)]
  case alphaActs =>
    intro s hw hon hthawed hidle
    refine engine_next hw ?_
    simp [alphaAdjust, alphaAct, hon, hthawed, hidle]
  case alphaWaits =>
    intro s hw hEnables hThawed
    refine engine_next hw ?_
    simp [alphaAdjust, hEnables, hThawed]
  case survey =>
    intro s hw
    refine engine_next hw ?_
    simp [surveyRecord]
  case approve =>
    intro s q pl hw hWaitingPlan hQuar hStatusState
    refine writeRow_next hw ?_
    simp [planApprove, gated_runs hw, hWaitingPlan, hQuar, hStatusState]
  case approveQuarantine =>
    intro s q pl p hw hWaitingPlan hQuar
    refine writeRow_next hw ?_
    simp [planApprove, gated_runs hw, hWaitingPlan, hQuar]
  case approveStale =>
    intro s q hw hWaitingPlan
    refine writeRow_next hw ?_
    simp [planApprove, gated_runs hw, hWaitingPlan]
  case reject =>
    intro s q pl hw hnamed hwaiting
    refine writeRow_next hw ?_
    simp [planReject, discardPlan, gated_runs hw, hnamed, hwaiting]
  case rejectStale =>
    intro s q hw hWaitingPlan
    refine writeRow_next hw ?_
    simp [planReject, gated_runs hw, hWaitingPlan]
  case approveTimeout =>
    intro s pl hw hstate hwaiting
    refine engine_next hw ?_
    simp [approveTimeout, discardPlan, hstate, hwaiting]
  case freeze =>
    intro s q w hw hreplan hthawed
    refine writeRow_next hw ((gated_runs hw _).trans ?_)
    simp [ctrlWrite, bitsOf_setBit, hreplan, hthawed]
  case unfreeze =>
    intro s q w hw hreplan hfrozen
    refine writeRow_next hw ((gated_runs hw _).trans ?_)
    obtain ⟨hdetour, hreq, hbit, hclear⟩ := bitsOf_clear_one w
    simp [ctrlWrite, hdetour, hreq, hbit, hclear, hreplan, hfrozen]
  case replan =>
    intro s q w hw hsame
    refine writeRow_next hw ((gated_runs hw _).trans ?_)
    have hfreeze : ¬ (bitsOf w 1 1 = 0 ∧ bitsOf w 1 1 = 1) := by omega
    have hunfreeze : ¬ (bitsOf w 1 1 = 1 ∧ bitsOf w 1 1 = 0) := by omega
    simp [ctrlWrite, bitsOf_setBit, ← hsame, hfreeze, hunfreeze]
  case ssIndexWrite =>
    intro s q h hw
    exact writeRow_next hw (if_neg (by rw [terminal_of_answers hw]; decide))
  case trapToken =>
    intro s hw
    refine engine_next hw ?_
    simp [trapTokenRefill]
  case exportBlock =>
    rintro s d0 d1 block s1 hw hBuilding rfl
    refine engine_next hw ?_
    simp [exportComplete, hBuilding]

/-- Settles O43, by the mode and the running command of the core. -/
theorem microcodeRowsComplete : Obligations.MicrocodeRowsComplete := by
  refine ⟨?reload, ?reloadRefused, ?reloadOk, ?reloadFailed, ?scrub, ?scrubRefused, ?scrubSame, ?scrubFixes, ?scrubDone, ?window, ?counterWrite,
    ?counterWraps, ?sampleLost, ?sampleKept, ?sampleCfg, ?tail, ?tailRefused⟩
  case reload =>
    intro s q c hw hc hStatusMode hStatusBusy
    refine writeRow_next hw ?_
    simp [ucReload, gated_runs hw, Nat.not_le.mpr hc, hStatusMode, hStatusBusy]
  case reloadRefused =>
    intro s q c hw hc hmode
    refine writeRow_next hw ?_
    rw [ucReload, if_neg (Nat.not_le.mpr hc), gated_runs hw, if_neg (by omega)]
  case reloadOk =>
    rintro s c s1 hw hc hUcCmd rfl
    refine clocked_next hw ?_
    simp [ucReloadDone, Nat.not_le.mpr hc, hUcCmd]
  case reloadFailed =>
    intro s c hw hc hUcCmd
    refine clocked_next hw ?_
    simp [ucReloadDone, Nat.not_le.mpr hc, hUcCmd]
  case scrub =>
    intro s q c hw hc hStatusMode hStatusBusy
    refine writeRow_next hw ?_
    simp [ucScrub, gated_runs hw, Nat.not_le.mpr hc, hStatusMode, hStatusBusy]
  case scrubRefused =>
    intro s q c hw hc hmode
    refine writeRow_next hw ?_
    rw [ucScrub, if_neg (Nat.not_le.mpr hc), gated_runs hw, if_neg (by omega)]
  case scrubSame =>
    rintro s c back n hw hc hUcCmd rfl hn hUcWord
    refine clocked_next hw ?_
    simp [ucScrubWord, Nat.not_le.mpr hc, hUcCmd, Nat.not_le.mpr hn, hUcWord]
  case scrubFixes =>
    rintro s c n hw hc hUcCmd rfl hn
    refine clocked_next hw ?_
    simp [ucScrubWord, Nat.not_le.mpr hc, hUcCmd, Nat.not_le.mpr hn]
  case scrubDone =>
    intro s c hw hc hUcCmd hbound
    refine clocked_next hw ?_
    simp [ucScrubDone, Nat.not_le.mpr hc, hUcCmd, Nat.not_lt.mpr hbound]
  case window =>
    rintro s q c store a v hw hc rfl
    refine writeRow_next hw ?_
    simp [ucRdAddrWrite, gated_runs hw, Nat.not_le.mpr hc]
  case counterWrite =>
    intro s q c n hi v hw hc hn
    refine writeRow_next hw ?_
    simp [pmcWrite, gated_runs hw, Nat.not_le.mpr hc, Nat.not_le.mpr hn]
  case counterWraps =>
    intro s c n hw hc hn hon hen hfull hevent hknown
    refine clocked_next hw (if_neg ?_)
    rintro (h | h | h | h | h | h | h) <;> omega
  case sampleLost =>
    intro s c r more hw hSmpDue hc hbound
    refine clocked_next hw ?_
    simp [sampleRecord, hSmpDue, Nat.not_le.mpr hc, hbound]
  case sampleKept =>
    rintro s c r more s1 hw hdue hc hroom rfl hthresh
    refine clocked_next hw ?_
    simp only [sampleRecord, hdue, Nat.not_le.mpr hc, Nat.not_le.mpr hroom, hthresh, if_false]
  case sampleCfg =>
    intro s q c w hw hc
    refine writeRow_next hw ?_
    simp [smpCfgWrite, gated_runs hw, Nat.not_le.mpr hc]
  case tail =>
    intro s q c v hw hc hheld
    refine writeRow_next hw ?_
    rw [smpTailWrite, if_neg (Nat.not_le.mpr hc), gated_runs hw, smpTailPut, if_neg (Nat.not_lt.mpr hheld)]
  case tailRefused =>
    intro s q c v hw hc hheld
    refine writeRow_next hw ?_
    rw [smpTailWrite, if_neg (Nat.not_le.mpr hc), gated_runs hw, smpTailPut, if_pos hheld]

end Sys2Proof.Machine

/-! PROOF. Interrupts, the fault unit with the resets, and the memory channels (14_interrupts.md; 15_faults.md R371 to R392; 16_dram.md). -/

namespace Sys2Proof.Machine

section
variable {q : Requester} {j n : Nat} {s : State}

theorem claim_next (hw : answers q .CLAIM j s = true) (hj : j < 7) : (.next (readRow q .CLAIM j s) : Answer) = .next (claimRead q j s) :=
  readRow_next hw ((by decide +kernel : ∀ j < 7, regAt (regOffset .CLAIM j) = some ⟨.CLAIM, j, 0⟩) j hj)
    ((by decide +kernel : ∀ j < 7, regOffset .CLAIM j % 4 = 0) j hj) (by simp only [readReg])

/-- A source that may be delivered and is neither at its storm limit nor masked goes to the next target. -/
theorem deliver_next (h97 : n ≠ 97) (hready : deliverable n s = true) (hstorm : s.fld F.SRC_STATUS_EPOCH_DELIVERIES n < s.fld F.SRC_CFG_STORM_LIMIT n)
    (hmask : s.fld F.SRC_CFG_MASK n ≠ 1) (hj : nextTarget (s.fld F.SRC_CFG_ENABLE n) (tget 6 s.intc.rot n) 7 = j) :
    interruptDelivery n s =
      let s3 := (s.setFld F.SRC_STATUS_TARGET n j).setFld F.SRC_STATUS_EPOCH_DELIVERIES n (s.fld F.SRC_STATUS_EPOCH_DELIVERIES n + 1)
      let s4 : State := { s3 with intc := { s3.intc with rot := tset 6 s3.intc.rot n j } }
      if requestLine j s then s4 else assertRequest j s4 := by
  subst hj
  rw [interruptDelivery, sampleLevel, if_neg h97, deliver, if_neg (by rw [hready]; decide), if_neg (Nat.not_le.mpr hstorm)]
  simp only [hmask, if_false]

/-- The owner of a target completes the source of its claim. -/
theorem completeWrite_owned (hw : (answers q .COMPLETE j s && privileged q (blockOf (regOffset .COMPLETE j)) s) = true) (hj : j < 7)
    (howns : ownsTarget q j = true) :
    completeWrite q j n s =
      let m := n % 512
      let s1 := if srcExists m = true ∧ s.fld F.SRC_STATUS_IN_SERVICE m = 1 ∧ s.fld F.SRC_STATUS_TARGET m = j then endService m s
        else s.bump F.COMPLETE_STRAY 0
      if requestLine j s1 then (if j = 4 then signalVector 0 0 s1 else if j = 5 then signalVector 1 0 s1 else s1) else s1 := by
  have hacts : ¬ (7 ≤ j ∨ s.terminal = true) := by simp [Nat.not_le.mpr hj, terminal_of_answers hw]
  rw [completeWrite, if_neg hacts, if_neg (by rw [howns]; decide)]

end

/-- Settles O50, by the request line of the target, the owner of the claim and the target that an enable mask takes away. -/
theorem interruptRowsComplete : Obligations.InterruptRowsComplete := by
  refine ⟨?delivered, ?deliveredAsserts, ?claim, ?claimNone, ?claimObserved, ?complete, ?completeStray, ?mask, ?withdrawn, ?enable, ?swRaise⟩
  case delivered =>
    intro s n j hw h97 hready hstorm hmask hj hline
    exact clocked_next hw ((deliver_next h97 hready hstorm hmask hj).trans (if_pos hline))
  case deliveredAsserts =>
    intro s n j hw h97 hready hstorm hmask hj hline
    exact clocked_next hw ((deliver_next h97 hready hstorm hmask hj).trans (if_neg (Bool.eq_false_iff.mp hline)))
  case claim =>
    rintro s q j n hw hj howns rfl hsome
    refine (claim_next hw hj).trans ?_
    simp [claimRead, Nat.not_le.mpr hj, howns, hsome]
  case claimNone =>
    intro s q j hw hj howns hnone
    refine (claim_next hw hj).trans ?_
    simp [claimRead, Nat.not_le.mpr hj, hnone]
  case claimObserved =>
    rintro s q j n hw hj hother rfl
    refine (claim_next hw hj).trans ?_
    simp [claimRead, Nat.not_le.mpr hj, hother]
  case complete =>
    rintro s q j n m s1 hw hj howns rfl hexists hservice htarget rfl hline
    refine writeRow_next hw ((completeWrite_owned hw hj howns).trans ?_)
    simp [hexists, hservice, htarget, hline]
  case completeStray =>
    rintro s q j n m hw hj howns rfl hservice hline
    refine writeRow_next hw ((completeWrite_owned hw hj howns).trans ?_)
    simp [hservice, hline]
  case mask =>
    intro s q n m hw hSrcExists
    refine writeRow_next hw ?_
    simp [srcMaskWrite, gated_runs hw, hSrcExists]
  case withdrawn =>
    rintro s q n e j s1 hw hexists rfl hdelivered hj hoff rfl
    refine writeRow_next hw ?_
    rw [srcEnableWrite, if_pos hexists, gated_runs hw]
    exact if_pos ⟨hdelivered, hj, hoff⟩
  case enable =>
    rintro s q n e j hw hexists rfl hkeeps
    refine writeRow_next hw ?_
    rw [srcEnableWrite, if_pos hexists, gated_runs hw]
    refine if_neg fun ⟨hdelivered, hj, hoff⟩ => ?_
    rcases hkeeps with h | h | h
    · omega
    · simp [hdelivered] at h
    · simp [hoff] at h
  case swRaise =>
    intro s q hw
    refine writeRow_next hw ?_
    simp [swRaise, gated_runs hw]

section
variable {d : Nat} {ok : Bool} {s : State}

/-- A die that is rebuilt, in reset, not held and not dead may return. -/
theorem dieReadmit_may (hd : d < 4) (hreset : inUnitReset (34 + d) s = true) (hfree : dieHeld d s = false) (halive : dieDead d s = false)
    (hrebuilt : tget false s.flt.rebuilt d = true) :
    ¬ (4 ≤ d ∨ inUnitReset (34 + d) s = false ∨ dieHeld d s = true ∨ dieDead d s = true ∨ tget false s.flt.rebuilt d = false) := by
  simp [Nat.not_le.mpr hd, hreset, hfree, halive, hrebuilt]

/-- A return that fails is counted and raised; the die is reset once more after its first failure. -/
theorem dieReadmit_fails (hmay : ¬ (4 ≤ d ∨ inUnitReset (34 + d) s = false ∨ dieHeld d s = true ∨ dieDead d s = true ∨ tget false s.flt.rebuilt d = false))
    (hok : (ok && dieVerify d s) = false) :
    dieReadmit d ok s =
      let n := tget 0 s.flt.dieFails d + 1
      let s2 := raiseFault 74 d 0 { s with flt := { s.flt with dieFails := tset 0 s.flt.dieFails d n } }
      if n < 2 then dieReset d (unitEnd (34 + d) s2) else s2 := by
  have hfailed : ¬ (ok = true ∧ dieVerify d s = true) := fun ⟨h, hv⟩ => by simp [h, hv] at hok
  rw [dieReadmit, if_neg hmay, if_neg hfailed]

/-- Nothing settles in a part that is not held in reset. -/
theorem settleTerminal_powered (h : s.ldr.held = false) : settleTerminal s = s :=
  if_neg fun ⟨_, hheld, _⟩ => by simp [h] at hheld

end

/-- Settles O51, by the key of a reset request, the reaction word and the check of a returning die. -/
theorem faultAndResetRowsComplete : Obligations.FaultAndResetRowsComplete := by
  refine ⟨?commit, ?temperature, ?firstClear, ?faultNRelease, ?escalation, ?reaction, ?reactionRefused, ?windowCloses, ?holdSet, ?holdSetKey, ?holdClear,
    ?holdClearKey, ?dieRebuilds, ?returns, ?failsOnce, ?failsAgain, ?meReset, ?meResetKey, ?hifReset, ?hifResetKey, ?hifResetEnd⟩
  case commit =>
    rintro s e es x hw hsorted rfl hheld
    refine congrArg Host.Outcome.next (Eq.trans ?_ (settleTerminal_powered hheld))
    simp only [faultCommit, hsorted]
  case temperature =>
    intro s i deg s1 hw hi hcool hwarn h1
    refine powered_next hw ?_
    have hi' : ¬ 5 ≤ i := by omega
    have hover : ¬ 125 < deg := by omega
    have hwarm : ¬ Int.ofNat (s.fld F.FLT_CFG_TJ_WARN 0) ≤ deg := by omega
    have hcold : deg ≤ Int.ofNat (s.fld F.FLT_CFG_TJ_WARN 0) - 5 := by omega
    simp only [tempSensorRead, hi', hover, hwarm, hcold, h1, decide_false, Bool.false_eq_true, false_and, if_false, if_true]
  case firstClear =>
    intro s q hw
    exact writeRow_next hw (gated_runs hw _)
  case faultNRelease =>
    intro s q hw
    refine writeRow_next hw ?_
    simp [faultNRelease, gated_runs hw]
  case escalation =>
    intro s q n w hw hpos hn
    have hknown : ¬ (n = 0 ∨ 5 ≤ n) := by omega
    exact writeRow_next hw ((if_pos rfl).trans ((if_neg hknown).trans (gated_runs hw _)))
  case reaction =>
    intro s q n w hw hpos hn hexists hfits hwindow hlimit
    have hknown : ¬ (n = 0 ∨ 128 ≤ n) := by omega
    refine writeRow_next hw ((if_neg (by decide)).trans ((if_neg hknown).trans ((gated_runs hw _).trans ?_)))
    simp only [srcReactPut, hexists, hfits, hwindow, hlimit, Bool.true_eq_false, Bool.false_eq_true, or_self, if_false]
  case reactionRefused =>
    intro s q n w hw hpos hn hbad
    have hknown : ¬ (n = 0 ∨ 128 ≤ n) := by omega
    exact writeRow_next hw ((if_neg (by decide)).trans ((if_neg hknown).trans ((gated_runs hw _).trans (if_pos (.inr hbad)))))
  case windowCloses =>
    intro s u hw hup
    exact powered_next hw (if_neg (Bool.eq_false_iff.mp hup))
  case holdSet =>
    intro s q key d hw hkey hd henabled hfree
    refine writeRow_next hw ((gated_runs hw _).trans ((if_pos ⟨hkey, hd⟩).trans ?_))
    simp [dieHoldPut, henabled, hfree]
  case holdSetKey =>
    intro s q key d hw hKey
    refine writeRow_next hw ?_
    simp [dieHoldWrite, gated_runs hw, hKey]
  case holdClear =>
    intro s q key d hw hkey hd henabled hheld
    refine writeRow_next hw ((gated_runs hw _).trans ((if_pos ⟨hkey, hd⟩).trans ?_))
    simp [dieHoldPut, henabled, hheld]
  case holdClearKey =>
    intro s q key d hw hKey
    refine writeRow_next hw ?_
    simp [dieHoldWrite, gated_runs hw, hKey]
  case dieRebuilds =>
    intro s d hw hd hInUnitReset hDieHeld hDieDead
    refine clocked_next hw ?_
    simp [dieResetEnd, Nat.not_le.mpr hd, hInUnitReset, hDieHeld, hDieDead]
  case returns =>
    rintro s d s1 s2 hw hd hInUnitReset hDieHeld hDieDead hRebuilt hDieVerify rfl rfl
    refine clocked_next hw ?_
    simp [dieReadmit, Nat.not_le.mpr hd, hInUnitReset, hDieHeld, hDieDead, hRebuilt, hDieVerify]
  case failsOnce =>
    intro s d ok s1 hw hd hreset hfree halive hrebuilt hok hfirst h1
    refine clocked_next hw ((dieReadmit_fails (dieReadmit_may hd hreset hfree halive hrebuilt) hok).trans ?_)
    dsimp only at h1 ⊢
    rw [hfirst, h1]
    rfl
  case failsAgain =>
    intro s d ok n hw hd hreset hfree halive hrebuilt hok hfails hn
    refine clocked_next hw ((dieReadmit_fails (dieReadmit_may hd hreset hfree halive hrebuilt) hok).trans ?_)
    dsimp only
    rw [hfails, if_neg (by omega)]
  case meReset =>
    intro s q key hw hKey
    refine writeRow_next hw ?_
    simp [meReset, gated_runs hw, hKey]
  case meResetKey =>
    intro s q key hw hKey
    refine writeRow_next hw ?_
    simp [meReset, gated_runs hw, hKey]
  case hifReset =>
    intro s q key hw hkey hup
    exact writeRow_next hw ((gated_runs hw _).trans ((if_pos hkey).trans (if_neg (Bool.eq_false_iff.mp hup))))
  case hifResetKey =>
    intro s q key hw hKey
    refine writeRow_next hw ?_
    simp [hifReset, gated_runs hw, hKey]
  case hifResetEnd =>
    intro s rate width hw hInUnitReset
    refine powered_next hw ?_
    simp [hifResetEnd, hInUnitReset]

/-- Settles O52, by the state of the channel and what the request's read met. -/
theorem dramRowsComplete : Obligations.DramRowsComplete := by
  refine ⟨?requestFailed, ?requestWrite, ?requestRead, ?requestUe, ?requestParity, ?patrol, ?patrolFix, ?temperature, ?refreshCatchup, ?refreshDebt,
    ?catchupEnd, ?neighbourRefresh, ?rdWindowEnd, ?retrain, ?retrained, ?retrainFails, ?phyLoss⟩
  case requestFailed =>
    intro s c ecc parity r s1 hw hc hCatchup hStatusState hTakeRequest
    refine clocked_next hw ?_
    simp [requestIssue, Nat.not_le.mpr hc, hCatchup, hStatusState, hTakeRequest]
  case requestWrite =>
    intro s c ecc r s1 hw hc hCatchup hStatusState hTakeRequest hWrite hOld
    refine clocked_next hw ?_
    simp [requestIssue, Nat.not_le.mpr hc, hCatchup, hStatusState, hTakeRequest, hWrite, hOld]
  case requestRead =>
    intro s c ecc r s1 hw hc hCatchup hStatusState hTakeRequest hWrite
    refine clocked_next hw ?_
    simp [requestIssue, Nat.not_le.mpr hc, hCatchup, hStatusState, hTakeRequest, hWrite]
  case requestUe =>
    intro s c r s1 hw hc hCatchup hStatusState hTakeRequest hWrite hOld
    refine clocked_next hw ?_
    simp [requestIssue, Nat.not_le.mpr hc, hCatchup, hStatusState, hTakeRequest, hWrite, hOld]
  case requestParity =>
    intro s c ecc r s1 hw hc hCatchup hStatusState hTakeRequest hWrite hOld
    refine clocked_next hw ?_
    simp [requestIssue, Nat.not_le.mpr hc, hCatchup, hStatusState, hTakeRequest, hWrite, hOld]
  case patrol =>
    rintro s c ecc i s1 hw hc hPatrolEn hStatusState hCatchup rfl rfl hEcc
    refine clocked_next hw ?_
    simp [patrolRead, Nat.not_le.mpr hc, hPatrolEn, hStatusState, hCatchup, hEcc]
  case patrolFix =>
    rintro s c i s1 hw hc hPatrolEn hStatusState hCatchup rfl rfl
    refine clocked_next hw ?_
    simp [patrolRead, Nat.not_le.mpr hc, hPatrolEn, hStatusState, hCatchup]
  case temperature =>
    intro s m raw s1 hw hm hlow hhigh hcool hcold h1
    refine clocked_next hw ?_
    have hm' : ¬ 2 ≤ m := by omega
    have hrise : ¬ signed8 (s.fld F.STACK_TEMP_FILTERED m) + 2 < raw := by omega
    have hfall : ¬ raw < signed8 (s.fld F.STACK_TEMP_FILTERED m) - 2 := by omega
    have hhot : ¬ 85 < raw := by omega
    simp [stackTempRead, hm', hrise, hfall, hhot, hcool, hcold, h1]
  case refreshCatchup =>
    intro s c pc n hw hc hPc hRefreshes hCatchup
    refine clocked_next hw ?_
    simp [refreshDue, Nat.not_le.mpr hc, Nat.not_le.mpr hPc, hRefreshes, hCatchup]
  case refreshDebt =>
    intro s c pc n hw hc hPc hRefreshes hCatchup
    refine clocked_next hw ?_
    simp [refreshDue, Nat.not_le.mpr hc, Nat.not_le.mpr hPc, hRefreshes, hCatchup]
  case catchupEnd =>
    intro s c hw hc hCatchup
    refine clocked_next hw ?_
    simp [catchupEnd, Nat.not_le.mpr hc, hCatchup]
  case neighbourRefresh =>
    intro s c pc bank row hw hc hpc hbank hcatchup hact
    have hacts : ¬ (32 ≤ c ∨ 2 ≤ pc ∨ 2 ^ 16 ≤ bank ∨ s.fld F.CH_STATUS_CATCHUP c = 1 ∨
        (tget [] s.dram.act ((c * 2 + pc) * 2 ^ 16 + bank)).any (fun e => e.1 == row && decide (rdThreshold c s ≤ e.2)) = false) := by
      rintro (h | h | h | h | h)
      · omega
      · omega
      · omega
      · omega
      · exact absurd (hact.symm.trans h) (by decide)
    refine ⟨_, clocked_next hw (if_neg hacts), _, rfl, Nat.le_trans (List.length_filter_le _ _) ?_⟩
    split <;> exact Nat.le_of_ble_eq_true rfl
  case rdWindowEnd =>
    intro s c hw hc
    refine clocked_next hw ?_
    simp [rdWindowEnd, Nat.not_le.mpr hc]
  case retrain =>
    intro s q c hw hc hstate
    refine writeRow_next hw ?_
    rw [channelRetrain, if_neg (Nat.not_le.mpr hc), gated_runs hw, retrainChannel, if_neg (by omega)]
  case retrained =>
    rintro s c s1 hw hc hStatusState rfl
    refine clocked_next hw ?_
    simp [channelRetrainEnd, Nat.not_le.mpr hc, hStatusState]
  case retrainFails =>
    intro s c hw hc hStatusState
    refine clocked_next hw ?_
    simp [channelRetrainEnd, Nat.not_le.mpr hc, hStatusState]
  case phyLoss =>
    intro s c hw hc hStatusState
    refine clocked_next hw ?_
    simp [channelPhyLoss, Nat.not_le.mpr hc]

end Sys2Proof.Machine

/-! PROOF. The start sequence and the recovery mailbox (17_startup_image.md R395 to R441). -/

namespace Sys2Proof.Machine

section
variable {n : Nat} {act : State → State} {s : State}

/-- A step of the start sequence acts in its own state of the loader. -/
theorem inStart_runs (hstate : startState s = n) (hterminal : s.terminal = false) (hup : s.ldr.held = false) : inStart n act s = act s :=
  if_pos ⟨hstate, hterminal, hup⟩

/-- RESET_HELD ends where its conditions have gone. -/
theorem tryLeave_leaves (hheld : s.ldr.held = true) (hterminal : s.terminal = false) (hgone : resetCondition s.ldr = false) :
    tryLeave s = leaveHeld s :=
  if_pos ⟨hheld, hterminal, hgone⟩

theorem tryLeave_up (hup : s.ldr.held = false) : tryLeave s = s :=
  if_neg fun ⟨hheld, _⟩ => by simp [hup] at hheld

end

/-- Settles O53, by the state of the loader and by what the step of the sequence found. -/
theorem startSequenceComplete : Obligations.StartSequenceComplete := by
  refine ⟨?trained, ?trainingFails, ?calibrated, ?calibrationFails, ?railAbsolute, ?railFirstOut, ?railSecondOut, ?railGood, ?resetFalls, ?resetRises,
    ?resetLeaves, ?settled, ?fusesFail, ?fuses, ?slots, ?noFlash, ?authFails, ?authOk, ?loadRefused, ?loadOk, ?rolledBack, ?links, ?planTimeout⟩
  case trained =>
    rintro s s1 hw hTrained hHeld hTerminal hStatusState rfl
    refine congrArg Host.Outcome.next ?_
    simp [baseTrainingDone, hTrained, hHeld, hTerminal, hStatusState]
  case trainingFails =>
    rintro s bad t hw htrained hup hterminal hstate hbad rfl hnormal
    refine congrArg Host.Outcome.next ?_
    rw [baseTrainingDone, if_neg (by simp [htrained, hup, hterminal, hstate])]
    refine if_neg ?_
    rintro (h | h)
    · rw [hbad] at h
      cases h
    · exact absurd (hnormal.symm.trans h) (by decide)
  case calibrated =>
    intro s hw hstate hterminal hup
    exact congrArg Host.Outcome.next ((inStart_runs hstate hterminal hup).trans (if_pos rfl))
  case calibrationFails =>
    rintro s bad t hw hstate hterminal hup hbad rfl
    exact congrArg Host.Outcome.next ((inStart_runs hstate hterminal hup).trans (if_neg (Bool.eq_false_iff.mp hbad)))
  case railAbsolute =>
    intro s i uv hw hi hRailReading hRailBad
    refine congrArg Host.Outcome.next ?_
    simp [railSample, Nat.not_le.mpr hi, hRailReading, hRailBad]
  case railFirstOut =>
    intro s i uv hw hi hRailReading hRailOut
    refine congrArg Host.Outcome.next ?_
    simp [railSample, Nat.not_le.mpr hi, hRailReading, hRailOut]
  case railSecondOut =>
    intro s i uv hw hpos hi hreading hout hgood hup
    refine congrArg Host.Outcome.next ?_
    have hknown : ¬ 8 ≤ i := by omega
    have hscan : ¬ (i = 0 ∨ i = 6) := by omega
    simp only [railSample, hknown, if_false, hreading, hout, hgood, hup, hscan]
    rfl
  case railGood =>
    rintro s i uv l hw hi hRailReading hRailsGood rfl
    refine congrArg Host.Outcome.next ?_
    simp [railSample, Nat.not_le.mpr hi, hRailReading, hRailsGood]
  case resetFalls =>
    intro s hw hHeld hTerminal
    refine congrArg Host.Outcome.next ?_
    simp [resetNEdge, hHeld, hTerminal]
  case resetRises =>
    intro s hw hup
    exact congrArg Host.Outcome.next (tryLeave_up hup)
  case resetLeaves =>
    rintro s l hw rfl hheld hterminal hgone
    exact congrArg Host.Outcome.next (tryLeave_leaves hheld hterminal hgone)
  case settled =>
    rintro s l hw rfl hheld hterminal hgone
    exact congrArg Host.Outcome.next (tryLeave_leaves hheld hterminal hgone)
  case fusesFail =>
    intro s n hw hstate hterminal hup
    exact congrArg Host.Outcome.next (inStart_runs hstate hterminal hup)
  case fuses =>
    rintro s n s1 hw hstate hterminal hup rfl
    exact congrArg Host.Outcome.next ((inStart_runs hstate hterminal hup).trans (if_neg (by decide)))
  case slots =>
    intro s hw hstate hterminal hup
    exact congrArg Host.Outcome.next (inStart_runs hstate hterminal hup)
  case noFlash =>
    intro s hw hstate hterminal hup
    exact congrArg Host.Outcome.next (inStart_runs hstate hterminal hup)
  case authFails =>
    rintro s e s1 hw hstate hterminal hup hauth rfl
    refine congrArg Host.Outcome.next ((inStart_runs hstate hterminal hup).trans ?_)
    simp only [hauth]
  case authOk =>
    rintro s recs x hw hstate hterminal hup hauth rfl
    refine congrArg Host.Outcome.next ((inStart_runs hstate hterminal hup).trans ?_)
    simp only [hauth]
  case loadRefused =>
    intro s x hw hstate hterminal hup htrained hopen hrefused
    refine congrArg Host.Outcome.next ((inStart_runs hstate hterminal hup).trans ?_)
    simp only [htrained, hopen, hrefused, Bool.true_eq_false, or_self, if_false]
  case loadOk =>
    intro s hw hstate hterminal hup htrained hopen hrefused hcross hslot
    refine congrArg Host.Outcome.next ((inStart_runs hstate hterminal hup).trans ?_)
    rw [hslot] at hopen hcross ⊢
    simp only [htrained, hopen, hrefused, hcross, Bool.true_eq_false, or_self, if_false, Nat.zero_ne_one]
  case rolledBack =>
    intro s hw hstate hterminal hup hfull
    exact congrArg Host.Outcome.next ((inStart_runs hstate hterminal hup).trans (if_neg (not_not_intro hfull)))
  case links =>
    rintro s s2 hw hstate hterminal hup hcalibrated rfl
    exact congrArg Host.Outcome.next ((inStart_runs hstate hterminal hup).trans (if_neg (by rw [hcalibrated]; decide)))
  case planTimeout =>
    intro s hw hstate hterminal hup
    exact congrArg Host.Outcome.next (inStart_runs hstate hterminal hup)

section
variable {q : Requester} {op r : Nat} {act : State → State × Nat} {s u : State}

/-- A recovery command of a legal length acts at its start and is busy with its result. -/
theorem rcvStart_acts (hw : (answers q .RCV_CMD 0 s && privileged q (blockOf (regOffset .RCV_CMD 0)) s) = true)
    (hidle : s.fld F.RCV_STATUS_BUSY 0 ≠ 1) (hlen : rcvLenOk s = true) (hact : act s = (u, r)) : rcvStart q op act s = rcvBegin op r u := by
  rw [rcvStart, gated_runs hw, if_neg hidle, if_neg (by rw [hlen]; decide), hact]

/-- A recovery command of a length out of range, or one that its operation refuses, ends with result 1. -/
theorem rcvStart_refused (hw : (answers q .RCV_CMD 0 s && privileged q (blockOf (regOffset .RCV_CMD 0)) s) = true)
    (hidle : s.fld F.RCV_STATUS_BUSY 0 ≠ 1) (hrefused : rcvLenOk s = false ∨ act s = (s, 1)) : rcvStart q op act s = rcvBegin op 1 s := by
  rw [rcvStart, gated_runs hw, if_neg hidle]
  split
  · rfl
  · next hlen => rw [hrefused.resolve_left hlen]

end

/-- Settles O54, by the range and the alignment of the command and how its operation ended. -/
theorem recoveryRowsComplete : Obligations.RecoveryRowsComplete := by
  refine ⟨?read, ?readRefused, ?program, ?programMisaligned, ?programRefused, ?erase, ?eraseMisaligned, ?eraseRefused, ?checkFails, ?checkOk, ?checkRefused,
    ?restart, ?restartRefused, ?ends, ?exceedsBound, ?reload, ?reloadKey⟩
  case read =>
    intro s q hw hidle hsafe hlen hrange
    refine writeRow_next hw (rcvStart_acts hw hidle hlen (if_neg ?_))
    simp only [hsafe, Nat.not_lt.mpr hrange, Bool.true_eq_false, or_self, not_false_eq_true]
  case readRefused =>
    intro s q hw hidle hrefused
    exact writeRow_next hw (rcvStart_refused hw hidle (hrefused.symm.imp_right fun hsafe => if_pos (.inl hsafe)))
  case program =>
    rintro s q a n hw hidle rfl rfl hlen hmay ha hn
    refine writeRow_next hw (rcvStart_acts hw hidle hlen ?_)
    simp only [hmay, ha, hn, Bool.true_eq_false, ne_eq, not_true, or_self, if_false]
  case programMisaligned =>
    rintro s q a n hw hidle rfl rfl hlen hmay hodd
    exact writeRow_next hw (rcvStart_acts hw hidle hlen ((if_neg (by rw [hmay]; decide)).trans (if_pos hodd)))
  case programRefused =>
    intro s q hw hidle hrefused
    exact writeRow_next hw (rcvStart_refused hw hidle (hrefused.imp_right fun hmay => if_pos hmay))
  case erase =>
    rintro s q a hw hidle hlen rfl hmay ha
    exact writeRow_next hw (rcvStart_acts hw hidle hlen ((if_neg (by rw [hmay]; decide)).trans (if_neg (not_not_intro ha))))
  case eraseMisaligned =>
    rintro s q a hw hidle hlen rfl hmay hodd
    exact writeRow_next hw (rcvStart_acts hw hidle hlen ((if_neg (by rw [hmay]; decide)).trans (if_pos hodd)))
  case eraseRefused =>
    intro s q hw hidle hrefused
    exact writeRow_next hw (rcvStart_refused hw hidle (hrefused.imp_right fun hmay => if_pos hmay))
  case checkFails =>
    intro s q e hw hidle hlen hsafe haddr hauth
    refine writeRow_next hw (rcvStart_acts hw hidle hlen ?_)
    simp [hsafe, haddr, hauth]
  case checkOk =>
    intro s q recs hw hidle hlen hsafe haddr hauth
    refine writeRow_next hw (rcvStart_acts hw hidle hlen ?_)
    simp [hsafe, haddr, hauth]
  case checkRefused =>
    intro s q hw hidle hrefused
    exact writeRow_next hw (rcvStart_refused hw hidle (hrefused.imp_right fun hsafe => if_pos (.inl hsafe)))
  case restart =>
    intro s q hw hStatusBusy hSafe hRcvLenOk
    refine writeRow_next hw ?_
    simp [rcvRestart, gated_runs hw, hStatusBusy, hSafe, hRcvLenOk]
  case restartRefused =>
    intro s q hw hidle hrefused
    refine writeRow_next hw ((gated_runs hw _).trans ((if_neg hidle).trans (if_neg ?_)))
    rintro ⟨hsafe, hlen⟩
    rcases hrefused with h | h
    · simp [hlen] at h
    · simp [hsafe] at h
  case ends =>
    intro s r hw hRcvRun
    refine powered_next hw ?_
    simp [rcvFinish, hRcvRun]
  case exceedsBound =>
    intro s r hw hRcvRun hRcvResult hOp
    refine powered_next hw ?_
    simp [rcvFinish, hRcvRun, hRcvResult, hOp]
  case reload =>
    intro s q key hw hKey
    refine writeRow_next hw ?_
    simp [reload, gated_runs hw, hKey]
  case reloadKey =>
    intro s q key hw hKey
    refine writeRow_next hw ?_
    simp [reload, gated_runs hw, hKey]

end Sys2Proof.Machine

/-! PROOF. The host link, the host rings with the mailbox, and the sidebands with the fuses (18_host_interface.md; 19_register_map.md;
20_electrical_package.md). -/

namespace Sys2Proof.Machine

/-- Settles O55, by the link, the function that answers and the error. -/
theorem hostLinkRowsComplete : Obligations.HostLinkRowsComplete := by
  refine ⟨?linkUp, ?linkDown, ?configRead, ?configCapability, ?configBar, ?configRetry, ?bar2Read, ?bar2ReadRefused, ?bar2Write, ?bar2WriteRefused, ?window,
    ?windowPf1, ?msixUnmask, ?l1Entry, ?l1Exit, ?d3hot, ?d0, ?pmeRepeat, ?flr, ?flrDone, ?timeout, ?statusError, ?correctable, ?poisoned, ?ecrc,
    ?unsupported, ?unexpected, ?fatal⟩
  case linkUp =>
    intro s rate width hw hlow hhigh hwidth
    refine powered_next hw (if_neg ?_)
    rintro (h | h | h)
    · omega
    · omega
    · exact absurd (hwidth.symm.trans h) (by decide)
  case linkDown =>
    rintro s s1 hw rfl
    refine powered_next hw ?_
    simp [pcieLinkDown]
  case configRead =>
    intro s f d hw hf hStatusUp hEnumerated
    refine powered_next hw ?_
    simp [configurationRequest, Nat.not_le.mpr hf, hStatusUp, hEnumerated]
  case configCapability =>
    intro s f c w hw hf hStatusUp hEnumerated
    refine powered_next hw ?_
    simp [configurationRequest, Nat.not_le.mpr hf, hStatusUp, hEnumerated]
  case configBar =>
    intro s f n v hw hf hStatusUp hEnumerated
    refine powered_next hw ?_
    simp [configurationRequest, Nat.not_le.mpr hf, hStatusUp, hEnumerated]
  case configRetry =>
    intro s f r hw hf hStatusUp hEnumerated hSafe
    refine powered_next hw ?_
    simp [configurationRequest, Nat.not_le.mpr hf, hStatusUp, hEnumerated, hSafe]
  case bar2Read =>
    rintro s o n ue a hw hBar2Up rfl
    refine powered_next hw ?_
    simp [bar2Read, hBar2Up]
  case bar2ReadRefused =>
    intro s o n ue hw hBar2Up
    refine powered_next hw ?_
    simp [bar2Read, hBar2Up]
  case bar2Write =>
    rintro s o bs a hw hBar2Up rfl
    refine powered_next hw ?_
    simp [bar2Write, hBar2Up]
  case bar2WriteRefused =>
    intro s o bs hw hBar2Up
    refine powered_next hw ?_
    simp [bar2Write, hBar2Up]
  case window =>
    intro s q v hw hq
    refine writeRow_next hw ?_
    simp [pf1WinWrite, gated_runs hw, hq]
  case windowPf1 =>
    intro s v ha
    exact answered_next ha ((if_pos rfl).trans (if_neg (by rw [runs_of_answers ha]; decide)))
  case msixUnmask =>
    rintro s f v lo hi data mask h hw hf hv hAnswersMem hSafe rfl
    refine powered_next hw ?_
    simp [msixUnmask, Nat.not_le.mpr hf, Nat.not_le.mpr hv, hAnswersMem, hSafe]
  case l1Entry =>
    intro s hw hStatusUp hStatusL1 hTlpWait hAspmL1
    refine powered_next hw ?_
    simp [l1Entry, hStatusUp, hStatusL1, hTlpWait, hAspmL1]
  case l1Exit =>
    rintro s s1 hw hStatusL1 rfl
    refine powered_next hw ?_
    simp [l1Exit, hStatusL1]
  case d3hot =>
    intro s f en clear hw hf hanswers
    refine powered_next hw ?_
    rw [d3hotEntry, pmcsr, if_neg (by simp [Nat.not_le.mpr hf, hanswers])]
  case d0 =>
    intro s f en clear hw hf hanswers
    refine powered_next hw ?_
    rw [d0Entry, pmcsr, if_neg (by simp [Nat.not_le.mpr hf, hanswers])]
  case pmeRepeat =>
    intro s f hw hf hPmeStatus
    refine powered_next hw ?_
    simp [pmeRepeat, hf, hPmeStatus]
  case flr =>
    intro s f hw hf hFuncAnswers
    refine powered_next hw ?_
    simp [functionLevelReset, Nat.not_le.mpr hf, hFuncAnswers]
  case flrDone =>
    intro s f hw hf hFlr
    refine powered_next hw ?_
    simp [flrDone, Nat.not_le.mpr hf, hFlr]
  case timeout =>
    intro s r hw hr
    refine powered_next hw ?_
    simp [completionTimeout, Nat.not_le.mpr hr]
  case statusError =>
    intro s r hw hr
    refine powered_next hw ?_
    simp [completionStatusError, Nat.not_le.mpr hr]
  case correctable =>
    intro s f hw hf
    refine powered_next hw ?_
    simp [tlpError, Nat.not_le.mpr hf]
  case poisoned =>
    intro s f hw hf
    refine powered_next hw ?_
    simp [tlpError, Nat.not_le.mpr hf]
  case ecrc =>
    intro s f hw hf
    refine powered_next hw ?_
    simp [tlpError, Nat.not_le.mpr hf]
  case unsupported =>
    intro s f hw hf
    refine powered_next hw ?_
    simp [tlpError, Nat.not_le.mpr hf]
  case unexpected =>
    intro s f hw hf
    refine powered_next hw ?_
    simp [tlpError, Nat.not_le.mpr hf]
  case fatal =>
    intro s f hw hf
    refine powered_next hw ?_
    simp [tlpError, Nat.not_le.mpr hf]

/-- A transmit frame is fetched where a ring is picked, its bytes are those of its descriptors and they are posted. -/
theorem transmitFrame_fetched {f r : Nat} {descs : List (List Byte)} {data : List Byte} {s : State} (hruns : s.runs = true)
    (hlink : s.fld F.LINK_STATUS_L1 0 ≠ 1) (hnew : frameAt f s = none) (hdescs : descs.isEmpty = false)
    (hlen : data.length = descs.foldl (fun a d => a + leNat (slice d 8 2)) 0) (hposted : txInFlight r s + descs.length ≤ ringPosted r s) :
    ¬ (s.runs = false ∨ s.fld F.LINK_STATUS_L1 0 = 1 ∨ (frameAt f s).isSome = true ∨ descs.isEmpty = true ∨
      data.length ≠ descs.foldl (fun a d => a + leNat (slice d 8 2)) 0 ∨ ringPosted r s < txInFlight r s + descs.length) := by
  simp [hruns, hlink, hnew, hdescs, ← hlen, hposted]

section
variable {q : Requester} {reg : Reg} {r : Nat} {act : State → State} {s : State}

/-- A ring register acts for a requester other than PF1 in the privileged view. -/
theorem ringGate_privileged (hw : (answers q reg r s && privileged q (blockOf (regOffset reg r)) s) = true) (hr : r < 146) (hq : q ≠ .pf1) :
    ringGate q reg r act s = act s := by
  rw [ringGate, if_neg (Nat.not_le.mpr hr), if_neg fun h => hq h.1, gated_runs hw]

/-- A ring register acts for PF1 where the ring is its own. -/
theorem ringGate_pf1 (ha : answers .pf1 reg r s = true) (hr : r < 146) (hring : pf1Ring r s = true) : ringGate .pf1 reg r act s = act s := by
  rw [ringGate, if_neg (Nat.not_le.mpr hr), if_pos ⟨rfl, hring⟩, if_neg (by rw [runs_of_answers ha]; decide)]

end

/-- Settles O56, by the descriptors of the ring, its state, and the length of the mailbox request. -/
theorem hostRingRowsComplete : Obligations.HostRingRowsComplete := by
  refine ⟨?received, ?badDescriptor, ?badFrame, ?fetched, ?writeback, ?tail, ?tailPf1, ?enable, ?disable, ?stopped, ?moderation, ?submit, ?malformed, ?serve,
    ?channel⟩
  case received =>
    rintro s r descs h parts s1 hw hring hlink hup hfill rfl
    refine engine_next hw ?_
    simp only [receiveDmaComplete, hring, hlink, hup, hfill, Bool.true_eq_false, if_false]
  case badDescriptor =>
    intro s r descs h hw hring hlink hup hfill
    refine engine_next hw ?_
    simp only [receiveDmaComplete, hring, hlink, hup, hfill, Bool.true_eq_false, if_false]
  case badFrame =>
    rintro s f descs data ue r h s0 hw hpick hruns hlink hnew hdescs hlen hposted rfl rfl hform
    refine engine_next hw ?_
    rw [transmitFrameFetch, hpick]
    exact (if_neg (transmitFrame_fetched hruns hlink hnew hdescs hlen hposted)).trans (if_pos hform)
  case fetched =>
    intro s f descs data ue r h s0 x mk n a hw hpick hruns hlink hnew hdescs hlen hposted hh h0 hform hport hx hmk hn ha
    refine engine_next hw ?_
    rw [transmitFrameFetch, hpick]
    refine (if_neg (transmitFrame_fetched hruns hlink hnew hdescs hlen hposted)).trans ((if_neg (by rw [hform]; decide)).trans ?_)
    dsimp only
    rw [h0, if_pos hport, hx, hmk, hn, ha]
    subst hh
    rfl
  case writeback =>
    rintro s r h s2 hw hdone hlink hheld hgood htaken rfl
    refine engine_next hw ?_
    rw [transmitWriteback, hdone]
    refine (if_neg ?_).trans ?_
    · simp only [hlink, hheld, Bool.false_eq_true, or_self, not_false_eq_true]
    · simp only [hgood, htaken, Bool.false_eq_true, if_false, Nat.reduceEqDiff]
  case tail =>
    intro s q r v hw hr hq
    exact writeRow_next hw (ringGate_privileged hw hr hq)
  case tailPf1 =>
    intro s r v hr ha hring
    exact answered_next ha (ringGate_pf1 ha hr hring)
  case enable =>
    rintro s q r w s1 s2 hw hr hq hoff rfl rfl hplain
    refine writeRow_next hw ((ringGate_privileged hw hr hq).trans ((if_neg hoff).trans ?_))
    simp only [hplain, Bool.false_eq_true, if_false]
  case disable =>
    rintro s q r w s1 hw hr hq hon rfl
    exact writeRow_next hw ((ringGate_privileged hw hr hq).trans (if_neg (by rw [hon]; decide)))
  case stopped =>
    intro s r hw hStopping hRingBusy
    refine powered_next hw ?_
    simp [ringStopped, hStopping, hRingBusy]
  case moderation =>
    intro s r hw hRingTimer hbound
    refine powered_next hw ?_
    simp [moderationExpiry, hRingTimer, hbound]
  case submit =>
    intro s q len hw hStatusState hStatusState2 hbound hLen hLen2 hSafe hInUnitReset
    refine writeRow_next hw ?_
    simp [mbxSubmit, gated_runs hw, hStatusState, hStatusState2, Nat.not_lt.mpr hbound, Nat.not_lt.mpr hLen, hLen2, hSafe, hInUnitReset]
  case malformed =>
    intro s q len hw hStatusState hStatusState2 hLen
    refine writeRow_next hw ?_
    simp [mbxSubmit, gated_runs hw, hStatusState, hStatusState2, hLen]
  case serve =>
    rintro s x hw hup hasked rfl
    refine engine_next hw ?_
    rw [mbxRequestTake, if_neg (by rw [hup]; decide)]
    exact if_neg (not_not_intro hasked)
  case channel =>
    intro s hw hMbxUp
    refine engine_next hw ?_
    simp [mbxRequestTake, hMbxUp]

section
variable {q : Requester} {key n back : Nat} {act : State → State} {s : State}

/-- A fuse command with the key acts in RUN. -/
theorem otpGate_acts (hw : (answers q .OTP_CMD 0 s && privileged q (blockOf (regOffset .OTP_CMD 0)) s) = true) (hkey : key = 0xB10C)
    (hrun : s.fld F.LDR_STATUS_STATE 0 = 8) : otpGate q key act s = act s := by
  rw [otpGate, gated_runs hw, if_pos ⟨hkey, .inl hrun⟩]

/-- A fuse command without the key does nothing. -/
theorem otpGate_refused (hw : (answers q .OTP_CMD 0 s && privileged q (blockOf (regOffset .OTP_CMD 0)) s) = true) (hkey : key ≠ 0xB10C) :
    otpGate q key act s = s := by
  rw [otpGate, gated_runs hw, if_neg fun h => hkey h.1]

/-- A blank fuse word takes the data; the result says whether it reads back. -/
theorem otpProgram_blank (hw : (answers q .OTP_CMD 0 s && privileged q (blockOf (regOffset .OTP_CMD 0)) s) = true) (hkey : key = 0xB10C)
    (hrun : s.fld F.LDR_STATUS_STATE 0 = 8) (hidle : s.fld F.OTP_STATUS_BUSY 0 ≠ 1) (hn : s.fld F.OTP_ADDR 0 = n) (hblank : otpWord n s = 0)
    (hdata : s.fld F.OTP_DATA 0 ≠ 0) (hours : factoryWord n = false) :
    otpProgram q key back s =
      otpBegin (if back % 2 ^ 32 = s.fld F.OTP_DATA 0 then 0 else 2) (s.withLdr { s.ldr with otp := tset 0 s.ldr.otp n (back % 2 ^ 32) }) := by
  subst hn
  refine (otpGate_acts hw hkey hrun).trans ((if_neg hidle).trans (if_neg ?_))
  simp [hblank, hdata, hours]

end

/-- Settles O57, by the access, the answer to the challenge and the fuse word. -/
theorem sidebandAndFuseRowsComplete : Obligations.SidebandAndFuseRowsComplete := by
  refine ⟨?smbusRead, ?smbusReadWaits, ?smbusReadNone, ?smbusReadBad, ?smbusReady, ?smbusBlock, ?smbusBlockStale, ?smbusWrite, ?smbusWriteBad, ?smbusAlert,
    ?jtagWrite, ?jtagRead, ?jtagResponse, ?unlocks, ?unlockFails, ?unlockBarred, ?otpRead, ?otpReadKey, ?otpProgram, ?otpProgramDiffers, ?otpProgramRefused,
    ?otpEnds, ?boundaryScan, ?trst⟩
  case smbusRead =>
    rintro s o a s1 hw hup hreach hlink rfl
    refine congrArg Host.Outcome.next ?_
    simp [smbusReadStart, smbusFetch, hup, hreach, hlink]
  case smbusReadWaits =>
    intro s o a hw hHeld hReach hLinkWaits
    refine congrArg Host.Outcome.next ?_
    simp [smbusReadStart, hHeld, hReach, hLinkWaits]
  case smbusReadNone =>
    intro s o hw hup hreach
    refine congrArg Host.Outcome.next ?_
    rw [smbusReadStart, if_neg (by simp [hup]), hreach]
    rfl
  case smbusReadBad =>
    intro s o hw
    refine congrArg Host.Outcome.next ?_
    simp [smbusReadStart]
  case smbusReady =>
    intro s v hw hSmbRead
    refine congrArg Host.Outcome.next ?_
    simp [smbusReadReady, hSmbRead]
  case smbusBlock =>
    intro s v hw hHeld hSmbData
    refine congrArg Host.Outcome.next ?_
    simp [smbusBlockRead, hHeld, hSmbData]
  case smbusBlockStale =>
    rintro s n hw hHeld hSmbData rfl
    refine congrArg Host.Outcome.next ?_
    simp [smbusBlockRead, hHeld, hSmbData]
  case smbusWrite =>
    intro s o v hw hHeld
    refine congrArg Host.Outcome.next ?_
    simp [smbusWrite, hHeld]
  case smbusWriteBad =>
    intro s o v hw
    refine congrArg Host.Outcome.next ?_
    simp [smbusWrite]
  case smbusAlert =>
    intro s hw hHeld
    refine congrArg Host.Outcome.next ?_
    simp [smbusAlert, hHeld]
  case jtagWrite =>
    intro s o v hw
    refine congrArg Host.Outcome.next ?_
    simp [jtagAccess]
  case jtagRead =>
    intro s o hw
    refine congrArg Host.Outcome.next ?_
    simp [jtagAccess]
  case jtagResponse =>
    rintro s v s1 ha rfl
    refine answered_next ha ?_
    rw [jtagResponse, if_neg (by simp [runs_of_answers ha])]
    rfl
  case unlocks =>
    rintro s s1 hw hJtagTry hDisabled hLockout hUnlockMatches rfl
    refine powered_next hw ?_
    simp [jtagUnlockResult, hJtagTry, hDisabled, hLockout, hUnlockMatches]
  case unlockFails =>
    rintro s s1 hw htry henabled hopen hwrong hfails rfl
    refine powered_next hw ?_
    have hthird : ¬ 3 ≤ s.fld F.JTAG_STATUS_FAILS 0 + 1 := by omega
    have hmin : min (s.fld F.JTAG_STATUS_FAILS 0 + 1) 3 = s.fld F.JTAG_STATUS_FAILS 0 + 1 := by omega
    simp only [jtagUnlockResult, htry, henabled, hopen, hwrong, hthird, hmin, Bool.true_eq_false, Bool.false_eq_true, or_self, if_false]
  case unlockBarred =>
    intro s hw hJtagTry hDisabled
    refine powered_next hw ?_
    simp [jtagUnlockResult, hJtagTry, hDisabled]
  case otpRead =>
    rintro s q key n hw hkey hrun hidle rfl
    exact writeRow_next hw ((otpGate_acts hw hkey hrun).trans (if_neg hidle))
  case otpReadKey =>
    intro s q key hw hkey
    exact writeRow_next hw (otpGate_refused hw hkey)
  case otpProgram =>
    intro s q key back n hw hkey hrun hidle hn hblank hdata hours hback
    exact writeRow_next hw ((otpProgram_blank hw hkey hrun hidle hn hblank hdata hours).trans (by rw [if_pos hback]))
  case otpProgramDiffers =>
    intro s q key back n hw hkey hrun hidle hn hblank hdata hours hback
    exact writeRow_next hw ((otpProgram_blank hw hkey hrun hidle hn hblank hdata hours).trans (by rw [if_neg hback]))
  case otpProgramRefused =>
    intro s q key back hw hkey hrun hidle hrefused
    exact writeRow_next hw ((otpGate_acts hw hkey hrun).trans ((if_neg hidle).trans (if_pos hrefused)))
  case otpEnds =>
    intro s r hw hOtpRun
    refine powered_next hw ?_
    simp [otpFinish, hOtpRun]
  case boundaryScan =>
    intro s pins hw hup
    exact congrArg Host.Outcome.next (if_pos hup)
  case trst =>
    intro s hw
    refine congrArg Host.Outcome.next ?_
    simp [trstAssert]

end Sys2Proof.Machine
